-- ==== Sys2Proof/Word.lean ====
section
/-! DEFINITION. The word types of the block: bytes, 16-, 32- and 64-bit words, vectors of 1,024 bits. -/
namespace Sys2Proof

/-- One byte of a memory. -/
abbrev Byte := BitVec 8
/-- A half word of 16 bits. -/
abbrev Half := BitVec 16
/-- A register word (R13): every BAR0 register and every tile-core scalar register is 32 bits. -/
abbrev Word := BitVec 32
/-- A 64-bit word: buffer addresses (R390), output frame counters (R26). -/
abbrev DWord := BitVec 64
/-- A tile-core vector register v0 to v31 (Table 0.5): 1,024 bits. -/
abbrev VWord := BitVec 1024

end Sys2Proof
end

