-- ==== Sys2Proof/Syntax.lean ====
section
/-! DEFINITION. The commands of the block, one constructor for each row of spec/opcode_table.json, and the types of their
operands. A command's operands hold what the row's own words name and every fact that comes from outside the block (log 9). -/
namespace Sys2Proof

/-- Where a tile-core instruction stands: the core, and the guard of its slot (R68): PG and PN. -/
structure At where
  core : Fin 1024
  pg : Fin 8
  pn : Bool
  deriving DecidableEq, Repr

/-- A run of a form's address generator: the source region in row form, kernel, strides, dilations, padding, the output positions, the
padding code, the input Desk and its first row, and the hall pass signalled. -/
structure AgRun where
  /-- The source lies in a Locker of the form. -/
  locker : Option Nat
  src : Nat
  linePitch : Nat
  width : Nat
  height : Nat
  kw : Nat
  kh : Nat
  sx : Nat
  sy : Nat
  dx : Nat
  dy : Nat
  padL : Nat
  padT : Nat
  padR : Nat
  padB : Nat
  /-- The output line, its first position and the positions of it. -/
  line : Nat
  first : Nat
  count : Nat
  zcode : Nat
  lane : Nat
  array : Nat
  irow : Nat
  pass : Option (Nat × Nat)
  deriving DecidableEq, Repr


/-- A command record (Table 14.1) as the Dean takes it: the House, the command queue it came from (none: the mailbox), TAG, word 0 [15:8],
word 1 and the arguments from ARG2 on. The row names the OPCODE. -/
structure DeanCmd where
  house : Fin 8
  src : Option (Fin 16384)
  tag : Fin 65536
  res0 : Fin 256
  word1 : Word
  args : List Word
  deriving DecidableEq, Repr

/-- What a start-up (R451) meets outside the block: whether images A and B pass the checks of R432 on their bytes; the units that fail the march
of step 4 (arrays as 2 × core + array); and from the board configuration PWR_ECO, PWR_SSC, the slews of the LSIO and GPIO outputs, and the VCORE
set point of the monitors. -/
structure StartUp where
  aOk : Bool
  bOk : Bool
  banks : List (Fin 512)
  cores : List (Fin 1024)
  arrays : List (Fin 2048)
  forms : List (Fin 32)
  eco : BitVec 18
  ssc : BitVec 5
  lsio : Fin 4
  gpio : Fin 4
  vcore : Fin 1024
  deriving DecidableEq, Repr

/-- The commands of the block: one constructor for each row of the opcode table. -/
inductive Instr where
  /-- RESET_ASSERT (R477): RESET_N held low for at least 1 µs after its filter resets the whole device, unless a save is in progress. -/
  | resetAssert
  /-- RESET_RELEASE (R451): Release of RESET_N starts the start-up sequence: fuse load, image verification, Dean start, march, PCIe detect, restore and first pictures. -/
  | resetRelease (u : StartUp) (sag : Bool)
  /-- PERST (R477): PERST_N low resets the PCIe interface and every function acts as after its FLR while the picture keeps running. -/
  | perst
  /-- REGISTER_WRITE (R11): A host write to a register without behaviour of its own acts under its access codes, with narrow writes and unassigned offsets discarded. -/
  | registerWrite (fn : Fin 8) (off : Fin 33554432) (size : Nat) (value : BitVec 64)
  /-- PAIR_SNAPSHOT_READ (R58): A read of the lower word of a 64-bit pair snapshots the upper word for the next upper-word read of the same function. -/
  | pairSnapshotRead (fn : Fin 8) (off : Fin 33554432) (size : Nat)
  /-- APERTURE_ACCESS (R186): An access through the Library aperture is served when every bank touched is a free reserved bank of the function's House, and refused and counted otherwise. -/
  | apertureAccess (fn : Fin 8) (off : Fin 33554432) (size : Nat) (write : Option (List Byte))
  /-- LINE_START (R25): A raster starts a line, advancing its line counter and at line 0 its output frame counter. -/
  | lineStart (r : Fin 8)
  /-- FRAME_DONE (R56): The last active pixel of a frame leaves every port of the group, raising the frame-done compatibility event. -/
  | frameDone (r : Fin 8) (upsets : List (Fin 8 × Nat))
  /-- PROTECT_REWRITE (R346): The Proctor sets FORCED and rewrites the protected area, or fills the region with FILL after a second mismatch. -/
  | protectRewrite (r : Fin 8)
  /-- REFERENCE_INSTANT (R31): A lock reference instant arrives and the raster measures the phase error and tracks it or resolves it as a jump. -/
  | referenceInstant (r : Fin 8) (delta : Int)
  /-- HOLDOVER (R32): No reference instant arrives within TRACK_WIN for two reference frames and the raster enters holdover. -/
  | holdover (r : Fin 8)
  /-- SLIP_HOLD_LIMIT (R39): A slip hold reaches VTOTAL_MAX lines and ends, with the remaining error resolved by slew. -/
  | slipHoldLimit (r : Fin 8)
  /-- TE_EDGE (R51): A tearing-effect edge becomes pending and ends a hold at STRETCH_LINE. -/
  | teEdge (pin : Fin 2) (falling : Bool)
  /-- TE_MISS (R51): A TE hold reaches VTOTAL_MAX lines and ends without an edge. -/
  | teMiss (r : Fin 8)
  /-- VRR_TIMEOUT (R52): An Adaptive-Sync hold reaches VTOTAL_MAX lines and the next frame starts without a new input frame. -/
  | vrrTimeout (r : Fin 8)
  /-- RELOCK_COMPLETE (R54): The pixel PLL locks after a mode change and the raster runs the rest of blanking and line 0 of the new mode. -/
  | relockComplete (r : Fin 8)
  /-- BELL_SWAP_COMPLETE (R48): At the start of line 0 of frame T the old bell bank stops being matched and becomes the shadow bank. -/
  | bellSwapComplete
  /-- BELL_NOP (R44): A NOP bell fires and is counted as matched. -/
  | bellNop (r : Fin 8) (entry : Fin 4096)
  /-- PROG_START (R61): A PROG_START bell preempts, clears and starts the band program on every enabled core of the named forms and arms the roll counter. -/
  | progStart (r : Fin 8) (entry : Fin 4096)
  /-- DMA_START (R190): A DMA_START bell queues a descriptor chain on a DMA engine for the bell's House. -/
  | dmaStart (r : Fin 8) (entry : Fin 4096)
  /-- BELL_COMMIT (R396): A COMMIT bell accepts the commit set armed in its slot. -/
  | bellCommit (r : Fin 8) (entry : Fin 4096)
  /-- WARN (R275): A WARN bell checks its band and in on-call mode queues a preparation job for an incomplete band. -/
  | warn (r : Fin 8) (entry : Fin 4096)
  /-- LATE (R276): A LATE bell selects NEURAL, SUB or VOID for its band and updates the band counters. -/
  | late (r : Fin 8) (entry : Fin 4096)
  /-- HOST_EVT (R44): A HOST_EVT bell posts an event record to its hardware queue. -/
  | hostEvt (r : Fin 8) (entry : Fin 4096)
  /-- WAKE (R91): A WAKE bell releases cores of the named forms waiting on its tag or stores the tag in a wake latch. -/
  | wake (r : Fin 8) (entry : Fin 4096)
  /-- HANDOFF (R424): A hand-off entry fires, stops, aborts, closes and zeroes the named forms and gives them to the receiving House. -/
  | handoff (n : Fin 64)
  /-- INPUT_FRAME_START (R34): A tracker takes the stamp of a new input frame, increments its input frame counter and writes the input record. -/
  | inputFrameStart (k : Fin 2) (frac : Fin 65536) (enc : Fin 3)
  /-- INPUT_WRAP (R35): An input frame counter wraps to 0, setting WRAP and posting the input-wrap event. -/
  | inputWrap (k : Fin 2) (frac : Fin 65536) (enc : Fin 3)
  /-- SOURCE_TIMEOUT (R36): No frame start arrives within two expected input frame periods, a discontinuity of reason 0b10. -/
  | sourceTimeout (k : Fin 2)
  /-- REPEAT_END (R37): At the first frame boundary after the anchor frame is captured the pipeline stops repeating. -/
  | repeatEnd (p : Fin 4)
  /-- INPUT_LINE_CAPTURED (R358): An input line becomes visible in the capture ring and CAPTURED counts it, opening gates and waits. -/
  | inputLineCaptured (k : Fin 2) (planes : List (List Nat))
  /-- STREAM_FORMAT (R355): A sink receives a stream's attributes and accepts it or refuses it as oversize. -/
  | streamFormat (k : Fin 2) (hactive htotal vactive vtotal : Fin 65536) (fmt : Fin 1024) (kpix : Nat) (dsc enc : Bool)
  /-- MSA_CHANGE (R360): The MSA active size or total changes, giving a discontinuity of reason 0b01. -/
  | msaChange (k : Fin 2) (hactive htotal vactive vtotal : Fin 65536) (fmt : Fin 1024) (kpix : Nat) (dsc enc : Bool)
  /-- SINK_LINK_LOST (R360): HPD is deasserted, the link is lost or the source stops sending, and capture stops. -/
  | sinkLinkLost (k : Fin 2)
  /-- SINK_RETRAIN (R360): A sink's link retrains, giving a discontinuity of reason 0b11. -/
  | sinkRetrain (k : Fin 2)
  /-- SINK_LINK_TRAINED (R356): The source completes link training on an enabled sink and TRAINED sets. -/
  | sinkLinkTrained (k : Fin 2) (rate lanes : Fin 16)
  /-- DSC_DECODE_ERROR (R360): A DSC slice fails to decode and its lines are written black. -/
  | dscDecodeError (k : Fin 2) (lines : Fin 65536)
  /-- SINK_HDCP_FAIL (R361): An encrypted stream is not authenticated or fails a link integrity check and its lines are written black. -/
  | sinkHdcpFail (k : Fin 2)
  /-- PORT_HPD_LOSS (R367): An output port's sink deasserts HPD or its link fails and the port stops sending. -/
  | portHpdLoss (n : Fin 8)
  /-- PORT_LINK_TRAINED (R367): A returned port finishes training and resumes at the next frame start. -/
  | portLinkTrained (n : Fin 8) (lines : Option Nat)
  /-- PORT_HDCP_LOSS (R366): A port loses HDCP authentication and blocks protected frames from the next frame. -/
  | portHdcpLoss (n : Fin 8)
  /-- SCANOUT_UNDERRUN (R350): A port finds its scan-out FIFO empty, fills the line with background and counts the underrun. -/
  | scanoutUnderrun (n : Fin 8) (pixel : Fin 65536)
  /-- PSR_ENTER (R368): After 4 unchanged frames an eDP port enters self refresh. -/
  | psrEnter (n : Fin 8)
  /-- PSR_SELECTIVE_UPDATE (R368): In the frame after a change the port sends a selective update or a full frame. -/
  | psrSelectiveUpdate (n : Fin 8) (gran : Fin 65536)
  /-- PSR_EXIT (R368): Changed blocks in 2 consecutive frames, or a mode, encoding or cut change, make the port exit self refresh. -/
  | psrExit (n : Fin 8)
  /-- ADD (R81): Scalar add of two registers. -/
  | add (x : At) (slot : Fin 2) (body : BitVec 54)
  /-- SUB (R81): Scalar subtract of two registers. -/
  | sub_ (x : At) (slot : Fin 2) (body : BitVec 54)
  /-- AND (R81): Scalar bitwise AND. -/
  | and_ (x : At) (slot : Fin 2) (body : BitVec 54)
  /-- OR (R81): Scalar bitwise OR. -/
  | or_ (x : At) (slot : Fin 2) (body : BitVec 54)
  /-- XOR (R81): Scalar bitwise exclusive OR. -/
  | xor_ (x : At) (slot : Fin 2) (body : BitVec 54)
  /-- SLL (R81): Scalar shift left by a register. -/
  | sll (x : At) (slot : Fin 2) (body : BitVec 54)
  /-- SRL (R81): Scalar logical shift right by a register. -/
  | srl (x : At) (slot : Fin 2) (body : BitVec 54)
  /-- SRA (R81): Scalar arithmetic shift right by a register. -/
  | sra (x : At) (slot : Fin 2) (body : BitVec 54)
  /-- MUL (R81): Low 32 bits of a scalar product. -/
  | mul_ (x : At) (slot : Fin 2) (body : BitVec 54)
  /-- MULH (R81): High 32 bits of a signed scalar product. -/
  | mulh (x : At) (slot : Fin 2) (body : BitVec 54)
  /-- MULHU (R81): High 32 bits of an unsigned scalar product. -/
  | mulhu (x : At) (slot : Fin 2) (body : BitVec 54)
  /-- MIN (R81): Signed scalar minimum. -/
  | min_ (x : At) (slot : Fin 2) (body : BitVec 54)
  /-- MAX (R81): Signed scalar maximum. -/
  | max_ (x : At) (slot : Fin 2) (body : BitVec 54)
  /-- MINU (R81): Unsigned scalar minimum. -/
  | minu (x : At) (slot : Fin 2) (body : BitVec 54)
  /-- MAXU (R81): Unsigned scalar maximum. -/
  | maxu (x : At) (slot : Fin 2) (body : BitVec 54)
  /-- ADDI (R81): Scalar add of an immediate. -/
  | addi (x : At) (slot : Fin 2) (body : BitVec 54)
  /-- ANDI (R81): Scalar AND with an immediate. -/
  | andi (x : At) (slot : Fin 2) (body : BitVec 54)
  /-- ORI (R81): Scalar OR with an immediate. -/
  | ori (x : At) (slot : Fin 2) (body : BitVec 54)
  /-- XORI (R81): Scalar exclusive OR with an immediate. -/
  | xori (x : At) (slot : Fin 2) (body : BitVec 54)
  /-- SLLI (R81): Scalar shift left by an immediate. -/
  | slli (x : At) (slot : Fin 2) (body : BitVec 54)
  /-- SRLI (R81): Scalar logical shift right by an immediate. -/
  | srli (x : At) (slot : Fin 2) (body : BitVec 54)
  /-- SRAI (R81): Scalar arithmetic shift right by an immediate. -/
  | srai (x : At) (slot : Fin 2) (body : BitVec 54)
  /-- LI (R81): Load an immediate into a scalar register. -/
  | li (x : At) (slot : Fin 2) (body : BitVec 54)
  /-- MULI (R81): Low 32 bits of a register times an immediate. -/
  | muli (x : At) (slot : Fin 2) (body : BitVec 54)
  /-- ADDS (R81): Saturating signed scalar add setting FFLAGS.SAT when it clamps. -/
  | adds (x : At) (slot : Fin 2) (body : BitVec 54)
  /-- CLZ (R81): Count leading zeros of a register. -/
  | clz (x : At) (slot : Fin 2) (body : BitVec 54)
  /-- POPC (R81): Count set bits of a register. -/
  | popc (x : At) (slot : Fin 2) (body : BitVec 54)
  /-- CMP (R81): Compare a register with a register or immediate into a predicate. -/
  | cmp (x : At) (slot : Fin 2) (body : BitVec 54)
  /-- CSRR (R66): Read a tile-core CSR into a scalar register. -/
  | csrr (x : At) (slot : Fin 2) (body : BitVec 54)
  /-- CSRW (R66): Write a scalar register to a tile-core CSR. -/
  | csrw (x : At) (slot : Fin 2) (body : BitVec 54)
  /-- BR (R79): Branch to an absolute bundle address. -/
  | br (x : At) (slot : Fin 2) (body : BitVec 54)
  /-- BRL (R79): Branch and write the link address. -/
  | brl (x : At) (slot : Fin 2) (body : BitVec 54)
  /-- JR (R79): Jump to the bundle address in a register. -/
  | jr (x : At) (slot : Fin 2) (body : BitVec 54)
  /-- LD (R82): Load a scalar or vector through a handle, zero-extended. -/
  | ld (x : At) (body : BitVec 54)
  /-- LDS (R82): Load 8 or 16 bits through a handle, sign-extended. -/
  | lds (x : At) (body : BitVec 54)
  /-- ST (R82): Store a scalar or vector through a handle. -/
  | st (x : At) (body : BitVec 54)
  /-- LDBC (R82): Load one element and broadcast it to every lane of a vector. -/
  | ldbc (x : At) (body : BitVec 54)
  /-- PREF (R82): Bring a line of a Shelf buffer into the open shelf. -/
  | pref (x : At) (body : BitVec 54)
  /-- LOAD_RETURN (R73): A Library or Shelf load's data arrives and its destination register becomes ready. -/
  | loadReturn (c : Fin 1024) (n : Nat)
  /-- GATHER_FLUSH_TIMEOUT (R181): A gather-buffer store entry without a store for 16 cycles goes to the Library as one masked transaction. -/
  | gatherFlushTimeout (c : Fin 1024) (n : Nat)
  /-- VADD (R83): Vector add per lane. -/
  | vadd (x : At) (body : BitVec 54)
  /-- VSUB (R83): Vector subtract per lane. -/
  | vsub (x : At) (body : BitVec 54)
  /-- VMUL (R83): Vector multiply per lane. -/
  | vmul (x : At) (body : BitVec 54)
  /-- VFMA (R83): Vector fused multiply-add per lane. -/
  | vfma (x : At) (body : BitVec 54)
  /-- VMIN (R83): Vector minimum per lane. -/
  | vmin (x : At) (body : BitVec 54)
  /-- VMAX (R83): Vector maximum per lane. -/
  | vmax (x : At) (body : BitVec 54)
  /-- VAND (R83): Vector bitwise AND. -/
  | vand (x : At) (body : BitVec 54)
  /-- VOR (R83): Vector bitwise OR. -/
  | vor (x : At) (body : BitVec 54)
  /-- VXOR (R83): Vector bitwise exclusive OR. -/
  | vxor (x : At) (body : BitVec 54)
  /-- VSHL (R83): Vector shift left by a vector. -/
  | vshl (x : At) (body : BitVec 54)
  /-- VSHR (R83): Vector shift right by a vector. -/
  | vshr (x : At) (body : BitVec 54)
  /-- VSHLI (R83): Vector shift left by an immediate. -/
  | vshli (x : At) (body : BitVec 54)
  /-- VSHRI (R83): Vector shift right by an immediate. -/
  | vshri (x : At) (body : BitVec 54)
  /-- VCMP (R83): Vector compare into an all-ones or zero mask. -/
  | vcmp (x : At) (body : BitVec 54)
  /-- VSEL (R83): Vector select by a mask. -/
  | vsel (x : At) (body : BitVec 54)
  /-- VCVT (R84): Vector conversion between types with a part selection. -/
  | vcvt (x : At) (body : BitVec 54)
  /-- VREDADD (R85): Vector sum reduction into lane 0 in a fixed order. -/
  | vredadd (x : At) (body : BitVec 54)
  /-- VREDMAX (R85): Vector maximum reduction into lane 0. -/
  | vredmax (x : At) (body : BitVec 54)
  /-- VPERM (R83): Vector permutation by indices. -/
  | vperm (x : At) (body : BitVec 54)
  /-- VSLIDE (R83): Vector slide across two sources. -/
  | vslide (x : At) (body : BitVec 54)
  /-- VBCAST (R83): Broadcast a scalar register to every lane. -/
  | vbcast (x : At) (body : BitVec 54)
  /-- VEXT (R83): Extract one lane into a scalar register. -/
  | vext (x : At) (body : BitVec 54)
  /-- VINS (R83): Insert a scalar register into one lane. -/
  | vins (x : At) (body : BitVec 54)
  /-- VMOV (R83): Copy a vector register. -/
  | vmov (x : At) (body : BitVec 54)
  /-- VABS (R83): Vector absolute value. -/
  | vabs (x : At) (body : BitVec 54)
  /-- VANY (R83): Set a predicate if any lane is non-zero. -/
  | vany (x : At) (body : BitVec 54)
  /-- VALL (R83): Set a predicate if every lane is non-zero. -/
  | vall (x : At) (body : BitVec 54)
  /-- VMULH (R83): High half of an integer vector product. -/
  | vmulh (x : At) (body : BitVec 54)
  /-- WLD (R102): Queue a load of a weight image from a weight Desk half into the array. -/
  | wld (x : At) (arr : Fin 2) (body : BitVec 54)
  /-- MSTREAM (R106): Queue a stream of input rows through the loaded image into accumulators or the drain. -/
  | mstream (x : At) (arr : Fin 2) (body : BitVec 54)
  /-- MDST (R86): Set the drain destination handle and offset. -/
  | mdst (x : At) (arr : Fin 2) (body : BitVec 54)
  /-- MDRAIN (R86): Queue a drain of accumulator rows to the drain destination. -/
  | mdrain (x : At) (arr : Fin 2) (body : BitVec 54)
  /-- MZERO (R86): Queue zeroing of accumulator rows. -/
  | mzero (x : At) (arr : Fin 2) (body : BitVec 54)
  /-- MSR (R87): Write an array state register, checked at issue. -/
  | msr (x : At) (arr : Fin 2) (body : BitVec 54)
  /-- MRS (R87): Read an array state register after earlier commands take effect. -/
  | mrs (x : At) (arr : Fin 2) (body : BitVec 54)
  /-- MSCL (R86): Write a vector into a 32-entry per-column table. -/
  | mscl (x : At) (arr : Fin 2) (body : BitVec 54)
  /-- ARRAY_COMMAND_START (R107): The head command of an array queue starts once its start conditions, including a governor grant, hold. -/
  | arrayCommandStart (c : Fin 1024) (arr : Fin 2) (residueBad : Bool)
  /-- ARRAY_COMMAND_COMPLETE (R111): An array command's last write becomes visible and the command completes. -/
  | arrayCommandComplete (c : Fin 1024) (arr : Fin 2)
  /-- KEEPER_TIMEOUT (R126): The current keeper stops dummy passes after 64 cycles without a stream. -/
  | keeperTimeout (c : Fin 1024) (arr : Fin 2) (residueBad : Bool)
  /-- GOVERNOR_GRANT (R127): The current governor grants a cold array leave to start or a warm array leave to go idle. -/
  | governorGrant (c : Fin 1024) (arr : Fin 2)
  /-- DMV (R89): Queue a copy of Locker rows into a Desk part. -/
  | dmv (x : At) (body : BitVec 54)
  /-- DMVR (R89): Queue a copy of Desk rows into the Locker. -/
  | dmvr (x : At) (body : BitVec 54)
  /-- CSEND (R89): Queue a send of 64-byte units over the corridor to a neighbour. -/
  | csend (x : At) (body : BitVec 54)
  /-- MVL (R124): Run input vectors through the matrix-vector lane with a weight block. -/
  | mvl (x : At) (body : BitVec 54)
  /-- MVL_RESULT (R125): The matrix-vector lane writes its results to the destination vectors. -/
  | mvlResult (c : Fin 1024)
  /-- DMAK (R89): Start a descriptor chain on a form DMA engine. -/
  | dmak (x : At) (body : BitVec 54)
  /-- TRANSFER_COMMAND_COMPLETE (R75): A transfer-queue command finishes its moves and frees its queue entry. -/
  | transferCommandComplete (c : Fin 1024)
  /-- CORRIDOR_LANDING (R206): A corridor unit lands at the receiver and increments its arrival counter, or is discarded. -/
  | corridorLanding (c : Fin 1024) (up : Bool)
  /-- BWAIT (R91): Wait for a WAKE bell with a tag, or take a matching wake latch. -/
  | bwait (x : At) (body : BitVec 54)
  /-- IWAIT (R91): Wait until a tracker's input frame and captured line reach given values. -/
  | iwait (x : At) (body : BitVec 54)
  /-- HSIG (R91): Signal a hall pass with a count after a full fence. -/
  | hsig (x : At) (body : BitVec 54)
  /-- HWAIT (R91): Wait on a hall pass with a count. -/
  | hwait (x : At) (body : BitVec 54)
  /-- FENCE_SL (R405): Make earlier stores visible before later loads. -/
  | fenceSl (x : At) (rsv : BitVec 50)
  /-- FENCE_SS (R405): Make earlier stores visible before later stores. -/
  | fenceSs (x : At) (rsv : BitVec 50)
  /-- FENCE_ALL (R405): Complete every earlier access before any later access. -/
  | fenceAll (x : At) (rsv : BitVec 50)
  /-- FENCE_M0 (R91): Wait until array 0's queued commands are complete. -/
  | fenceM0 (x : At) (rsv : BitVec 50)
  /-- FENCE_M1 (R91): Wait until array 1's queued commands are complete. -/
  | fenceM1 (x : At) (rsv : BitVec 50)
  /-- FENCE_M (R91): Wait until both arrays' queued commands are complete. -/
  | fenceM (x : At) (rsv : BitVec 50)
  /-- FENCE_X (R91): Wait until every transfer command, corridor landing and MVL result is complete. -/
  | fenceX (x : At) (rsv : BitVec 50)
  /-- ROLL (R222): Draw the next tile index from the form's roll counter. -/
  | roll (x : At) (body : BitVec 54)
  /-- TDONE (R226): Report a tile complete to the roll counter, possibly completing the band. -/
  | tdone (x : At) (body : BitVec 54)
  /-- DONE (R63): End the program once every issued operation is complete. -/
  | done_ (x : At) (body : BitVec 54)
  /-- PSET (R91): Set a predicate to an immediate. -/
  | pset (x : At) (body : BitVec 54)
  /-- PAND (R91): Predicate AND. -/
  | pand (x : At) (body : BitVec 54)
  /-- POR (R91): Predicate OR. -/
  | por (x : At) (body : BitVec 54)
  /-- PXOR (R91): Predicate exclusive OR. -/
  | pxor (x : At) (body : BitVec 54)
  /-- PNOT (R91): Predicate NOT. -/
  | pnot (x : At) (body : BitVec 54)
  /-- LOOP (R80): Start a counted loop. -/
  | loop_ (x : At) (body : BitVec 54)
  /-- CWAIT (R91): Wait until a corridor arrival counter reaches a value. -/
  | cwait (x : At) (body : BitVec 54)
  /-- TRAP (R91): Raise a TRAP fault with a code. -/
  | trap (x : At) (body : BitVec 54)
  /-- DEAN_FAULT_NOTICE (R94): The Dean reads a core's fault record, posts the tile-fault event and clears VALID and MULTI. -/
  | deanFaultNotice (c : Fin 1024)
  /-- TILE_FAULT_RESPONSE (R286): The Dean acts on a tile fault by cause: array out of service, core retirement, bundle rewrite or nothing, and makes on-call calls. -/
  | tileFaultResponse (c : Fin 1024)
  /-- BREAKPOINT (R442): A core reaches its breakpoint address and halts before issuing the bundle. -/
  | breakpoint (c : Fin 1024)
  /-- SHAPE_WORD_READ (R233): The roll-counter arm reads a run-time shape word and takes NT, or fails the arm. -/
  | shapeWordRead (f : Fin 32)
  /-- HANDOVER_COMPLETE (R168): A bank finishes closing, write-back and zeroing after a LIB_BANKb write and BUSY clears. -/
  | handoverComplete (b : Fin 512)
  /-- SHELF_FILL (R171): A shelf miss completes its fill from external memory, evicting a victim line. -/
  | shelfFill (h : Fin 8) (line : Nat)
  /-- LIBRARY_SCRUB (R174): The scrubber reads the next row of a bank, correcting and rewriting or reporting errors. -/
  | libraryScrub (b : Fin 512)
  /-- LIBRARY_UNC_RESPONSE (R288): On an uncorrectable Library error the Dean substitutes a spare bank, remaps handles and marches the failed bank. -/
  | libraryUncResponse (b : Fin 512)
  /-- MARCH_COMPLETE (R184): A march run ends, LIB_MARCH reports the result and failing units are retired. -/
  | marchComplete (fail : Bool)
  /-- DMA_CHAIN_START (R191): An engine or context begins the next queued chain once the previous chain has ended and reads its first descriptor. -/
  | dmaChainStart (e : Fin 96)
  /-- DESC_NOP (R192): A NOP descriptor carries out only its completion actions. -/
  | descNop (e : Fin 96) (bus : Option (Fin 65536 × Fin 65536))
  /-- COPY (R195): A COPY descriptor is checked and moves a grid, with rotation, mirror and overlap rules. -/
  | copy (e : Fin 96) (bus : Option (Fin 65536 × Fin 65536))
  /-- SKEW (R198): A SKEW descriptor moves rows into an input Desk on the diagonal layout. -/
  | skew (e : Fin 96) (bus : Option (Fin 65536 × Fin 65536))
  /-- FILL (R199): A FILL descriptor writes a pattern over the destination grid. -/
  | fill (e : Fin 96) (bus : Option (Fin 65536 × Fin 65536))
  /-- DESC_PREF (R199): A PREF descriptor brings LPDDR5X lines into the House's shelf. -/
  | descPref (e : Fin 96) (bus : Option (Fin 65536 × Fin 65536))
  /-- DESCRIPTOR_COMPLETE (R201): A descriptor's last write is visible and its hall pass, event and next descriptor follow in order. -/
  | descriptorComplete (e : Fin 96)
  /-- PRI_RESPONSE (R203): A PRI response arrives and a halted context resumes or faults. -/
  | priResponse (fn : Fin 8) (page : Nat) (ok : Bool)
  /-- ABORT (R204): A write of 1 to DMA_En_CTRL.ABORT stops the engine or context at its next element. -/
  | abort_ (fn : Option (Fin 8)) (e : Fin 96)
  /-- ATS_INVALIDATION (R372): An ATS invalidation request completes once every request using the range has completed. -/
  | atsInvalidation (fn : Fin 8) (page : Nat) (status : Fin 3)
  /-- FF_SLOT_START (R251): A fixed-function slot of 2,048 cycles begins, resuming its pipeline's job and clearing state between Houses. -/
  | ffSlotStart
  /-- JOB_WALK_START (R252): A pipeline's job-list walk for a target frame begins at START_LINE, abandoning unfinished jobs of the previous walk. -/
  | jobWalkStart (p : Fin 4)
  /-- JOB_NOP (R253): A NOP job is taken from the list. -/
  | jobNop (p : Fin 4)
  /-- EDGE_IN (R254): An EDGE_IN job whose gate is open runs a first layer from planar input to row form. -/
  | edgeIn (p : Fin 4)
  /-- EDGE_OUT (R254): An EDGE_OUT job whose gate is open runs a last layer from row form to pixels. -/
  | edgeOut (p : Fin 4)
  /-- CROP (R258): A CROP job whose gate is open crops and resizes boxes and writes the shape word. -/
  | crop (p : Fin 4)
  /-- JOB_COMPLETE (R253): A fixed-function job's writes are visible and its hall pass is signalled. -/
  | jobComplete (p : Fin 4) (unit : Fin 2)
  /-- ADDRESS_GENERATOR_RUN (R249): Dvorzar runs the address generator to build streamed rows for any convolution geometry. -/
  | addressGeneratorRun (f : Fin 32) (a : AgRun)
  /-- SUB_JOB_START (R271): A queued Substitute preparation job starts when a unit and store are free in its pool, in due-time order. -/
  | subJobStart (p : Fin 4) (b : Fin 2048)
  /-- SUB_JOB_READY (R271): A preparation job writes its last word and becomes READY. -/
  | subJobReady (p : Fin 4) (b : Fin 2048)
  /-- THERMAL_SAMPLE (R283): Every 100 µs each form sensor is sampled and the heat part of the form tier rises. -/
  | thermalSample (f : Fin 32) (t : Fin 256)
  /-- HEAT_TIER_DECAY (R283): A second below the lower threshold lowers a form's heat part by one. -/
  | heatTierDecay (f : Fin 32)
  /-- HOMEWORK_SAMPLE (R304): For every SAMPLE_EVERY-th input frame Dvorzar copies a training or validation patch into a pool. -/
  | homeworkSample (m : Word) (motion : List Byte)
  /-- HOMEWORK_DEAL (R301): Dvorzar writes a homework unit into a form's control block for the lanes in service. -/
  | homeworkDeal (m : Word) (f : Fin 32)
  /-- GRAD (R307): A GRAD unit computes one sample's gradient for a layer into a gradient slot. -/
  | grad (m : Word) (f : Fin 32)
  /-- UPDATE (R307): An UPDATE unit sums gradients and applies the optimiser step into staging, or skips it. -/
  | update (m : Word) (f : Fin 32)
  /-- HOMEWORK_COPY (R307): A COPY unit copies staging into the masters, moments and moment scales. -/
  | homeworkCopy (m : Word) (f : Fin 32)
  /-- EVAL (R305): An EVAL unit computes the loss of one validation sample on one copy. -/
  | eval (m : Word) (f : Fin 32)
  /-- DEPLOY (R298): A DEPLOY unit writes the candidate's deployed form into the inactive copy. -/
  | deploy (m : Word) (f : Fin 32)
  /-- ROUND_EVALUATE (R308): At the end of a round the candidate is judged against the adapter in service and accepted, rejected or reset. -/
  | roundEvaluate (m : Word)
  /-- CHECKPOINT_PERIOD (R312): Every CKPT_MS milliseconds Dvorzar programs the period's checkpoint records and a SEAL. -/
  | checkpointPeriod (m : Word)
  /-- COMMIT_APPLY (R336): A commit's part for a raster applies at its frame boundary, including mode changes and the end of a cut. -/
  | commitApply (r : Fin 8)
  /-- DIRTY (R334): A write of 1 to CMP_GLg_CTRL.DIRTY invalidates the layer's static run from the next frame boundary. -/
  | dirty (fn : Fin 8) (g : Fin 8)
  /-- MBX_DOORBELL (R397): A write of 1 to MBX_DOORBELL.GO submits the mailbox command record. -/
  | mbxDoorbell (fn : Fin 8) (go : Bool)
  /-- QUE_TAIL (R399): A TAIL write advances a command queue's producer index as its doorbell, or is discarded on overflow. -/
  | queTail (fn : Fin 8) (q : Fin 16384) (value : Word)
  /-- QUE_HEAD (R400): A HEAD write advances a consumer index and sends the queue's message if records remain. -/
  | queHead (fn : Fin 8) (q : Fin 16384) (value : Word)
  /-- HPS_SIGNAL (R401): A host write to HPS_p_SIGNAL signals a hall pass and serves its waiters. -/
  | hpsSignal (fn : Fin 8) (p : Fin 8192) (count : Fin 65536)
  /-- EVT_C_MASK (R412): A write to EVT_C_MASK that enables a set status bit sends the compatibility message. -/
  | evtCMask (fn : Fin 8) (value : Word)
  /-- PERF_WRAP (R409): A 48-bit performance counter wraps to 0 and posts PERF_WRAP. -/
  | perfWrap (off : Fin 33554432)
  /-- DEAN_SLOT (R385): A 25 µs Dean slot of a House begins and ends, carrying out its commands and writing its completions. -/
  | deanSlot (h : Fin 8) (n : Nat)
  /-- NOP (R392): The NOP command completes with no effect. -/
  | nop (d : DeanCmd)
  /-- QUEUE_CREATE (R398): Configure a queue of the House's range. -/
  | queueCreate (d : DeanCmd)
  /-- QUEUE_DESTROY (R392): Disable a queue and discard its pending commands. -/
  | queueDestroy (d : DeanCmd)
  /-- HOUSE_GRANT (R393): Replace a House's grant of queues, hall passes, bells, slots, outputs, inputs and translation. -/
  | houseGrant (d : DeanCmd)
  /-- BANK_HANDOVER (R168): Hand a Library bank to a new owner or mode. -/
  | bankHandover (d : DeanCmd)
  /-- PIPE_CREATE (R394): Create a pipeline with its House, source, Substitute mode and rings. -/
  | pipeCreate (d : DeanCmd)
  /-- PIPE_DESTROY (R392): Destroy a pipeline that no loaded image names. -/
  | pipeDestroy (d : DeanCmd)
  /-- MODEL_LOAD (R238): Verify and load a model package and its timetable images into shadow state. -/
  | modelLoad (d : DeanCmd)
  /-- MODEL_UNLOAD (R392): Unload a model not in the active bell bank. -/
  | modelUnload (d : DeanCmd)
  /-- ROUTE_SET (R339): Stage a pipeline source change into a commit slot. -/
  | routeSet (d : DeanCmd)
  /-- COMMIT (R396): Check and accept a commit set now. -/
  | commit (d : DeanCmd)
  /-- COMMIT_BELL (R396): Check and arm a commit slot for its COMMIT bell. -/
  | commitBell (d : DeanCmd)
  /-- COMMIT_CUT (R341): Accept a cut commit with its second commit, switching sources from the cut band. -/
  | commitCut (d : DeanCmd)
  /-- COMMIT_CLEAR (R396): Empty a commit slot and accept nothing. -/
  | commitClear (d : DeanCmd)
  /-- MODE_SET (R395): Stage a raster mode block into a commit slot. -/
  | modeSet (d : DeanCmd)
  /-- PORT_SET (R395): Stage a port block into a commit slot. -/
  | portSet (d : DeanCmd)
  /-- CANVAS_SET (R395): Stage a canvas block into a commit slot. -/
  | canvasSet (d : DeanCmd)
  /-- VLAYER_SET (R395): Stage a video-layer block into a commit slot. -/
  | vlayerSet (d : DeanCmd)
  /-- PROTECT_SET (R343): Stage a signed protected-layer template for a raster. -/
  | protectSet (d : DeanCmd)
  /-- TIER_FLOOR (R392): Set a pipeline's tier floor from the next arm. -/
  | tierFloor (d : DeanCmd)
  /-- CORE_RETIRE (R227): Retire a core or take one array out of service, releasing its lane. -/
  | coreRetire (d : DeanCmd)
  /-- CORE_REJOIN (R289): Return a retired core to service after a passing march. -/
  | coreRejoin (d : DeanCmd)
  /-- MARCH_RUN (R184): Run a march test on a Dean bank or a retired core. -/
  | marchRun (d : DeanCmd)
  /-- FW_STAGE (R468): Verify and stage a Dvorzar image. -/
  | fwStage (d : DeanCmd)
  /-- FW_SWAP (R468): Swap to the staged Dvorzar image at the next frame boundary after the round. -/
  | fwSwap (d : DeanCmd)
  /-- DEBUG_SET (R438): Change the debug state of a House or the device. -/
  | debugSet (d : DeanCmd)
  /-- ADAPT_POLICY (R317): Set the homework policy of a model. -/
  | adaptPolicy (d : DeanCmd)
  /-- BAND_STATUS (R228): Return a form's roll-counter window and preemption count. -/
  | bandStatus (d : DeanCmd)
  /-- PIPE_STATUS (R260): Return a pipeline's fixed-function slot and job status. -/
  | pipeStatus (d : DeanCmd)
  /-- HW_STATUS (R318): Write a model's homework status record to a buffer. -/
  | hwStatus (d : DeanCmd)
  /-- HPASS_SET (R401): Write a hall pass value and serve its waiters. -/
  | hpassSet (d : DeanCmd)
  /-- HPASS_WAIT (R401): Register a wait on a hall pass that posts HPASS_MET when released. -/
  | hpassWait (d : DeanCmd)
  /-- DMA_RUN (R392): Run a descriptor chain on a system engine and complete when it ends. -/
  | dmaRun (d : DeanCmd)
  /-- SHELF_FLUSH (R392): Write back and optionally invalidate a range of the House's shelf. -/
  | shelfFlush (d : DeanCmd)
  /-- FLR (R373): A function level reset resets the function's PCIe-side state and its House's queues and contexts. -/
  | flr (fn : Fin 8)
  /-- VIN_HF_TAIL (R377): A write of VIN_HF_TAIL adds host-frame descriptors and rings the doorbell when the ring was empty. -/
  | vinHfTail (fn : Fin 8) (value : Fin 256)
  /-- HF_RING_ENABLE (R378): A write of 1 to VIN_HF_CTRL.EN while 0 restarts HEAD and TAIL at 0. -/
  | hfRingEnable (fn : Fin 8)
  /-- HF_RING_DISABLE (R378): A write of 0 to VIN_HF_CTRL.EN while 1 aborts the context and every pending descriptor. -/
  | hfRingDisable (fn : Fin 8)
  /-- HOST_FRAME_DESCRIPTOR (R375): The device reads and checks a host-frame descriptor and starts or refuses the frame. -/
  | hostFrameDescriptor
  /-- HOST_FRAME_GROUP (R376): A line group of a host frame becomes visible and CAPTURED counts its luma lines. -/
  | hostFrameGroup (fault : Bool)
  /-- DRAM_RETRAIN (R379): Dvorzar retrains one LPDDR5X channel in the background. -/
  | dramRetrain (ok : Bool)
  /-- HALT (R444): A write of 1 to TCD_c_DBG.HALT halts the core at the next bundle boundary. -/
  | halt (fn : Fin 8) (c : Fin 1024)
  /-- STEP (R444): A write of 1 to TCD_c_DBG.STEP issues one bundle and halts. -/
  | step_ (fn : Fin 8) (c : Fin 1024)
  /-- RESUME (R444): A write of 1 to TCD_c_DBG.RESUME leaves the halt. -/
  | resume (fn : Fin 8) (c : Fin 1024)
  /-- LC_REQ (R436): A JTAG lifecycle request with its token schedules a lifecycle transition for the next RESET_N. -/
  | lcReq (dst : Fin 8) (slots : Fin 16) (token : List Byte)
  /-- HDCP_PROVISION (R435): The Proctor's JTAG provisioning instructions store HDCP keys in Manufacturing or Development. -/
  | hdcpProvision
  /-- IDCODE (R440): JTAG IDCODE returns the device identification code. -/
  | idcode
  /-- BYPASS (R440): JTAG BYPASS selects the one-bit bypass register. -/
  | bypass (tdi : Bool)
  /-- SAMPLE_PRELOAD (R440): JTAG SAMPLE/PRELOAD samples or preloads the boundary scan. -/
  | samplePreload (pins content : Nat)
  /-- EXTEST (R441): JTAG EXTEST drives the balls where the lifecycle allows it. -/
  | extest (pins content : Nat)
  /-- INTEST (R441): JTAG INTEST tests the core where the lifecycle allows it. -/
  | intest (content : Nat)
  /-- TCD_ACCESS (R441): The JTAG TCD access instruction reaches TCD windows in Device-open. -/
  | tcdAccess (write : Bool) (off : Fin 16777216) (value : Word)
  /-- ROLLBACK_RAISE (R433): After 24 hours of running an image the Proctor raises its rollback counter. -/
  | rollbackRaise (m : Option Word)
  /-- PWR_REQ_FULL (R448): A write of 0 to PWR_REQ requests Full power. -/
  | pwrReqFull
  /-- PWR_REQ_ECO (R450): A write of 1 to PWR_REQ requests Eco, refused when a timetable needs a higher CCLK. -/
  | pwrReqEco
  /-- PWR_REQ_STANDBY (R449): A write of 2 to PWR_REQ requests Standby. -/
  | pwrReqStandby
  /-- PF0_D3HOT (R448): PF0 entering D3hot requests Standby. -/
  | pf0D3hot
  /-- PF0_D0 (R448): PF0 entering D0 requests return from Standby. -/
  | pf0D0
  /-- STANDBY_ENTRY (R449): After commits apply or 2 frames pass, rasters stop and domains power down into Standby. -/
  | standbyEntry (timeout : Bool)
  /-- POWER_TRANSITION_COMPLETE (R448): A power-state transition ends, the new state is reported and POWER cause 0x07 is posted. -/
  | powerTransitionComplete (u : StartUp)
  /-- GOVERNOR_TICK (R456): Every 100 ns the governor estimates P1, withholds grants and raises or lowers the stretch. -/
  | governorTick (p1 p100 : Fin 65536) (pa : Nat)
  /-- VCORE_ADJUST (R446): Every 10 ms the Dean moves the VCORE set point from the critical-path monitors. -/
  | vcoreAdjust (want meas : Fin 1024)
  /-- VCORE_REGULATOR_TIMEOUT (R446): The regulator does not acknowledge within 1 ms and POWER cause 0x09 is reported. -/
  | vcoreRegulatorTimeout
  /-- THERMAL_RESTART (R457): After every sensor stays below 100 °C for 10 s the device restarts from step 3. -/
  | thermalRestart (u : StartUp)
  /-- HOLDUP_WARNING (R458): A PWRSAG_N or internal supply warning lasting 1 µs enters Hold-up and begins the save. -/
  | holdupWarning (internal : Bool)
  /-- PWRSAG_GLITCH (R458): A PWRSAG_N low pulse shorter than 1 µs is counted and has no other effect. -/
  | pwrsagGlitch
  /-- SAVE_SEALED (R458): The save engine writes page 0 of the save record and the record is sealed. -/
  | saveSealed (vhold : Fin 4096)
  /-- HOLDUP_RESUME (R448): Supplies return after the save is sealed and start-up runs from step 3. -/
  | holdupResume (u : StartUp)
  /-- POWER_OFF (R448): VHOLD falls below 3.0 V and the device is Off. -/
  | powerOff
  /-- FW_SWAP_HANDOVER (R468): At the swap boundary the running image writes a handover record and the staged image starts. -/
  | fwSwapHandover
  /-- FW_WATCHDOG (R469): A new image that does not run within 100 ms is replaced by the old image. -/
  | fwWatchdog
  /-- FW_BOOT_CONFIRM (R469): After 60 s of running the boot selector names the new image. -/
  | fwBootConfirm
  /-- PLL_RECALIBRATE (R470): Every 24 h the idle PLL of each pair recalibrates and takes over phase-aligned. -/
  | pllRecalibrate (cclk sclk : Bool)
  /-- SENSOR_CALIBRATE (R470): Every 10 min one form's thermal sensor is calibrated against the reference sensor. -/
  | sensorCalibrate (f : Fin 32) (ok : Bool)
  /-- SINK_HDCP_AUTHENTICATED (R361): The HDCP 2.3 session of a DP sink completes authentication, AUTH sets and encrypted lines are decrypted instead of written black. -/
  | sinkHdcpAuthenticated (k : Fin 2)
  /-- PORT_HDCP_AUTHENTICATED (R366): A port's HDCP 2.3 session authenticates with encryption on and a permitted topology, and protected frames are sent instead of blocked from the next frame. -/
  | portHdcpAuthenticated (n : Fin 8) (type1 : Bool)
  /-- PORT_HPD_RETURN (R367): An output port's sink reasserts HPD and Dvorzar starts training the link. -/
  | portHpdReturn (n : Fin 8)
  /-- PWRSAG_N_HIGH (R477): PWRSAG_N has been high for 1 ms after RESET_N was released with it low, and start-up proceeds past step 1. -/
  | pwrsagNHigh (u : StartUp)
  /-- GPIO_INTERRUPT (R382): A GPIO input configured for interrupts sees its edge or level after the glitch filter and interrupts the Dean. -/
  | gpioInterrupt (pin : Fin 32) (mode : Fin 3) (irq : Fin 6) (level : Bool)
  deriving DecidableEq, Repr

end Sys2Proof
end

