-- ==== Sys2Proof/Config.lean ====
section
/-! DEFINITION. What the spec leaves open and the model leaves free: constants without a body, so that no proof can see a value of
them. Each is named in a row of the assumption log. -/
namespace Sys2Proof.Config

/-- The result of a matrix-vector lane block with OFMT = INT32 and floating-point inputs, of which R123 and R149 state none: a
32-bit pattern, from the FP32 sum and the bias word (log 20). -/
opaque laneIntOfFloat : Nat → Nat → BitVec 32

/-- Where the homework of a model lies (Table 11.1), as its package's homework section says. -/
structure HwPlan where
  /-- Rank, K and N of each adapted layer (R294). -/
  layers : List (Nat × Nat × Nat) := []
  /-- Library addresses of the masters and the two moments. -/
  masters : Nat := 0
  m : Nat := 0
  u : Nat := 0
  /-- Addresses in the House's LPDDR5X space: moment scales, deployed copies X and Y, gradient slots, staging, pools. -/
  scales : Nat := 0
  copyX : Nat := 0
  copyY : Nat := 0
  grads : Nat := 0
  staging : Nat := 0
  trainPool : Nat := 0
  valPool : Nat := 0
  /-- Forms that run homework, with the Library address of each control block, and the hall pass of each (Table 11.2). -/
  ctrl : List (Nat × Nat × Nat) := []
  pipe : Nat := 0
  halo : Nat := 0
  /-- Handle entries that name the adapter: core × 64 + entry (R298). -/
  handles : List Nat := []
  /-- The initial adapter in deployed form. -/
  initial : List Byte := []
  deriving DecidableEq, Repr, Inhabited

/-- What a model package holds. -/
structure Package where
  modelId : Nat := 0
  /-- Timetable images (R235). -/
  images : List (List Byte) := []
  /-- Weight blocks of the edge-layer engine (R256): Library address and bytes. -/
  edge : List (Nat × List Byte) := []
  hw : Option HwPlan := none
  /-- It lies in the board configuration partition (R454). -/
  board : Bool := false
  deriving DecidableEq, Repr, Inhabited

/-- The parts of a model package's payload, whose layout the spec does not give (log 50). -/
opaque package : List Byte → Package

/-- The payload of a protected template, whose layout the spec does not give (log 50): transfer, primaries, REP, FILL, W, H and
the words. -/
opaque template : List Byte → Nat × Nat × Nat × Nat × Nat × Nat × List Nat

/-- A protected template is stored in the board configuration partition (R452; log 50). -/
opaque templateBoard : List Byte → Bool

/-- The public key of a slot, as the key page of the flash holds it, hashes to the fused value (R432; log 51). -/
opaque keyPageOk : Nat → Bool

/-- An owner key slot allows an envelope's KIND (check 1 of R432; log 51). -/
opaque slotAllows : Nat → Nat → Bool

/-- A signature and digest verify under the public key of a slot (R432): slot, envelope, payload (log 51). -/
opaque sigOk : Nat → List Byte → List Byte → Bool

/-- The version that a Dvorzar image states, from its payload (log 50). -/
opaque imageVersion : List Byte → Nat

/-- Line pitch and plane pitch in bytes of a pipeline's capture ring, which the spec leaves to Dvorzar (R357, R240; log 54). -/
opaque ringPitch : Nat → Nat × Nat

/-- Line-pair pitch and plane pitch in bytes of a pipeline's Golile copy, of which R257 and R261 give only bounds (log 54). -/
opaque copyPitch : Nat → Nat × Nat

/-- A neural pixel: what a band-output buffer holds, whose place the spec does not give (log 52): pipeline, band, target frame,
column, row. -/
opaque bandPixel : Nat → Nat → BitVec 32 → Nat → Nat → BitVec 32

/-- The gradient of a sample for a layer (FP32 patterns, one for each parameter) and the loss of a sample, of a network that the spec does
not give (R305, R307; log 53): model identifier, layer, the policy, the sample's bytes, the adapter in deployed form. -/
opaque gradient : Nat → Nat → List Byte → List Byte → List Byte → List (BitVec 32)
opaque loss : Nat → List Byte → List Byte → List Byte → BitVec 32

/-- CYCLES of a homework unit, which the model package bounds (Table 11.2; log 58): model identifier, kind, layer. -/
opaque unitCycles : Nat → Nat → Nat → BitVec 32

/-- The order in which a port sends the components of a pixel or, for 4:2:2, of a pixel pair, which the display standards give
and the spec does not (R345; log 55): the encoding and the components. -/
opaque sendOrder : Nat → List Nat → List Nat

/-- The tables L1 and L2 of a layer's conversion unit (R329), whose curves stand in the standards that the spec names (log 56):
layer or canvas transfer, SDR white in cd/m², entry. L1 entries are FP16 bits. -/
opaque linTable : Nat → Nat → Nat → Nat
opaque codeTable : Nat → Nat → Nat → Nat

/-- The 12-bit code of an FP16 sample of a layer whose transfer is not linear, which R327 and R329 do not state (log 61). -/
opaque fpCode : Nat → Nat

/-- The FP32 matrix of R329 from layer primaries to canvas primaries: row and column (log 56). -/
opaque primMatrix : Nat → Nat → Nat → Nat → Nat

/-- The hand-off table that Dvorzar makes for a commit (R423, R425; log 57): commit sequence number, entry words 0 to 2. -/
opaque handoffPlan : Nat → List (BitVec 32 × BitVec 32 × Nat)

/-- The fraction of a line at an instant (R27), which no clock of the model gives (log 7): raster, output frame, line, and two counts
of what has happened, so that a later instant takes another value. -/
opaque lineFrac : Nat → Nat → Nat → Nat → Nat → BitVec 16

/-- A free value: the n-th word that the spec leaves open (log 3). -/
opaque freeWord : Nat → BitVec 32

end Sys2Proof.Config
end

