-- ==== Sys2Proof/Machine/Map.lean ====
section
/-! DEFINITION. Sparse tables: a list of (key, value) pairs with the keys strictly rising and no entry equal to
what an unlisted key reads as, so that equal tables are equal lists. Every memory and register file is one. -/
namespace Sys2Proof

/-- A sparse table from keys to values. -/
abbrev Map (α : Type) := List (Nat × α)

/-- The value at a key; `d` is what an unlisted key reads as. -/
def mapGet {α : Type} (d : Nat → α) : Map α → Nat → α
  | [], k => d k
  | (k', v) :: m, k => if k = k' then v else mapGet d m k

/-- The table without a key. -/
def mapDel {α : Type} : Map α → Nat → Map α
  | [], _ => []
  | (k', v) :: m, k => if k = k' then mapDel m k else (k', v) :: mapDel m k

/-- The table with one key listed at a value (whatever an unlisted key reads as). -/
def mapIns {α : Type} : Map α → Nat → α → Map α
  | [], k, v => [(k, v)]
  | (k', v') :: m, k, v =>
    if k < k' then (k, v) :: (k', v') :: m
    else if k = k' then (k, v) :: m
    else (k', v') :: mapIns m k v

/-- The table with a key written: writing what an unlisted key reads as removes the entry. -/
def mapSet {α : Type} [DecidableEq α] (d : Nat → α) (m : Map α) (k : Nat) (v : α) : Map α :=
  if v = d k then mapDel m k else mapIns m k v

/-- Every key of the table is above `b` and the keys rise. -/
def mapAbove {α : Type} (b : Nat) : Map α → Bool
  | [] => true
  | (k, _) :: m => decide (b < k) && mapAbove k m

/-- The keys rise strictly. -/
def mapSorted {α : Type} : Map α → Bool
  | [] => true
  | (k, _) :: m => mapAbove k m

/-- No entry equals what an unlisted key reads as. -/
def mapClean {α : Type} [DecidableEq α] (d : Nat → α) : Map α → Bool
  | [] => true
  | (k, v) :: m => decide (v ≠ d k) && mapClean d m

/-- The canonical form of a table. -/
def mapWf {α : Type} [DecidableEq α] (d : Nat → α) (m : Map α) : Bool := mapSorted m && mapClean d m

/-- A memory: bytes by address (Host.Cell). -/
abbrev Memory := List Host.Cell

/-- What an unlisted byte of memory reads as: 0x00 (DESIGN CHOICE, log 2). -/
def memDefault (_ : Nat) : Byte := 0

/-- The canonical form of a memory. -/
abbrev Memory.wf (m : Memory) : Bool := mapWf memDefault m

/-- One byte of a memory. -/
def memRead (m : Memory) (a : Nat) : Byte := mapGet memDefault m a

/-- One byte written. -/
def memWrite (m : Memory) (a : Nat) (b : Byte) : Memory := mapSet memDefault m a b

/-- `n` bytes from address `a` up. -/
def memReadN (m : Memory) : Nat → Nat → List Byte
  | _, 0 => []
  | a, n + 1 => memRead m a :: memReadN m (a + 1) n

/-- Bytes written from address `a` up. -/
def memWriteN (m : Memory) : Nat → List Byte → Memory
  | _, [] => m
  | a, b :: bs => memWriteN (memWrite m a b) (a + 1) bs

/-- A little-endian number of `n` bytes (Table 0.5). -/
def memLe (m : Memory) (a n : Nat) : Nat := leNat (memReadN m a n)

end Sys2Proof
end

