-- ==== Sys2Proof/Machine/Float.lean ====
section
/-! DEFINITION. The number formats and the rounding of every floating-point operation (R129 to R137): exact dyadic values,
one rounding, and the flags of Table 5.3. -/
namespace Sys2Proof.Machine

/-- A floating-point format of Table 5.2: exponent and fraction bits, bias, and whether all-ones exponents hold
infinity and NaN (FP8-E4M3 has only the one NaN pattern). -/
structure FFmt where
  eb : Nat
  fb : Nat
  bias : Nat
  ieee : Bool
  deriving DecidableEq, Repr

/-- FP8-E4M3. -/
def fE4M3 : FFmt := ⟨4, 3, 7, false⟩
/-- FP8-E5M2. -/
def fE5M2 : FFmt := ⟨5, 2, 15, true⟩
/-- FP16. -/
def fFP16 : FFmt := ⟨5, 10, 15, true⟩
/-- BF16. -/
def fBF16 : FFmt := ⟨8, 7, 127, true⟩
/-- FP32. -/
def fFP32 : FFmt := ⟨8, 23, 127, true⟩

/-- A floating-point value: NaN, an infinity, or the exact number ±m × 2^e (a zero keeps its sign). -/
inductive FV where
  | nan
  | inf (neg : Bool)
  | fin (neg : Bool) (m : Nat) (e : Int)
  deriving DecidableEq, Repr

/-- The flags of FFLAGS, in the register's order: NV, OF, UF, NX, SAT. -/
abbrev Flags := BitVec 5
/-- Invalid operation. -/
def flNV : Flags := 0x10#5
/-- Overflow. -/
def flOF : Flags := 0x08#5
/-- Underflow. -/
def flUF : Flags := 0x04#5
/-- Inexact. -/
def flNX : Flags := 0x02#5
/-- Integer saturation. -/
def flSAT : Flags := 0x01#5

/-- The flags when a condition holds. -/
def flIf (c : Bool) (f : Flags) : Flags := if c then f else 0

/-- Bits of a format. -/
def FFmt.width (f : FFmt) : Nat := f.eb + f.fb + 1

/-- The value that an encoding holds (R130). -/
def fDecode (f : FFmt) (x : Nat) : FV :=
  let s := x / 2 ^ (f.eb + f.fb) % 2 = 1
  let e := x / 2 ^ f.fb % 2 ^ f.eb
  let m := x % 2 ^ f.fb
  let top := 2 ^ f.eb - 1
  if f.ieee ∧ e = top then (if m = 0 then .inf s else .nan)
  else if !f.ieee ∧ e = top ∧ m = 2 ^ f.fb - 1 then .nan
  else if e = 0 then .fin s m (1 - (f.bias : Int) - f.fb)
  else .fin s (m + 2 ^ f.fb) ((e : Int) - f.bias - f.fb)

/-- The canonical NaN (Table 5.2). -/
def fNaN (f : FFmt) : Nat :=
  if f.ieee then (2 ^ f.eb - 1) * 2 ^ f.fb + 2 ^ (f.fb - 1) else 2 ^ (f.eb + f.fb) - 1

/-- The sign bit of an encoding. -/
def fSign (f : FFmt) (neg : Bool) : Nat := if neg then 2 ^ (f.eb + f.fb) else 0

/-- The encoding of an infinity; FP8-E4M3, which has none, gives ±448 (R131). -/
def fInf (f : FFmt) (neg : Bool) : Nat :=
  fSign f neg + (if f.ieee then (2 ^ f.eb - 1) * 2 ^ f.fb else 2 ^ (f.eb + f.fb) - 2)

/-- m × 2^e (e as an integer) as a whole number after division by 2^q, rounded to nearest, ties to even; and whether
that was exact. -/
def rne (m : Nat) (e q : Int) : Nat × Bool :=
  if q ≤ e then (m * 2 ^ (e - q).toNat, true)
  else
    let k := (q - e).toNat
    let d := 2 ^ k
    let r := m % d
    let b := m / d
    let up := 2 * r > d ∨ (2 * r = d ∧ b % 2 = 1)
    (if up then b + 1 else b, decide (r = 0))

/-- The power of two of the most significant bit of m × 2^e, for m above 0. -/
def msbExp (m : Nat) (e : Int) : Int := (Nat.log2 m : Int) + e

/-- m × 2^e compared with n × 2^k: the first is greater. -/
def dyGt (m : Nat) (e : Int) (n : Nat) (k : Int) : Bool :=
  if e ≤ k then decide (m > n * 2 ^ (k - e).toNat) else decide (m * 2 ^ (e - k).toNat > n)

/-- An exact value rounded once to a format (R131), with the flags of Table 5.3. -/
def fRound (f : FFmt) : FV → Nat × Flags
  | .nan => (fNaN f, 0)
  | .inf s => (fInf f s, flIf (!f.ieee) (flOF ||| flNX))
  | .fin s m e =>
    if m = 0 then (fSign f s, 0)
    else
      let qu := msbExp m e - f.fb
      let qmin := 1 - (f.bias : Int) - f.fb
      let q := max qu qmin
      let (r, ex) := rne m e q
      let maxM := if f.ieee then 2 ^ (f.fb + 1) - 1 else 2 ^ (f.fb + 1) - 2
      let maxE := (2 ^ f.eb : Nat) - (if f.ieee then (2 : Int) else 1) - f.bias - f.fb
      if dyGt r q maxM maxE then (fInf f s, flOF ||| flNX)
      else
        let (ru, _) := rne m e qu
        let tiny := dyGt 1 (1 - f.bias) ru qu
        let code := if r < 2 ^ f.fb then r else ((q - qmin).toNat) * 2 ^ f.fb + r
        (fSign f s + code, flIf (!ex) flNX ||| flIf (tiny && !ex) flUF)

/-- The exact value as an integer multiple of 2^k, for k no more than its exponent. -/
def scaled (s : Bool) (m : Nat) (e k : Int) : Int :=
  let v : Int := (m * 2 ^ (e - k).toNat : Nat)
  if s then -v else v

/-- An integer multiple of 2^k as a value; an exact zero takes the sign given. -/
def ofScaled (v k : Int) (zeroNeg : Bool) : FV :=
  if v = 0 then .fin zeroNeg 0 0 else .fin (decide (v < 0)) v.natAbs k

/-- The exact sum (R131): NaN for a NaN operand, NV for ∞ − ∞; the sum of two −0 is −0, every other exact zero +0. -/
def fvAdd : FV → FV → FV × Flags
  | .nan, _ => (.nan, 0)
  | _, .nan => (.nan, 0)
  | .inf a, .inf b => if a = b then (.inf a, 0) else (.nan, flNV)
  | .inf a, .fin .. => (.inf a, 0)
  | .fin .., .inf b => (.inf b, 0)
  | .fin s1 m1 e1, .fin s2 m2 e2 =>
    let k := min e1 e2
    (ofScaled (scaled s1 m1 e1 k + scaled s2 m2 e2 k) k (s1 && s2 && decide (m1 = 0) && decide (m2 = 0)), 0)

/-- The value with its sign changed. -/
def fvNeg : FV → FV
  | .nan => .nan
  | .inf s => .inf (!s)
  | .fin s m e => .fin (!s) m e

/-- The exact product (R131): NV for ∞ × 0. -/
def fvMul : FV → FV → FV × Flags
  | .nan, _ => (.nan, 0)
  | _, .nan => (.nan, 0)
  | .inf a, .inf b => (.inf (a != b), 0)
  | .inf a, .fin b m _ => if m = 0 then (.nan, flNV) else (.inf (a != b), 0)
  | .fin a m _, .inf b => if m = 0 then (.nan, flNV) else (.inf (a != b), 0)
  | .fin s1 m1 e1, .fin s2 m2 e2 => (.fin (s1 != s2) (m1 * m2) (e1 + e2), 0)

/-- a × b + c, exact (one rounding follows). -/
def fvFma (a b c : FV) : FV × Flags :=
  let (p, f1) := fvMul a b
  let (r, f2) := fvAdd p c
  (r, f1 ||| f2)

/-- The value is NaN. -/
def FV.isNan : FV → Bool
  | .nan => true
  | _ => false

/-- Order of two values that are not NaN, −0 equal to +0: the first is less. -/
def fvLt : FV → FV → Bool
  | .nan, _ => false
  | _, .nan => false
  | .inf a, .inf b => a && !b
  | .inf a, .fin .. => a
  | .fin .., .inf b => !b
  | .fin s1 m1 e1, .fin s2 m2 e2 =>
    let k := min e1 e2
    decide (scaled s1 m1 e1 k < scaled s2 m2 e2 k)

/-- IEEE equality: −0 equals +0, NaN equals nothing. -/
def fvEq (a b : FV) : Bool := !a.isNan && !b.isNan && !fvLt a b && !fvLt b a

/-- The sign of a value that is not NaN. -/
def FV.neg? : FV → Bool
  | .nan => false
  | .inf s => s
  | .fin s _ _ => s

/-- The minimum (R134): the other operand beside a NaN; −0 below +0. The choice is between the operands themselves. -/
def fvMin (a b : FV) : FV :=
  if a.isNan then b else if b.isNan then a
  else if fvLt a b then a else if fvLt b a then b else if a.neg? then a else b

/-- The maximum (R134). -/
def fvMax (a b : FV) : FV :=
  if a.isNan then b else if b.isNan then a
  else if fvLt a b then b else if fvLt b a then a else if a.neg? then b else a

/-- A value rounded to an integer by round-to-nearest-even and clamped to a range (R137): NaN gives 0 with NV; SAT when
clamped, NX when the result differs from the value. -/
def fvToInt (lo hi : Int) : FV → Int × Flags
  | .nan => (0, flNV)
  | .inf s => (if s then lo else hi, flSAT ||| flNX)
  | .fin s m e =>
    let (r, ex) := rne m e 0
    let v : Int := if s then -(r : Int) else r
    let c := clampI lo hi v
    (c, flIf (decide (c ≠ v)) flSAT ||| flIf (!ex || decide (c ≠ v)) flNX)

/-- An integer as a value. -/
def fvOfInt (i : Int) : FV := .fin (decide (i < 0)) i.natAbs 0

/-- FP32 helpers: values are held as their 32-bit encodings between roundings. -/
def f32 (x : Nat) : FV := fDecode fFP32 x

/-- A value rounded to FP32. -/
def toF32 (v : FV) : Nat := (fRound fFP32 v).1

/-- FP32 sum, rounded once. -/
def f32Add (a b : Nat) : Nat := toF32 (fvAdd (f32 a) (f32 b)).1
/-- FP32 difference, rounded once. -/
def f32Sub (a b : Nat) : Nat := toF32 (fvAdd (f32 a) (fvNeg (f32 b))).1
/-- FP32 product, rounded once. -/
def f32Mul (a b : Nat) : Nat := toF32 (fvMul (f32 a) (f32 b)).1
/-- FP32 fused multiply-add, rounded once. -/
def f32Fma (a b c : Nat) : Nat := toF32 (fvFma (f32 a) (f32 b) (f32 c)).1
/-- An integer converted to FP32. -/
def f32OfInt (i : Int) : Nat := toF32 (fvOfInt i)

/-- The TYPE codes of Table 3.8: the format of a floating-point type. -/
def tyFmt? (t : Nat) : Option FFmt :=
  match t with
  | 0x6 => some fE4M3
  | 0x7 => some fE5M2
  | 0x8 => some fFP16
  | 0x9 => some fBF16
  | 0xA => some fFP32
  | _ => none

/-- Bits of an element of a type (Tables 5.1 and 5.2); 0 for a reserved code. -/
def tyBits (t : Nat) : Nat :=
  match t with
  | 0x0 | 0x1 | 0x6 | 0x7 => 8
  | 0x2 | 0x3 | 0x8 | 0x9 => 16
  | 0x4 | 0x5 | 0xA => 32
  | 0xB => 4
  | _ => 0

/-- A signed integer type. -/
def tySigned (t : Nat) : Bool := t = 0x0 || t = 0x2 || t = 0x4 || t = 0xB

/-- The integer types INT8 to UINT32 of R83. -/
def tyInt (t : Nat) : Bool := decide (t ≤ 5)

/-- The floating-point types of the vector arithmetic: FP16, BF16, FP32 (R83). -/
def tyVFloat (t : Nat) : Bool := t = 0x8 || t = 0x9 || t = 0xA

/-- The range of an integer type (Table 5.1). -/
def tyLo (t : Nat) : Int := if tySigned t then -(2 ^ (tyBits t - 1) : Nat) else 0
/-- The top of an integer type's range. -/
def tyHi (t : Nat) : Int := if tySigned t then (2 ^ (tyBits t - 1) : Nat) - 1 else (2 ^ tyBits t : Nat) - 1

/-- An element of an integer type as an integer. -/
def elemInt (t x : Nat) : Int := if tySigned t then sgn (tyBits t) x else (x % 2 ^ tyBits t : Nat)

/-- An element of any type as a value. -/
def elemFV (t x : Nat) : FV :=
  match tyFmt? t with
  | some f => fDecode f x
  | none => fvOfInt (elemInt t x)

/-- An integer as an element of a type: its low bits. -/
def intElem (t : Nat) (i : Int) : Nat := (i % (2 ^ tyBits t : Nat)).toNat

/-- An exact integer as an element: clamped with SAT set when `sat`, else wrapped. -/
def narrowInt (t : Nat) (sat : Bool) (i : Int) : Nat × Flags :=
  let c := clampI (tyLo t) (tyHi t) i
  if sat then (intElem t c, flIf (decide (c ≠ i)) flSAT) else (intElem t i, 0)

/-- The conversion of one element (Table 5.6, R136, R137). -/
def convElem (src dst : Nat) (sat : Bool) (x : Nat) : Nat × Flags :=
  match tyFmt? src, tyFmt? dst with
  | none, none => narrowInt dst sat (elemInt src x)
  | _, some f => fRound f (elemFV src x)
  | some f, none =>
    let (i, fl) := fvToInt (tyLo dst) (tyHi dst) (fDecode f x)
    (intElem dst i, fl)

end Sys2Proof.Machine
end

