-- ==== Sys2Proof/Machine/Vector.lean ====
section
/-! DEFINITION. The arithmetic of the vector slot (R83 to R85, R134, R136): lanes of a 1,024-bit register and one function per
operation of Table 3.9. -/
namespace Sys2Proof.Machine

/-- The lanes of a vector at `w` bits, lane 0 first (R65). -/
def vLanes (w : Nat) (v : VWord) : List Nat :=
  (List.range (1024 / w)).map (fun i => v.toNat / 2 ^ (w * i) % 2 ^ w)

/-- The number whose digits of `w` bits are the lanes. -/
def lanesNat (w : Nat) : List Nat → Nat
  | [] => 0
  | x :: xs => x % 2 ^ w + 2 ^ w * lanesNat w xs

/-- The vector that holds the lanes. -/
def vPack (w : Nat) (xs : List Nat) : VWord := BitVec.ofNat 1024 (lanesNat w xs)

/-- Flags of many lanes together. -/
def flAll (fs : List Flags) : Flags := fs.foldl (· ||| ·) 0

/-- Lanes with flags packed into a vector. -/
def vPackF (w : Nat) (xs : List (Nat × Flags)) : VWord × Flags := (vPack w (xs.map (·.1)), flAll (xs.map (·.2)))

/-- A lane-wise operation of two sources. -/
def vMap2 (w : Nat) (f : Nat → Nat → Nat × Flags) (a b : VWord) : VWord × Flags :=
  vPackF w (List.zipWith f (vLanes w a) (vLanes w b))

/-- A lane-wise operation of three sources. -/
def vMap3 (w : Nat) (f : Nat → Nat → Nat → Nat × Flags) (a b c : VWord) : VWord × Flags :=
  vPackF w (List.zipWith (fun g z => g z) (List.zipWith f (vLanes w a) (vLanes w b)) (vLanes w c))

/-- One result rounded in the element type, with the flags of the exact operation (R134). -/
def fOp (f : FFmt) (r : FV × Flags) : Nat × Flags :=
  let (x, fl) := fRound f r.1
  (x, fl ||| r.2)

/-- One lane of VADD (R83, R134). -/
def laneAdd (t : Nat) (sat : Bool) (a b : Nat) : Nat × Flags :=
  match tyFmt? t with
  | some f => fOp f (fvAdd (fDecode f a) (fDecode f b))
  | none => narrowInt t sat (elemInt t a + elemInt t b)

/-- One lane of VSUB. -/
def laneSub (t : Nat) (sat : Bool) (a b : Nat) : Nat × Flags :=
  match tyFmt? t with
  | some f => fOp f (fvAdd (fDecode f a) (fvNeg (fDecode f b)))
  | none => narrowInt t sat (elemInt t a - elemInt t b)

/-- One lane of VMUL: the low half for integers. -/
def laneMul (t : Nat) (a b : Nat) : Nat × Flags :=
  match tyFmt? t with
  | some f => fOp f (fvMul (fDecode f a) (fDecode f b))
  | none => narrowInt t false (elemInt t a * elemInt t b)

/-- One lane of VFMA: exact, then one rounding or one clamp (R134). -/
def laneFma (t : Nat) (sat : Bool) (a b c : Nat) : Nat × Flags :=
  match tyFmt? t with
  | some f => fOp f (fvFma (fDecode f a) (fDecode f b) (fDecode f c))
  | none => narrowInt t sat (elemInt t a * elemInt t b + elemInt t c)

/-- One lane of VMIN (R134). -/
def laneMin (t : Nat) (a b : Nat) : Nat × Flags :=
  match tyFmt? t with
  | some f => ((fRound f (fvMin (fDecode f a) (fDecode f b))).1, 0)
  | none => (if elemInt t b < elemInt t a then b else a, 0)

/-- One lane of VMAX (R134). -/
def laneMax (t : Nat) (a b : Nat) : Nat × Flags :=
  match tyFmt? t with
  | some f => ((fRound f (fvMax (fDecode f a) (fDecode f b))).1, 0)
  | none => (if elemInt t a < elemInt t b then b else a, 0)

/-- Shift left by an amount taken modulo the width. -/
def laneShl (t : Nat) (a n : Nat) : Nat := a * 2 ^ (n % tyBits t) % 2 ^ tyBits t

/-- Shift right by an amount taken modulo the width: arithmetic for signed types. -/
def laneShr (t : Nat) (a n : Nat) : Nat :=
  if tySigned t then intElem t (elemInt t a / (2 ^ (n % tyBits t) : Nat)) else a / 2 ^ (n % tyBits t)

/-- The condition of VCMP (Table 3.9): 0 EQ, 1 NE, 2 LT, 3 LE, 4 GT, 5 GE; with a NaN only NE is true. -/
def laneCmp (t cond a b : Nat) : Bool :=
  match tyFmt? t with
  | some f =>
    let x := fDecode f a
    let y := fDecode f b
    if x.isNan || y.isNan then decide (cond = 1)
    else match cond with
      | 0 => fvEq x y
      | 1 => !fvEq x y
      | 2 => fvLt x y
      | 3 => !fvLt y x
      | 4 => fvLt y x
      | _ => !fvLt x y
  | none =>
    let x := elemInt t a
    let y := elemInt t b
    match cond with
    | 0 => decide (x = y)
    | 1 => decide (x ≠ y)
    | 2 => decide (x < y)
    | 3 => decide (x ≤ y)
    | 4 => decide (y < x)
    | _ => decide (y ≤ x)

/-- Absolute value; the most negative integer gives itself unless SAT = 1. -/
def laneAbs (t : Nat) (sat : Bool) (a : Nat) : Nat × Flags :=
  narrowInt t sat (if elemInt t a < 0 then -elemInt t a else elemInt t a)

/-- High half of the integer product (VMULH). -/
def laneMulh (t : Nat) (a b : Nat) : Nat :=
  intElem t (elemInt t a * elemInt t b / (2 ^ tyBits t : Nat))

/-- The reduction of R85: at each stage lane i of the lower half combines with lane i of the upper half. `k` counts the
stages left. -/
def vReduce (f : Nat → Nat → Nat × Flags) : Nat → List Nat → Flags → Nat × Flags
  | 0, xs, fl => (xs.headD 0, fl)
  | k + 1, xs, fl =>
    let h := xs.length / 2
    let rs := List.zipWith f (xs.take h) (xs.drop h)
    vReduce f k (rs.map (·.1)) (fl ||| flAll (rs.map (·.2)))

/-- A reduction over the lanes of a type into lane 0, the other lanes 0. -/
def vReduceTy (t : Nat) (f : Nat → Nat → Nat × Flags) (v : VWord) : VWord × Flags :=
  let w := tyBits t
  let (x, fl) := vReduce f (Nat.log2 (1024 / w)) (vLanes w v) 0
  (vPack w [x], fl)

/-- The low `n` lanes from lane `k` on. -/
def slice {α : Type} (k n : Nat) (xs : List α) : List α := (xs.drop k).take n

/-- VCVT (R84): part selection and conversion; a widening lane count keeps the other lanes of the destination. -/
def vConvert (src dst part : Nat) (sat : Bool) (a d : VWord) : VWord × Flags :=
  let ws := tyBits src
  let wd := tyBits dst
  let ns := 1024 / ws
  let nd := 1024 / wd
  if nd ≤ ns then
    vPackF wd ((slice (part * nd) nd (vLanes ws a)).map (convElem src dst sat))
  else
    let cs := (vLanes ws a).map (convElem src dst sat)
    let old := vLanes wd d
    (vPack wd (old.take (part * ns) ++ cs.map (·.1) ++ old.drop (part * ns + ns)), flAll (cs.map (·.2)))

/-- VPERM. -/
def vPerm (w : Nat) (a b : VWord) : VWord :=
  let xs := vLanes w a
  vPack w ((vLanes w b).map (fun i => xs.getD (i % (1024 / w)) 0))

/-- VSLIDE. -/
def vSlide (w s : Nat) (a b : VWord) : VWord :=
  vPack w (slice (s % (1024 / w)) (1024 / w) (vLanes w a ++ vLanes w b))

/-- Every lane the same. -/
def vSplat (w x : Nat) : VWord := vPack w (List.replicate (1024 / w) x)

/-- The 128 bytes of a vector, lowest first. -/
def vBytes (v : VWord) : List Byte := leBytes 128 v.toNat

/-- The vector of a list of bytes. -/
def bytesV (bs : List Byte) : VWord := BitVec.ofNat 1024 (leNat bs)

end Sys2Proof.Machine
end

