-- ==== Sys2Proof/Machine/ArrayMath.lean ====
section
/-! DEFINITION. The arithmetic of a matrix array and of its drain chain (R96 to R121, R139 to R148), and of the matrix-vector
lane (R122, R123, R149): pure functions on bytes and 32-bit patterns. -/
namespace Sys2Proof.Machine

/-- A configuration of an array: the fields of A_CFG. -/
structure ArrCfg where
  afmt : Nat
  wfmt : Nat
  /-- 0 whole, 1 pair, 2 quad. -/
  mode : Nat
  /-- 0 none, 1 = 32, 2 = 64, 3 = 128 products. -/
  gsize : Nat
  deriving DecidableEq, Repr

/-- The fields of A_CFG. -/
def arrCfg (w : Word) : ArrCfg := ⟨fld w 9 6, fld w 13 10, fld w 5 4, fld w 15 14⟩

/-- Table 4.1: the combinations that A_CFG may hold. -/
def ArrCfg.legal (c : ArrCfg) : Bool :=
  let fp8 (t : Nat) := t = 0x6 || t = 0x7
  decide (c.mode ≤ 2) &&
  ((((c.afmt = 0x0 || c.afmt = 0x1) && (c.wfmt = 0x0 || c.wfmt = 0xB)) ||
    (c.afmt = 0xB && c.wfmt = 0xB) || (fp8 c.afmt && fp8 c.wfmt)) ||
   (((c.afmt = 0x8 && c.wfmt = 0x8) || (c.afmt = 0x9 && c.wfmt = 0x9)) && c.mode = 0 && c.gsize = 0))

/-- The inputs are integers. -/
def ArrCfg.isInt (c : ArrCfg) : Bool := c.afmt = 0x0 || c.afmt = 0x1 || c.afmt = 0xB
/-- The inputs are 16-bit formats (step length 4, Table 4.1). -/
def ArrCfg.wide (c : ArrCfg) : Bool := c.afmt = 0x8 || c.afmt = 0x9
/-- The accumulators hold INT32 (Table 4.1). -/
def ArrCfg.accInt (c : ArrCfg) : Bool := c.isInt && c.gsize = 0

/-- D of Table 4.1. -/
def ArrCfg.depth (c : ArrCfg) : Nat :=
  (if c.afmt = 0xB then 64 else 32) / (if c.mode = 2 then 2 else 1)

/-- Twice N of R114 (N may be one half); 0 without groups. -/
def ArrCfg.twoN (c : ArrCfg) : Nat := if c.gsize = 0 then 0 else 2 * (2 ^ (c.gsize + 4)) / c.depth

/-- The accumulator Desk is split (R114, N ≥ 2). -/
def ArrCfg.split (c : ArrCfg) : Bool := decide (4 ≤ c.twoN)

/-- Rows of the accumulator window W (R108). -/
def ArrCfg.rows (c : ArrCfg) : Nat := if c.split then 16 else 32

/-- The byte of a streamed row that array row k takes for a column (Table 4.2): the column's half selects the upper
32 bytes in pair and quad mode. -/
def ArrCfg.inByte (c : ArrCfg) (k j : Nat) : Nat := if c.mode = 0 then k else 32 * (j / 16) + k

/-- The operand pairs of cell (k, j): input element and weight, in the order of the reduction (Tables 4.2 and R100). -/
def cellPairs (c : ArrCfg) (img row : Memory) (k j : Nat) : List (Nat × Nat) :=
  let x := (memRead row (c.inByte k j)).toNat
  let w := (memRead img (64 * k + j)).toNat
  if c.afmt = 0xB then [(x % 16, w % 16), (x / 16, w / 16)]
  else if c.wide then
    [(x + 256 * (memRead row (32 + k)).toNat,
      (memRead img (64 * k + 2 * j)).toNat + 256 * (memRead img (64 * k + 2 * j + 1)).toNat)]
  else if c.wfmt = 0xB then [(x, w % 16)]
  else [(x, w)]

/-- The weights of cell (k, j) as integers. -/
def cellWeight (c : ArrCfg) (img : Memory) (k j : Nat) : Int :=
  ((cellPairs c img [] k j).map (fun p => elemInt c.wfmt p.2)).foldl (· + ·) 0

/-- The rows k0 to k0 + n − 1. -/
def rowsFrom (k0 n : Nat) : List Nat := (List.range n).map (k0 + ·)

/-- The exact FP8 sum, or the running FP32 sum of the 16-bit formats (Table 5.8), as an FP32 encoding. -/
def fpPass (c : ArrCfg) (ps : List (Nat × Nat)) : Nat :=
  if c.wide then
    ps.foldl (fun r p => toF32 (fvFma (elemFV c.afmt p.1) (elemFV c.wfmt p.2) (f32 r)).1) 0
  else
    toF32 (ps.foldl (fun r p => (fvAdd r (fvMul (elemFV c.afmt p.1) (elemFV c.wfmt p.2)).1).1) (.fin false 0 0))

/-- The exact integer sum, corrected for the input zero point when AFMT is UINT8 (R113, R143). -/
def intPass (c : ArrCfg) (zpIn : Nat) (ps : List (Nat × Nat)) : Int :=
  let z : Int := if c.afmt = 0x1 then zpIn else 0
  (ps.map (fun p => elemInt c.wfmt p.2 * (elemInt c.afmt p.1 - z))).foldl (· + ·) 0

/-- A pass sum over array rows k0 to k0 + n − 1 of column j: a 32-bit pattern, INT32 for integer inputs, else FP32
(R139). -/
def passSum (c : ArrCfg) (zpIn : Nat) (img row : Memory) (k0 n j : Nat) : Nat :=
  let ps := (rowsFrom k0 n).flatMap (fun k => cellPairs c img row k j)
  if c.isInt then intElem 0x4 (intPass c zpIn ps) else fpPass c ps

/-- A pass sum as a value in FP32 arithmetic: integers convert exactly. -/
def passF32 (c : ArrCfg) (p : Nat) : Nat := if c.isInt then f32OfInt (elemInt 0x4 p) else p

/-- The scale of column j in set s of an image, widened to FP32 (R101, R145). -/
def groupScale (img : Memory) (s j : Nat) : Nat :=
  memLe img (64 * (2 * s + j / 16) + 32 + 2 * (j % 16)) 2 * 2 ^ 16

/-- One accumulator entry: the sum, and under the split the open-group partial and its pass count (R114). -/
structure AccEntry where
  s : Nat
  p : Nat
  cnt : Nat
  deriving DecidableEq, Repr

/-- A pass meets an accumulator entry (R140, R145). `half` is the row half of a quad problem, `pass` the pass sum over
the problem's rows, `up` and `lo` the two halves when the column is cut (N = 1/2). The Bool says that an INT32
accumulator saturated. -/
def accumulate (c : ArrCfg) (img : Memory) (j half : Nat) (clear : Bool) (pass up lo : Nat) (a : AccEntry) :
    AccEntry × Bool :=
  let a0 : AccEntry := if clear then ⟨0, 0, 0⟩ else a
  let set := if c.mode = 2 then half else 0
  if c.gsize = 0 then
    if clear then ({ a with s := pass }, false)
    else if c.accInt then
      let v := elemInt 0x4 a.s + elemInt 0x4 pass
      let (r, fl) := narrowInt 0x4 true v
      ({ a with s := r }, decide (fl ≠ 0))
    else ({ a with s := f32Add a.s pass }, false)
  else if c.twoN = 1 then
    ({ a0 with s := f32Fma (passF32 c lo) (groupScale img 1 j)
                      (f32Fma (passF32 c up) (groupScale img 0 j) a0.s) }, false)
  else if c.twoN = 2 then
    ({ a0 with s := f32Fma (passF32 c pass) (groupScale img set j) a0.s }, false)
  else
    let p := if c.isInt then intElem 0x4 (elemInt 0x4 a0.p + elemInt 0x4 pass) else f32Add a0.p pass
    if 2 * (a0.cnt + 1) = c.twoN then
      (⟨f32Fma (passF32 c p) (groupScale img set j) a0.s, 0, 0⟩, false)
    else (⟨a0.s, p, a0.cnt + 1⟩, false)

/-- What a bypassed row (ACC = 0b10) sends to the drain chain (R140, R145). -/
def bypass (c : ArrCfg) (img : Memory) (j half : Nat) (pass up lo : Nat) : Nat :=
  if c.gsize = 0 then pass else (accumulate c img j half true pass up lo ⟨0, 0, 0⟩).1.s

/-- The registers that a drain uses of one column. -/
structure ColRegs where
  scale : Nat
  bias : Nat
  zpc : Nat
  deriving DecidableEq, Repr

/-- Stage 1 (Table 5.10): the entry as FP32, with the flags that stage 1 reports. -/
def drainStage1 (c : ArrCfg) (img : Memory) (j half : Nat) (zpc : Nat) (a : AccEntry) : Nat × Flags :=
  if c.accInt then
    let d := elemInt 0x4 a.s - elemInt 0x4 zpc
    let (r, fs) := narrowInt 0x4 true d
    let (x, fl) := fRound fFP32 (fvOfInt (elemInt 0x4 r))
    (x, fs ||| (fl &&& flNX))
  else if c.gsize = 0 then (f32Sub a.s (f32OfInt (elemInt 0x4 zpc)), 0)
  else
    let set := if c.mode = 2 then half else 0
    let x := if c.split && decide (a.cnt ≠ 0) then f32Fma (passF32 c a.p) (groupScale img set j) a.s else a.s
    (f32Sub x zpc, 0)

/-- The whole number at or below a value, clamped to 0 to 31 (R118); NaN has none. -/
def segIndex : FV → Option Nat
  | .nan => none
  | .inf s => some (if s then 0 else 31)
  | .fin s m e =>
    let v : Int := if s then -(m : Int) else m
    let fl : Int := if 0 ≤ e then v * (2 ^ e.toNat : Nat) else v / (2 ^ (-e).toNat : Nat)
    some (clampI 0 31 fl).toNat

/-- The activation table of R118 applied: T(x) = a_i × x + b_i, rounded once. `tbl` holds the 264 bytes. -/
def tableStep (tbl : Memory) (x : Nat) : Nat :=
  let w (o : Nat) := memLe tbl o 4
  match segIndex (f32 (f32Mul (f32Sub x (w 0)) (w 4))) with
  | none => fNaN fFP32
  | some i => f32Fma (w (8 + 8 * i)) x (w (12 + 8 * i))

/-- One fused step (Table 4.5) on an element, each rounded once: KIND, the FP32 image of C, the activation table, the
residual as FP32. -/
def fusedStep (kind c : Nat) (tbl : Memory) (res x : Nat) : Nat :=
  match kind with
  | 0x1 => if fvLt (f32 x) (.fin false 0 0) || (f32 x).isNan then f32Mul x c else x
  | 0x2 => tableStep tbl x
  | 0x3 => f32Fma c res x
  | 0x4 => toF32 (fvMul (f32 x) (fvMul (f32 c) (f32 res)).1).1
  | 0x5 => f32Mul x c
  | 0x6 => f32Add x c
  | 0x7 => toF32 (fvMax (f32 x) (f32 c))
  | 0x8 => toF32 (fvMin (f32 x) (f32 c))
  | _ => x

/-- A_CLAMP and ZP_OUT as the output format reads them: signed for signed formats, unsigned otherwise (R147). -/
def asOut (ofmt bits v : Nat) : Int := if tySigned ofmt then sgn bits v else (v % 2 ^ bits : Nat)

/-- Stages 5 and 6 (R147, R148): the element of OFMT and its flags. -/
def drainOut (ofmt zpOut hi lo x : Nat) : Nat × Flags :=
  match tyFmt? ofmt with
  | some f => fRound f (f32 x)
  | none =>
    let y := f32Add x (f32OfInt (asOut ofmt 8 zpOut))
    match f32 y with
    | .nan =>
      let r := clampI (tyLo ofmt) (tyHi ofmt) (min (max 0 (asOut ofmt 16 lo)) (asOut ofmt 16 hi))
      (intElem ofmt r, flNV)
    | .inf s =>
      let r : Int := if s then max (tyLo ofmt) (asOut ofmt 16 lo) else tyHi ofmt
      (intElem ofmt (clampI (tyLo ofmt) (tyHi ofmt) (min r (asOut ofmt 16 hi))), flSAT ||| flNX)
    | .fin s m e =>
      let (q, ex) := rne m e 0
      let v : Int := if s then -(q : Int) else q
      let r := clampI (tyLo ofmt) (tyHi ofmt) (min (max v (asOut ofmt 16 lo)) (asOut ofmt 16 hi))
      (intElem ofmt r, flIf (decide (v < tyLo ofmt ∨ tyHi ofmt < v)) flSAT ||| flIf (!ex || decide (r ≠ v)) flNX)

/-- A residual element as FP32: an integer one is value − ZP_OUT (R117). -/
def residual (ofmt zpOut x : Nat) : Nat :=
  match tyFmt? ofmt with
  | some f => toF32 (fDecode f x)
  | none => f32OfInt (elemInt ofmt x - asOut ofmt 8 zpOut)

/-- A weight block of the matrix-vector lane (Table 4.7), its header decoded. -/
structure LaneHdr where
  k : Nat
  n : Nat
  afmt : Nat
  wfmt : Nat
  ofmt : Nat
  flags : Nat
  zp : Nat
  zeros : Bool
  deriving DecidableEq, Repr

/-- The header of a block from its first 64 bytes. -/
def laneHdr (bs : List Byte) : LaneHdr :=
  let b (i : Nat) : Nat := (bs.getD i 0).toNat
  ⟨b 0 + 256 * b 1, b 2 + 256 * b 3, b 4, b 5, b 6, b 7, b 8, (bs.drop 9).all (· = 0)⟩

/-- Inputs are 8 bits wide. -/
def LaneHdr.in8 (h : LaneHdr) : Bool := h.afmt = 0x0 || h.afmt = 0x1 || h.afmt = 0x6 || h.afmt = 0x7

/-- Integer inputs. -/
def LaneHdr.isInt (h : LaneHdr) : Bool := h.afmt = 0x0 || h.afmt = 0x1

/-- The values of Table 4.7, and R123's rule that SCALE goes with FP32 alone. -/
def LaneHdr.legal (h : LaneHdr) : Bool :=
  decide (1 ≤ h.k) && decide (h.k ≤ if h.in8 then 128 else 64) && decide (1 ≤ h.n) && decide (h.n ≤ 32) &&
  (h.in8 || h.afmt = 0x8 || h.afmt = 0x9) &&
  (if h.isInt then h.wfmt = 0x0 || h.wfmt = 0xB
   else if h.in8 then h.wfmt = 0x6 || h.wfmt = 0x7 else h.wfmt = h.afmt) &&
  (h.ofmt = 0x4 || h.ofmt = 0xA) && decide (h.flags < 4) && (h.zp = 0 || h.afmt = 0x1) && h.zeros &&
  !(h.ofmt = 0x4 && h.flags % 2 = 1)

/-- Bytes of one row of weights. -/
def LaneHdr.rowBytes (h : LaneHdr) : Nat := 64 * ceilDiv (h.k * tyBits h.wfmt) 512
/-- Offset of BIAS. -/
def LaneHdr.biasOfs (h : LaneHdr) : Nat := 64 + (if h.flags % 2 = 1 then 128 else 0)
/-- Offset of WEIGHTS. -/
def LaneHdr.wOfs (h : LaneHdr) : Nat := h.biasOfs + (if h.flags / 2 % 2 = 1 then 128 else 0)
/-- Bytes of the whole block. -/
def LaneHdr.size (h : LaneHdr) : Nat := h.wOfs + h.n * h.rowBytes

/-- Element i of a packed row of elements of a type. -/
def packedElem (t : Nat) (rd : Nat → Nat) (i : Nat) : Nat :=
  match tyBits t with
  | 4 => rd (i / 2) / 16 ^ (i % 2) % 16
  | 8 => rd i
  | 16 => rd (2 * i) + 256 * rd (2 * i + 1)
  | _ => rd (4 * i) + 256 * rd (4 * i + 1) + 65536 * rd (4 * i + 2) + 16777216 * rd (4 * i + 3)

/-- Output n of the lane for one input vector (R123, R149): a 32-bit pattern and the SAT flag of an INT32 bias. `rd`
reads a byte of the block. With OFMT = INT32 and floating-point inputs the result is a free value (log 20). -/
def laneOut (h : LaneHdr) (rd : Nat → Nat) (x : VWord) (n : Nat) : Nat × Flags :=
  let xs := vLanes (tyBits h.afmt) x
  let pairs := (List.range h.k).map (fun k =>
    (xs.getD k 0, packedElem h.wfmt (fun i => rd (h.wOfs + n * h.rowBytes + i)) k))
  let cfg : ArrCfg := ⟨h.afmt, h.wfmt, 0, 0⟩
  let bias := packedElem 0x4 (fun i => rd (h.biasOfs + i)) n
  let scale := packedElem 0x4 (fun i => rd (64 + i)) n
  if h.ofmt = 0x4 && !h.isInt then
    ((Config.laneIntOfFloat (fpPass cfg pairs) (if h.flags / 2 % 2 = 1 then bias else 0)).toNat, 0)
  else if h.ofmt = 0x4 then
    let s := intPass cfg h.zp pairs
    if h.flags / 2 % 2 = 1 then narrowInt 0x4 true (s + elemInt 0x4 bias) else (intElem 0x4 s, 0)
  else
    let s := if h.isInt then f32OfInt (intPass cfg h.zp pairs) else fpPass cfg pairs
    let s := if h.flags % 2 = 1 then f32Mul s scale else s
    (if h.flags / 2 % 2 = 1 then f32Add s bias else s, 0)

/-- The lane's result vector for one input vector. -/
def laneVector (h : LaneHdr) (rd : Nat → Nat) (x : VWord) : VWord × Flags :=
  vPackF 32 ((List.range h.n).map (laneOut h rd x))

end Sys2Proof.Machine
end

