-- ==== Sys2Proof/Machine/Regs.lean ====
section
/-! DEFINITION. The register tables of the spec as rows (Tables 0.4, 2.7, 6.11, 7.10, 8.5, 9.6, 10.10, 12.7, 12.8, 13.11, 14.12
to 14.15 and 16.12): offset, window count and stride, reset value, and which bits carry each access code (R11). -/
namespace Sys2Proof.Machine

/-- One register, or a run of like registers at a constant stride. The masks name the bits of each access code of
Table 0.6; every other bit is RO (or WO, which reads as 0). -/
structure RegRow where
  /-- The register's name in the spec's table. -/
  name : String
  /-- Offset in BAR0 of the first register. -/
  base : Nat
  /-- Number of like registers. -/
  count : Nat
  /-- Distance between them. -/
  stride : Nat
  /-- Reset value; fields that the tables give as "fuse" are read from the fuses instead. -/
  reset : Nat
  /-- RW bits. -/
  rw : Nat
  /-- W1C bits. -/
  w1c : Nat
  /-- W1S bits. -/
  w1s : Nat
  /-- RWL bits. -/
  rwl : Nat
  /-- Writing 1 to bit 16 (OVF) also clears bits [15:0]. -/
  ovf : Bool
  deriving DecidableEq, Repr

/-- The row holds this offset. -/
def RegRow.holds (r : RegRow) (off : Nat) : Bool :=
  decide (r.base ≤ off) && decide ((off - r.base) % r.stride = 0) && decide ((off - r.base) / r.stride < r.count)

/-- Registers of Table 0.4. -/
def regsDev : List RegRow := [
  ⟨"DEV_ID", 0, 1, 4, 0x91600000, 0, 0, 0, 0, false⟩,
  ⟨"DEV_GRADE", 4, 1, 4, 0, 0, 0, 0, 0, false⟩,
  ⟨"DEV_ARRAYS", 8, 1, 4, 0, 0, 0, 0, 0, false⟩,
  ⟨"DEV_CANVAS", 0xc, 1, 4, 0, 0, 0, 0, 0, false⟩,
  ⟨"DEV_PIXRATE", 0x10, 1, 4, 0, 0, 0, 0, 0, false⟩,
  ⟨"DEV_REFRESH", 0x14, 1, 4, 0, 0, 0, 0, 0, false⟩,
  ⟨"DEV_UID_LO", 0x18, 1, 4, 0, 0, 0, 0, 0, false⟩,
  ⟨"DEV_UID_HI", 0x1c, 1, 4, 0, 0, 0, 0, 0, false⟩,
  ⟨"DEV_ERRSTAT", 0x20, 1, 4, 0, 0, 1, 0, 0, false⟩]

/-- Registers of Table 2.7 (part 1). -/
def regsRas0 : List RegRow := [
  ⟨"RAS_CAPS", 0x100000, 1, 4, 0x81000, 0, 0, 0, 0, false⟩,
  ⟨"RAS_BELLSTAT", 0x100004, 1, 4, 0, 0, 0, 0, 0, false⟩,
  ⟨"RAS_SWAP_T_LO", 0x100008, 1, 4, 0, 0, 0, 0, 0, false⟩,
  ⟨"RAS_SWAP_T_HI", 0x10000c, 1, 4, 0, 0, 0, 0, 0, false⟩,
  ⟨"RAS_DISPERR", 0x100010, 1, 4, 0, 0, 0x1ffff, 0, 0, true⟩,
  ⟨"RAS_HRANGEh", 0x100040, 8, 4, 0, 0, 0, 0, 0, false⟩,
  ⟨"RAS_INs_PERIOD", 0x100800, 3, 0x40, 0, 0, 0, 0, 0, false⟩,
  ⟨"RAS_INs_LPERIOD", 0x100804, 3, 0x40, 0, 0, 0, 0, 0, false⟩,
  ⟨"RAS_INs_FRAME", 0x100808, 3, 0x40, 0, 0, 0, 0, 0, false⟩,
  ⟨"RAS_INs_LINE", 0x10080c, 3, 0x40, 0, 0, 0, 0, 0, false⟩,
  ⟨"RAS_INs_LAST_LO", 0x100810, 3, 0x40, 0, 0, 0, 0, 0, false⟩,
  ⟨"RAS_INs_LAST_HI", 0x100814, 3, 0x40, 0, 0, 0, 0, 0, false⟩,
  ⟨"RAS_INs_STATUS", 0x100818, 3, 0x40, 0, 0, 6, 0, 0, false⟩,
  ⟨"RAS_INs_DISCNT", 0x10081c, 3, 0x40, 0, 0, 0x1ffff, 0, 0, true⟩,
  ⟨"RASn_CTRL", 0x101000, 8, 0x100, 0, 0, 0, 0, 0, false⟩,
  ⟨"RASn_VTIMING", 0x101004, 8, 0x100, 0, 0, 0, 0, 0, false⟩,
  ⟨"RASn_VTIMING2", 0x101008, 8, 0x100, 0, 0, 0, 0, 0, false⟩,
  ⟨"RASn_HTIMING", 0x10100c, 8, 0x100, 0, 0, 0, 0, 0, false⟩,
  ⟨"RASn_PHASE", 0x101010, 8, 0x100, 0x20000, 0, 0, 0, 0, false⟩,
  ⟨"RASn_LINE", 0x101014, 8, 0x100, 0, 0, 0, 0, 0, false⟩,
  ⟨"RASn_FRAME_LO", 0x101018, 8, 0x100, 0, 0, 0, 0, 0, false⟩,
  ⟨"RASn_FRAME_HI", 0x10101c, 8, 0x100, 0, 0, 0, 0, 0, false⟩,
  ⟨"RASn_NOW_LO", 0x101020, 8, 0x100, 0, 0, 0, 0, 0, false⟩,
  ⟨"RASn_NOW_HI", 0x101024, 8, 0x100, 0, 0, 0, 0, 0, false⟩,
  ⟨"RASn_STRETCH", 0x101028, 8, 0x100, 0, 0, 0, 0, 0, false⟩]

/-- Registers of Table 2.7 (part 2). -/
def regsRas1 : List RegRow := [
  ⟨"RASn_SLEW", 0x10102c, 8, 0x100, 0, 0, 0, 0, 0, false⟩,
  ⟨"RASn_STATUS", 0x101030, 8, 0x100, 0, 0, 0x34, 0, 0, false⟩,
  ⟨"RASn_ERRCNT", 0x101034, 8, 0x100, 0, 0, 0x1ffff, 0, 0, true⟩,
  ⟨"RASn_RATIO", 0x101038, 8, 0x100, 0x11, 0, 0, 0, 0, false⟩,
  ⟨"RASn_LMATCH", 0x10103c, 8, 0x100, 0, 0x1ffff, 0, 0, 0, false⟩]

/-- Registers of Table 6.11. -/
def regsLib : List RegRow := [
  ⟨"LIB_CAPS", 0xa00000, 1, 4, 0x1004200, 0, 0, 0, 0, false⟩,
  ⟨"LIB_APBASE", 0xa00004, 1, 4, 0, 0x1ff, 0, 0, 0, false⟩,
  ⟨"LIB_APERR", 0xa00008, 1, 4, 0, 0, 0x1ffff, 0, 0, true⟩,
  ⟨"LIB_APERR_ADDR", 0xa0000c, 1, 4, 0, 0, 0, 0, 0, false⟩,
  ⟨"LIB_ECC_CORR", 0xa00010, 1, 4, 0, 0, 0x1ffff, 0, 0, true⟩,
  ⟨"LIB_ECC_UNC", 0xa00014, 1, 4, 0, 0, 0x1ffff, 0, 0, true⟩,
  ⟨"LIB_ECC_LAST", 0xa00018, 1, 4, 0, 0, 0, 0, 0, false⟩,
  ⟨"LIB_SCRUB", 0xa00020, 1, 4, 0, 0, 0, 0, 0, false⟩,
  ⟨"LIB_MARCH", 0xa00030, 1, 4, 0, 0, 0, 0, 0, false⟩,
  ⟨"LIB_MARCH_TIME", 0xa00034, 1, 4, 0, 0, 0, 0, 0, false⟩,
  ⟨"LIB_SHELFh_HIT_LO", 0xa00100, 8, 0x10, 0, 0, 0, 0, 0, false⟩,
  ⟨"LIB_SHELFh_HIT_HI", 0xa00104, 8, 0x10, 0, 0, 0, 0, 0, false⟩,
  ⟨"LIB_SHELFh_MISS_LO", 0xa00108, 8, 0x10, 0, 0, 0, 0, 0, false⟩,
  ⟨"LIB_SHELFh_MISS_HI", 0xa0010c, 8, 0x10, 0, 0, 0, 0, 0, false⟩,
  ⟨"LIB_BANKb", 0xa01000, 512, 4, 8, 0, 0, 0, 0, false⟩]

/-- Registers of Table 7.10. -/
def regsDma : List RegRow := [
  ⟨"DMA_CAPS", 0x900000, 1, 4, 0x440, 0, 0, 0, 0, false⟩,
  ⟨"DMA_WINDOW", 0x900004, 1, 4, 0x258, 0, 0, 0, 0, false⟩,
  ⟨"DMA_SHAREh", 0x900040, 8, 4, 0, 0, 0, 0, 0, false⟩,
  ⟨"DMA_CORRf", 0x900100, 32, 4, 0, 0, 0x1ffff, 0, 0, true⟩,
  ⟨"DMA_En_STATUS", 0x901000, 96, 0x40, 0, 0, 0x100, 0, 0, false⟩,
  ⟨"DMA_En_DESC", 0x901004, 96, 0x40, 0, 0, 0, 0, 0, false⟩,
  ⟨"DMA_En_POS", 0x901008, 96, 0x40, 0, 0, 0, 0, 0, false⟩,
  ⟨"DMA_En_FADDR_LO", 0x90100c, 96, 0x40, 0, 0, 0, 0, 0, false⟩,
  ⟨"DMA_En_FADDR_HI", 0x901010, 96, 0x40, 0, 0, 0, 0, 0, false⟩,
  ⟨"DMA_En_CTRL", 0x901014, 96, 0x40, 0, 0, 0, 1, 0, false⟩,
  ⟨"DMA_En_BYTES_LO", 0x901018, 96, 0x40, 0, 0, 0, 0, 0, false⟩,
  ⟨"DMA_En_BYTES_HI", 0x90101c, 96, 0x40, 0, 0, 0, 0, 0, false⟩,
  ⟨"DMA_En_DROPCNT", 0x901020, 96, 0x40, 0, 0, 0x1ffff, 0, 0, true⟩]

/-- Registers of Table 8.5. -/
def regsRc : List RegRow := [
  ⟨"RC_BAND", 0x20000000000, 32, 0x40, 0xffff, 0, 0, 0, 0, false⟩,
  ⟨"RC_TFRAME", 0x20000000004, 32, 0x40, 0, 0, 0, 0, 0, false⟩,
  ⟨"RC_CTRL", 0x20000000008, 32, 0x40, 0, 0, 0, 0, 0, false⟩,
  ⟨"RC_NT", 0x2000000000c, 32, 0x40, 0, 0, 0, 0, 0, false⟩,
  ⟨"RC_PROG", 0x20000000010, 32, 0x40, 0, 0, 0, 0, 0, false⟩,
  ⟨"RC_LANES", 0x20000000014, 32, 0x40, 0, 0, 0, 0, 0, false⟩,
  ⟨"RC_REISSUE", 0x20000000018, 32, 0x40, 0, 0, 0, 0, 0, false⟩,
  ⟨"RC_ERR", 0x2000000001c, 32, 0x40, 0, 0, 0x1ffff, 0, 0, true⟩,
  ⟨"RC_DONE_RTS_LO", 0x20000000020, 32, 0x40, 0, 0, 0, 0, 0, false⟩,
  ⟨"RC_DONE_RTS_HI", 0x20000000024, 32, 0x40, 0, 0, 0, 0, 0, false⟩]

/-- Registers of Table 9.6. -/
def regsFfj : List RegRow := [
  ⟨"FFJ_SLOTS", 0x10000000000, 1, 4, 0, 0xffffffff, 0, 0, 0, false⟩,
  ⟨"FFJ_SLOTEN", 0x10000000004, 1, 4, 0, 0xffff, 0, 0, 0, false⟩,
  ⟨"FFJ_Pp_LIST", 0x10000000040, 4, 0x10, 0, 0x7ffffff, 0, 0, 0, false⟩,
  ⟨"FFJ_Pp_WALK", 0x10000000044, 4, 0x10, 0, 0, 0, 0, 0, false⟩,
  ⟨"FFJ_Pp_ERR", 0x10000000048, 4, 0x10, 0, 0, 0xffffffff, 0, 0, false⟩]

/-- Registers of Table 10.10. -/
def regsDln : List RegRow := [
  ⟨"DLN_Pp_CTRL", 0x102000, 4, 0x40, 0, 0, 0, 0, 0, false⟩,
  ⟨"DLN_Pp_LATE", 0x102004, 4, 0x40, 0, 0, 0x1ffff, 0, 0, true⟩,
  ⟨"DLN_Pp_VOID", 0x102008, 4, 0x40, 0, 0, 0x1ffff, 0, 0, true⟩,
  ⟨"DLN_Pp_CALLS", 0x10200c, 4, 0x40, 0, 0, 0x1ffff, 0, 0, true⟩,
  ⟨"DLN_Pp_LATEDONE", 0x102010, 4, 0x40, 0, 0, 0x1ffff, 0, 0, true⟩,
  ⟨"DLN_Pp_LAST", 0x102014, 4, 0x40, 0xffff, 0, 0, 0, 0, false⟩,
  ⟨"DLN_Pp_SUB_LO", 0x102018, 4, 0x40, 0, 0, 0, 0, 0, false⟩,
  ⟨"DLN_Pp_SUB_HI", 0x10201c, 4, 0x40, 0, 0, 0, 0, 0, false⟩,
  ⟨"DLN_LIVE", 0x102100, 1, 4, 0, 0, 0, 0, 0, false⟩,
  ⟨"DLN_BANKS", 0x102104, 1, 4, 0, 0, 0, 0, 0, false⟩,
  ⟨"DLN_CHIP", 0x102108, 1, 4, 0, 0, 0, 0, 0, false⟩,
  ⟨"DLN_SUB", 0x10210c, 1, 4, 0, 0, 0, 0, 0, false⟩,
  ⟨"DLN_FORMf", 0x102180, 32, 4, 0, 0, 0, 0, 0, false⟩]

/-- Registers of Table 12.7 (part 1). -/
def regsCmp0 : List RegRow := [
  ⟨"CMP_CAPS", 0x200000, 1, 4, 0x80804, 0, 0, 0, 0, false⟩,
  ⟨"CMP_SHSTAT", 0x200004, 1, 4, 0, 0, 1, 0, 0, false⟩,
  ⟨"CMP_PEND", 0x200008, 1, 4, 0, 0, 0, 0, 0, false⟩,
  ⟨"CMP_LASTr", 0x200010, 8, 4, 0, 0, 0, 0, 0, false⟩,
  ⟨"CMP_CUTp", 0x200040, 4, 4, 0xffff, 0, 0, 0, 0, false⟩,
  ⟨"CMP_CVr_CTRL", 0x200100, 8, 0x20, 0xcb0000, 0, 0, 0, 0, false⟩,
  ⟨"CMP_CVr_SIZE", 0x200104, 8, 0x20, 0, 0, 0, 0, 0, false⟩,
  ⟨"CMP_CVr_BG", 0x200108, 8, 0x20, 0, 0, 0, 0, 0, false⟩,
  ⟨"CMP_CVr_ORDER_LO", 0x20010c, 8, 0x20, 0xffffffff, 0, 0, 0, 0, false⟩,
  ⟨"CMP_CVr_ORDER_HI", 0x200110, 8, 0x20, 0xffff, 0, 0, 0, 0, false⟩,
  ⟨"CMP_VLv_CTRL", 0x200200, 4, 0x20, 0, 0, 0, 0, 0, false⟩,
  ⟨"CMP_VLv_WIN0", 0x200204, 4, 0x20, 0, 0, 0, 0, 0, false⟩,
  ⟨"CMP_VLv_WIN1", 0x200208, 4, 0x20, 0, 0, 0, 0, 0, false⟩,
  ⟨"CMP_VLv_ALPHA", 0x20020c, 4, 0x20, 0x400, 0, 0, 0, 0, false⟩,
  ⟨"CMP_GLg_CTRL", 0x200400, 8, 0x40, 0, 0, 0, 0x200000, 0x1fffc1, false⟩,
  ⟨"CMP_GLg_A0_LO to A2_HI", 0x200404, 8, 0x40, 0, 0, 0, 0, 0xffffffff, false⟩,
  ⟨"CMP_GLg_A0_LO to A2_HI", 0x200408, 8, 0x40, 0, 0, 0, 0, 0xffffffff, false⟩,
  ⟨"CMP_GLg_A0_LO to A2_HI", 0x20040c, 8, 0x40, 0, 0, 0, 0, 0xffffffff, false⟩,
  ⟨"CMP_GLg_A0_LO to A2_HI", 0x200410, 8, 0x40, 0, 0, 0, 0, 0xffffffff, false⟩,
  ⟨"CMP_GLg_A0_LO to A2_HI", 0x200414, 8, 0x40, 0, 0, 0, 0, 0xffffffff, false⟩,
  ⟨"CMP_GLg_A0_LO to A2_HI", 0x200418, 8, 0x40, 0, 0, 0, 0, 0xffffffff, false⟩,
  ⟨"CMP_GLg_PITCH", 0x20041c, 8, 0x40, 0, 0, 0, 0, 0xffffffff, false⟩,
  ⟨"CMP_GLg_POS", 0x200420, 8, 0x40, 0, 0, 0, 0, 0xffffffff, false⟩,
  ⟨"CMP_GLg_SIZE", 0x200424, 8, 0x40, 0, 0, 0, 0, 0xffffffff, false⟩,
  ⟨"CMP_GLg_ALPHA", 0x200428, 8, 0x40, 0x400, 0, 0, 0, 0x7ff, false⟩]

/-- Registers of Table 12.7 (part 2). -/
def regsCmp1 : List RegRow := [
  ⟨"CMP_GLg_ERR", 0x20042c, 8, 0x40, 0, 0, 0x1ffff, 0, 0, false⟩,
  ⟨"CMP_PRr_STAT", 0x200800, 8, 0x10, 0, 0, 8, 0, 0, false⟩,
  ⟨"CMP_PRr_POS", 0x200804, 8, 0x10, 0, 0, 0, 0, 0, false⟩,
  ⟨"CMP_PRr_SIZE", 0x200808, 8, 0x10, 0, 0, 0, 0, 0, false⟩]

/-- Registers of Table 12.8. -/
def regsSco : List RegRow := [
  ⟨"SCO_CAPS", 0x300000, 1, 4, 8, 0, 0, 0, 0, false⟩,
  ⟨"SCOn_CTRL", 0x300100, 8, 0x40, 0x2000, 0, 0, 0, 0, false⟩,
  ⟨"SCOn_STRIPE", 0x300104, 8, 0x40, 0, 0, 0, 0, 0, false⟩,
  ⟨"SCOn_UNDER", 0x300108, 8, 0x40, 0, 0, 0x1ffff, 0, 0, true⟩,
  ⟨"SCOn_ULAST", 0x30010c, 8, 0x40, 0, 0, 0, 0, 0, false⟩,
  ⟨"SCOn_PCRC", 0x300110, 8, 0x40, 0, 0, 0, 0, 0, false⟩,
  ⟨"SCOn_PEXP", 0x300114, 8, 0x40, 0, 0, 0, 0, 0, false⟩,
  ⟨"SCOn_PMIS", 0x300118, 8, 0x40, 0, 0, 0x1ffff, 0, 0, true⟩]

/-- Registers of Table 13.11. -/
def regsVin : List RegRow := [
  ⟨"VIN_CAPS", 0x400000, 1, 4, 0x12, 0, 0, 0, 0, false⟩,
  ⟨"VIN_DRAM_ERR", 0x400010, 1, 4, 0, 0, 0x1ffff, 0, 0, true⟩,
  ⟨"VIN_PROTBLK", 0x400020, 8, 4, 0, 0, 0xffff, 0, 0, false⟩,
  ⟨"VIN_Ss_STATUS", 0x400100, 2, 0x80, 0, 0, 0x80, 0, 0, false⟩,
  ⟨"VIN_Ss_HTIM", 0x400104, 2, 0x80, 0, 0, 0, 0, 0, false⟩,
  ⟨"VIN_Ss_VTIM", 0x400108, 2, 0x80, 0, 0, 0, 0, 0, false⟩,
  ⟨"VIN_Ss_FMT", 0x40010c, 2, 0x80, 0, 0, 0, 0, 0, false⟩,
  ⟨"VIN_Ss_ERR", 0x400110, 2, 0x80, 0, 0, 0x1ffff, 0, 0, false⟩,
  ⟨"VIN_Ss_DSCERR", 0x400114, 2, 0x80, 0, 0, 0x1ffff, 0, 0, true⟩,
  ⟨"VIN_Ss_HDCPERR", 0x400118, 2, 0x80, 0, 0, 0x1ffff, 0, 0, true⟩,
  ⟨"VIN_Ss_RETRAIN", 0x40011c, 2, 0x80, 0, 0, 0x1ffff, 0, 0, true⟩,
  ⟨"VIN_HF_BASE_LO", 0x400400, 1, 4, 0, 0xffffffc0, 0, 0, 0, false⟩,
  ⟨"VIN_HF_BASE_HI", 0x400404, 1, 4, 0, 0xffff, 0, 0, 0, false⟩,
  ⟨"VIN_HF_SIZE", 0x400408, 1, 4, 0, 0x1ff, 0, 0, 0, false⟩,
  ⟨"VIN_HF_TAIL", 0x40040c, 1, 4, 0, 0xff, 0, 0, 0, false⟩,
  ⟨"VIN_HF_HEAD", 0x400410, 1, 4, 0, 0, 0, 0, 0, false⟩,
  ⟨"VIN_HF_CTRL", 0x400414, 1, 4, 0, 1, 0, 0, 0, false⟩,
  ⟨"VIN_HF_ERR", 0x400418, 1, 4, 0, 0, 0x1ffff, 0, 0, false⟩]

/-- Registers of Table 14.12. -/
def regsMbx : List RegRow := [
  ⟨"MBX_CMDn", 0x10000, 16, 4, 0, 0xffffffff, 0, 0, 0, false⟩,
  ⟨"MBX_RSPn", 0x10040, 16, 4, 0, 0, 0, 0, 0, false⟩,
  ⟨"MBX_DOORBELL", 0x10080, 1, 4, 0, 0, 0, 0, 0, false⟩,
  ⟨"MBX_STATUS", 0x10084, 1, 4, 0, 0, 6, 0, 0, false⟩,
  ⟨"MBX_IRQ", 0x10088, 1, 4, 0, 0x7f, 0, 0, 0, false⟩,
  ⟨"MBX_DEAN", 0x100c0, 1, 4, 0, 0, 0, 0, 0, false⟩,
  ⟨"MBX_HOUSE", 0x100c4, 1, 4, 0, 0, 0, 0, 0, false⟩]

/-- Registers of Table 14.13. -/
def regsQue : List RegRow := [
  ⟨"QUE_q_BASE", 0x500000, 16384, 0x10, 0, 0, 0, 0, 0, false⟩,
  ⟨"QUE_q_CFG", 0x500004, 16384, 0x10, 0, 0, 0, 0, 0, false⟩,
  ⟨"QUE_q_HEAD", 0x500008, 16384, 0x10, 0, 0xfff, 0x10000, 0, 0, false⟩,
  ⟨"QUE_q_TAIL", 0x50000c, 16384, 0x10, 0, 0xfff, 0xffff0000, 0, 0, false⟩,
  ⟨"QUE_CAPS", 0x540000, 1, 4, 0x4000, 0, 0, 0, 0, false⟩,
  ⟨"QUE_HRANGEh", 0x540010, 8, 4, 0, 0, 0, 0, 0, false⟩]

/-- Registers of Table 14.14. -/
def regsHps : List RegRow := [
  ⟨"HPS_p_VALUE", 0x600000, 8192, 0x10, 0, 0, 0, 0, 0, false⟩,
  ⟨"HPS_p_SIGNAL", 0x600004, 8192, 0x10, 0, 0, 0, 0, 0, false⟩,
  ⟨"HPS_p_STAT", 0x600008, 8192, 0x10, 0, 0, 0x80000000, 0, 0, false⟩,
  ⟨"HPS_CAPS", 0x620000, 1, 4, 0x2000, 0, 0, 0, 0, false⟩,
  ⟨"HPS_HRANGEh", 0x620010, 8, 4, 0, 0, 0, 0, 0, false⟩]

/-- Registers of Table 14.15. -/
def regsEvt : List RegRow := [
  ⟨"EVT_CAPS", 0x700000, 1, 4, 0x11, 0, 0, 0, 0, false⟩,
  ⟨"EVT_LOSTh", 0x700010, 8, 4, 0, 0, 0x1ffff, 0, 0, true⟩,
  ⟨"EVT_SEQh", 0x700040, 8, 4, 0, 0, 0, 0, 0, false⟩,
  ⟨"EVT_C_STATUS", 0x700800, 1, 4, 0, 0, 0xffffffff, 0, 0, false⟩,
  ⟨"EVT_C_MASK", 0x700804, 1, 4, 0, 0xffffffff, 0, 0, 0, false⟩,
  ⟨"EVT_C_IRQ", 0x700808, 1, 4, 0, 0x7f, 0, 0, 0, false⟩,
  ⟨"EVT_C_ID", 0x70080c, 1, 4, 0x70400000, 0, 0, 0, 0, false⟩]

/-- Registers of Table 16.12. -/
def regsPwr : List RegRow := [
  ⟨"PWR_STATE", 0x800000, 1, 4, 0, 0, 0x100, 0, 0, false⟩,
  ⟨"PWR_REQ", 0x800004, 1, 4, 0, 3, 0, 0, 0, false⟩,
  ⟨"PWR_ECO", 0x800008, 1, 4, 0, 0, 0, 0, 0, false⟩,
  ⟨"PWR_VCORE", 0x80000c, 1, 4, 0, 0, 0, 0, 0, false⟩,
  ⟨"PWR_PNOW", 0x800010, 1, 4, 0, 0, 0, 0, 0, false⟩,
  ⟨"PWR_LIMITS", 0x800014, 1, 4, 0, 0, 0, 0, 0, false⟩,
  ⟨"PWR_GOV", 0x800018, 1, 4, 0, 0, 0, 0, 0, false⟩,
  ⟨"PWR_STRETCH", 0x80001c, 1, 4, 0, 0, 0, 0, 0, false⟩,
  ⟨"PWR_STRUS_LO", 0x800020, 1, 4, 0, 0, 0, 0, 0, false⟩,
  ⟨"PWR_STRUS_HI", 0x800024, 1, 4, 0, 0, 0, 0, 0, false⟩,
  ⟨"PWR_GRANT_LO", 0x800028, 1, 4, 0, 0, 0, 0, 0, false⟩,
  ⟨"PWR_GRANT_HI", 0x80002c, 1, 4, 0, 0, 0, 0, 0, false⟩,
  ⟨"PWR_TJ", 0x800030, 1, 4, 0, 0, 0, 0, 0, false⟩,
  ⟨"PWR_SSC", 0x800034, 1, 4, 0, 0, 0, 0, 0, false⟩,
  ⟨"PWR_IO", 0x800038, 1, 4, 0x15, 0, 0, 0, 0, false⟩,
  ⟨"PWR_SAGGLITCH", 0x80003c, 1, 4, 0, 0, 0x1ffff, 0, 0, true⟩,
  ⟨"PWR_HOLD", 0x800040, 1, 4, 0, 0, 0, 0, 0, false⟩,
  ⟨"PWR_HOLDSEQ", 0x800044, 1, 4, 0, 0, 0, 0, 0, false⟩,
  ⟨"PWR_CAL", 0x800048, 1, 4, 0, 0, 0x10000, 0, 0, false⟩]

/-- Every register row. The windows of the Dean's own space (Tables 8.5 and 9.6) lie above BAR0, at keys of the
model's choice (DESIGN CHOICE, log 5). -/
def regTable : List RegRow :=
  regsDev ++ regsRas0 ++ regsRas1 ++ regsLib ++ regsDma ++ regsRc ++ regsFfj ++ regsDln ++ regsCmp0 ++ regsCmp1 ++ regsSco ++ regsVin ++ regsMbx ++ regsQue ++ regsHps ++ regsEvt ++ regsPwr

/-- The row of an offset. -/
def regRow? (off : Nat) : Option RegRow := regTable.find? (·.holds off)

/-- A register key: the offset, above it the number of the function whose own copy it is (0 for a register that all
functions share). -/
def regOffset (key : Nat) : Nat := if key < 2 ^ 40 then key % 2 ^ 32 else key

/-- What a register reads as after RESET_N: its table's reset value. SCOn_CTRL.LEADER is the port's own number and
MBX_HOUSE the function's House (Tables 12.8 and 14.12: "per port", "per function"). -/
def regReset (key : Nat) : Word :=
  let off := regOffset key
  match regRow? off with
  | none => 0
  | some r =>
    if 0x300100 ≤ off ∧ off < 0x300300 ∧ (off - 0x300100) % 0x40 = 0 then
      BitVec.ofNat 32 (r.reset + ((off - 0x300100) / 0x40) * 2 ^ 10)
    else if off = 0x100C4 then BitVec.ofNat 32 (key / 2 ^ 32)
    else BitVec.ofNat 32 r.reset

end Sys2Proof.Machine
end

