-- ==== Sys2Proof/Machine/Keys.lean ====
section
/-! DEFINITION. The keys of the registers, under the names of the spec's register tables; a register with windows takes
its window's number. DMA windows 0 to 63 are the form engines, 64 + 8s + h the context of House h on system engine s (R214). -/
namespace Sys2Proof.Machine.Reg

-- Table 0.4
def DEV_ID : Nat := 0x0
def DEV_GRADE : Nat := 0x4
def DEV_ARRAYS : Nat := 0x8
def DEV_CANVAS : Nat := 0xc
def DEV_PIXRATE : Nat := 0x10
def DEV_REFRESH : Nat := 0x14
def DEV_UID_LO : Nat := 0x18
def DEV_UID_HI : Nat := 0x1c
def DEV_ERRSTAT : Nat := 0x20
-- Table 2.7
def RAS_CAPS : Nat := 0x100000
def RAS_BELLSTAT : Nat := 0x100004
def RAS_SWAP_T_LO : Nat := 0x100008
def RAS_SWAP_T_HI : Nat := 0x10000c
def RAS_DISPERR : Nat := 0x100010
def RAS_HRANGEh (i : Nat) : Nat := 0x100040 + 0x4 * i
def RAS_INs_PERIOD (i : Nat) : Nat := 0x100800 + 0x40 * i
def RAS_INs_LPERIOD (i : Nat) : Nat := 0x100804 + 0x40 * i
def RAS_INs_FRAME (i : Nat) : Nat := 0x100808 + 0x40 * i
def RAS_INs_LINE (i : Nat) : Nat := 0x10080c + 0x40 * i
def RAS_INs_LAST_LO (i : Nat) : Nat := 0x100810 + 0x40 * i
def RAS_INs_LAST_HI (i : Nat) : Nat := 0x100814 + 0x40 * i
def RAS_INs_STATUS (i : Nat) : Nat := 0x100818 + 0x40 * i
def RAS_INs_DISCNT (i : Nat) : Nat := 0x10081c + 0x40 * i
def RASn_CTRL (i : Nat) : Nat := 0x101000 + 0x100 * i
def RASn_VTIMING (i : Nat) : Nat := 0x101004 + 0x100 * i
def RASn_VTIMING2 (i : Nat) : Nat := 0x101008 + 0x100 * i
def RASn_HTIMING (i : Nat) : Nat := 0x10100c + 0x100 * i
def RASn_PHASE (i : Nat) : Nat := 0x101010 + 0x100 * i
def RASn_LINE (i : Nat) : Nat := 0x101014 + 0x100 * i
def RASn_FRAME_LO (i : Nat) : Nat := 0x101018 + 0x100 * i
def RASn_FRAME_HI (i : Nat) : Nat := 0x10101c + 0x100 * i
def RASn_NOW_LO (i : Nat) : Nat := 0x101020 + 0x100 * i
def RASn_NOW_HI (i : Nat) : Nat := 0x101024 + 0x100 * i
def RASn_STRETCH (i : Nat) : Nat := 0x101028 + 0x100 * i
def RASn_SLEW (i : Nat) : Nat := 0x10102c + 0x100 * i
def RASn_STATUS (i : Nat) : Nat := 0x101030 + 0x100 * i
def RASn_ERRCNT (i : Nat) : Nat := 0x101034 + 0x100 * i
def RASn_RATIO (i : Nat) : Nat := 0x101038 + 0x100 * i
def RASn_LMATCH (i : Nat) : Nat := 0x10103c + 0x100 * i
-- Table 6.11
def LIB_CAPS : Nat := 0xa00000
def LIB_APBASE : Nat := 0xa00004
def LIB_APERR : Nat := 0xa00008
def LIB_APERR_ADDR : Nat := 0xa0000c
def LIB_ECC_CORR : Nat := 0xa00010
def LIB_ECC_UNC : Nat := 0xa00014
def LIB_ECC_LAST : Nat := 0xa00018
def LIB_SCRUB : Nat := 0xa00020
def LIB_MARCH : Nat := 0xa00030
def LIB_MARCH_TIME : Nat := 0xa00034
def LIB_SHELFh_HIT_LO (i : Nat) : Nat := 0xa00100 + 0x10 * i
def LIB_SHELFh_HIT_HI (i : Nat) : Nat := 0xa00104 + 0x10 * i
def LIB_SHELFh_MISS_LO (i : Nat) : Nat := 0xa00108 + 0x10 * i
def LIB_SHELFh_MISS_HI (i : Nat) : Nat := 0xa0010c + 0x10 * i
def LIB_BANKb (i : Nat) : Nat := 0xa01000 + 0x4 * i
-- Table 7.10
def DMA_CAPS : Nat := 0x900000
def DMA_WINDOW : Nat := 0x900004
def DMA_SHAREh (i : Nat) : Nat := 0x900040 + 0x4 * i
def DMA_CORRf (i : Nat) : Nat := 0x900100 + 0x4 * i
def DMA_En_STATUS (i : Nat) : Nat := 0x901000 + 0x40 * i
def DMA_En_DESC (i : Nat) : Nat := 0x901004 + 0x40 * i
def DMA_En_POS (i : Nat) : Nat := 0x901008 + 0x40 * i
def DMA_En_FADDR_LO (i : Nat) : Nat := 0x90100c + 0x40 * i
def DMA_En_FADDR_HI (i : Nat) : Nat := 0x901010 + 0x40 * i
def DMA_En_CTRL (i : Nat) : Nat := 0x901014 + 0x40 * i
def DMA_En_BYTES_LO (i : Nat) : Nat := 0x901018 + 0x40 * i
def DMA_En_BYTES_HI (i : Nat) : Nat := 0x90101c + 0x40 * i
def DMA_En_DROPCNT (i : Nat) : Nat := 0x901020 + 0x40 * i
-- Table 8.5
def RC_BAND (i : Nat) : Nat := 0x20000000000 + 0x40 * i
def RC_TFRAME (i : Nat) : Nat := 0x20000000004 + 0x40 * i
def RC_CTRL (i : Nat) : Nat := 0x20000000008 + 0x40 * i
def RC_NT (i : Nat) : Nat := 0x2000000000c + 0x40 * i
def RC_PROG (i : Nat) : Nat := 0x20000000010 + 0x40 * i
def RC_LANES (i : Nat) : Nat := 0x20000000014 + 0x40 * i
def RC_REISSUE (i : Nat) : Nat := 0x20000000018 + 0x40 * i
def RC_ERR (i : Nat) : Nat := 0x2000000001c + 0x40 * i
def RC_DONE_RTS_LO (i : Nat) : Nat := 0x20000000020 + 0x40 * i
def RC_DONE_RTS_HI (i : Nat) : Nat := 0x20000000024 + 0x40 * i
-- Table 9.6
def FFJ_SLOTS : Nat := 0x10000000000
def FFJ_SLOTEN : Nat := 0x10000000004
def FFJ_Pp_LIST (i : Nat) : Nat := 0x10000000040 + 0x10 * i
def FFJ_Pp_WALK (i : Nat) : Nat := 0x10000000044 + 0x10 * i
def FFJ_Pp_ERR (i : Nat) : Nat := 0x10000000048 + 0x10 * i
-- Table 10.10
def DLN_Pp_CTRL (i : Nat) : Nat := 0x102000 + 0x40 * i
def DLN_Pp_LATE (i : Nat) : Nat := 0x102004 + 0x40 * i
def DLN_Pp_VOID (i : Nat) : Nat := 0x102008 + 0x40 * i
def DLN_Pp_CALLS (i : Nat) : Nat := 0x10200c + 0x40 * i
def DLN_Pp_LATEDONE (i : Nat) : Nat := 0x102010 + 0x40 * i
def DLN_Pp_LAST (i : Nat) : Nat := 0x102014 + 0x40 * i
def DLN_Pp_SUB_LO (i : Nat) : Nat := 0x102018 + 0x40 * i
def DLN_Pp_SUB_HI (i : Nat) : Nat := 0x10201c + 0x40 * i
def DLN_LIVE : Nat := 0x102100
def DLN_BANKS : Nat := 0x102104
def DLN_CHIP : Nat := 0x102108
def DLN_SUB : Nat := 0x10210c
def DLN_FORMf (i : Nat) : Nat := 0x102180 + 0x4 * i
-- Table 12.7
def CMP_CAPS : Nat := 0x200000
def CMP_SHSTAT : Nat := 0x200004
def CMP_PEND : Nat := 0x200008
def CMP_LASTr (i : Nat) : Nat := 0x200010 + 0x4 * i
def CMP_CUTp (i : Nat) : Nat := 0x200040 + 0x4 * i
def CMP_CVr_CTRL (i : Nat) : Nat := 0x200100 + 0x20 * i
def CMP_CVr_SIZE (i : Nat) : Nat := 0x200104 + 0x20 * i
def CMP_CVr_BG (i : Nat) : Nat := 0x200108 + 0x20 * i
def CMP_CVr_ORDER_LO (i : Nat) : Nat := 0x20010c + 0x20 * i
def CMP_CVr_ORDER_HI (i : Nat) : Nat := 0x200110 + 0x20 * i
def CMP_VLv_CTRL (i : Nat) : Nat := 0x200200 + 0x20 * i
def CMP_VLv_WIN0 (i : Nat) : Nat := 0x200204 + 0x20 * i
def CMP_VLv_WIN1 (i : Nat) : Nat := 0x200208 + 0x20 * i
def CMP_VLv_ALPHA (i : Nat) : Nat := 0x20020c + 0x20 * i
def CMP_GLg_CTRL (i : Nat) : Nat := 0x200400 + 0x40 * i
def CMP_GLg_ADDR (g k : Nat) : Nat := 0x200404 + 0x40 * g + 4 * k
def CMP_GLg_PITCH (i : Nat) : Nat := 0x20041c + 0x40 * i
def CMP_GLg_POS (i : Nat) : Nat := 0x200420 + 0x40 * i
def CMP_GLg_SIZE (i : Nat) : Nat := 0x200424 + 0x40 * i
def CMP_GLg_ALPHA (i : Nat) : Nat := 0x200428 + 0x40 * i
def CMP_GLg_ERR (i : Nat) : Nat := 0x20042c + 0x40 * i
def CMP_PRr_STAT (i : Nat) : Nat := 0x200800 + 0x10 * i
def CMP_PRr_POS (i : Nat) : Nat := 0x200804 + 0x10 * i
def CMP_PRr_SIZE (i : Nat) : Nat := 0x200808 + 0x10 * i
-- Table 12.8
def SCO_CAPS : Nat := 0x300000
def SCOn_CTRL (i : Nat) : Nat := 0x300100 + 0x40 * i
def SCOn_STRIPE (i : Nat) : Nat := 0x300104 + 0x40 * i
def SCOn_UNDER (i : Nat) : Nat := 0x300108 + 0x40 * i
def SCOn_ULAST (i : Nat) : Nat := 0x30010c + 0x40 * i
def SCOn_PCRC (i : Nat) : Nat := 0x300110 + 0x40 * i
def SCOn_PEXP (i : Nat) : Nat := 0x300114 + 0x40 * i
def SCOn_PMIS (i : Nat) : Nat := 0x300118 + 0x40 * i
-- Table 13.11
def VIN_CAPS : Nat := 0x400000
def VIN_DRAM_ERR : Nat := 0x400010
def VIN_PROTBLK (i : Nat) : Nat := 0x400020 + 0x4 * i
def VIN_Ss_STATUS (i : Nat) : Nat := 0x400100 + 0x80 * i
def VIN_Ss_HTIM (i : Nat) : Nat := 0x400104 + 0x80 * i
def VIN_Ss_VTIM (i : Nat) : Nat := 0x400108 + 0x80 * i
def VIN_Ss_FMT (i : Nat) : Nat := 0x40010c + 0x80 * i
def VIN_Ss_ERR (i : Nat) : Nat := 0x400110 + 0x80 * i
def VIN_Ss_DSCERR (i : Nat) : Nat := 0x400114 + 0x80 * i
def VIN_Ss_HDCPERR (i : Nat) : Nat := 0x400118 + 0x80 * i
def VIN_Ss_RETRAIN (i : Nat) : Nat := 0x40011c + 0x80 * i
def VIN_HF_BASE_LO : Nat := 0x400400
def VIN_HF_BASE_HI : Nat := 0x400404
def VIN_HF_SIZE : Nat := 0x400408
def VIN_HF_TAIL : Nat := 0x40040c
def VIN_HF_HEAD : Nat := 0x400410
def VIN_HF_CTRL : Nat := 0x400414
def VIN_HF_ERR : Nat := 0x400418
-- Table 14.12
def MBX_CMDn (i : Nat) : Nat := 0x10000 + 0x4 * i
def MBX_RSPn (i : Nat) : Nat := 0x10040 + 0x4 * i
def MBX_DOORBELL : Nat := 0x10080
def MBX_STATUS : Nat := 0x10084
def MBX_IRQ : Nat := 0x10088
def MBX_DEAN : Nat := 0x100c0
def MBX_HOUSE : Nat := 0x100c4
-- Table 14.13
def QUE_q_BASE (i : Nat) : Nat := 0x500000 + 0x10 * i
def QUE_q_CFG (i : Nat) : Nat := 0x500004 + 0x10 * i
def QUE_q_HEAD (i : Nat) : Nat := 0x500008 + 0x10 * i
def QUE_q_TAIL (i : Nat) : Nat := 0x50000c + 0x10 * i
def QUE_CAPS : Nat := 0x540000
def QUE_HRANGEh (i : Nat) : Nat := 0x540010 + 0x4 * i
-- Table 14.14
def HPS_p_VALUE (i : Nat) : Nat := 0x600000 + 0x10 * i
def HPS_p_SIGNAL (i : Nat) : Nat := 0x600004 + 0x10 * i
def HPS_p_STAT (i : Nat) : Nat := 0x600008 + 0x10 * i
def HPS_CAPS : Nat := 0x620000
def HPS_HRANGEh (i : Nat) : Nat := 0x620010 + 0x4 * i
-- Table 14.15
def EVT_CAPS : Nat := 0x700000
def EVT_LOSTh (i : Nat) : Nat := 0x700010 + 0x4 * i
def EVT_SEQh (i : Nat) : Nat := 0x700040 + 0x4 * i
def EVT_C_STATUS : Nat := 0x700800
def EVT_C_MASK : Nat := 0x700804
def EVT_C_IRQ : Nat := 0x700808
def EVT_C_ID : Nat := 0x70080c
-- Table 16.12
def PWR_STATE : Nat := 0x800000
def PWR_REQ : Nat := 0x800004
def PWR_ECO : Nat := 0x800008
def PWR_VCORE : Nat := 0x80000c
def PWR_PNOW : Nat := 0x800010
def PWR_LIMITS : Nat := 0x800014
def PWR_GOV : Nat := 0x800018
def PWR_STRETCH : Nat := 0x80001c
def PWR_STRUS_LO : Nat := 0x800020
def PWR_STRUS_HI : Nat := 0x800024
def PWR_GRANT_LO : Nat := 0x800028
def PWR_GRANT_HI : Nat := 0x80002c
def PWR_TJ : Nat := 0x800030
def PWR_SSC : Nat := 0x800034
def PWR_IO : Nat := 0x800038
def PWR_SAGGLITCH : Nat := 0x80003c
def PWR_HOLD : Nat := 0x800040
def PWR_HOLDSEQ : Nat := 0x800044
def PWR_CAL : Nat := 0x800048

/-- The key of a function's own copy of a register (R413, R187, R351). -/
def own (fn key : Nat) : Nat := fn * 2 ^ 32 + key

end Sys2Proof.Machine.Reg
end

