-- ==== Sys2Proof/Machine/State.lean ====
section
/-! DEFINITION. The state of the block as plain data: registers, memories, queues, rasters, tile cores, engines, Houses and power;
the queue of waiting commands; the state after reset. -/
namespace Sys2Proof.Machine

/-- Why the block stops with a fault: it never does. The spec gives every event of the block an outcome, and an address in no register of
BAR0 reads 0 (R14); no constructor is needed. -/
inductive Fault where
  deriving DecidableEq, Repr

/-- Why the block refuses a command. -/
inductive Refusal where
  /-- No meaning yet: raised by the arm of a command that is not modelled. Safe. -/
  | notModelled (mnemonic : String)
  deriving DecidableEq, Repr

/-- Something the block sends to the outside: kept in a list, newest first (DESIGN CHOICE, log 4). -/
inductive Output where
  /-- An MSI-X message of a PCIe function (R397, R400, R412). -/
  | msix (fn vector : Nat)
  /-- The data of a register or aperture read (R58, R186). -/
  | readData (fn off value : Nat)
  /-- A PRI page request of a function for a host page (R203, R325). -/
  | pageRequest (fn page : Nat)
  /-- Bits shifted out of the JTAG port (R440). -/
  | tdo (value : Nat)
  /-- An interrupt to the Dean from a GPIO input (R382). -/
  | gpioIrq (pin : Nat)
  /-- A warning packet, frame or link action of an output port, by port and kind (R364 to R368). -/
  | port (n : Nat) (kind : String)
  /-- The encoded components that a port sends for an active line (R319, R344, R349). -/
  | pixels (n line : Nat) (comps : List Nat)
  /-- The VSC and HDR static metadata SDPs of a port for a frame (R364): encoding, depth, primaries, transfer, the 26 bytes. -/
  | sdp (n enc bpc prim xfer : Nat) (data : List Byte)
  deriving DecidableEq, Repr

/-- What Dvorzar keeps of a House's grant beside the range registers (Table 14.5). -/
structure Grant where
  /-- A HOUSE_GRANT has given the House a grant (R371). -/
  given : Bool := false
  cbase : Nat := 0
  ccount : Nat := 0
  call : Bool := false
  outputs : Nat := 0
  inputs : Nat := 0
  glayers : Nat := 0
  glCanvas : Nat := 0
  forms : Nat := 0
  quota : Nat := 0
  flashBase : Nat := 0
  flashSize : Nat := 0
  flashBps : Nat := 0
  xlate : Nat := 0
  deriving DecidableEq, Repr

/-- What the device keeps of a queue beside its registers: the paired completion queue (KIND 0) and the event mask
(KIND 2), the arguments ARG6 and ARG7 of QUEUE_CREATE. -/
structure QueueAux where
  pair : Nat := 0
  mask : Word := 0
  deriving DecidableEq, Repr

/-- Who waits on a hall pass (R401): a tile core (HWAIT), the job gate of a pipeline and unit, 4 × pipeline + unit (R253), a HPASS_WAIT command
with its event queue and tag. -/
inductive HpWho where
  | core (c : Nat)
  | gate (p : Nat)
  | cmd (h q tag : Nat)
  deriving DecidableEq, Repr

/-- One waiter of a hall pass; the list of all waiters keeps each pass's waiters in joining order. -/
structure HpWaiter where
  pass : Nat
  count : Nat
  who : HpWho
  deriving DecidableEq, Repr

/-- A completion of the Dean (R391): House, command queue it came from (none: the mailbox), opcode, tag, status, detail, and
the results from RES2 on. -/
structure Completion where
  house : Nat
  src : Option Nat
  opcode : Nat
  tag : Nat
  status : Nat
  detail : Nat
  res : List Nat
  /-- The completion queue that it goes to, for a command from a queue. -/
  dest : Option Nat := none
  deriving DecidableEq, Repr

/-- A bell-table entry: four words (Table 2.4). -/
structure BellEntry where
  w0 : Word := 0
  w1 : Word := 0
  w2 : Word := 0
  w3 : Word := 0
  deriving DecidableEq, Repr

/-- A bell that has matched at the start of a line and is being dispatched: its entry index, its words and its target
frame (R43, R45). -/
structure DueBell where
  entry : Nat
  bell : BellEntry
  target : Nat
  deriving DecidableEq, Repr

/-- Why a raster holds at STRETCH_LINE: tearing effect (R50), Adaptive-Sync (R52), or a slip hold with the pixel
clocks that remain of it (R39). -/
inductive Hold where
  | te
  | vrr
  | slip (remain : Int)
  deriving DecidableEq, Repr

/-- What a raster holds beside its registers. -/
structure RasterAux where
  /-- The 64-bit output frame counter (R26), kept while the raster is disabled (R24). -/
  frame : BitVec 64 := 0
  /-- The line counter (R25). -/
  line : Nat := 0
  /-- The raster stands in a hold at STRETCH_LINE (R39, R50, R52). -/
  hold : Option Hold := none
  /-- The phase error that remains, in pixel clocks (R31, R39). -/
  err : Int := 0
  /-- The present line-length change d in pixel clocks (R30). -/
  d : Int := 0
  /-- Reference frames counted for R29. -/
  refCount : Nat := 0
  /-- A hold for a backward jump that is due at the next STRETCH_LINE (R39). -/
  slipDue : Option Int := none
  /-- Pending edges of TE0 and TE1 (R51). -/
  te0 : Bool := false
  te1 : Bool := false
  /-- Line periods until reference instant + OFFSET, oldest instant first (R52). -/
  vrrDue : List Int := []
  /-- Frames in a row that ended at VTOTAL_MAX without an instant (R52). -/
  vrrMiss : Nat := 0
  /-- Bells that have matched and are being dispatched (R45). -/
  due : List DueBell := []
  deriving DecidableEq, Repr

/-- The power states of Table 16.2; Full and Eco are told apart by PWR_STATE.STATE. -/
inductive Power where
  | on
  | standby
  | holdup
  | off
  deriving DecidableEq, Repr

/-- What a tile core waits for in its control slot (R91, R92). A hall-pass wait lasts while the core stands in the
waiter list (R401). `seq` is the place of the fence in the core's issue order. -/
inductive CoreWait where
  | bell (tag : Nat)
  | input (trk frame line : Nat)
  | hpass (p : Nat)
  | corr (up : Bool) (n : Nat)
  /-- FENCE.M0, FENCE.M1, FENCE.M: the arrays named. -/
  | arrays (m0 m1 : Bool) (seq : Nat)
  /-- FENCE.X. -/
  | transfers (seq : Nat)
  /-- FENCE.SL, FENCE.SS (`loads` false), FENCE.ALL and the fence of DMAK (`loads` true): earlier stores are visible,
  earlier loads have returned (R405, R406). -/
  | fence (loads : Bool)
  /-- HSIG: its signal has been applied (Table 3.13). -/
  | signal
  /-- DONE: everything issued is complete, then idle (R63). -/
  | done
  deriving DecidableEq, Repr

/-- A counted loop: first and last bundle of the body and the passes left (R80). -/
structure Loop where
  start : Nat
  last : Nat
  left : Nat
  deriving DecidableEq, Repr

/-- Where the result of a load goes: a scalar register zero- or sign-extended, a vector register, or every lane. -/
inductive LoadDest where
  | scalar (g : Nat) (signed : Bool)
  | vector (v : Nat)
  | splat (v : Nat)
  deriving DecidableEq, Repr

/-- A Library or Shelf load in flight (R73, R74). `data` is none until the load is performed. -/
structure OutLoad where
  shelf : Bool
  house : Nat
  addr : Nat
  size : Nat
  dest : LoadDest
  data : Option (List Byte)
  deriving DecidableEq, Repr

/-- A store entry of the gather buffer: the 64-byte line of a Library or Shelf buffer, with the bytes stored so far
(offset in the line, byte), oldest entry first (R181). -/
structure GatherEntry where
  shelf : Bool
  house : Nat
  line : Nat
  bytes : Memory
  deriving DecidableEq, Repr

/-- A command of an array queue with its operands resolved at issue (Table 3.10). -/
inductive ArrOp where
  | wld (half : Nat)
  | mstream (irow arow acc qmask n : Nat)
  | mdst (h ofs : Nat)
  | mdrain (arow n : Nat)
  | mzero (arow n : Nat)
  | msr (sreg : Nat) (v : Word)
  | mrs (gd sreg : Nat)
  | mscl (sreg : Nat) (v : VWord)
  deriving DecidableEq, Repr

/-- A queued array command and its place in the core's issue order (R88). -/
structure ArrCmd where
  op : ArrOp
  seq : Nat
  deriving DecidableEq, Repr

/-- One drain write on its way to memory: its handle, whether the Library, the address and the bytes (R120). -/
structure DrainWrite where
  h : Nat
  lib : Bool
  addr : Nat
  bytes : List Byte
  deriving DecidableEq, Repr

/-- An array command that has started and is not complete: the drain writes still to become visible, the drain's flags,
and the value that an MRS read. -/
structure ArrRun where
  op : ArrOp
  seq : Nat
  writes : List DrainWrite := []
  flags : BitVec 5 := 0
  value : Word := 0
  deriving DecidableEq, Repr

/-- The load of an array on VCORE (R126, R127): cold, granted a start, running a stream or the keeper's dummy passes,
or past 64 cycles of dummy passes and asking to go idle. -/
inductive Warmth where
  | cold
  | granted
  | warm
  | releasing
  deriving DecidableEq, Repr

/-- One matrix array with its Desk side (chapter "Matrix arrays"). -/
structure Arr where
  /-- State registers of Table 3.11 by SREG, as the commands see them (R75). -/
  regs : Map Word := []
  /-- The issue-side copy of R99. -/
  issueRegs : Map Word := []
  /-- Drain destination: handle and byte offset; and its issue-side copy. -/
  dst : Nat × Nat := (0, 0)
  issueDst : Nat × Nat := (0, 0)
  queue : List ArrCmd := []
  running : List ArrRun := []
  /-- The active weight image and one in the shadow registers that no stream has taken (R102, R106). -/
  image : Memory := []
  shadow : Option Memory := none
  /-- Pass counts of R114, keyed by 32 × accumulator row + column. -/
  counts : Map Nat := []
  /-- The activation table of R118. -/
  table : Memory := []
  warmth : Warmth := .cold
  /-- A failure held pending on the array (R128, R163, R169): fault cause, FAULT_INFO, FAULT_ADDR. -/
  pendFault : Option (Nat × Nat × Nat) := none
  deriving DecidableEq, Repr

/-- A command of the transfer queue with its operands resolved at issue (Table 3.12). The rows of 64 bytes that it reads
from the Locker are read in bundle order (R158); none is a row with an uncorrectable error (R163). -/
inductive XferOp where
  | dmv (arr part : Nat) (skew : Bool) (addr drow : Nat) (rows : List (Option (List Byte)))
  | dmvr (arr part : Nat) (skew : Bool) (addr drow n : Nat)
  | csend (up : Bool) (addr hd dofs : Nat) (rows : List (Option (List Byte)))
  | dmak (eng addr : Nat)
  deriving DecidableEq, Repr

/-- A corridor unit on its way: the receiving core, the direction flag DIR of its sender, the sender's place in its issue
order and House, the landing handle and offset, and the 64 bytes (R206). -/
structure CorrUnit where
  core : Nat
  up : Bool
  seq : Nat
  house : Nat
  hd : Nat
  ofs : Nat
  bytes : List Byte
  deriving DecidableEq, Repr

/-- A matrix-vector lane command in the lane: its destination vectors, and the results that it will write; none where its
block held an uncorrectable error (R163). -/
structure LaneCmd where
  vd : Nat
  n : Nat
  seq : Nat
  results : Option (List VWord)
  flags : BitVec 5
  deriving DecidableEq, Repr

/-- A tile core (chapter "Tile cores and the wide bundle"). -/
structure Core where
  g : Map Word := []
  v : Map VWord := []
  /-- p7 to p0; bit 0 reads 1. -/
  p : BitVec 8 := 1
  pc : Nat := 0
  /-- CSRs that are plain registers, by number (Table 3.1). -/
  csr : Map Word := []
  /-- Snapshots of the upper halves of the 48-bit counters (R58, R66), by CSR number. -/
  snap : Map (Option Word) := []
  idle : Bool := true
  /-- Stopped on a fault until the next PROG_START (R94); the Dean has still to act on the fault (R286). -/
  stopped : Bool := false
  respond : Bool := false
  /-- Retired by the Dean (R227, R286). -/
  retired : Bool := false
  /-- A march has passed since the core was retired (R289). -/
  marched : Bool := false
  /-- Arrays taken out of service in operation (R88), one bit each. -/
  lostArrays : Nat := 0
  loops : List Loop := []
  /-- Wake latches, oldest first (R91). -/
  latches : List Nat := []
  waits : List CoreWait := []
  /-- HSIGs whose fence still holds (R62, R406): hall pass, count, bundle. -/
  signals : List (Nat × Nat × Nat) := []
  /-- MEM_ECC held on a destination register of a Library or Shelf load (R163): vector?, number, address. -/
  regFault : List (Bool × Nat × Nat) := []
  /-- MEM_ECC held pending on the transfer queue (R163): FAULT_INFO and FAULT_ADDR. -/
  xferFault : Option (Nat × Nat) := none
  loads : List OutLoad := []
  gather : List GatherEntry := []
  seq : Nat := 0
  m0 : Arr := {}
  m1 : Arr := {}
  /-- The transfer queue, each command with its place in the issue order. -/
  xfer : List (XferOp × Nat) := []
  /-- TDONEs issued and not yet recorded (R93): tile index and place in the issue order. -/
  tdones : List (Nat × Nat) := []
  lane : List LaneCmd := []
  /-- Active and shadow handle tables, keyed 4 × entry + word (R175, R176). -/
  handles : Map Word := []
  shadowHandles : Map Word := []
  /-- The frame T from which the shadow table swaps in (R175). -/
  handleSwap : Option Nat := none
  /-- The bundle after the last DONE (R90). -/
  afterDone : Nat := 0
  halted : Bool := false
  /-- The breakpoint at the present bundle has been taken and a RESUME or STEP has left it (R444). -/
  bpSkip : Bool := false
  /-- STEP has left the halt for one bundle (R444). -/
  stepping : Bool := false
  hos : Bool := false
  bp : Word := 0
  vsel : Nat := 0
  deriving DecidableEq, Repr

/-- A start of a descriptor chain: the first descriptor's Library address and the chain's House (R190). -/
structure DmaStart where
  addr : Nat
  house : Nat
  /-- The DMA_RUN command that made the start: House, command queue (none: the mailbox), tag. -/
  waiter : Option (Nat × Option Nat × Nat) := none
  deriving DecidableEq, Repr

/-- Where an engine stands with its descriptor: none in hand, one read whose transfer is to run, its last byte moved,
halted on a host page (R203) with the answer still out or already in. -/
inductive DmaPhase where
  | idle
  | ready
  | moved
  | halted
  deriving DecidableEq, Repr

/-- A DMA form engine or system-engine context (chapter "DMA, corridor and mesh"). -/
structure DmaEng where
  starts : List DmaStart := []
  phase : DmaPhase := .idle
  /-- Address and bytes of the descriptor in hand. -/
  desc : Nat := 0
  bytes : List Byte := []
  house : Nat := 0
  /-- The checks of Table 7.4 have passed and the transfer has begun. -/
  begun : Bool := false
  /-- F0 of R200. -/
  f0 : Word := 0
  /-- The first element not moved. -/
  row : Nat := 0
  byte : Nat := 0
  /-- The host page that halted the context. -/
  page : Nat := 0
  /-- The DMA_RUN command that waits for the chain: House, source, tag. -/
  waiter : Option (Nat × Option Nat × Nat) := none
  /-- What the bytes of the source held before an overlapping COPY wrote over them (R197). -/
  temp : Memory := []
  deriving DecidableEq, Repr

/-- A ROLL that waits for its result (R225): the core, its destination registers. -/
structure RollWait where
  core : Nat
  gd : Nat
  pd : Nat
  deriving DecidableEq, Repr

/-- What a form's roll counter holds beside its window (Table 8.5). -/
structure Form where
  /-- Draws of each lane since the arm (R223). -/
  draws : Map Nat := []
  /-- Tiles each lane has drawn and not reported, oldest first (R225). -/
  held : Map (List Nat) := []
  /-- The reissue list (R227). -/
  reissue : List Nat := []
  /-- Bit i: index i has been dealt; bit i of `complete`: its TDONE has been recorded. -/
  dealt : Nat := 0
  complete : Nat := 0
  rolls : List RollWait := []
  /-- A run-time shape is still to be read for the arm (R233): its Library address and the band's House. -/
  shape : Option (Nat × Nat) := none
  /-- The record of the armed band is open (R216). -/
  open_ : Bool := false
  deriving DecidableEq, Repr

/-- Where a band record stands (Table 10.2, NSTATE). -/
inductive NState where
  | armed
  | complete
  | closed
  | lateDone
  deriving DecidableEq, Repr

/-- What the LATE check selected (Table 10.2, SEL). -/
inductive Sel where
  | none
  | neural
  | sub
  | void
  deriving DecidableEq, Repr

/-- SSTATE of Table 10.2: the preparation job of the band. -/
inductive SState where
  | none
  | waiting
  | preparing
  | ready
  deriving DecidableEq, Repr

/-- An entry of a pipeline's band-record table (Table 10.2, R274). -/
structure BandRec where
  tframe : Word := 0
  tier : Nat := 0
  nstate : NState := .armed
  sstate : SState := .none
  sel : Sel := .none
  btier : Nat := 0
  lrun : Nat := 0
  crun : Nat := 0
  deriving DecidableEq, Repr

/-- What the fuses hold (R5, R433, R436): the values behind the registers that the tables give as "fuse". -/
structure Fuses where
  step : Nat := 0
  tdp : Nat := 175
  cclk : Nat := 100
  grade : Nat := 1
  /-- Arrays (2 × core + array) that did not pass test. -/
  arraysOff : List Nat := []
  maxHeight : Nat := 8640
  maxWidth : Nat := 15360
  maxKpix : Nat := 15925248
  maxHz : Nat := 480
  uid : Nat := 0
  life : Nat := 2
  keygen : Nat := 0
  /-- Rollback counters: 0 Dvorzar, 1 + slot for the model packages of a key slot. -/
  rollback : Map Nat := []
  /-- Bit i: key slot i holds a hash. -/
  keySlots : Nat := 0x1F
  pPeak : Nat := 240
  pSus : Nat := 200
  deriving DecidableEq, Repr

/-- An input record of a pipeline's current sequence (R264), kept for the re-timer (R491): input frame counter, sequence
number, stamp, anchor, complete. -/
structure InRec where
  frame : Nat
  seq : Nat
  stamp : Nat
  anchor : Bool
  complete : Bool
  deriving DecidableEq, Repr

/-- A pipeline (Tables 14.6 and 8.9): what PIPE_CREATE and the running timetable set, and where its source stands. -/
structure Pipe where
  valid : Bool := false
  house : Nat := 0
  /-- 0 DP sink 0, 1 DP sink 1, 2 host frames; the tracker of the same number. -/
  source : Nat := 0
  blend : Bool := false
  ringLines : Nat := 0
  edgeT : Nat := 64
  ringBank : Nat := 0
  recordBank : Nat := 0
  ringFmt : Nat := 0
  outColour : Nat := 0
  slots : Nat := 0
  coef : List Byte := []
  raster : Nat := 0
  bandH : Nat := 0
  inW : Nat := 0
  inH : Nat := 0
  outW : Nat := 0
  outH : Nat := 0
  nbands : Nat := 0
  retime : Nat := 0
  lowLat : Bool := false
  /-- The input sequence number (R264). -/
  seq : Nat := 0
  /-- The records of the input frames of the current sequence, newest first. -/
  recs : List InRec := []
  /-- The last frame captured before a discontinuity, while the pipeline repeats it (R37), with its sequence number. -/
  repeats : Option (Nat × Nat) := none
  /-- The last frame completely captured before the last discontinuity, with its sequence number. -/
  old : Option (Nat × Nat) := none
  /-- A discontinuity waits for the next output frame boundary. -/
  discDue : Bool := false
  /-- Tier 3 until House h or House 0 commits again (R373). -/
  flr : Bool := false
  /-- Bands of the present target frame whose LATE check has been made, and the greatest TIER latched (DLN_Pp_CTRL). -/
  lateSeen : Nat := 0
  tierMax : Nat := 0
  /-- A cut in effect: new source, cut band, target frame of the cut (R341). -/
  cut : Option (Nat × Nat × Nat) := none
  /-- Where the Golile copy of R257 was written last; 0 before the first. -/
  copyBase : Nat := 0
  /-- Input width and height of the new source of the cut. -/
  cutW : Nat := 0
  cutH : Nat := 0
  deriving DecidableEq, Repr

/-- A BAND entry of a loaded image (Table 8.10), for one tier. -/
structure BandEnt where
  form : Nat
  row0 : Nat
  rows : Nat
  deal : Bool
  shape : Bool
  nt : Nat
  ntMax : Nat
  startBell : Nat
  warnBell : Nat
  lateBell : Nat
  window : Nat
  plan : Nat
  shapeAddr : Nat
  tileAddr : Nat
  deriving DecidableEq, Repr

/-- A preparation job of the Substitute (R271). -/
structure SubJob where
  house : Nat
  pipe : Nat
  band : Nat
  target : Word
  onCall : Bool
  /-- The due time, in lines of the band's raster from output frame 0. -/
  due : Nat
  /-- Bytes of the Substitute store that it holds once it has started. -/
  bytes : Nat
  /-- 0 waiting, 1 running on a unit, 2 READY and holding its store. -/
  phase : Nat
  /-- It reads the new source of a cut, and the frame that it has taken of it (R341). -/
  cut : Bool
  frame : Option Nat := none
  deriving DecidableEq, Repr


/-- A prepared band in the Substitute store (R270): its first input row, the size of the input, its words row by row. -/
structure Prepared where
  row0 : Nat := 0
  inW : Nat := 1
  inH : Nat := 1
  words : List (List Nat) := []
  deriving DecidableEq, Repr

/-- A PIPE entry of a timetable image (Table 8.9). -/
structure PipeEnt where
  pipe : Nat
  raster : Nat
  trk : Nat
  bandH : Nat
  inW : Nat
  inH : Nat
  outW : Nat
  outH : Nat
  vtotal : Nat
  htotal : Nat
  nbands : Nat
  retime : Nat
  deriving DecidableEq, Repr

/-- A timetable image as read from its bytes (Tables 8.7 to 8.10). -/
structure Image where
  house : Nat
  tier : Nat
  lowLat : Bool
  formMask : Nat
  arraysMin : Nat
  cclkPlan : Nat
  pipes : List PipeEnt
  /-- Pipeline, band index, entry. -/
  bands : List (Nat × Nat × BandEnt)
  bells : List BellEntry
  /-- Form, first bundle, bundles. -/
  istore : List (Nat × Nat × List Byte)
  /-- Core and the 256 words of its table. -/
  handles : List (Nat × List Word)
  /-- Bank and whether open shelf. -/
  libmap : List (Nat × Bool)
  /-- Library address and data. -/
  init : List (Nat × List Byte)
  deriving DecidableEq, Repr

/-- A loaded model package (R238, R239, R294). -/
structure Model where
  handle : Nat
  house : Nat
  images : List Image
  key : Nat
  svn : Nat
  /-- It has been committed (R433). -/
  committed : Bool := false
  /-- Its package lies in the board configuration partition (R454). -/
  board : Bool := false
  modelId : Nat := 0
  /-- Weight blocks of the edge-layer engine. -/
  edge : List (Nat × List Byte) := []
  hw : Option Config.HwPlan := none
  deriving DecidableEq, Repr

/-- A protected-layer template (R343). -/
structure Template where
  xfer : Nat
  prim : Nat
  rep : Nat
  fill : Nat
  w : Nat
  h : Nat
  words : List Nat
  /-- It is stored in the board configuration partition (R452). -/
  board : Bool := false
  deriving DecidableEq, Repr

/-- A slot armed for its COMMIT bell (R396): the committing House, the graphics layers, and for a cut its pipelines and the slot of
its second commit. -/
structure Arm where
  house : Nat
  gl : Nat
  cut : Option (Nat × Nat) := none
  deriving DecidableEq, Repr

/-- The values staged in a commit slot (R335, R395). Blocks are their sixteen words. -/
structure CommitSet where
  route : List (Nat × Nat) := []
  mode : List (Nat × List Word) := []
  port : List (Nat × List Word) := []
  canvas : List (Nat × List Word) := []
  vlayer : List (Nat × List Word) := []
  /-- Raster, template, X0, Y0. -/
  protect : List (Nat × Template × Nat × Nat) := []
  /-- Armed for its COMMIT bell (R396). -/
  armed : Option Arm := none
  deriving DecidableEq, Repr

/-- A commit that is accepted and not applied on every raster (R336). -/
structure Accepted where
  seq : Nat
  house : Nat
  slot : Nat
  set : CommitSet
  /-- Graphics layers whose shadows it takes (R337). -/
  gl : Nat
  /-- Rasters on which it has still to apply, with the output frame at whose boundary it does. -/
  due : List (Nat × Nat)
  /-- The model whose images it brings (R48, R239): handle, raster, frame T. -/
  swap : Option (Nat × Nat × Nat) := none
  /-- Entries of the configuration journal that it needs (R454). -/
  entries : Nat := 1
  deriving DecidableEq, Repr

/-- What a canvas's protected region shows (R343 to R346). -/
structure Protect where
  tmpl : Option Template := none
  x0 : Nat := 0
  y0 : Nat := 0
  /-- A frame has mismatched and the Proctor has not acted on it; the present frame shows FILL (R346). -/
  due : Bool := false
  fill : Bool := false
  deriving DecidableEq, Repr

/-- What an output port holds beside its registers (R363 to R368, R395). -/
structure Port where
  dsc : Word := 0
  psr : Word := 0
  /-- The longest frame, in lines, that the sink has reported to accept (R52). -/
  maxLines : Option Nat := none
  /-- The link carries pictures: HPD asserted and trained, from the last frame start. -/
  up : Bool := true
  /-- Dvorzar trains the link after a return of HPD. -/
  training : Bool := false
  /-- Training has ended; the port resumes at the next frame start. -/
  resume : Bool := false
  /-- The HDCP session is authenticated with encryption on; the topology allows Type 1. -/
  auth : Bool := false
  type1 : Bool := false
  /-- Protected frames are blocked in the present frame (R366: the test is made per frame). -/
  blocked : Bool := false
  /-- Consecutive frames in which no block changed; self refresh; consecutive frames with changed blocks in self refresh;
  the changed blocks of the last frame. -/
  same : Nat := 0
  psrOn : Bool := false
  changedRun : Nat := 0
  /-- CRC of the block in progress, CRCs of the blocks of this frame, and the sent set of R368. -/
  crc : Nat := 0xFFFFFFFF
  blocks : List Nat := []
  sent : List Nat := []
  /-- The blocks that the present frame sends as a selective update, first and last, and the panel's Y granularity. -/
  su : Option (Nat × Nat × Nat) := none
  /-- The scan-out FIFO (R350): the line that is being sent, and its pixels of the stripe as the compositor gave them, each as
  R × 2^24 + G × 2^12 + B. -/
  line : Nat := 0
  fifo : List Nat := []
  changed : List Nat := []
  /-- TORN: the first thing to send is one complete frame (R463). -/
  torn : Bool := false
  deriving DecidableEq, Repr

/-- What a tracker holds beside its registers (R34 to R37). -/
structure Tracker where
  /-- A frame has been stamped since the source began. -/
  have_ : Bool := false
  /-- A discontinuity that belongs to the next frame, with its REASON. -/
  due : Option Nat := none
  /-- Stamp of the frame before the last one. -/
  prev : Nat := 0
  /-- Size of the last accepted host frame. -/
  size : Option (Nat × Nat) := none
  /-- The frame in capture still counts lines; false when a retraining cut it short. -/
  open_ : Bool := false
  /-- The frame was captured with encryption signalled (R361). -/
  prot : Bool := false
  /-- The lines of the frame are written black (R359 to R361). -/
  black : Bool := false
  /-- The stream is Type 1 content, and the stream in its present timing has been accepted (R355, R366). -/
  type1 : Bool := false
  ok : Bool := false
  /-- Active lines of the frame that have arrived; the chroma of the last one, where a line pair shares it (R358, R359). -/
  lines : Nat := 0
  lastC : List (List Nat) := []
  /-- Matrix and range of the host frame (Table 13.7). -/
  yuv : Nat := 0
  /-- Lines of a failed DSC slice still to be written black (R360). -/
  dscBad : Nat := 0
  deriving DecidableEq, Repr

/-- The walk of a pipeline's job list (R252). -/
structure Walk where
  target : Nat := 0
  base : Nat := 0
  njobs : Nat := 0
  /-- Bit i: job i has been taken (started, failed or, a NOP, done). -/
  taken : Nat := 0
  /-- The job that runs on the edge-layer engine, and on the crop-and-resize unit. -/
  edge : Option Nat := none
  crop : Option Nat := none
  /-- The job whose hall-pass gate has been joined, by unit: 0 edge, 1 crop, 2 a NOP. -/
  joined : Map (Option Nat) := []
  deriving DecidableEq, Repr

/-- The host frame in capture (R374 to R377): the descriptor's sixteen words and the next line group. -/
structure HostFrame where
  words : List Word
  group : Nat
  deriving DecidableEq, Repr

/-- The parts of a form's tier (Table 10.4) and what moves them. -/
structure FormTier where
  heat : Nat := 0
  loss : Nat := 0
  late : Nat := 0
  /-- Samples in a row, at 100 µs, that stood 3 °C below the threshold of the level. -/
  cool : Nat := 0
  /-- The last sample in °C, and whether the sample before it was 115 °C or more. -/
  last : Nat := 0
  trip : Bool := false
  /-- Target frame whose bands are counted, bands of it not selected NEURAL, the rise made. -/
  frame : Word := 0
  missed : Nat := 0
  clean : Nat := 0
  /-- Preemptions since RESET_N (BAND_STATUS). -/
  preempts : Nat := 0
  retired : Bool := false
  /-- Bundles of the store that have failed once (Table 10.5). -/
  badBundles : List Nat := []
  deriving DecidableEq, Repr

/-- A hand-off entry (Table 15.3). -/
structure Handoff where
  w0 : Word := 0
  forms : Word := 0
  house : Nat := 0
  deriving DecidableEq, Repr

/-- A march that runs (R184): a bank (or a core), preserving, and the MARCH_RUN that waits. -/
structure March where
  core : Bool
  unit : Nat
  preserving : Bool
  waiter : Option (Nat × Option Nat × Nat)
  deriving DecidableEq, Repr

/-- A homework unit in a form's hands (R301): number, kind, layer, pool index, step, argument; a PROG_START or a hand-off of the form has
ended it. -/
structure HwUnit where
  form : Nat
  seq : Nat
  kind : Nat
  layer : Nat
  sample : Nat
  step : Nat
  arg : Nat
  ended : Bool := false
  deriving DecidableEq, Repr

/-- A sample that the chains copy (R304): its frame F, its position, the lines copied (of F, then of F + 1), their bytes. -/
structure HwSample where
  frame : Nat
  x : Nat
  y : Nat
  lines : Nat
  bytes : List Byte
  deriving DecidableEq, Repr

/-- The homework of a model (chapter "In-service adaptation"). -/
structure Hw where
  /-- The 64 bytes of the policy in force, and of one that waits for the next round (R310). -/
  policy : List Byte := []
  next : List Byte := []
  enable : Bool := false
  /-- 0 off, 1 sampling, 2 training, 3 evaluating, 4 waiting on checkpoint (Table 11.6). -/
  state : Nat := 0
  rng : Word := 0
  sample : Option HwSample := none
  /-- Samples ever entered in the training and the validation pool: a pool is a ring. -/
  train : Nat := 0
  val : Nat := 0
  /-- The first EVAL of an evaluation has been dealt and its sums are not formed (R308). -/
  frozen : Bool := false
  /-- The layer of the step, the step of the round, the number of the step. -/
  layer : Nat := 0
  step : Nat := 0
  stepNo : Nat := 0
  /-- Gradient slots written in the step; its UPDATE is complete and has not been skipped. -/
  grads : List Nat := []
  updated : Bool := false
  /-- Units dealt and not complete; the number of the last one dealt. -/
  units : List HwUnit := []
  unitSeq : Nat := 0
  /-- The copy in service (0 X, 1 Y); raster and frame T of the swap that it came with (R298). -/
  copy : Nat := 0
  swapAt : Option (Nat × Nat) := none
  /-- The other copy holds the candidate; losses by 2 × validation sample + ARG of EVAL. -/
  deployed : Bool := false
  evals : Map (Option Word) := []
  /-- The last sums of R308. -/
  lc : Word := 0
  ls : Word := 0
  /-- Rejections in a row. -/
  rejects : Nat := 0
  /-- Generation in service, candidate epoch, newest sealed generation, SEQ of the last SEAL. -/
  gen : Nat := 0
  epoch : Nat := 0
  sealedGen : Nat := 0
  ckptSeq : Nat := 0
  /-- Layers whose masters have changed since their last sealed LAYER record (R312). -/
  pendLayers : List Nat := []
  /-- The epoch has changed since the last SEAL. -/
  epochDue : Bool := false
  /-- SERVICE records of the newest generation already sealed. -/
  served : Nat := 0
  /-- OVF and the counters of Table 11.6. -/
  ovf : Nat := 0
  skips : Nat := 0
  discards : Nat := 0
  preempts : Nat := 0
  steps : Nat := 0
  accepts : Nat := 0
  rejectsAll : Nat := 0
  deriving DecidableEq, Repr

/-- A checkpoint record of a House's ring (Table 11.4): its header fields and payload. -/
structure CkptRec where
  house : Nat
  seq : Nat
  kind : Nat
  layer : Nat
  modelId : Nat
  epoch : Nat
  gen : Nat
  payload : List Byte
  deriving DecidableEq, Repr

/-- The configuration that Dvorzar journals (R454) and restores (R452): registers, grants, pipelines, bank owners, and what commits have
applied. -/
structure Journal where
  regs : Map Word := []
  grants : Map Grant := []
  pipes : Map Pipe := []
  banks : Map Word := []
  canvasMeta : Map (List Byte) := []
  xlate : Map Word := []
  handoffs : Map Handoff := []
  protects : Map Protect := []
  /-- DSC and PSR of a port (R395). -/
  ports : Map (Word × Word) := []
  pclk : Map Nat := []
  /-- Models of the board configuration partition, and those whose images run. -/
  models : List Model := []
  runs : Map (Option Nat) := []
  deriving DecidableEq, Repr

/-- A save record (Table 16.6) as it stands in the flash; one that was not sealed is not valid (R459). -/
structure SaveRec where
  seq : Nat
  cause : Nat
  torn : Nat
  vholdEnd : Nat := 0
  /-- Version, and image B. -/
  fw : Nat
  frames : List Nat
  inFrames : List Nat
  applied : List Nat
  commitSeq : Nat
  nj : Nat
  /-- SEQ of each House's last SEAL record; the address that the record holds follows it. -/
  ckpt : List Nat
  evtSeq : List Nat
  banks : List Nat
  cores : List Nat
  /-- Arrays, 2 × core + array. -/
  arrays : List Nat
  valid : Bool := true
  deriving DecidableEq, Repr

/-- Where a firmware swap stands (R468, R469). -/
inductive Swap where
  | none
  /-- Requested; at the first boundary after the round. -/
  | pending
  /-- The staged image starts from the handover record. -/
  | gap
  deriving DecidableEq, Repr

/-- A GPIO pin (Table 13.10): 0 output, 1 input, 2 open drain; interrupt 0 none, 1 rising, 2 falling, 3 both, 4 high, 5 low. -/
structure Gpio where
  mode : Nat := 1
  irq : Nat := 0
  level : Bool := false
  deriving DecidableEq, Repr

/-- The JTAG port (R440): the instruction in force, the bypass bit, the boundary scan register, and whether it drives. -/
structure Jtag where
  instr : Nat := 0
  bypass : Bool := false
  bsr : Nat := 0
  drives : Bool := false
  deriving DecidableEq, Repr

/-- Firmware, power and life in service: what the always-on domain keeps beside the PWR registers. -/
structure Service where
  swap : Swap := .none
  swapWaiter : Option (Option Nat × Nat) := none
  /-- Versions and SVNs of images A and B of the boot partition (versions after reset: DESIGN CHOICE, log 70). -/
  verA : Nat := 1
  verB : Nat := 1
  svnA : Nat := 0
  svnB : Nat := 0
  /-- The image that the boot selector names, and the one that runs, is B. -/
  bootB : Bool := false
  runB : Bool := false
  /-- The inactive image is staged. -/
  staged : Bool := false
  /-- FW_STAGE has written an image with none that ran: the device restarts once its completion is written (R434), and that start is to come. -/
  rescue : Bool := false
  rescued : Bool := false
  /-- A requested power state and the transition in progress (target state). -/
  trans : Option Nat := none
  heldReq : Option Nat := none
  /-- The save record in the engine, with the configuration that it saves; whether the save has ended; a reset that it holds off (R477). -/
  save : Option SaveRec := none
  saveJournal : Journal := {}
  saved : Bool := false
  resetHeld : Bool := false
  /-- Stopped by a thermal trip. -/
  tripped : Bool := false
  /-- Start-up stays at step 1 while PWRSAG_N is low (R477): LAST of the start that waits. -/
  startHeld : Option Nat := none
  /-- The next start follows power-on. -/
  cold : Bool := true
  /-- 100 ns ticks of the present microsecond; microseconds since reset; those of the last 100,000 in which P1 exceeded P_SUS; the greatest s of
  the present frame of raster 0 (R455, R456). -/
  tick : Nat := 0
  us : Nat := 0
  burst : List Nat := []
  smax : Nat := 0
  /-- POWER causes held until House 0 has its first event queue (R471). -/
  held : List Nat := []
  /-- A lifecycle transition that waits for RESET_N: the state, and the owner key slots that it fuses (R436). -/
  lcReq : Option (Nat × Nat) := none
  permit : Bool := false
  /-- Retired banks and the uncorrectable errors of each bank since RESET_N. -/
  retiredBanks : List Nat := []
  bankErrors : Map Nat := []
  marches : List March := []
  /-- The next row of the scrubber in each bank (R174), and the banks with an uncorrectable error that the Dean has yet to act on (R288). -/
  scrubRows : Map Nat := []
  uncTold : List Nat := []
  /-- Frames in a row without a stretch (Table 10.4); the array clock was stretched in the present frame. -/
  calm : Nat := 0
  stretched : Bool := false
  commitSeq : Nat := 0
  journalPend : Nat := 0
  /-- LIB_BANKb [9:0] as BANK_HANDOVER has set it, to be journaled. -/
  bankCfg : Map Word := []
  /-- The command queue of a House that comes next in its slot (R389). -/
  slotNext : Map Nat := []
  /-- Last checkpoint in the journal of each raster's output frame counter (R452). -/
  frameMarks : Map (Option Nat) := []
  dramChannel : Nat := 0
  /-- The wrapped HDCP device keys can be read (R435). -/
  hdcpKeys : Bool := true
  sink0Link : Bool := false
  /-- FFJ_SLOTS and FFJ_SLOTEN from the next round on (R251): staged by PIPE_CREATE, due once a commit carries them. -/
  slotStage : Option (Word × Word) := none
  slotDue : Option (Word × Word) := none
  ffSlot : Nat := 15
  /-- Granules of 16 MiB of the fitted LPDDR5X (R379, R421), from the board configuration. -/
  granules : Nat := 2048
  deriving DecidableEq, Repr

/-- The whole block. -/
structure State where
  /-- The commands that wait, first in, first out. -/
  pending : List Instr := []
  /-- The register file: every BAR0 register and the Dean's windows, at the keys of Reg. -/
  regs : Map Word := []
  /-- Upper words held for a pair read (R58), by function × 2^32 + offset of the upper word. -/
  snaps : Map (Option Word) := []
  /-- What the block has sent out, newest first. -/
  out : List Output := []
  /-- Counter of free values: read and advanced by the step that uses one (the model's own). -/
  freeCtr : Nat := 0
  /-- RESET_N is released. -/
  resetN : Bool := true
  power : Power := .on
  fuses : Fuses := {}
  grants : Map Grant := []
  queueAux : Map QueueAux := []
  waiters : List HpWaiter := []
  rasters : Map RasterAux := []
  cores : Map Core := []
  forms : Map Form := []
  /-- A form's program has no band (R221), by form. -/
  noBand : Map Bool := []
  engines : Map DmaEng := []
  /-- The Library, by Library address (R164). -/
  lib : Memory := []
  /-- The Lockers: core × 2^16 + byte address (R157). -/
  locker : Memory := []
  /-- The Desks: (2 × core + array) × 2^14 + offset; input Desk at 0, weight Desk at 0x2000, accumulator Desk at 0x3000 (R155). -/
  desk : Memory := []
  /-- The form instruction stores: form × 2^19 + byte address (R77). -/
  istore : Memory := []
  /-- The external LPDDR5X, by physical address. -/
  dram : Memory := []
  /-- Host memory as the functions see it: function × 2^64 + I/O virtual address. -/
  host : Memory := []
  /-- The boot flash, by byte address. -/
  flash : Memory := []
  /-- Words with a stored error: 1 correctable, 2 uncorrectable (R162); space × 2^40 + byte address / 8. Space 4 marks LPDDR5X words whose reads meet a link error (R380). -/
  ecc : Map Nat := []
  /-- What the host's tables say of a page (R203), by function × 2^64 + page address: 0 present, 1 not present, 2 refused. -/
  pages : Map Nat := []
  /-- Functions with PRI enabled, one bit each (log 14). -/
  priOn : Nat := 0xFF
  /-- Shelf tags: (bank × 256 + set) × 16 + way (R170). -/
  shelfTags : Map (Option (Nat × Bool)) := []
  /-- Shelf slots: House × 64 + slot, the bank (R170). -/
  shelfSlots : Map Nat := []
  /-- The tree pseudo-LRU of each set: bank × 256 + set (R171). -/
  shelfLru : Map Nat := []
  /-- Translation tables of the grants (Table 15.2): House × 2^12 + entry, the entry word. -/
  xlate : Map Word := []
  /-- The House that mapped a granule last, plus 1 (R422), by granule. -/
  lastMap : Map Nat := []
  /-- Shelf misses whose fill is out: House and line address (R171). -/
  fills : List (Nat × Nat) := []
  /-- Writes that wait at a bank for BUSY to clear (R168): requester (a core's number, or 1024), Library address and
  bytes, oldest first. -/
  late : List (Nat × Nat × List Byte) := []
  /-- The band-record tables: pipeline × 2048 + band (R274). -/
  bandRecs : Map BandRec := []
  corr : List CorrUnit := []
  /-- Completions of the Dean that are not yet written (R385, R399), oldest first. -/
  completions : List Completion := []
  pipes : Map Pipe := []
  /-- BAND entries of the images that run: (pipeline × 2048 + band) × 4 + tier (R237, R282). -/
  bandEnts : Map (Option BandEnt) := []
  subJobs : List SubJob := []
  /-- The bell table: bank × 4096 + entry (R41). -/
  bells : Map BellEntry := []
  /-- The raster of a pending bell-table swap and the House whose bells it brings (R48). -/
  swap : Option (Nat × Nat) := none
  commitSlots : Map CommitSet := []
  accepted : List Accepted := []
  /-- Active values of the graphics layers' fetch registers, by register key (R337). -/
  glActive : Map Word := []
  /-- Graphics layers hidden by an FLR of their House's function (Table 13.6): [7:0] hidden, [15:8] from the next frame boundary. -/
  glHidden : Nat := 0
  /-- The 26 bytes of static metadata of each canvas (R364, R395). -/
  canvasMeta : Map (List Byte) := []
  /-- Static runs that are valid in the flattening cache, by raster; by 8 + raster the runs of the present frame, read or written. A
  run is its slots from the lowest up, each as 16 × slot + graphics layer (R334). -/
  flat : Map (List (List Nat)) := []
  /-- The cache's group pixels (R333): (raster × 16 + first slot) × 2^16 + line, one 6-byte record per pixel. -/
  flatLines : Map (List Nat) := []
  /-- Host pages, by function × 2^64 + page address, for which a graphics fetch or the host-frame ring has a page request out (R325, R376). -/
  asked : List Nat := []
  protects : Map Protect := []
  ports : Map Port := []
  /-- Pixel clock in kHz of each raster (R395). -/
  pclk : Map Nat := []
  trackers : Map Tracker := []
  models : List Model := []
  /-- The model that a House has loaded and not committed, and the one whose images run (R48). -/
  loaded : Map (Option Nat) := []
  runs : Map (Option Nat) := []
  walks : Map Walk := []
  hostFrame : Option HostFrame := none
  /-- The Substitute part of a House: units and store in bytes (R273). -/
  parts : Map (Nat × Nat) := []
  /-- What a prepared band holds, by (pipeline × 2048 + band) × 4 + target frame mod 4 (R270). -/
  prepared : Map Prepared := []
  /-- What a LATE check selected for a band, by the same key: target frame and selection (R276, R279). -/
  shown : Map (Nat × Sel) := []
  formTiers : Map FormTier := []
  handoffs : Map Handoff := []
  hw : Map Hw := []
  ckpts : List CkptRec := []
  journal : Journal := {}
  saves : List SaveRec := []
  /-- Debug: Houses that are House-scoped, and Device-open (R438). -/
  scopedHouses : Nat := 0
  deviceOpen : Bool := false
  jtag : Jtag := {}
  gpio : Map Gpio := []
  service : Service := {}
  deriving DecidableEq, Repr

/-- The state right after reset. -/
def State.reset : State := {}

end Sys2Proof.Machine
end

