-- ==== Sys2Proof/Machine/Ops.lean ====
section
/-! DEFINITION. The named operations over registers, memories, queues, events and hall passes (R397 to R403, R409 to R412). -/
namespace Sys2Proof.Machine

/-! ### Registers -/

/-- A register read inside the block: the stored word. -/
def State.rd (s : State) (key : Nat) : Word := mapGet regReset s.regs key

/-- A register written whole by the block itself. -/
def State.wr (s : State) (key : Nat) (v : Word) : State := { s with regs := mapSet regReset s.regs key v }

/-- A field of a register. -/
def State.rdF (s : State) (key hi lo : Nat) : Nat := fld (s.rd key) hi lo

/-- A field of a register replaced. -/
def State.wrF (s : State) (key hi lo v : Nat) : State := s.wr key (setFld (s.rd key) hi lo v)

/-- A 64-bit pair of registers read. -/
def State.rd64 (s : State) (lo hi : Nat) : Nat := (s.rd lo).toNat + 2 ^ 32 * (s.rd hi).toNat

/-- A 64-bit pair written. -/
def State.wr64 (s : State) (lo hi v : Nat) : State :=
  (s.wr lo (BitVec.ofNat 32 v)).wr hi (BitVec.ofNat 32 (v / 2 ^ 32))

/-- An error counter of 16 bits with OVF in bit 16 counts one event: it sticks at its maximum and sets OVF when the
count would pass it (Table 14.10). -/
def bumpErr (w : Word) : Word := if fld w 15 0 = 0xFFFF then setFld w 16 16 1 else setFld w 15 0 (fld w 15 0 + 1)

/-- A field that counts and sticks at its maximum, with no OVF of its own. -/
def bumpFld (w : Word) (hi lo : Nat) : Word :=
  if fld w hi lo = 2 ^ (hi + 1 - lo) - 1 then w else setFld w hi lo (fld w hi lo + 1)

/-- One event counted in an error register. -/
def State.countErr (s : State) (key : Nat) : State := s.wr key (bumpErr (s.rd key))

/-- One event counted in a sticking field. -/
def State.countFld (s : State) (key hi lo : Nat) : State := s.wr key (bumpFld (s.rd key) hi lo)

/-- Something sent out. -/
def State.emit (s : State) (o : Output) : State := { s with out := o :: s.out }

/-- A command of a part that stands powered and out of reset (Table 16.2): otherwise it has no effect. -/
def State.powered (s : State) (f : State → State) : State := if s.resetN && s.power = .on then f s else s

/-- HDCP sessions can be made: the device keys can be read, and the unit is not in Returned (R435, R437). -/
def State.hdcpUsable (s : State) : Bool := s.service.hdcpKeys && decide (s.fuses.life ≠ 4)

/-! ### Sub-states -/

/-- A House's grant. -/
def State.grant (s : State) (h : Nat) : Grant := mapGet (fun _ => {}) s.grants h
/-- A raster's own state. -/
def State.raster (s : State) (n : Nat) : RasterAux := mapGet (fun _ => {}) s.rasters n
/-- A raster's own state replaced. -/
def State.setRaster (s : State) (n : Nat) (r : RasterAux) : State :=
  { s with rasters := mapSet (fun _ => {}) s.rasters n r }
/-- A tile core. -/
def State.core (s : State) (c : Nat) : Core := mapGet (fun _ => {}) s.cores c
/-- A tile core replaced. -/
def State.setCore (s : State) (c : Nat) (k : Core) : State := { s with cores := mapSet (fun _ => {}) s.cores c k }
/-- A form. -/
def State.form (s : State) (f : Nat) : Form := mapGet (fun _ => {}) s.forms f
/-- A form replaced. -/
def State.setForm (s : State) (f : Nat) (x : Form) : State := { s with forms := mapSet (fun _ => {}) s.forms f x }
/-- A DMA engine or context. -/
def State.eng (s : State) (e : Nat) : DmaEng := mapGet (fun _ => {}) s.engines e
/-- A DMA engine or context replaced. -/
def State.setEng (s : State) (e : Nat) (x : DmaEng) : State := { s with engines := mapSet (fun _ => {}) s.engines e x }
/-- What a queue has beside its registers. -/
def State.qaux (s : State) (q : Nat) : QueueAux := mapGet (fun _ => {}) s.queueAux q

/-- A free value: a word that nothing constrains, and the state with the counter advanced. -/
def State.free (s : State) : Word × State := (Config.freeWord s.freeCtr, { s with freeCtr := s.freeCtr + 1 })

/-! ### Ranges granted to the Houses (R41, R398, R401) -/

/-- House h's range register covers x: base in [b:0], count in [c+15... :16] as the register lays them out. -/
def inRange (w : Word) (cntHi baseHi x : Nat) : Bool :=
  decide (fld w baseHi 0 ≤ x) && decide (x < fld w baseHi 0 + fld w cntHi 16)

/-- The House whose range holds queue q. -/
def State.queueHouse (s : State) (q : Nat) : Option Nat :=
  (List.range 8).find? (fun h => inRange (s.rd (Reg.QUE_HRANGEh h)) 30 13 q)

/-- The House whose range holds hall pass p. -/
def State.passHouse (s : State) (p : Nat) : Option Nat :=
  (List.range 8).find? (fun h => inRange (s.rd (Reg.HPS_HRANGEh h)) 29 12 p)

/-- The House whose range holds bell entry e. -/
def State.bellHouse (s : State) (e : Nat) : Option Nat :=
  (List.range 8).find? (fun h => inRange (s.rd (Reg.RAS_HRANGEh h)) 28 11 e)

/-- Output (raster and port) n is granted to House h. -/
def State.hasOutput (s : State) (h n : Nat) : Bool := Nat.testBit (s.grant h).outputs n

/-- Input (tracker) t is granted to House h (Table 14.5). -/
def State.hasInput (s : State) (h t : Nat) : Bool := Nat.testBit (s.grant h).inputs t

/-! ### Raster time -/

/-- The raster runs (RASn_CTRL.EN). -/
def State.rasterOn (s : State) (n : Nat) : Bool := bit (s.rd (Reg.RASn_CTRL n)) 0

/-- The raster time stamp of the start of the present line (R27). -/
def State.rts (s : State) (n : Nat) : Nat :=
  ((s.raster n).frame.toNat % 2 ^ 32) * 2 ^ 32 + ((s.raster n).line % 2 ^ 16) * 2 ^ 16

/-- The raster time stamp of the present instant (R27): the fraction of the line is free (log 7). -/
def State.rtsNow (s : State) (n : Nat) : Nat :=
  s.rts n + (Config.lineFrac n (s.raster n).frame.toNat (s.raster n).line s.freeCtr s.out.length).toNat

/-- A stamp A is earlier than a stamp B (R27). -/
def rtsEarlier (a b : Nat) : Bool := decide (1 ≤ (b + 2 ^ 64 - a) % 2 ^ 64) && decide ((b + 2 ^ 64 - a) % 2 ^ 64 < 2 ^ 63)

/-! ### Memories shared by the whole block -/

/-- A House function's byte of host memory lies at this key. -/
def hostKey (fn addr : Nat) : Nat := fn * 2 ^ 64 + addr

/-- Host bytes read by a function's address. -/
def State.hostRead (s : State) (fn addr n : Nat) : List Byte := memReadN s.host (hostKey fn addr) n

/-- Host bytes written. -/
def State.hostWrite (s : State) (fn addr : Nat) (bs : List Byte) : State :=
  { s with host := memWriteN s.host (hostKey fn addr) bs }

/-- What the host's tables say of the page of an address (pages of 4 KiB): 0 present, 1 not present, 2 refused. -/
def State.page (s : State) (fn addr : Nat) : Nat := mapGet (fun _ => 0) s.pages (hostKey fn (addr / 4096 * 4096))

/-- A page's status replaced. -/
def State.setPage (s : State) (fn addr v : Nat) : State :=
  { s with pages := mapSet (fun _ => 0) s.pages (hostKey fn (addr / 4096 * 4096)) v }

/-- Library bytes written. -/
def State.libWrite (s : State) (addr : Nat) (bs : List Byte) : State := { s with lib := memWriteN s.lib addr bs }

/-! ### Queues (R398 to R400) -/

/-- The words of a record as its 64 bytes. -/
def recordBytes (ws : List Nat) : List Byte := ((ws ++ List.replicate 16 0).take 16).flatMap (leBytes 4)

/-- Entries of a queue's ring. -/
def State.queueLen (s : State) (q : Nat) : Nat := 2 ^ s.rdF (Reg.QUE_q_CFG q) 19 16
/-- The queue is enabled. -/
def State.queueOn (s : State) (q : Nat) : Bool := bit (s.rd (Reg.QUE_q_CFG q)) 31
/-- The queue's KIND. -/
def State.queueKind (s : State) (q : Nat) : Nat := s.rdF (Reg.QUE_q_CFG q) 23 22
/-- The queue's ring lies in a reserved Library bank. -/
def State.queueLib (s : State) (q : Nat) : Bool := bit (s.rd (Reg.QUE_q_CFG q)) 21
/-- HEAD. -/
def State.queueHead (s : State) (q : Nat) : Nat := s.rdF (Reg.QUE_q_HEAD q) 11 0
/-- TAIL. -/
def State.queueTail (s : State) (q : Nat) : Nat := s.rdF (Reg.QUE_q_TAIL q) 11 0
/-- The ring's address. -/
def State.queueBase (s : State) (q : Nat) : Nat :=
  64 * s.rdF (Reg.QUE_q_BASE q) 31 6 + 2 ^ 32 * s.rdF (Reg.QUE_q_CFG q) 15 0
/-- The queue holds no record. -/
def State.queueEmpty (s : State) (q : Nat) : Bool := decide (s.queueHead q = s.queueTail q)
/-- The queue holds 2^LOG2 − 1 records. -/
def State.queueFull (s : State) (q : Nat) : Bool := decide ((s.queueTail q + 1) % s.queueLen q = s.queueHead q)

/-- The queue's MSI-X message, where IRQ = 1 (R400). -/
def State.queueMsg (s : State) (h q : Nat) : State :=
  if bit (s.rd (Reg.QUE_q_CFG q)) 30 then s.emit (.msix h (s.rdF (Reg.QUE_q_CFG q) 29 24)) else s

/-- A record written at the ring's entry i. -/
def State.queueStore (s : State) (h q i : Nat) (bs : List Byte) : State :=
  if s.queueLib q then s.libWrite (s.queueBase q + 64 * i) bs else s.hostWrite h (s.queueBase q + 64 * i) bs

/-- The record at the ring's entry i. -/
def State.queueLoad (s : State) (h q i : Nat) : List Byte :=
  if s.queueLib q then memReadN s.lib (s.queueBase q + 64 * i) 64 else s.hostRead h (s.queueBase q + 64 * i) 64

/-- The device writes a record and advances TAIL: visible before the index and before the message, which goes when the
queue was empty (R400). The queue has room. -/
def State.queuePut (s : State) (h q : Nat) (bs : List Byte) : State :=
  let t := s.queueTail q
  let was := s.queueEmpty q
  let s := s.queueStore h q t bs
  let s := s.wrF (Reg.QUE_q_TAIL q) 11 0 ((t + 1) % s.queueLen q)
  if was then s.queueMsg h q else s

/-! ### Events (R410, R411) -/

/-- The raster that stamps an event for a House: the event's own when it drives an output granted to the House, else
the lowest-numbered running raster whose output is (R410). -/
def State.stampRaster (s : State) (h : Nat) (own : Option Nat) : Option Nat :=
  match own with
  | some r => if s.hasOutput h r && s.rasterOn r then some r else first
  | none => first
where
  /-- The lowest-numbered running raster with a granted output. -/
  first : Option Nat := (List.range 8).find? (fun r => s.rasterOn r && s.hasOutput h r)

/-- The words of an event record (R410). -/
def State.eventWords (s : State) (h code tag seq : Nat) (own : Option Nat) (detail : List Nat) : List Nat :=
  let (stamp, w4) := match s.stampRaster h own with
    | some r => (s.rtsNow r, r + 8)
    | none => (0, 0)
  [code + 256 * h + 65536 * tag, seq, stamp % 2 ^ 32, stamp / 2 ^ 32, w4] ++ detail

/-- An event that a full queue or no queue receives is counted lost (R399, R411). -/
def State.eventLost (s : State) (h : Nat) : State := s.countErr (Reg.EVT_LOSTh h)

/-- A record offered to an enabled event queue: dropped and counted when the queue is full (R399). -/
def State.eventPut (s : State) (h q : Nat) (bs : List Byte) : State :=
  if s.queueFull q then
    ((s.countFld (Reg.QUE_q_TAIL q) 31 16).wrF (Reg.QUE_q_HEAD q) 16 16 1).eventLost h
  else s.queuePut h q bs

/-- The House's event sequence advanced. -/
def State.eventSeq (s : State) (h : Nat) : State := s.wr (Reg.EVT_SEQh h) (s.rd (Reg.EVT_SEQh h) + 1)

/-- Queue q is an enabled EVENT queue of House h. -/
def State.isEventQueue (s : State) (h q : Nat) : Bool :=
  s.queueOn q && decide (s.queueKind q = 2) && decide (s.queueHouse q = some h)

/-- The queues of a House that take copies of an event code: enabled EVENT queues whose mask has the code's bit. -/
def State.eventQueues (s : State) (h code : Nat) : List Nat :=
  let w := s.rd (Reg.QUE_HRANGEh h)
  ((List.range (fld w 30 16)).map (fld w 13 0 + ·)).filter
    (fun q => s.isEventQueue h q && Nat.testBit (s.qaux q).mask.toNat (code - 0x10))

/-- An event posted to a House: a copy to each queue that takes its code, lost when there is none (R411). -/
def State.post (s : State) (h code tag : Nat) (own : Option Nat) (detail : List Nat) : State :=
  let s := s.eventSeq h
  let qs := s.eventQueues h code
  let bs := recordBytes (s.eventWords h code tag (s.rd (Reg.EVT_SEQh h)).toNat own detail)
  if qs.isEmpty then s.eventLost h else qs.foldl (fun s q => s.eventPut h q bs) s

/-- An event for the one queue that it names (R411); a queue that is not an enabled EVENT queue of the House gets
nothing and the event is lost. -/
def State.postTo (s : State) (h q code tag : Nat) (own : Option Nat) (detail : List Nat) : State :=
  let s := s.eventSeq h
  let bs := recordBytes (s.eventWords h code tag (s.rd (Reg.EVT_SEQh h)).toNat own detail)
  if s.isEventQueue h q then s.eventPut h q bs else s.eventLost h

/-- An event for several Houses, each once. -/
def State.postAll (s : State) (hs : List Nat) (code tag : Nat) (own : Option Nat) (detail : List Nat) : State :=
  hs.eraseDups.foldl (fun s h => s.post h code tag own detail) s

/-- A 48-bit performance counter advanced by n: it wraps to 0 and each wrap posts PERF_WRAP to House 0 and to the
House that sees it (Table 14.10). -/
def State.count48 (s : State) (lo hi n : Nat) (house : Option Nat) : State :=
  let v := s.rd64 lo hi + n
  let s := s.wr64 lo hi (v % 2 ^ 48)
  if v < 2 ^ 48 then s else s.postAll (0 :: house.toList) 0x16 0 none [regOffset lo]

/-! ### The HN-7040 compatibility block (R412) -/

/-- Bit 4r + e of a function's EVT_C_STATUS sets; a change from 0 to 1 under its mask sends the message. -/
def State.compatSet1 (s : State) (r e fn : Nat) : State :=
  if s.hasOutput fn r then
    let st := s.rd (Reg.own fn Reg.EVT_C_STATUS)
    let s' := s.wr (Reg.own fn Reg.EVT_C_STATUS) (setBit st (4 * r + e) true)
    let irq := s.rd (Reg.own fn Reg.EVT_C_IRQ)
    if !bit st (4 * r + e) && bit (s.rd (Reg.own fn Reg.EVT_C_MASK)) (4 * r + e) && bit irq 6 then
      s'.emit (.msix fn (fld irq 5 0))
    else s'
  else s

/-- A compatibility event of raster r reaches the copy of every function whose House holds the output: e = 0 blanking
start, 1 line match, 2 frame done, 3 underrun (Table 2.6). -/
def State.compat (s : State) (r e : Nat) : State := (List.range 8).foldl (fun s fn => s.compatSet1 r e fn) s

/-! ### Hall passes (R401 to R403) -/

/-- The value V of a hall pass. -/
def State.passVal (s : State) (p : Nat) : Nat := (s.rd (Reg.HPS_p_VALUE p)).toNat

/-- The first waiter of a pass. -/
def firstWaiter (p : Nat) (ws : List HpWaiter) : Option HpWaiter := ws.find? (fun w => decide (w.pass = p))

/-- The waiter list without the first waiter of a pass. -/
def dropWaiter (p : Nat) : List HpWaiter → List HpWaiter
  | [] => []
  | w :: ws => if w.pass = p then ws else w :: dropWaiter p ws

/-- The head waiter of a pass is released when V ≥ n, and then V := V − n; a HPASS_WAIT posts HPASS_MET. Repeated
`fuel` times. -/
def State.serve (s : State) (p : Nat) : Nat → State
  | 0 => s
  | fuel + 1 =>
    match firstWaiter p s.waiters with
    | none => s
    | some w =>
      if w.count ≤ s.passVal p then
        let s := { s with waiters := dropWaiter p s.waiters }
        let s := s.wr (Reg.HPS_p_VALUE p) (BitVec.ofNat 32 (s.passVal p - w.count))
        let s := match w.who with
          | .cmd h q tag => s.postTo h q 0x1B tag none [p, w.count]
          | _ => s
        s.serve p fuel
      else s

/-- The list of a pass served as far as it goes. -/
def State.servePass (s : State) (p : Nat) : State := s.serve p (s.waiters.length + 1)

/-- A signal with count n (R401, R402): V := V + n, or saturated with FAULT and the HPASS_FAULT event from requester
`req`; then the list is served. The Bool says that it saturated. -/
def State.signal (s : State) (p n req : Nat) : State × Bool :=
  let v := s.passVal p + n
  if v < 2 ^ 32 then ((s.wr (Reg.HPS_p_VALUE p) (BitVec.ofNat 32 v)).servePass p, false)
  else
    let s := s.wr (Reg.HPS_p_VALUE p) 0xFFFFFFFF#32
    let s := s.wrF (Reg.HPS_p_STAT p) 31 31 1
    let s := match s.passHouse p with
      | some h => s.post h 0x1C 0 none [p, req]
      | none => s
    (s.servePass p, true)

/-- A wait with count n joins the end of the list, which is then served; n = 0 completes at once (R401). -/
def State.join (s : State) (p n : Nat) (who : HpWho) : State :=
  if n = 0 then
    match who with
    | .cmd h q tag => s.postTo h q 0x1B tag none [p, 0]
    | _ => s
  else State.servePass { s with waiters := s.waiters ++ [{ pass := p, count := n, who := who }] } p

/-- Someone waits on a hall pass. -/
def State.waits (s : State) (who : HpWho) : Bool := s.waiters.any (fun w => decide (w.who = who))

/-- A waiter taken off every list (its wait has ended otherwise). -/
def State.unwait (s : State) (who : HpWho) : State :=
  { s with waiters := s.waiters.filter (fun w => decide (w.who ≠ who)) }

end Sys2Proof.Machine
end

