-- ==== Sys2Proof/Machine/MemOps.lean ====
section
/-! DEFINITION. The memories (chapter "Desk, Locker and Library"): error protection, bank ownership, House address spaces,
handles and their checks, the open shelf, the gather buffer. -/
namespace Sys2Proof.Machine

/-- The protected memories of R162. -/
inductive Space where
  | lib
  | locker
  | desk
  | istore
  deriving DecidableEq, Repr

/-- The number of a space in the keys of `State.ecc`. -/
def Space.num : Space → Nat
  | .lib => 0
  | .locker => 1
  | .desk => 2
  | .istore => 3

/-- The key of the 64-bit word that holds a byte. -/
def eccKey (sp : Space) (key : Nat) : Nat := sp.num * 2 ^ 40 + key / 8

/-- The bytes of a space. -/
def State.bytesOf (s : State) : Space → Memory
  | .lib => s.lib
  | .locker => s.locker
  | .desk => s.desk
  | .istore => s.istore

/-- The bytes of a space replaced. -/
def State.setBytes (s : State) (sp : Space) (m : Memory) : State :=
  match sp with
  | .lib => { s with lib := m }
  | .locker => { s with locker := m }
  | .desk => { s with desk := m }
  | .istore => { s with istore := m }

/-- The error that a word holds: 0 none, 1 correctable, 2 uncorrectable. -/
def State.eccOf (s : State) (sp : Space) (key : Nat) : Nat := mapGet (fun _ => 0) s.ecc (eccKey sp key)

/-- The error that a word holds, replaced. -/
def State.setEcc (s : State) (sp : Space) (key v : Nat) : State :=
  { s with ecc := mapSet (fun _ => 0) s.ecc (eccKey sp key) v }

/-- The byte keys key to key + n − 1 that start a word or the range: one per 64-bit word touched. -/
def wordsTouched (key n : Nat) : List Nat :=
  if n = 0 then [] else (List.range ((key + n - 1) / 8 - key / 8 + 1)).map (fun i => (key / 8 + i) * 8)

/-- The first byte of the first word with an uncorrectable error in a range. -/
def State.firstBad (s : State) (sp : Space) (key n : Nat) : Option Nat :=
  (wordsTouched key n).find? (fun k => decide (s.eccOf sp k = 2))

/-- The words of a range that hold a correctable error, counted. -/
def State.corrected (s : State) (sp : Space) (key n : Nat) : Nat :=
  ((wordsTouched key n).filter (fun k => decide (s.eccOf sp k = 1))).length

/-- The merge of a write port (R156): a word written in part keeps an uncorrectable error; every other word touched
receives valid check bits. -/
def State.eccMerge (s : State) (sp : Space) (key n : Nat) : State :=
  (wordsTouched key n).foldl (fun s k =>
    if s.eccOf sp k = 0 then s
    else if s.eccOf sp k = 2 && !(decide (key ≤ k) && decide (k + 8 ≤ key + n)) then s
    else s.setEcc sp k 0) s

/-- Bytes written in a protected memory. -/
def State.store (s : State) (sp : Space) (key : Nat) (bs : List Byte) : State :=
  (s.setBytes sp (memWriteN (s.bytesOf sp) key bs)).eccMerge sp key bs.length

/-- Bytes read in a protected memory. -/
def State.load (s : State) (sp : Space) (key n : Nat) : List Byte := memReadN (s.bytesOf sp) key n

/-- A Library error recorded: correctable or uncorrectable (R163, LIB_ECC_LAST). -/
def State.libError (s : State) (unc : Bool) (addr : Nat) : State :=
  let s := s.countErr (if unc then Reg.LIB_ECC_UNC else Reg.LIB_ECC_CORR)
  let b := addr / 2 ^ 18
  let s := if unc then
      { s with service := { s.service with
          bankErrors := mapSet (fun _ => 0) s.service.bankErrors b (mapGet (fun _ => 0) s.service.bankErrors b + 1)
          uncTold := if s.service.uncTold.contains b then s.service.uncTold else s.service.uncTold ++ [b] } }
    else s
  s.wr Reg.LIB_ECC_LAST (BitVec.ofNat 32 (unc.toNat * 2 ^ 31 + addr / 64 % 2 ^ 21))

/-- Corrected words of a Library read are counted one by one (R162). -/
def State.libCorrected (s : State) (addr n : Nat) : State :=
  ((wordsTouched addr n).filter (fun k => decide (s.eccOf .lib k = 1))).foldl (fun s k => s.libError false k) s

/-! ### Banks (R164 to R169) -/

/-- The bank of a Library address. -/
def bankOf (addr : Nat) : Nat := addr / 2 ^ 18
/-- A bank's register. -/
def State.bankReg (s : State) (b : Nat) : Word := s.rd (Reg.LIB_BANKb b)
/-- The bank's owner code. -/
def State.bankOwner (s : State) (b : Nat) : Nat := fld (s.bankReg b) 3 0
/-- The bank is open shelf. -/
def State.bankShelf (s : State) (b : Nat) : Bool := bit (s.bankReg b) 8
/-- The bank is in a handover, zeroing or march. -/
def State.bankBusy (s : State) (b : Nat) : Bool := bit (s.bankReg b) 30

/-- Bank b is a reserved bank of House h. -/
def State.bankOk (s : State) (h b : Nat) : Bool :=
  decide (b < 512) && decide (s.bankOwner b = h) && !s.bankShelf b

/-- The banks that a range touches. -/
def banksOf (addr n : Nat) : List Nat :=
  if n = 0 then [] else (List.range (bankOf (addr + n - 1) - bankOf addr + 1)).map (bankOf addr + ·)

/-- Every bank that a range touches is a reserved bank of House h (R167). -/
def State.banksOk (s : State) (h addr n : Nat) : Bool := (banksOf addr n).all (s.bankOk h)

/-- The first byte of a range whose bank is not a reserved bank of House h. -/
def State.firstRefused (s : State) (h addr n : Nat) : Option Nat :=
  ((banksOf addr n).find? (fun b => !s.bankOk h b)).map (fun b => max addr (b * 2 ^ 18))

/-- A write of requester `req` (a core's number, or 1024 for any other) that reaches a Library bank: it waits there while BUSY is 1 (R168). -/
def State.bankWrite (s : State) (req addr : Nat) (bs : List Byte) : State :=
  if s.bankBusy (bankOf addr) then { s with late := s.late ++ [(req, addr, bs)] } else s.store .lib addr bs

/-- A write at its bank for a House: discarded where the bank is closed to the House (R169). -/
def State.bankWriteFor (s : State) (req h addr : Nat) (bs : List Byte) : State :=
  if s.banksOk h addr bs.length then s.bankWrite req addr bs else s

/-! ### House address spaces (R420) -/

/-- The physical LPDDR5X address of a House address. -/
def State.translate (s : State) (h a : Nat) : Option Nat :=
  let w := mapGet (fun _ => (0 : Word)) s.xlate (h * 2 ^ 12 + a / 2 ^ 24)
  if a / 2 ^ 24 < 2048 ∧ bit w 31 then some (fld w 10 0 * 2 ^ 24 + a % 2 ^ 24) else none

/-- The first byte of a range in a House's space that does not translate; ranges are checked by granule. -/
def State.firstUnmapped (s : State) (h a n : Nat) : Option Nat :=
  if n = 0 then none
  else ((List.range ((a + n - 1) / 2 ^ 24 - a / 2 ^ 24 + 1)).find? (fun i =>
    (s.translate h ((a / 2 ^ 24 + i) * 2 ^ 24)).isNone)).map (fun i => max a ((a / 2 ^ 24 + i) * 2 ^ 24))

/-- A byte of LPDDR5X in a House's space; 0 where the address does not translate (callers check first). -/
def State.dramByte (s : State) (h a : Nat) : Byte :=
  match s.translate h a with
  | some p => memRead s.dram p
  | none => 0

/-- `n` bytes of a House's space. -/
def State.dramRead (s : State) (h : Nat) : Nat → Nat → List Byte
  | _, 0 => []
  | a, n + 1 => s.dramByte h a :: s.dramRead h (a + 1) n

/-- The key at which `State.ecc` marks a word of LPDDR5X whose reads meet a link error that cannot be corrected (R380; log 46). -/
def linkKey (p : Nat) : Nat := 4 * 2 ^ 40 + p / 8

/-- A read of `n` bytes of a House's space meets a link error that cannot be corrected (R380). -/
def State.linkFails (s : State) (h a n : Nat) : Bool :=
  (wordsTouched a n).any (fun k => match s.translate h k with
    | some p => decide (mapGet (fun _ => 0) s.ecc (linkKey p) = 2)
    | none => false)

/-- Bytes written in a House's space. -/
def State.dramWrite (s : State) (h : Nat) : Nat → List Byte → State
  | _, [] => s
  | a, b :: bs =>
    match s.translate h a with
    | some p => State.dramWrite { s with dram := memWrite s.dram p b } h (a + 1) bs
    | none => s.dramWrite h (a + 1) bs

/-! ### The open shelf (R170 to R173) -/

/-- A tag of the shelf. -/
def State.tag (s : State) (i : Nat) : Option (Nat × Bool) := mapGet (fun _ => none) s.shelfTags i
/-- A tag written. -/
def State.setTag (s : State) (i : Nat) (t : Option (Nat × Bool)) : State :=
  { s with shelfTags := mapSet (fun _ => none) s.shelfTags i t }

/-- The bank that a slot of a House's shelf names; 512 names none. -/
def State.slotBank (s : State) (h slot : Nat) : Nat := mapGet (fun _ => 512) s.shelfSlots (h * 64 + slot)

/-- The set of a line address X: bank × 256 + set. -/
def State.lineSet (s : State) (h x : Nat) : Nat := s.slotBank h (x / 64 % 64) * 256 + x / 4096 % 256

/-- The way that holds a line. -/
def State.lineWay (s : State) (h x : Nat) : Option Nat :=
  (List.range 16).find? (fun w => match s.tag (s.lineSet h x * 16 + w) with
    | some (t, _) => decide (t = x / 64)
    | none => false)

/-- Where the data of a way lies in its bank (DESIGN CHOICE, log 12). -/
def wayAddr (setWay : Nat) : Nat := setWay * 64

/-- A line is in the shelf. -/
def State.hasLine (s : State) (h x : Nat) : Bool := (s.lineWay h x).isSome

/-- The way that the 15-bit tree names: node i has the children 2i + 1 and 2i + 2, and a 0 bit points left. -/
def lruVictim (bits : Nat) : Nat :=
  let n0 := (Nat.testBit bits 0).toNat
  let n1 := (Nat.testBit bits (1 + n0)).toNat
  let n2 := (Nat.testBit bits (3 + 2 * n0 + n1)).toNat
  let n3 := (Nat.testBit bits (7 + 4 * n0 + 2 * n1 + n2)).toNat
  8 * n0 + 4 * n1 + 2 * n2 + n3

/-- A bit of a number written. -/
def putBit (x i : Nat) (b : Bool) : Nat :=
  if Nat.testBit x i = b then x else if b then x + 2 ^ i else x - 2 ^ i

/-- The tree after an access to a way: every node on its path points away. -/
def lruTouch (bits w : Nat) : Nat :=
  let b3 := w / 8 % 2; let b2 := w / 4 % 2; let b1 := w / 2 % 2; let b0 := w % 2
  putBit (putBit (putBit (putBit bits 0 (b3 = 0)) (1 + b3) (b2 = 0)) (3 + 2 * b3 + b2) (b1 = 0))
    (7 + 4 * b3 + 2 * b2 + b1) (b0 = 0)

/-- The tree of a set touched. -/
def State.touch (s : State) (set w : Nat) : State :=
  { s with shelfLru := mapSet (fun _ => 0) s.shelfLru set (lruTouch (mapGet (fun _ => 0) s.shelfLru set) w) }

/-- The lines of a way written back if dirty, the way invalid: lines with uncorrectable errors are dropped and counted
(R171, R173). -/
def State.evict (s : State) (h i : Nat) : State :=
  match s.tag i with
  | none => s
  | some (t, dirty) =>
    let s' := if dirty then
        (if (s.firstBad .lib (wayAddr i) 64).isSome then s.libError true (wayAddr i)
         else s.dramWrite h (t * 64) (s.load .lib (wayAddr i) 64))
      else s
    s'.setTag i none

/-- The way for a new line of a set: the lowest-numbered invalid way, else the one the tree names. -/
def State.victim (s : State) (set : Nat) : Nat :=
  match (List.range 16).find? (fun w => (s.tag (set * 16 + w)).isNone) with
  | some w => w
  | none => lruVictim (mapGet (fun _ => 0) s.shelfLru set)

/-- A line allocated with the bytes given, evicting a victim. -/
def State.allocLine (s : State) (h x : Nat) (bs : List Byte) (dirty : Bool) : State :=
  let set := s.lineSet h x
  let w := s.victim set
  let s := s.evict h (set * 16 + w)
  let s := s.setTag (set * 16 + w) (some (x / 64, dirty))
  (s.store .lib (wayAddr (set * 16 + w)) bs).touch set w

/-- A line brought in from external memory if it is missing. -/
def State.fillLine (s : State) (h x : Nat) : State :=
  if s.hasLine h x then s else s.allocLine h x (s.dramRead h x 64) false

/-- Bytes of a line that is in the shelf. -/
def State.lineRead (s : State) (h a n : Nat) : List Byte :=
  let x := a / 64 * 64
  match s.lineWay h x with
  | some w => s.load .lib (wayAddr (s.lineSet h x * 16 + w) + a % 64) n
  | none => s.dramRead h a n

/-- The Library address of a byte of a line that is in the shelf. -/
def State.lineLib (s : State) (h a : Nat) : Nat :=
  let x := a / 64 * 64
  wayAddr (s.lineSet h x * 16 + (s.lineWay h x).getD 0) + a % 64

/-- A fill of a line is out (R171). -/
def State.askFill (s : State) (h x : Nat) : State := if s.fills.contains (h, x) then s else { s with fills := s.fills ++ [(h, x)] }

/-- A load looks a line up (R171): a hit counts and makes the way recent, a miss counts and asks for the fill. -/
def State.shelfLookup (s : State) (h x : Nat) : State :=
  if s.hasLine h x then
    (s.count48 (Reg.LIB_SHELFh_HIT_LO h) (Reg.LIB_SHELFh_HIT_HI h) 1 (some h)).touch (s.lineSet h x) ((s.lineWay h x).getD 0)
  else (s.count48 (Reg.LIB_SHELFh_MISS_LO h) (Reg.LIB_SHELFh_MISS_HI h) 1 (some h)).askFill h x

/-- The fill of a line completes, evicting a victim (R171). A line that has come by then, or has no slot or place any more, is left. -/
def State.shelfFill (s : State) (h x : Nat) : State :=
  let s := { s with fills := s.fills.filter (fun f => decide (f ≠ (h, x))) }
  if decide (s.slotBank h (x / 64 % 64) < 512) && (s.firstUnmapped h x 1).isNone then s.fillLine h x else s

/-- Bytes written in one line through the shelf: a whole line allocates without a fill, a part fills first (R171). -/
def State.lineWrite (s : State) (h a : Nat) (bs : List Byte) : State :=
  let x := a / 64 * 64
  if s.hasLine h x then
    let set := s.lineSet h x
    let w := (s.lineWay h x).getD 0
    let s := s.count48 (Reg.LIB_SHELFh_HIT_LO h) (Reg.LIB_SHELFh_HIT_HI h) 1 (some h)
    ((s.store .lib (wayAddr (set * 16 + w) + a % 64) bs).setTag (set * 16 + w) (some (x / 64, true))).touch set w
  else
    let s := s.count48 (Reg.LIB_SHELFh_MISS_LO h) (Reg.LIB_SHELFh_MISS_HI h) 1 (some h)
    if bs.length = 64 then s.allocLine h x bs true
    else
      let s := s.allocLine h x (s.dramRead h x 64) true
      s.store .lib (s.lineLib h a) bs

/-- A bank leaves the shelf: its dirty lines are written back and every line is invalid (R168 step 3). -/
def State.flushBank (s : State) (h b : Nat) : State :=
  (List.range 4096).foldl (fun s i => s.evict h (b * 4096 + i)) s

/-- The lines of a range of a House's space written back, and invalidated if asked (R172, SHELF_FLUSH). -/
def State.flushRange (s : State) (h a n : Nat) (inval : Bool) : State :=
  s.shelfTags.foldl (fun s e =>
    match e.2 with
    | some (t, dirty) =>
      if s.bankOwner (e.1 / 4096) = h && s.bankShelf (e.1 / 4096) && decide (t * 64 < a + n) && decide (a < t * 64 + 64) then
        let s' := s.evict h e.1
        if inval then s' else s'.setTag e.1 (some (t, dirty && (s.firstBad .lib (wayAddr e.1) 64).isSome))
      else s
    | none => s) s

/-- The House's whole shelf written back and invalidated. -/
def State.flushHouse (s : State) (h : Nat) : State := s.flushRange h 0 (2 ^ 48) true

/-- Dvorzar points the 64 slots of a House's shelf at its open-shelf banks: slot i at the (i mod n)-th (R170). -/
def State.pointSlots (s : State) (h : Nat) : State :=
  let bs := (List.range 512).filter (fun b => decide (s.bankOwner b = h) && s.bankShelf b)
  (List.range 64).foldl (fun s i =>
    let b := if bs.isEmpty then 512 else bs.getD (i % bs.length) 512
    { s with shelfSlots := mapSet (fun _ => 512) s.shelfSlots (h * 64 + i) b }) s

/-! ### Handles (R175 to R178) -/

/-- A handle entry (Table 6.7). -/
structure Handle where
  base : Nat
  size : Nat
  house : Nat
  wr : Bool
  rd : Bool
  /-- 0 Locker, 1 Library, 2 Shelf. -/
  kind : Nat
  v : Bool
  deriving DecidableEq, Repr

/-- The entry of four words. -/
def handleOf (w0 w1 w2 w3 : Word) : Handle :=
  ⟨w0.toNat + 2 ^ 32 * fld w1 15 0, w2.toNat, fld w3 26 24, bit w3 27, bit w3 28, fld w3 30 29, bit w3 31⟩

/-- Entry H of a core's active table. -/
def Core.handle (k : Core) (h : Nat) : Handle :=
  let w (i : Nat) := mapGet (fun _ => (0 : Word)) k.handles (4 * h + i)
  handleOf (w 0) (w 1) (w 2) (w 3)

/-- A tile-core fault: cause, FAULT_INFO, FAULT_ADDR (Table 3.15). -/
structure CoreFault where
  cause : Nat
  info : Nat
  addr : Nat
  deriving DecidableEq, Repr

/-- The House of a core's time slice. -/
def Core.house (k : Core) : Nat := fld (mapGet (fun _ => (0 : Word)) k.csr 1) 2 0

/-- The checks of R178 on `len` bytes at offset `ofs` of handle H: KIND among `kinds`, RD or WR, alignment to `align`,
bounds, and for a Library entry every bank. -/
def State.checkHandle (s : State) (k : Core) (h : Nat) (kinds : List Nat) (write : Bool) (align ofs len : Nat) :
    Option CoreFault :=
  let e := k.handle h
  if !(e.v && decide (e.house = k.house) && kinds.contains e.kind && (if write then e.wr else e.rd)) then
    some ⟨0x03, h, 0⟩
  else if ofs % align ≠ 0 then some ⟨0x05, h, ofs⟩
  else if e.size < ofs + len ∧ len ≠ 0 then some ⟨0x04, h, max ofs e.size⟩
  else if e.kind = 1 ∧ !s.banksOk k.house (e.base + ofs) len then some ⟨0x03, h, 0⟩
  else if e.kind = 2 ∧ (s.firstUnmapped k.house (e.base + ofs) len).isSome then some ⟨0x03, h, 0⟩
  else none

/-! ### S2 stores and the gather buffer (R74, R181, R404) -/

/-- The bytes that a load would return now. -/
def State.loadBytes (s : State) (l : OutLoad) : List Byte :=
  if l.shelf then
    (if l.size = 128 then s.lineRead l.house l.addr 64 ++ s.lineRead l.house (l.addr + 64) 64
     else s.lineRead l.house l.addr l.size)
  else s.load .lib l.addr l.size

/-- The lines of 64 bytes that an access touches. -/
def linesOf (addr n : Nat) : List Nat := (List.range ((addr + n - 1) / 64 - addr / 64 + 1)).map (fun i => (addr / 64 + i) * 64)

/-- A core's loads in flight that overlap a store are performed before it, so that its accesses to one byte keep
program order (R74, R404). -/
def State.settleLoads (s : State) (c : Nat) (shelf : Bool) (addr n : Nat) : State :=
  let k := s.core c
  s.setCore c { k with loads := k.loads.map (fun l =>
    if l.data.isNone && l.shelf = shelf && decide (l.addr < addr + n) && decide (addr < l.addr + l.size) then
      { l with data := some (s.loadBytes l) } else l) }

/-- Bytes of a core's store within one line become visible, at its Library bank or through the shelf. -/
def State.coreWrite (s : State) (c : Nat) (shelf : Bool) (house addr : Nat) (bs : List Byte) : State :=
  let s := s.settleLoads c shelf addr bs.length
  if shelf then s.lineWrite house addr bs else s.bankWriteFor c house addr bs

/-- The runs of consecutive bytes of a gather entry, as (offset, bytes). -/
def runsOf : Memory → List (Nat × List Byte)
  | [] => []
  | (a, b) :: m =>
    match runsOf m with
    | (a', bs) :: rs => if a + 1 = a' then (a, b :: bs) :: rs else (a, [b]) :: (a', bs) :: rs
    | [] => [(a, [b])]

/-- A store entry goes out as one masked transaction: its bytes become visible together. -/
def State.sendEntry (s : State) (c : Nat) (e : GatherEntry) : State :=
  (runsOf e.bytes).foldl (fun s r => s.coreWrite c e.shelf e.house (e.line + r.1) r.2) s

/-- The store entry of a line leaves the gather buffer, if there is one. -/
def State.flushEntry (s : State) (c : Nat) (shelf : Bool) (line : Nat) : State :=
  let k := s.core c
  match k.gather.find? (fun e => e.shelf = shelf && decide (e.line = line)) with
  | none => s
  | some e =>
    let s := s.setCore c { k with gather := k.gather.filter (fun x => decide (x ≠ e)) }
    s.sendEntry c e

/-- Every store entry of a core leaves the gather buffer, oldest first. -/
def State.flushGather (s : State) (c : Nat) : State :=
  let k := s.core c
  k.gather.foldl (fun s e => s.sendEntry c e) (s.setCore c { k with gather := [] })

/-- Lines with a narrow load in flight: each holds one gather entry (R181). -/
def Core.loadLines (k : Core) : List (Bool × Nat) :=
  ((k.loads.filter (fun l => decide (l.size ≠ 128))).map (fun l => (l.shelf, l.addr / 64 * 64))).eraseDups

/-- Gather entries in use. -/
def Core.gatherUsed (k : Core) : Nat := k.gather.length + k.loadLines.length

/-- A byte list laid into a gather entry from an offset. -/
def mergeBytes (m : Memory) (ofs : Nat) : List Byte → Memory
  | [] => m
  | b :: bs => mergeBytes (mapIns m ofs b) (ofs + 1) bs

/-- A free gather entry is made where all eight are in use: the oldest store entry goes (R181). -/
def State.gatherRoom (s : State) (c : Nat) : State :=
  if 8 ≤ (s.core c).gatherUsed then
    match (s.core c).gather with
    | e :: _ => s.flushEntry c e.shelf e.line
    | [] => s
  else s

/-- A narrow store merges into the entry of its line or opens one; a full line goes out at once; when no entry is free
the oldest store entry goes first (R181). -/
def State.gatherStore (s : State) (c : Nat) (shelf : Bool) (house addr : Nat) (bs : List Byte) : State :=
  let line := addr / 64 * 64
  let s := match (s.core c).gather.find? (fun e => e.shelf = shelf && decide (e.line = line)) with
    | some _ => s
    | none =>
      let s := s.gatherRoom c
      let k := s.core c
      s.setCore c { k with gather := k.gather ++ [({ shelf := shelf, house := house, line := line, bytes := [] } : GatherEntry)] }
  let k := s.core c
  let s := s.setCore c { k with gather := k.gather.map (fun (e : GatherEntry) =>
    if e.shelf = shelf && decide (e.line = line) then { e with bytes := mergeBytes e.bytes (addr % 64) bs } else e) }
  match (s.core c).gather.find? (fun e => e.shelf = shelf && decide (e.line = line)) with
  | some e => if e.bytes.length = 64 then s.flushEntry c shelf line else s
  | none => s

end Sys2Proof.Machine
end

