-- ==== Sys2Proof/Machine/CoreDecode.lean ====
section
/-! DEFINITION. The slots of a bundle (R67 to R70, R76): fields, legality whatever the guard, and the registers that a slot
names (Tables 3.5 to 3.13). -/
namespace Sys2Proof.Machine

/-- A slot word. -/
abbrev SlotW := BitVec 64

/-- The slot word of an opcode, a guard and a body (R68): OP [63:58], PG [57:55], PN [54]. -/
def slotWord (op pg : Nat) (pn : Bool) (body : BitVec 54) : SlotW :=
  BitVec.ofNat 6 op ++ BitVec.ofNat 3 pg ++ BitVec.ofBool pn ++ body

/-- OP. -/
def sOp (w : SlotW) : Nat := fld w 63 58
/-- PG. -/
def sPG (w : SlotW) : Nat := fld w 57 55
/-- PN. -/
def sPN (w : SlotW) : Bool := bit w 54
/-- Field [53:49]. -/
def sA (w : SlotW) : Nat := fld w 53 49
/-- Field [48:44]. -/
def sB (w : SlotW) : Nat := fld w 48 44
/-- Field [43:39]. -/
def sC (w : SlotW) : Nat := fld w 43 39
/-- Bits [31:0]. -/
def sImm (w : SlotW) : Nat := fld w 31 0

/-- Every bit of [hi:lo] is 0. -/
def zf (w : SlotW) (hi lo : Nat) : Bool := decide (fld w hi lo = 0)

/-- The opcodes of S0 and S1 in format R with two sources (Table 3.6). -/
def isR2 (op : Nat) : Bool := (decide (1 ≤ op) && decide (op ≤ 0x0F)) || decide (op = 0x19)
/-- The branch opcodes. -/
def isBranch (op : Nat) : Bool := op = 0x30 || op = 0x31 || op = 0x32

/-- A scalar slot is legal (R70, Tables 3.5 and 3.6). -/
def scalarLegal (w : SlotW) : Bool :=
  let op := sOp w
  if op = 0 then zf w 53 0
  else if isR2 op then zf w 38 0
  else if op = 0x1A ∨ op = 0x1B then zf w 43 0
  else if op = 0x10 ∨ op = 0x11 ∨ op = 0x12 ∨ op = 0x13 ∨ op = 0x18 then zf w 43 32
  else if op = 0x14 ∨ op = 0x15 ∨ op = 0x16 then zf w 43 32 && zf w 31 5
  else if op = 0x17 then zf w 48 32
  else if op = 0x20 then
    zf w 50 49 && zf w 34 32 && decide (fld w 38 36 < 6) && (if bit w 35 then zf w 43 39 else zf w 31 0)
  else if op = 0x28 then zf w 48 12
  else if op = 0x29 then zf w 53 49 && zf w 43 12
  else if op = 0x30 then zf w 53 13
  else if op = 0x31 then zf w 48 13
  else if op = 0x32 then zf w 53 49 && zf w 43 0
  else false

/-- SIZE of S2 in bytes: 1, 2, 4 or 128; 0 is reserved. -/
def sSize (w : SlotW) : Nat :=
  match fld w 37 35 with
  | 0 => 1
  | 1 => 2
  | 2 => 4
  | 4 => 128
  | _ => 0

/-- S2 is legal (Table 3.7). -/
def lockerLegal (w : SlotW) : Bool :=
  let op := sOp w
  if op = 0 then zf w 53 0
  else if op = 1 ∨ op = 3 then zf w 34 32 && decide (sSize w ≠ 0)
  else if op = 2 then zf w 34 32 && (decide (sSize w = 1) || decide (sSize w = 2))
  else if op = 4 then zf w 34 32 && decide (sSize w ≠ 0) && decide (sSize w ≠ 128)
  else if op = 5 then zf w 53 49 && zf w 37 32
  else false

/-- TYPE of S3. -/
def vType (w : SlotW) : Nat := fld w 33 30
/-- SAT of S3. -/
def vSat (w : SlotW) : Bool := bit w 29
/-- IMM of S3. -/
def vImm (w : SlotW) : Nat := fld w 15 0
/-- VC, or a g register. -/
def vC (w : SlotW) : Nat := fld w 38 34

/-- The vector operations that accept every type (R83). -/
def vAnyType (op : Nat) : Bool :=
  op = 0x07 || op = 0x08 || op = 0x09 || op = 0x10 || op = 0x13 || op = 0x14 || op = 0x18
/-- The vector operations that accept FP16, BF16 and FP32 beside the integer types (Table 5.4). -/
def vFloatOp (op : Nat) : Bool :=
  (decide (1 ≤ op) && decide (op ≤ 6)) || op = 0x0E || op = 0x0F || op = 0x11 || op = 0x12

/-- VCVT's part is one that the lane counts have (R84). -/
def vPartOk (src dst part : Nat) : Bool :=
  let ns := 1024 / tyBits src
  let nd := 1024 / tyBits dst
  decide (part < max (ns / nd) (nd / ns))

/-- S3 is legal (R83, R84, R134, Tables 3.8 and 3.9). -/
def vectorLegal (w : SlotW) : Bool :=
  let op := sOp w
  let t := vType w
  let tyOk := decide (t ≤ 0xB) && (vAnyType op || tyInt t || (vFloatOp op && tyVFloat t))
  let satOk := !vSat w ||
    ((op = 0x01 || op = 0x02 || op = 0x04 || op = 0x11 || op = 0x19) && tyInt t)
  let noB := zf w 43 39
  let noC := zf w 38 34
  let noI := zf w 15 0
  let two := noC && noI
  let one := noB && noC && noI
  zf w 28 16 &&
  (if op = 0 then zf w 53 0
   else tyOk && satOk &&
    (match op with
     | 0x01 | 0x02 | 0x03 | 0x05 | 0x06 | 0x07 | 0x08 | 0x09 | 0x0A | 0x0B | 0x13 | 0x1C => two
     | 0x04 | 0x0F => noI
     | 0x0C | 0x0D | 0x16 => noB && noC
     | 0x0E => noC && decide (vImm w < 6)
     | 0x10 => noB && noC && decide (fld w 15 8 = 0) && decide (fld w 3 0 ≤ 0xB) && vPartOk (fld w 3 0) t (fld w 7 5)
     | 0x11 | 0x12 | 0x18 | 0x19 => one
     | 0x14 => noC
     | 0x15 => zf w 48 39 && noI
     | 0x17 => noB
     | 0x1A | 0x1B => one && zf w 53 52
     | _ => false))

/-- A listed, writable array state register (Table 3.11). -/
def aRegListed (r : Nat) : Bool := r ≤ 5 || (8 ≤ r && r ≤ 0x0D) || (0x10 ≤ r && r ≤ 0x6F)

/-- S4 or S5 is legal (Table 3.10); an SREG that Table 3.11 does not list is a reserved value of MSR (R87). -/
def matrixLegal (w : SlotW) : Bool :=
  match sOp w with
  | 0x00 => zf w 53 0
  | 0x01 => zf w 52 0
  | 0x02 => zf w 29 16 && (if bit w 53 then zf w 15 0 else zf w 52 48)
  | 0x03 => zf w 42 24
  | 0x04 | 0x05 => zf w 53 41 && zf w 30 0
  | 0x06 => zf w 39 32 && (if bit w 53 then zf w 52 48 else zf w 31 0) && aRegListed (fld w 47 40)
  | 0x07 => zf w 48 48 && zf w 39 0
  | 0x08 => zf w 48 48 && zf w 39 0 &&
      (fld w 47 40 = 0x10 || fld w 47 40 = 0x30 || fld w 47 40 = 0x50)
  | _ => false

/-- S6 is legal (Table 3.12, R105). -/
def transferLegal (w : SlotW) : Bool :=
  match sOp w with
  | 0x00 => zf w 53 0
  | 0x01 | 0x02 => decide (fld w 52 51 ≠ 3) && !(bit w 50 && decide (fld w 52 51 ≠ 0))
  | 0x03 => zf w 23 0
  | 0x04 => zf w 30 24 && decide (sA w + fld w 32 31 ≤ 31) && decide (sB w + fld w 32 31 ≤ 31)
  | 0x05 => zf w 47 0
  | _ => false

/-- S7 is legal (Table 3.13, R80): `pc` is the bundle's own address. -/
def controlLegal (pc : Nat) (w : SlotW) : Bool :=
  match sOp w with
  | 0x00 => zf w 53 0
  | 0x01 => zf w 53 16
  | 0x02 => decide (fld w 53 52 ≠ 3) && zf w 41 0
  | 0x03 => zf w 48 16 && decide (fld w 15 0 ≠ 0)
  | 0x04 => zf w 48 16
  | 0x05 => zf w 53 4 && decide (1 ≤ fld w 3 0) && decide (fld w 3 0 ≤ 7)
  | 0x06 => zf w 45 0
  | 0x07 => zf w 48 0
  | 0x08 => zf w 53 0
  | 0x09 => zf w 50 1
  | 0x0A | 0x0B | 0x0C => zf w 44 0
  | 0x0D => zf w 47 0
  | 0x0E => zf w 48 13 && decide (pc < fld w 12 0)
  | 0x0F => zf w 47 0
  | 0x10 => zf w 53 16
  | _ => false

/-- Slot k holds a legal encoding (R70). -/
def slotLegal (pc k : Nat) (w : SlotW) : Bool :=
  match k with
  | 0 | 1 => scalarLegal w
  | 2 => lockerLegal w
  | 3 => vectorLegal w
  | 4 | 5 => matrixLegal w
  | 6 => transferLegal w
  | _ => controlLegal pc w

/-- Registers that a slot names, by file. -/
structure RegSet where
  g : List Nat := []
  v : List Nat := []
  p : List Nat := []
  deriving DecidableEq, Repr

/-- The destination registers of slot k, whether guarded on or off (Table 3.4). -/
def slotDest (k : Nat) (w : SlotW) : RegSet :=
  let op := sOp w
  match k with
  | 0 | 1 =>
    if isR2 op ∨ (0x10 ≤ op ∧ op ≤ 0x18) ∨ op = 0x1A ∨ op = 0x1B ∨ op = 0x28 ∨ op = 0x31 then { g := [sA w] }
    else if op = 0x20 then { p := [fld w 53 51] }
    else {}
  | 2 =>
    if op = 1 ∨ op = 2 then (if sSize w = 128 then { v := [sA w] } else { g := [sA w] })
    else if op = 4 then { v := [sA w] }
    else {}
  | 3 =>
    if op = 0 then {}
    else if op = 0x16 then { g := [sA w] }
    else if op = 0x1A ∨ op = 0x1B then { p := [fld w 51 49] }
    else { v := [sA w] }
  | 4 | 5 => if op = 0x07 then { g := [sA w] } else {}
  | 6 => if op = 0x04 then { v := (List.range (fld w 32 31 + 1)).map (sA w + ·) } else {}
  | _ =>
    if op = 0x06 then { g := [sA w], p := [fld w 48 46] }
    else if 0x09 ≤ op ∧ op ≤ 0x0D then { p := [fld w 53 51] }
    else {}

/-- VCVT widens the lane count, so that the destination is also read (R84). -/
def vWidens (w : SlotW) : Bool := decide (tyBits (vType w) < tyBits (fld w 3 0))

/-- The source registers of slot k, without its guard (R71). -/
def slotSrc (k : Nat) (w : SlotW) : RegSet :=
  let op := sOp w
  match k with
  | 0 | 1 =>
    if isR2 op then { g := [sB w, sC w] }
    else if op = 0x17 ∨ op = 0x28 ∨ op = 0x30 ∨ op = 0x31 ∨ op = 0 then {}
    else if op = 0x20 ∧ !bit w 35 then { g := [sB w, sC w] }
    else { g := [sB w] }
  | 2 =>
    if op = 0 then {}
    else if op = 3 then (if sSize w = 128 then { g := [sB w], v := [sA w] } else { g := [sB w, sA w] })
    else { g := [sB w] }
  | 3 =>
    match op with
    | 0 => {}
    | 0x04 | 0x0F => { v := [sB w, sC w, vC w] }
    | 0x10 => if vWidens w then { v := [sB w, sA w] } else { v := [sB w] }
    | 0x0C | 0x0D | 0x11 | 0x12 | 0x16 | 0x18 | 0x19 | 0x1A | 0x1B => { v := [sB w] }
    | 0x15 => { g := [vC w] }
    | 0x17 => { v := [sB w], g := [vC w] }
    | _ => { v := [sB w, sC w] }
  | 4 | 5 =>
    match op with
    | 0x02 => if bit w 53 then { g := [fld w 52 48] } else {}
    | 0x03 => { g := [fld w 47 43] }
    | 0x06 => if bit w 53 then {} else { g := [fld w 52 48] }
    | 0x08 => { v := [sA w] }
    | _ => {}
  | 6 =>
    match op with
    | 0x01 | 0x02 => { g := [fld w 49 45] }
    | 0x03 => { g := [fld w 52 48, fld w 35 31] }
    | 0x04 => { g := [fld w 37 33], v := (List.range (fld w 32 31 + 1)).map (sB w + ·) }
    | 0x05 => { g := [sA w] }
    | _ => {}
  | _ =>
    match op with
    | 0x02 => { g := [fld w 51 47, fld w 46 42] }
    | 0x03 | 0x04 | 0x07 | 0x0E => { g := [sA w] }
    | 0x0F => { g := [fld w 52 48] }
    | 0x0A | 0x0B | 0x0C => { p := [fld w 50 48, fld w 47 45] }
    | 0x0D => { p := [fld w 50 48] }
    | _ => {}

/-- Numbered slots of a bundle. -/
def slotsOf (ws : List SlotW) : List (Nat × SlotW) := (List.range 8).map (fun k => (k, ws.getD k 0))

/-- The bundle with one slot in use. -/
def bundle1 (k : Nat) (w : SlotW) : List SlotW := (List.range 8).map (fun i => if i = k then w else 0)

/-- The first register that two slots of a bundle both name as destination, with the lower slot: class 0 g, 1 v, 2 p
(Table 3.4, Table 3.15). -/
def destClash (ws : List SlotW) : Option (Nat × Nat × Nat) :=
  (slotsOf ws).findSome? (fun a =>
    (slotsOf ws).findSome? (fun b =>
      if a.1 < b.1 then
        let x := slotDest a.1 a.2
        let y := slotDest b.1 b.2
        match x.g.find? (y.g.contains ·), x.v.find? (y.v.contains ·), x.p.find? (y.p.contains ·) with
        | some r, _, _ => some (a.1, 0, r)
        | _, some r, _ => some (a.1, 1, r)
        | _, _, some r => some (a.1, 2, r)
        | _, _, _ => none
      else none))

/-- ILLEGAL_BUNDLE (Table 3.4): the lowest slot that takes part, the class and the register. A branch op in S1, or LOOP
beside a branch op in S0, is class 3. -/
def bundleClash (ws : List SlotW) : Option (Nat × Nat × Nat) :=
  let s0 := sOp (ws.getD 0 0)
  let s1 := sOp (ws.getD 1 0)
  let s7 := sOp (ws.getD 7 0)
  let place : Option (Nat × Nat × Nat) :=
    if s7 = 0x0E ∧ isBranch s0 then some (0, 3, 0) else if isBranch s1 then some (1, 3, 0) else none
  match destClash ws, place with
  | some d, some p => if d.1 ≤ p.1 then some d else some p
  | some d, none => some d
  | none, p => p

end Sys2Proof.Machine
end

