-- ==== Sys2Proof/Machine/Roll.lean ====
section
/-! DEFINITION. Roll counters and band records (R216, R221 to R228, R274, R276): drawing, reporting, arming, releasing a lane. -/
namespace Sys2Proof.Machine

/-- A pipeline. -/
def State.pipe (s : State) (p : Nat) : Pipe := mapGet (fun _ => {}) s.pipes p
/-- A pipeline replaced. -/
def State.setPipe (s : State) (p : Nat) (x : Pipe) : State := { s with pipes := mapSet (fun _ => {}) s.pipes p x }
/-- A band-record entry. -/
def State.bandRec (s : State) (p b : Nat) : BandRec := mapGet (fun _ => {}) s.bandRecs (p * 2048 + b)
/-- A band-record entry replaced. -/
def State.setBandRec (s : State) (p b : Nat) (r : BandRec) : State :=
  { s with bandRecs := mapSet (fun _ => {}) s.bandRecs (p * 2048 + b) r }

/-- Tiles of the armed band. -/
def State.rcNT (s : State) (f : Nat) : Nat := s.rdF (Reg.RC_NT f) 12 0
/-- Tiles complete. -/
def State.rcDone (s : State) (f : Nat) : Nat := s.rdF (Reg.RC_PROG f) 12 0
/-- The counter deals: armed in DEAL mode and not switched. -/
def State.rcDeal (s : State) (f : Nat) : Bool := bit (s.rd (Reg.RC_CTRL f)) 1 && !bit (s.rd (Reg.RC_CTRL f)) 3
/-- Lanes of E in ascending order. -/
def State.rcLanes (s : State) (f : Nat) : List Nat := (List.range 32).filter (fun l => bit (s.rd (Reg.RC_LANES f)) l)
/-- The form's program has no band. -/
def State.bandless (s : State) (f : Nat) : Bool := mapGet (fun _ => false) s.noBand f

/-- Every ROLL returns exhausted: no band armed, the shape failed, or every tile is complete (R221, R225, R233). -/
def State.rollOver (s : State) (f : Nat) : Bool :=
  let w := s.rd (Reg.RC_CTRL f)
  s.bandless f || !bit w 0 || bit w 4 || bit w 2 || decide (s.rcDone f = s.rcNT f)

/-- DN and UP of a dealt index (R223). -/
def State.rollFlags (s : State) (f l i : Nat) : Nat :=
  let e := s.rcLanes f
  let at_ (j : Nat) := e.getD (j % e.length) 32
  (if 1 ≤ i ∧ at_ (i - 1) = (l + 31) % 32 then 2 ^ 16 else 0) +
  (if i + 1 < s.rcNT f ∧ at_ (i + 1) = (l + 1) % 32 then 2 ^ 17 else 0)

/-- The lane holds one more tile; `fresh` for an index never dealt before. -/
def State.rollGive (s : State) (f l i : Nat) (fresh : Bool) : State :=
  let x := s.form f
  let held := mapGet (fun _ => []) x.held l
  let x := { x with held := mapSet (fun _ => []) x.held l (held ++ [i])
                    dealt := putBit x.dealt i true }
  let s := s.setForm f x
  if fresh then s.wrF (Reg.RC_PROG f) 28 16 (s.rdF (Reg.RC_PROG f) 28 16 + 1) else s

/-- One ROLL of a lane (R222 to R225): the result word, or none while it waits. -/
def State.rollDraw (s : State) (f l : Nat) : Option Word × State :=
  let x := s.form f
  if x.shape.isSome then (none, s)
  else if s.rollOver f then
    (some 0xFFFFFFFF#32, s)
  else if 4 ≤ (mapGet (fun _ => []) x.held l).length then (none, s)
  else if s.rcDeal f then
    let e := s.rcLanes f
    let m := mapGet (fun _ => 0) x.draws l
    let i := m * e.length + (e.filter (fun k => decide (k < l))).length
    if e.contains l && decide (i < s.rcNT f) && !Nat.testBit x.dealt i then
      let s' := s.setForm f { x with draws := mapSet (fun _ => 0) x.draws l (m + 1) }
      (some (BitVec.ofNat 32 (i + s.rollFlags f l i)), s'.rollGive f l i true)
    else (none, s)
  else
    match x.reissue with
    | i :: rest =>
      let s' := (s.setForm f { x with reissue := rest }).wrF (Reg.RC_REISSUE f) 7 0 rest.length
      (some (BitVec.ofNat 32 (i + 2 ^ 18)), s'.rollGive f l i false)
    | [] =>
      match (List.range (s.rcNT f)).find? (fun i => !Nat.testBit x.dealt i) with
      | some i => (some (BitVec.ofNat 32 i), s.rollGive f l i true)
      | none => (none, s)

/-- A scalar register written; writes to g0 are discarded (R65). -/
def Core.setG (k : Core) (r : Nat) (v : Word) : Core :=
  if r = 0 then k else { k with g := mapSet (fun _ => 0) k.g r v }

/-- A predicate written; writes to p0 are discarded (R65). -/
def Core.setP (k : Core) (r : Nat) (b : Bool) : Core := if r = 0 then k else { k with p := setBit k.p r b }

/-- The result of a ROLL goes to its registers: p[PD] says exhausted (R222). -/
def State.rollResult (s : State) (c gd pd : Nat) (w : Word) : State :=
  s.setCore c (((s.core c).setG gd w).setP pd (decide (w = 0xFFFFFFFF#32)))

/-- The waiting ROLLs of a form tried in ascending lane order (R224). -/
def State.rollServe (s : State) (f : Nat) : State :=
  (List.range 32).foldl (fun s l =>
    match (s.form f).rolls.find? (fun r => decide (r.core = 32 * f + l)) with
    | none => s
    | some r =>
      match s.rollDraw f l with
      | (some w, s') =>
        let x := s'.form f
        (s'.setForm f { x with rolls := x.rolls.filter (fun q => decide (q ≠ r)) }).rollResult r.core r.gd r.pd w
      | (none, s') => s') s

/-- A ROLL issues: it waits behind the counter and takes its result as soon as there is one (R225). -/
def State.rollIssue (s : State) (c gd pd : Nat) : State :=
  let f := c / 32
  let x := s.form f
  (s.setForm f { x with rolls := x.rolls ++ [⟨c, gd, pd⟩] }).rollServe f

/-- The armed band is complete (R216): the counter is exhausted (R225); its completion stamp, its record COMPLETE, or LATE_DONE after the check (R276). -/
def State.bandDone (s : State) (f : Nat) : State :=
  let p := s.rdF (Reg.RC_BAND f) 17 16
  let b := s.rdF (Reg.RC_BAND f) 15 0
  let s := s.wrF (Reg.RC_CTRL f) 2 2 1
  let s := s.wr64 (Reg.RC_DONE_RTS_LO f) (Reg.RC_DONE_RTS_HI f) (s.rtsNow (s.pipe p).raster)
  let r := s.bandRec p b
  if r.tframe = s.rd (Reg.RC_TFRAME f) ∧ r.nstate = .armed then
    if r.sel = .none then s.setBandRec p b { r with nstate := .complete }
    else (s.setBandRec p b { r with nstate := .lateDone }).countErr (Reg.DLN_Pp_LATEDONE p)
  else s

/-- A TDONE is recorded (R226): it counts only for an index outstanding on its lane. -/
def State.tdoneRecord (s : State) (c i : Nat) : State :=
  let f := c / 32
  let l := c % 32
  let x := s.form f
  let held := mapGet (fun _ => []) x.held l
  if bit (s.rd (Reg.RC_CTRL f)) 0 && decide (i < s.rcNT f) && held.contains i && !Nat.testBit x.complete i then
    let s := s.setForm f { x with held := mapSet (fun _ => []) x.held l (held.erase i)
                                  complete := putBit x.complete i true }
    let s := s.wrF (Reg.RC_PROG f) 12 0 (s.rcDone f + 1)
    let s := if s.rcDone f = s.rcNT f ∧ !bit (s.rd (Reg.RC_CTRL f)) 4 then s.bandDone f else s
    s.rollServe f
  else s.countErr (Reg.RC_ERR f)

/-- The lane of a core leaves the counter (R227): its tiles are reissued, a DEAL band switches to DRAW. -/
def State.laneRelease (s : State) (c : Nat) : State :=
  let f := c / 32
  let l := c % 32
  let x := s.form f
  let mine := (mapGet (fun _ => []) x.held l).mergeSort (fun a b => decide (a ≤ b))
  let x := { x with reissue := x.reissue ++ mine, held := mapSet (fun _ => []) x.held l [] }
  let s := s.setForm f x
  let s := s.wrF (Reg.RC_REISSUE f) 7 0 x.reissue.length
  let s := if bit (s.rd (Reg.RC_CTRL f)) 0 && s.rcDeal f then s.wrF (Reg.RC_CTRL f) 3 3 1 else s
  s.rollServe f

/-- A tile core is in service: neither it nor its form is retired (R227, R287), and an array of it works. -/
def State.coreLive (s : State) (c : Nat) : Bool :=
  !(s.core c).retired && !(mapGet (fun _ => ({} : FormTier)) s.formTiers (c / 32)).retired &&
  !((s.fuses.arraysOff.contains (2 * c) || (s.core c).lostArrays % 2 = 1) &&
    (s.fuses.arraysOff.contains (2 * c + 1) || (s.core c).lostArrays / 2 % 2 = 1))

/-- Lanes of a form in service, as a mask. -/
def State.liveLanes (s : State) (f : Nat) : Nat :=
  (List.range 32).foldl (fun m l => if s.coreLive (32 * f + l) then m + 2 ^ l else m) 0

/-- The record of the armed band closes (R216, R274): ARMED becomes CLOSED. -/
def State.closeBand (s : State) (f : Nat) : State :=
  let x := s.form f
  if x.open_ then
    let p := s.rdF (Reg.RC_BAND f) 17 16
    let b := s.rdF (Reg.RC_BAND f) 15 0
    let r := s.bandRec p b
    let s := s.setForm f { x with open_ := false }
    if r.tframe = s.rd (Reg.RC_TFRAME f) ∧ r.nstate = .armed then s.setBandRec p b { r with nstate := .closed } else s
  else s

/-- TDONEs of the previous band that are not recorded yet are discarded and counted (R221). -/
def State.dropTdones (s : State) (f : Nat) : State :=
  (List.range 32).foldl (fun s l =>
    let c := 32 * f + l
    let k := s.core c
    if k.tdones.isEmpty then s
    else (List.replicate k.tdones.length ()).foldl (fun s _ => s.countErr (Reg.RC_ERR f)) (s.setCore c { k with tdones := [] })) s

/-- The number of tiles is known (R221, R233): a band with NT = 0 is complete in the cycle of its arm. -/
def State.armTiles (s : State) (f nt : Nat) : State :=
  let s := s.wr (Reg.RC_NT f) (BitVec.ofNat 32 nt)
  let s := if nt = 0 then s.bandDone f else s
  s.rollServe f

/-- A run-time shape that cannot be taken (R233). -/
def State.shapeFail (s : State) (f : Nat) : State :=
  ((s.wrF (Reg.RC_CTRL f) 4 4 1).wr (Reg.RC_NT f) 4096).rollServe f

/-- The roll counter of a form is armed for a band (R221, R274). `shape` is the shape word's address and House. -/
def State.armCounter (s : State) (f p b : Nat) (target : Word) (deal : Bool) (nt : Nat) (shape : Option (Nat × Nat))
    (tier : Nat) : State :=
  let s := (s.closeBand f).dropTdones f
  let s := s.wr (Reg.RC_BAND f) (BitVec.ofNat 32 (p * 2 ^ 16 + b))
  let s := s.wr (Reg.RC_TFRAME f) target
  let s := s.wr (Reg.RC_CTRL f) (BitVec.ofNat 32 (1 + 2 * deal.toNat))
  let s := (s.wr (Reg.RC_NT f) 0).wr (Reg.RC_PROG f) 0
  let s := s.wr (Reg.RC_LANES f) (BitVec.ofNat 32 (s.liveLanes f))
  let s := s.wr (Reg.RC_REISSUE f) 0
  let s := { s with noBand := mapSet (fun _ => false) s.noBand f false }
  let s := s.setForm f { rolls := (s.form f).rolls, shape := shape, open_ := true }
  let r := s.bandRec p b
  let s := s.setBandRec p b { r with tframe := target, tier := tier, nstate := .armed, sstate := .none, sel := .none }
  if shape.isSome then s else s.armTiles f nt

end Sys2Proof.Machine
end

