-- ==== Sys2Proof/Machine/CoreReg.lean ====
section
/-! DEFINITION. Tile-core registers, CSRs and array state registers (R65, R66, R87), guards, outstanding registers (R71, R73) and
taking a fault (R94). -/
namespace Sys2Proof.Machine

/-- g[r]; g0 reads 0. -/
def Core.G (k : Core) (r : Nat) : Word := if r = 0 then 0 else mapGet (fun _ => 0) k.g r
/-- v[r]. -/
def Core.V (k : Core) (r : Nat) : VWord := mapGet (fun _ => 0) k.v r
/-- p[r]; p0 reads 1. -/
def Core.P (k : Core) (r : Nat) : Bool := if r = 0 then true else bit k.p r
/-- v[r] written. -/
def Core.setV (k : Core) (r : Nat) (x : VWord) : Core := { k with v := mapSet (fun _ => 0) k.v r x }
/-- A plain CSR. -/
def Core.C (k : Core) (n : Nat) : Word := mapGet (fun _ => 0) k.csr n
/-- A plain CSR written. -/
def Core.setC (k : Core) (n : Nat) (w : Word) : Core := { k with csr := mapSet (fun _ => 0) k.csr n w }

/-- A slot executes (R69): p[PG] XOR PN. -/
def Core.guard (k : Core) (w : SlotW) : Bool := k.P (sPG w) ^^ sPN w

/-- Sticky flags ORed into FFLAGS. -/
def Core.orFlags (k : Core) (f : Flags) : Core := k.setC 8 (k.C 8 ||| BitVec.ofNat 32 f.toNat)

/-- A function of a core applied in the state. -/
def State.onCore (s : State) (c : Nat) (f : Core → Core) : State := s.setCore c (f (s.core c))

/-! ### Arrays -/

/-- An array of a core. -/
def Core.arr (k : Core) (a : Nat) : Arr := if a = 0 then k.m0 else k.m1
/-- An array of a core replaced. -/
def Core.setArr (k : Core) (a : Nat) (x : Arr) : Core := if a = 0 then { k with m0 := x } else { k with m1 := x }
/-- A function of an array applied in the state. -/
def State.onArr (s : State) (c a : Nat) (f : Arr → Arr) : State := s.onCore c (fun k => k.setArr a (f (k.arr a)))

/-- The reset values of Table 3.11. -/
def aReset (r : Nat) : Word :=
  if r = 0 then 1#32 else if r = 3 then 0x7FFF8000#32 else if r = 4 then 0x80#32
  else if 0x10 ≤ r ∧ r ≤ 0x2F then 0x3F800000#32 else 0

/-- An array state register as the commands see it. -/
def Arr.reg (x : Arr) (r : Nat) : Word := mapGet aReset x.regs r
/-- The issue-side copy (R99). -/
def Arr.ireg (x : Arr) (r : Nat) : Word := mapGet aReset x.issueRegs r
/-- An array state register written. -/
def Arr.setReg (x : Arr) (r : Nat) (w : Word) : Arr := { x with regs := mapSet aReset x.regs r w }
/-- The issue-side copy written. -/
def Arr.setIreg (x : Arr) (r : Nat) (w : Word) : Arr := { x with issueRegs := mapSet aReset x.issueRegs r w }

/-- Array a of core c is in service. -/
def State.arrayOn (s : State) (c a : Nat) : Bool :=
  !s.fuses.arraysOff.contains (2 * c + a) && !Nat.testBit (s.core c).lostArrays a
/-- Single-array mode (R88). -/
def State.fold (s : State) (c : Nat) : Bool := s.arrayOn c 0 ^^ s.arrayOn c 1
/-- The array that runs the commands of queue a. -/
def State.physArray (s : State) (c a : Nat) : Nat := if s.fold c then (if s.arrayOn c 0 then 0 else 1) else a

/-- The bits that an MSR of a register keeps: reserved bits read 0 (Table 3.11). -/
def aMask (r : Nat) : Word :=
  if r = 0 then 0x0000FFF1#32 else if r = 1 then 0 else if r = 2 then 0x0000FFFF#32
  else if r = 4 then 0x00FFFFFF#32 else if r = 5 then 0x000001FF#32 else 0xFFFFFFFF#32

/-- The register after an MSR of a value: A_STATUS.SATF clears by writing 1. -/
def aWritten (r : Nat) (old v : Word) : Word :=
  if r = 1 then (if bit v 7 then setBit old 7 false else old) else v &&& aMask r

/-- A_STATUS as read (Table 3.11). -/
def State.aStatus (s : State) (c a : Nat) (x : Arr) : Word :=
  let w := setFld (x.reg 1) 5 3 x.queue.length
  let w := setBit w 2 (!x.running.isEmpty)
  setBit w 6 (s.fold c && !s.arrayOn c a)

/-- An array state register as an MRS reads it. -/
def State.aRead (s : State) (c a r : Nat) : Word :=
  let x := (s.core c).arr a
  if !aRegListed r then 0 else if r = 1 then s.aStatus c a x else x.reg r

/-! ### CSRs -/

/-- A CSR that Table 3.1 lists. -/
def csrListed (n : Nat) : Bool :=
  n ≤ 6 || n = 8 || n = 9 || n = 0xA || (0x10 ≤ n && n ≤ 0x13) || (0x18 ≤ n && n ≤ 0x1F) || n = 0x20

/-- The low half of a 48-bit counter. -/
def csrIsLo (n : Nat) : Bool := n = 0x18 || n = 0x1A || n = 0x1C || n = 0x1E

/-- The live value of a CSR. -/
def State.csrLive (s : State) (c n : Nat) : Word :=
  let k := s.core c
  if n = 0 then BitVec.ofNat 32 c
  else if n = 2 then
    BitVec.ofNat 32 ((s.arrayOn c 0).toNat + 2 * (s.arrayOn c 1).toNat + 4 * (s.fold c).toNat)
  else if n = 6 then setBit (k.C 6) 0 k.idle
  else if csrListed n then k.C n else 0

/-- A CSR read: the upper half of a counter returns the snapshot that the read of its lower half took (R58, R66). -/
def State.csrRead (s : State) (c n : Nat) : Word × State :=
  let k := s.core c
  if csrIsLo n then
    (s.csrLive c n, s.setCore c { k with snap := mapSet (fun _ => none) k.snap (n + 1) (some (k.C (n + 1))) })
  else
    match mapGet (fun _ => none) k.snap n with
    | some w => (w, s.setCore c { k with snap := mapSet (fun _ => none) k.snap n none })
    | none => (s.csrLive c n, s)

/-- BAR0 offset of a CSR in the core's TCD window (Table 15.10). -/
def csrOffset (c n : Nat) : Nat := 0x1000000 + 0x2000 * c + 4 * n

/-- A 48-bit counter of a core advanced; a wrap posts PERF_WRAP (R66, R409). -/
def State.csrCount (s : State) (c lo n : Nat) : State :=
  let k := s.core c
  let v := (k.C lo).toNat + 2 ^ 32 * (k.C (lo + 1)).toNat + n
  let s := s.setCore c ((k.setC lo (BitVec.ofNat 32 v)).setC (lo + 1) (BitVec.ofNat 32 (v / 2 ^ 32 % 2 ^ 16)))
  if v < 2 ^ 48 then s else s.postAll [0, k.house] 0x16 0 none [csrOffset c lo]

/-- A corrected error counted in CORE_ECC (R162). -/
def State.coreEcc (s : State) (c n : Nat) : State :=
  (List.replicate n ()).foldl (fun s _ => s.onCore c (fun k => k.setC 0x20 (bumpErr (k.C 0x20)))) s

/-! ### Registers that are outstanding (R71, R73) -/

/-- Registers that an MRS has still to write. -/
def Arr.mrsRegs (x : Arr) : List Nat :=
  (x.queue.map (·.op) ++ x.running.map (·.op)).filterMap (fun o => match o with
    | .mrs gd _ => some gd
    | _ => none)

/-- Registers with a write outstanding: loads, MRS, ROLL, MVL. -/
def State.busyRegs (s : State) (c : Nat) : RegSet :=
  let k := s.core c
  let rs := (s.form (c / 32)).rolls.filter (fun r => decide (r.core = c))
  { g := k.loads.filterMap (fun l => match l.dest with
          | .scalar g _ => some g
          | _ => none) ++ k.m0.mrsRegs ++ k.m1.mrsRegs ++ rs.map (·.gd)
    v := k.loads.filterMap (fun l => match l.dest with
          | .scalar _ _ => none
          | .vector v => some v
          | .splat v => some v) ++ k.lane.flatMap (fun l => (List.range l.n).map (l.vd + ·))
    p := rs.map (·.pd) }

/-- A register set meets another; g0 and p0 are never outstanding. -/
def RegSet.meets (a b : RegSet) : Bool :=
  a.g.any (fun r => r ≠ 0 && b.g.contains r) || a.v.any (b.v.contains ·) || a.p.any (fun r => r ≠ 0 && b.p.contains r)

/-! ### Taking a fault (R94) -/

/-- The fault record written, or MULTI set when one is held. -/
def Core.record (k : Core) (f : CoreFault) (slot pc : Nat) : Core :=
  if bit (k.C 0x10) 31 then k.setC 0x10 (setBit (k.C 0x10) 30 true)
  else
    (((k.setC 0x10 (BitVec.ofNat 32 (2 ^ 31 + slot * 2 ^ 8 + f.cause))).setC 0x11 (BitVec.ofNat 32 pc)).setC 0x12
      (BitVec.ofNat 32 f.info)).setC 0x13 (BitVec.ofNat 32 f.addr)

/-- A core takes a fault at a bundle: it stops issuing until the next PROG_START. -/
def State.takeFault (s : State) (c : Nat) (f : CoreFault) (slot pc : Nat) : State :=
  let k := (s.core c).record f slot pc
  (s.setCore c { k with stopped := true, respond := true, waits := [] }).unwait (.core c)

end Sys2Proof.Machine
end

