-- ==== Sys2Proof/Machine/Scalar.lean ====
section
/-! DEFINITION. What the scalar slots do (R81, Table 3.6): S0 and S1 of a bundle. Every slot reads the core `k` as it was before
the bundle (R72). -/
namespace Sys2Proof.Machine

/-- Leading zeros of a word, 32 for 0. -/
def clz (x : Word) : Nat := if x = 0 then 32 else 31 - Nat.log2 x.toNat
/-- Set bits of a word. -/
def popc (x : Word) : Nat := ((List.range 32).filter (bit x)).length

/-- The signed sum clamped to INT32, and whether it clamped (ADDS). -/
def satAdd (a b : Word) : Word × Bool :=
  let t := a.toInt + b.toInt
  let r := clampI (-2147483648) 2147483647 t
  (ofI 32 r, decide (r ≠ t))

/-- The result of an ALU operation by OP, on the sources a and b (Table 3.6). -/
def aluOp (op : Nat) (a b : Word) : Word :=
  match op with
  | 0x01 | 0x10 => a + b
  | 0x02 => a - b
  | 0x03 | 0x11 => a &&& b
  | 0x04 | 0x12 => a ||| b
  | 0x05 | 0x13 => a ^^^ b
  | 0x06 | 0x14 => a <<< (b.toNat % 32)
  | 0x07 | 0x15 => a >>> (b.toNat % 32)
  | 0x08 | 0x16 => a.sshiftRight (b.toNat % 32)
  | 0x09 | 0x18 => a * b
  | 0x0A => ofI 32 (a.toInt * b.toInt / 4294967296)
  | 0x0B => BitVec.ofNat 32 (a.toNat * b.toNat / 2 ^ 32)
  | 0x0C => if a.toInt ≤ b.toInt then a else b
  | 0x0D => if a.toInt ≤ b.toInt then b else a
  | 0x0E => if a.toNat ≤ b.toNat then a else b
  | 0x0F => if a.toNat ≤ b.toNat then b else a
  | 0x17 => b
  | 0x19 => (satAdd a b).1
  | 0x1A => BitVec.ofNat 32 (clz a)
  | 0x1B => BitVec.ofNat 32 (popc a)
  | _ => 0

/-- COND of CMP (Table 3.5). -/
def cmpCond (c : Nat) (a b : Word) : Bool :=
  match c with
  | 0 => decide (a = b)
  | 1 => decide (a ≠ b)
  | 2 => decide (a.toInt < b.toInt)
  | 3 => decide (b.toInt ≤ a.toInt)
  | 4 => decide (a.toNat < b.toNat)
  | _ => decide (b.toNat ≤ a.toNat)

/-- The second source of an ALU operation: a register in format R, IMM in format I. -/
def aluB (k : Core) (w : SlotW) : Word := if isR2 (sOp w) then k.G (sC w) else BitVec.ofNat 32 (sImm w)

/-- OP is an ALU operation that writes g[GD]. -/
def isAlu (op : Nat) : Bool := isR2 op || (0x10 ≤ op && op ≤ 0x18) || op = 0x1A || op = 0x1B

/-- What an executing scalar slot faults with (R66). -/
def scalarCheck (w : SlotW) : Option CoreFault :=
  let n := fld w 11 0
  if (sOp w = 0x28 ∧ !csrListed n) ∨ (sOp w = 0x29 ∧ n ≠ 8) then some ⟨0x08, n, 0⟩ else none

/-- An ALU slot's effect: g[GD], and FFLAGS.SAT when ADDS clamps. -/
def aluRun (k : Core) (w : SlotW) (x : Core) : Core :=
  let a := k.G (sB w)
  let b := aluB k w
  let x := x.setG (sA w) (aluOp (sOp w) a b)
  if sOp w = 0x19 ∧ (satAdd a b).2 then x.orFlags flSAT else x

/-- CMP's effect: p[PD]. -/
def cmpRun (k : Core) (w : SlotW) (x : Core) : Core :=
  x.setP (fld w 53 51)
    (cmpCond (fld w 38 36) (k.G (sB w)) (if bit w 35 then BitVec.ofNat 32 (sImm w) else k.G (sC w)))

/-- CSRR's effect. -/
def State.csrrRun (s : State) (c : Nat) (w : SlotW) : State :=
  let (v, s) := s.csrRead c (fld w 11 0)
  s.onCore c (fun x => x.setG (sA w) v)

/-- CSRW's effect: FFLAGS is the one CSR that can be written. -/
def csrwRun (k : Core) (w : SlotW) (x : Core) : Core := x.setC 8 (k.G (sB w) &&& 0x1F#32)

/-- BRL's link register: the address of this bundle + 1. -/
def brlRun (k : Core) (w : SlotW) (x : Core) : Core := x.setG (sA w) (BitVec.ofNat 32 (k.pc + 1))

/-- The target of an executing branch slot (R79). -/
def branchTarget (k : Core) (w : SlotW) : Nat := if sOp w = 0x32 then fld (k.G (sB w)) 12 0 else fld w 12 0

/-- The effect of an executing scalar slot; CSRW runs before the other slots, so that flags set in the same bundle stay. -/
def State.scalarRun (s : State) (k : Core) (c : Nat) (w : SlotW) : State :=
  let op := sOp w
  if isAlu op then s.onCore c (aluRun k w)
  else if op = 0x20 then s.onCore c (cmpRun k w)
  else if op = 0x28 then s.csrrRun c w
  else if op = 0x31 then s.onCore c (brlRun k w)
  else s

end Sys2Proof.Machine
end

