-- ==== Sys2Proof/Machine/Golile.lean ====
section
/-! DEFINITION. The Golile codec (R261, R262): blocks of 16 values, 8 elements on each of 2 lines. -/
namespace Sys2Proof.Machine

/-- Bits per value of a rate of 8-bit values: 1 is 1/2, 2 is 3/8, 3 is 1/4 (Table 9.7). -/
def golBits (rate : Nat) : Nat := if rate = 1 then 3 else if rate = 2 then 2 else 1

/-- The code of a drained byte of output type t (R262): INT8 and FP8 bytes are mapped so that codes keep the order. -/
def golCode (t x : Nat) : Nat :=
  if t = 0x0 then x ^^^ 0x80
  else if t = 0x6 ∨ t = 0x7 then (if x < 0x80 then x ^^^ 0x80 else x ^^^ 0xFF)
  else x

/-- The value of a code (the inverse of golCode). -/
def golValue (t x : Nat) : Nat :=
  if t = 0x0 then x ^^^ 0x80
  else if t = 0x6 ∨ t = 0x7 then (if 0x80 ≤ x then x ^^^ 0x80 else x ^^^ 0xFF)
  else x

/-- q of a code under a shift. -/
def golQ (mn sh x : Nat) : Nat := (x - mn + (if sh = 0 then 0 else 2 ^ (sh - 1))) / 2 ^ sh

/-- The least shift at which every q fits in b bits. -/
def golShift (w b mn : Nat) (xs : List Nat) : Nat :=
  ((List.range (w + 1)).find? (fun s => xs.all (fun x => decide (golQ mn s x < 2 ^ b)))).getD w

/-- The digits of b bits as one number, lowest first. -/
def packBits (b : Nat) : List Nat → Nat
  | [] => 0
  | x :: xs => x % 2 ^ b + 2 ^ b * packBits b xs

/-- Bytes of a block: a header of 16 bits and 16 values. -/
def golSize (b : Nat) : Nat := 2 + 2 * b

/-- A block encoded: `w` is the width of the codes, 8 or 10. -/
def golEncode (w b : Nat) (xs : List Nat) : List (BitVec 8) :=
  let mn := xs.foldl min (2 ^ w - 1)
  let sh := golShift w b mn xs
  leBytes (golSize b) (mn + sh * 2 ^ w + 2 ^ 16 * packBits b (xs.map (golQ mn sh)))

/-- A block decoded to its 16 codes. -/
def golDecode (w b : Nat) (bs : List (BitVec 8)) : List Nat :=
  let n := leNat bs
  let mn := n % 2 ^ w
  let sh := min w (n / 2 ^ w % 16)
  (List.range 16).map (fun i => min (mn + (n / 2 ^ (16 + b * i) % 2 ^ b) * 2 ^ sh) (2 ^ w - 1))

end Sys2Proof.Machine
end

