-- ==== Sys2Proof/Machine/Locker.lean ====
section
/-! DEFINITION. What the Locker slot does (R74, R82, R163, R178, R181): S2 of a bundle. -/
namespace Sys2Proof.Machine

/-- The byte offset of an S2 access. -/
def s2Ofs (k : Core) (w : SlotW) : Nat := (k.G (sB w) + BitVec.ofNat 32 (sImm w)).toNat
/-- H of S2. -/
def s2H (w : SlotW) : Nat := fld w 43 38

/-- The key of a Locker byte. -/
def lockerKey (c a : Nat) : Nat := c * 65536 + a

/-- What an executing S2 slot faults with: R178, then MEM_ECC for a Locker load (Table 6.3). -/
def State.lockerCheck (s : State) (k : Core) (c : Nat) (w : SlotW) : Option CoreFault :=
  let op := sOp w
  if op = 0 ∨ op = 5 then none
  else
    let n := sSize w
    let a := s2Ofs k w
    match s.checkHandle k (s2H w) [0, 1, 2] (op = 3) n a n with
    | some f => some f
    | none =>
      let e := k.handle (s2H w)
      if op ≠ 3 ∧ e.kind = 0 then
        (s.firstBad .locker (lockerKey c (e.base + a)) n).map (fun b => ⟨0x0A, 0, (b % 65536) / 64 * 64⟩)
      else none

/-- The bytes of a load in their destination register. -/
def Core.loadTo (k : Core) (d : LoadDest) (bs : List Byte) : Core :=
  match d with
  | .scalar g signed =>
    k.setG g (if signed then ofI 32 (sgn (8 * bs.length) (leNat bs)) else BitVec.ofNat 32 (leNat bs))
  | .vector v => k.setV v (bytesV bs)
  | .splat v => k.setV v (vSplat (8 * bs.length) (leNat bs))

/-- The destination of a load slot. -/
def loadDest (w : SlotW) : LoadDest :=
  if sOp w = 4 then .splat (sA w)
  else if sSize w = 128 then .vector (sA w)
  else .scalar (sA w) (sOp w = 2)

/-- The bytes that a store slot writes. -/
def storeBytes (k : Core) (w : SlotW) : List Byte :=
  if sSize w = 128 then vBytes (k.V (sA w)) else leBytes (sSize w) (k.G (sA w)).toNat

/-- A narrow S2 access needs a gather entry and all eight are load entries (R181). -/
def State.gatherStall (s : State) (k : Core) (c : Nat) (w : SlotW) : Bool :=
  let op := sOp w
  let e := k.handle (s2H w)
  let key := (decide (e.kind = 2), (e.base + s2Ofs k w) / 64 * 64)
  (op = 1 || op = 2 || op = 3 || op = 4) && sSize w ≠ 128 && (e.kind = 1 || e.kind = 2) &&
    !(k.loadLines.contains key && op ≠ 3) && decide (8 ≤ (s.core c).loadLines.length)

/-- A load from a Library or Shelf buffer goes out: the store entries of its lines go first, and a narrow one that joins no entry takes
one (R181). -/
def State.loadOut (s : State) (k : Core) (c : Nat) (w : SlotW) : State :=
  let e := k.handle (s2H w)
  let a := e.base + s2Ofs k w
  let n := sSize w
  let s := (linesOf a n).foldl (fun s x => s.flushEntry c (e.kind = 2) x) s
  let s := if n ≠ 128 && !(s.core c).loadLines.contains (decide (e.kind = 2), a / 64 * 64) then s.gatherRoom c else s
  let s := if e.kind = 2 then (linesOf a n).foldl (fun s x => s.shelfLookup k.house x) s else s
  s.onCore c (fun x => { x with loads := x.loads ++
    [{ shelf := e.kind = 2, house := k.house, addr := a, size := n, dest := loadDest w, data := none }] })

/-- A store to a Locker. -/
def State.lockerStore (s : State) (c a : Nat) (bs : List Byte) : State := s.store .locker (lockerKey c a) bs

/-- The effect of an executing S2 slot. -/
def State.lockerRun (s : State) (k : Core) (c : Nat) (w : SlotW) : State :=
  let op := sOp w
  let e := k.handle (s2H w)
  let a := e.base + s2Ofs k w
  let n := sSize w
  if op = 0 then s
  else if op = 5 then
    if e.v && e.kind = 2 && e.house = k.house && decide (s2Ofs k w < e.size) &&
        (s.firstUnmapped k.house a 1).isNone && decide (s.slotBank k.house (a / 64 % 64) < 512) then
      if s.hasLine k.house (a / 64 * 64) then s else s.askFill k.house (a / 64 * 64)
    else s
  else if op = 3 then
    let bs := storeBytes k w
    if e.kind = 0 then s.lockerStore c a bs
    else if n = 128 then
      let s := (linesOf a n).foldl (fun s x => s.flushEntry c (e.kind = 2) x) s
      (s.coreWrite c (e.kind = 2) k.house a (bs.take 64)).coreWrite c (e.kind = 2) k.house (a + 64) (bs.drop 64)
    else s.gatherStore c (e.kind = 2) k.house a bs
  else if e.kind = 0 then
    let key := lockerKey c a
    (s.coreEcc c (s.corrected .locker key n)).onCore c (fun x => x.loadTo (loadDest w) (s.load .locker key n))
  else s.loadOut k c w

/-- The oldest load of a core returns its data (LOAD_RETURN): a failing Library word holds MEM_ECC on its register
(R163), and a shelf line that missed is filled first (R171). -/
def State.loadReturn (s : State) (c i : Nat) : State :=
  let k := s.core c
  match k.loads[i]? with
  | none => s
  | some l =>
    let lines := linesOf l.addr l.size
    let busy := !l.shelf && lines.any (fun x => s.bankBusy (bankOf x))
    if busy ∧ l.data.isNone then s
    else
      let s := if l.shelf ∧ l.data.isNone then lines.foldl (fun s x => s.shelfFill l.house x) s else s
      let where_ := if l.shelf then s.lineLib l.house l.addr else l.addr
      let bs := l.data.getD (s.loadBytes l)
      let bad := if l.data.isSome then none else s.firstBad .lib where_ (min l.size 64)
      let bad := if bad.isNone ∧ l.data.isNone ∧ l.size = 128 then
          s.firstBad .lib (if l.shelf then s.lineLib l.house (l.addr + 64) else l.addr + 64) 64
        else bad
      let s := s.onCore c (fun x => { x with loads := x.loads.eraseIdx i })
      match bad with
      | some b =>
        let s := s.libError true b
        let key := match l.dest with
          | .scalar g _ => (false, g)
          | .vector v => (true, v)
          | .splat v => (true, v)
        s.onCore c (fun x => { x with regFault := x.regFault ++ [(key.1, key.2, b / 64 * 64)] })
      | none =>
        let s := if l.shelf && decide (l.size = 128) then (s.libCorrected where_ 64).libCorrected (s.lineLib l.house (l.addr + 64)) 64
          else s.libCorrected where_ l.size
        s.onCore c (fun x => x.loadTo l.dest bs)

end Sys2Proof.Machine
end

