-- ==== Sys2Proof/Machine/Matrix.lean ====
section
/-! DEFINITION. What the matrix slots do (R86 to R88, R96 to R121, R126 to R128): checks at issue, the command queues, the start
and the completion of an array command. -/
namespace Sys2Proof.Machine

/-! ### Issue -/

/-- KIND and fields of a fused step are legal (R116, Table 4.5). -/
def dstepLegal (w : Word) : Bool :=
  let kind := fld w 31 28
  decide (kind ≤ 8) && decide (fld w 21 16 = 0) &&
  (if kind = 0 then decide (fld w 27 22 = 0) && decide (fld w 15 0 = 0)
   else if kind = 2 then decide (fld w 15 8 = 0)
   else if kind = 3 || kind = 4 then true
   else decide (fld w 27 22 = 0))

/-- A value that an MSR may write to a register (R87, R97, R98, R116). -/
def msrLegal (r : Nat) (v : Word) : Bool :=
  if r = 0 then (arrCfg v).legal
  else if r = 1 then decide (v &&& ~~~0x80#32 = 0)
  else if r = 5 then
    let o := fld v 3 0
    (o ≤ 4 || (6 ≤ o && o ≤ 0xA)) && decide (fld v 8 6 ≤ 6) && (fld v 5 4 = 0 || o = 0 || o = 1 || o = 6 || o = 7)
  else if 8 ≤ r ∧ r ≤ 0xD then dstepLegal v
  else true

/-- The value of an MSR. -/
def msrValue (k : Core) (w : SlotW) : Word := if bit w 53 then BitVec.ofNat 32 (sImm w) else k.G (fld w 52 48)
/-- COUNT of an MSTREAM. -/
def streamCount (k : Core) (w : SlotW) : Nat := if bit w 53 then fld (k.G (fld w 52 48)) 15 0 else fld w 15 0

/-- The steps in use that read a residual, by handle (R117). -/
def resHandles (x : Arr) (rd : Arr → Nat → Word) : List Nat :=
  (List.range (fld (rd x 5) 8 6)).filterMap (fun i =>
    let d := rd x (8 + i)
    if fld d 31 28 = 3 ∨ fld d 31 28 = 4 then some (fld d 27 22) else none)

/-- The destination and residual ranges of n drained rows or records (R86, R117, R167). -/
def State.drainCheck (s : State) (k : Core) (x : Arr) (n : Nat) : Option CoreFault :=
  let len := n * fld (x.ireg 4) 23 0
  match s.checkHandle k x.issueDst.1 [0, 1] true 1 x.issueDst.2 len with
  | some f => some f
  | none => (resHandles x Arr.ireg).findSome? (fun h => s.checkHandle k h [0] false 1 x.issueDst.2 len)

/-- ILLEGAL_OP of a slot word (Table 3.15). -/
def illegalOp (w : SlotW) : CoreFault := ⟨0x01, w.toNat / 2 ^ 32, w.toNat % 2 ^ 32⟩

/-- QMASK names problems of the mode (R109). -/
def qmaskOk (mode q : Nat) : Bool :=
  if mode = 0 then q = 0 else if mode = 1 then 1 ≤ q && q ≤ 3 else 1 ≤ q && q ≤ 15

/-- What an executing matrix slot of array a faults with at its issue. -/
def State.matrixCheck (s : State) (k : Core) (a : Nat) (w : SlotW) : Option CoreFault :=
  let x := k.arr a
  let cfg := arrCfg (x.ireg 0)
  let codec := fld (x.ireg 5) 5 4
  let arow := fld w 40 36
  let badRow : Bool := cfg.split && decide (16 ≤ arow)
  match sOp w with
  | 0x02 =>
    let acc := fld w 35 34
    let n := streamCount k w
    if !qmaskOk cfg.mode (fld w 33 30) || badRow || (cfg.split && acc = 2) ||
        (decide (2 ≤ acc) && codec ≠ 0 && cfg.mode ≠ 2 && n % 2 = 1) then some (illegalOp w)
    else if 2 ≤ acc then s.drainCheck k x n else none
  | 0x03 =>
    s.checkHandle k (fld w 53 48) [0, 1] true 1 (k.G (fld w 47 43) + BitVec.ofNat 32 (fld w 23 0)).toNat 0
  | 0x04 =>
    let n := fld w 35 31 + 1
    if badRow || (codec ≠ 0 && n % 2 = 1) then some (illegalOp w) else s.drainCheck k x n
  | 0x05 => if badRow then some (illegalOp w) else none
  | 0x06 =>
    let r := fld w 47 40
    let v := msrValue k w
    if !msrLegal r v then some (illegalOp w)
    else if 8 ≤ r ∧ r ≤ 0xD ∧ fld v 31 28 = 2 then s.checkHandle k (fld v 27 22) [0] false 1 (512 * fld v 7 0) 264
    else none
  | _ => none

/-- The command that a matrix slot queues. -/
def matrixOp (k : Core) (w : SlotW) : ArrOp :=
  match sOp w with
  | 0x01 => .wld (bit w 53).toNat
  | 0x02 => .mstream (fld w 47 41) (fld w 40 36) (fld w 35 34) (fld w 33 30) (streamCount k w)
  | 0x03 => .mdst (fld w 53 48) (k.G (fld w 47 43) + BitVec.ofNat 32 (fld w 23 0)).toNat
  | 0x04 => .mdrain (fld w 40 36) (fld w 35 31 + 1)
  | 0x05 => .mzero (fld w 40 36) (fld w 35 31 + 1)
  | 0x06 => .msr (fld w 47 40) (msrValue k w)
  | 0x07 => .mrs (sA w) (fld w 47 40)
  | _ => .mscl (fld w 47 40) (k.V (sA w))

/-- The 32 words of a vector in the table at SREG. -/
def mscl (set_ : Arr → Nat → Word → Arr) (x : Arr) (r : Nat) (v : VWord) : Arr :=
  (List.range 32).foldl (fun x i => set_ x (r + i) (BitVec.ofNat 32 ((vLanes 32 v).getD i 0))) x

/-- The issue-side copies after a command issues (R99): state registers and the drain destination. -/
def issueSide (x : Arr) (o : ArrOp) : Arr :=
  let step := fld (x.ireg 4) 23 0
  match o with
  | .msr r v => x.setIreg r (aWritten r (x.ireg r) v)
  | .mscl r v => mscl Arr.setIreg x r v
  | .mdst h ofs => { x with issueDst := (h, ofs) }
  | .mdrain _ n => { x with issueDst := (x.issueDst.1, x.issueDst.2 + n * step) }
  | .mstream _ _ acc _ n => if 2 ≤ acc then { x with issueDst := (x.issueDst.1, x.issueDst.2 + n * step) } else x
  | _ => x

/-- An executing matrix slot queues its command (R75). -/
def matrixRun (k : Core) (a : Nat) (w : SlotW) (y : Core) : Core :=
  if sOp w = 0 then y
  else
    let x := y.arr a
    let o := matrixOp k w
    y.setArr a (issueSide { x with queue := x.queue ++ [⟨o, k.seq⟩] } o)

/-! ### Desk access -/

/-- The key of a Desk byte: input Desk at 0, weight Desk at 0x2000, accumulator Desk at 0x3000. -/
def deskKey (c a ofs : Nat) : Nat := (2 * c + a) * 16384 + ofs

/-- Rows and base offset of a Desk part: 0 input, 1 weight, 2 accumulator (R86, R89). -/
def partRows (part : Nat) : Nat := if part = 0 then 128 else 64
/-- Offset of a Desk part. -/
def partBase (part : Nat) : Nat := if part = 0 then 0 else if part = 1 then 0x2000 else 0x3000

/-- A 32-bit accumulator word: row r, column j. -/
def State.accWord (s : State) (c a r j : Nat) : Nat := leNat (s.load .desk (deskKey c a (0x3000 + 128 * r + 4 * j)) 4)
/-- A 32-bit accumulator word written. -/
def State.setAccWord (s : State) (c a r j v : Nat) : State :=
  s.store .desk (deskKey c a (0x3000 + 128 * r + 4 * j)) (leBytes 4 v)

/-- A failure held pending on an array (R128); the first one is kept. -/
def State.arrayFault (s : State) (c a cause info addr : Nat) : State :=
  s.onArr c a (fun x => if x.pendFault.isSome then x else { x with pendFault := some (cause, info, addr) })

/-- The Desk read of `n` bytes at an offset: corrected words are counted, a failing word is held on the array; the bytes
are none where a word fails (R162, R163). -/
def State.deskRead (s : State) (c a ofs n : Nat) : Option (List Byte) × State :=
  let key := deskKey c a ofs
  let s := s.coreEcc c (s.corrected .desk key n)
  match s.firstBad .desk key n with
  | some b => (none, s.arrayFault c a 0x0A (1 + a) (b % 16384 / 64 * 64))
  | none => (some (s.load .desk key n), s)

/-- A row of bytes as a memory from offset 0. -/
def rowMem (bs : List Byte) : Memory := memWriteN [] 0 bs

/-! ### Streams -/

/-- The 64 bytes of streamed row t from the diagonal layout (R104). -/
def State.streamRow (s : State) (c a irow t : Nat) : List Byte :=
  (List.range 64).map (fun b =>
    memRead s.desk (deskKey c a (64 * ((irow + t + b % 32) % 128) + b)))

/-- Bytes of a streamed row that the configuration uses (Table 4.2). -/
def usedBytes (cfg : ArrCfg) : Nat := if cfg.mode = 0 ∧ !cfg.wide then 32 else 64

/-- The first Desk byte with an uncorrectable error that streamed row t uses. -/
def State.rowBad (s : State) (cfg : ArrCfg) (c a irow t : Nat) : Option Nat :=
  ((List.range (usedBytes cfg)).map (fun b => deskKey c a (64 * ((irow + t + b % 32) % 128) + b))).find?
    (fun key => decide (s.eccOf .desk key = 2))

/-- Corrected words of the Desk rows that a stream reads, counted once each. -/
def State.streamEcc (s : State) (c a irow n : Nat) : State :=
  (List.range (min (n + 31) 128)).foldl (fun s i =>
    s.coreEcc c (s.corrected .desk (deskKey c a (64 * ((irow + i) % 128))) 64)) s

/-- An accumulator entry: sum, and under the split the open-group partial and its pass count (R114). -/
def State.accEntry (s : State) (cfg : ArrCfg) (c a r j : Nat) : AccEntry :=
  let x := (s.core c).arr a
  ⟨s.accWord c a r j, if cfg.split then s.accWord c a (r + 16) j else 0, mapGet (fun _ => 0) x.counts (32 * r + j)⟩

/-- An accumulator entry written. -/
def State.setAccEntry (s : State) (cfg : ArrCfg) (c a r j : Nat) (e : AccEntry) : State :=
  let s := s.setAccWord c a r j e.s
  if cfg.split then
    (s.setAccWord c a (r + 16) j e.p).onArr c a (fun x => { x with counts := mapSet (fun _ => 0) x.counts (32 * r + j) e.cnt })
  else s

/-- Column j of row half r belongs to a problem that QMASK names (R109). -/
def active (cfg : ArrCfg) (qmask r j : Nat) : Bool :=
  if cfg.mode = 0 then true else Nat.testBit qmask (if cfg.mode = 1 then j / 16 else 2 * r + j / 16)

/-- Sums of one streamed row for one row half: per column the whole pass sum and the sums of rows 0 to 15 and 16 to 31. -/
def halfSums (cfg : ArrCfg) (zp : Nat) (img row : Memory) (r j : Nat) : Nat × Nat × Nat :=
  if cfg.mode = 2 then (passSum cfg zp img row (16 * r) 16 j, 0, 0)
  else if cfg.twoN = 1 then (0, passSum cfg zp img row 0 16 j, passSum cfg zp img row 16 16 j)
  else (passSum cfg zp img row 0 32 j, 0, 0)

/-- One accumulator row meets one half of a streamed row (R108, R112, R114). -/
def State.accRow (s : State) (cfg : ArrCfg) (c a r half qmask : Nat) (clear : Bool) (zp : Nat) (img row : Memory) : State :=
  ((List.range 32).filter (active cfg qmask half)).foldl (fun s j =>
    let (p, up, lo) := halfSums cfg zp img row half j
    let (e, sat) := accumulate cfg img j half clear p up lo (s.accEntry cfg c a r j)
    let s := s.setAccEntry cfg c a r j e
    if sat then
      (s.onArr c a (fun x => x.setReg 1 (setBit (x.reg 1) 7 true))).onCore c (fun k => k.orFlags flSAT)
    else s) s

/-! ### The drain chain (R115 to R120) -/

/-- What a drain of one array uses: its registers, image and table, the core's handles. -/
structure DrainCtx where
  cfg : ArrCfg
  regs : Map Word
  img : Memory
  table : Memory
  h : Nat
  ofs : Nat
  deriving DecidableEq, Repr

/-- The drain context of an array as it stands. -/
def drainCtx (x : Arr) : DrainCtx :=
  ⟨arrCfg (x.reg 0), x.regs, x.image, x.table, x.dst.1, x.dst.2⟩

/-- A register of the context. -/
def DrainCtx.reg (d : DrainCtx) (r : Nat) : Word := mapGet aReset d.regs r

/-- The residual of element e of the record at the context's offset through handle h (R117), as FP32. -/
def State.resElem (s : State) (c : Nat) (k : Core) (d : DrainCtx) (h e : Nat) : Nat :=
  let o := fld (d.reg 5) 3 0
  let n := tyBits o / 8
  residual o (fld (d.reg 2) 15 8) (leNat (s.load .locker (lockerKey c ((k.handle h).base + d.ofs + n * e)) n))

/-- One element through stages 1 to 6 (Table 4.4): column j, element index e of its record, row half. -/
def State.drainElem (s : State) (c : Nat) (k : Core) (d : DrainCtx) (half j e : Nat) (a : AccEntry) : Nat × Flags :=
  let o := fld (d.reg 5) 3 0
  let (x, f1) := drainStage1 d.cfg d.img j half (d.reg (0x50 + j)).toNat a
  let x := f32Mul x (d.reg (0x10 + j)).toNat
  let bias := (d.reg (0x30 + j)).toNat
  let x := f32Add x (if tyInt o then f32OfInt (elemInt 0x4 bias) else bias)
  let x := (List.range (fld (d.reg 5) 8 6)).foldl (fun x i =>
    let st := d.reg (8 + i)
    let kind := fld st 31 28
    let res := if kind = 3 ∨ kind = 4 then s.resElem c k d (fld st 27 22) e else 0
    fusedStep kind (fld st 15 0 * 2 ^ 16) d.table res x) x
  let (v, f2) := drainOut o (fld (d.reg 2) 15 8) (fld (d.reg 3) 31 16) (fld (d.reg 3) 15 0) x
  (v, f1 ||| f2)

/-- A row of 32 elements drained: each with its flags. `rec` is 0 or 1 within a quad record. -/
def State.drainRow (s : State) (c : Nat) (k : Core) (d : DrainCtx) (half recRow : Nat) (es : List AccEntry) :
    List (Nat × Flags) :=
  (List.range 32).map (fun j => s.drainElem c k d half j (32 * recRow + j) (es.getD j ⟨0, 0, 0⟩))

/-- A write at an offset of the drain destination. -/
def drainWrite (k : Core) (d : DrainCtx) (ofs : Nat) (bs : List Byte) : DrainWrite :=
  let e := k.handle d.h
  ⟨d.h, e.kind = 1, e.base + ofs, bs⟩

/-- The writes of one uncompressed row: the elements of active problems only. -/
def rowWrites (k : Core) (d : DrainCtx) (recRow : Nat) (act : Nat → Bool) (es : List (Nat × Flags)) : List DrainWrite :=
  let n := tyBits (fld (d.reg 5) 3 0) / 8
  ((List.range 2).filterMap (fun g =>
    if act (16 * g) then
      some (drainWrite k d (d.ofs + n * (32 * recRow + 16 * g)) ((slice (16 * g) 16 es).flatMap (fun e => leBytes n e.1)))
    else none))

/-- The four Golile blocks of a pair of rows (R119, R261), at the pair's offset. -/
def pairWrites (k : Core) (d : DrainCtx) (act : Nat → Bool) (r0 r1 : List (Nat × Flags)) : List DrainWrite :=
  let o := fld (d.reg 5) 3 0
  let b := golBits (fld (d.reg 5) 5 4)
  (List.range 4).filterMap (fun j =>
    if act (8 * j) then
      let xs := (slice (8 * j) 8 r0 ++ slice (8 * j) 8 r1).map (fun e => golCode o e.1)
      some (drainWrite k d (d.ofs + golSize b * j) (golEncode 8 b xs))
    else none)

/-- The drain destination advances by A_DSTRIDE. -/
def DrainCtx.next (d : DrainCtx) : DrainCtx := { d with ofs := d.ofs + fld (d.reg 4) 23 0 }

/-- The flags of a drained row. -/
def rowFlags (es : List (Nat × Flags)) : Flags := flAll (es.map (·.2))

/-- A list of drained records becomes writes: each record is its rows, with the columns that are active in each; `none`
is a record that read a failing word. -/
def State.drainRecords (s : State) (c : Nat) (k : Core) (codec : Nat) :
    DrainCtx → List (Option (List (List AccEntry × Nat × (Nat → Bool)))) → List DrainWrite × Flags
  | _, [] => ([], 0)
  | d, none :: rs => s.drainRecords c k codec d.next rs
  | d, some [r0, r1] :: rs =>
    let e0 := s.drainRow c k d r0.2.1 0 r0.1
    let e1 := s.drainRow c k d r1.2.1 1 r1.1
    let ws := if codec ≠ 0 then pairWrites k d (fun j => r0.2.2 j || r1.2.2 j) e0 e1
      else rowWrites k d 0 r0.2.2 e0 ++ rowWrites k d 1 r1.2.2 e1
    let (ws', f) := s.drainRecords c k codec d.next rs
    (ws ++ ws', rowFlags e0 ||| rowFlags e1 ||| f)
  | d, some [r0] :: some [r1] :: rs =>
    if codec ≠ 0 then
      let e0 := s.drainRow c k d r0.2.1 0 r0.1
      let e1 := s.drainRow c k d.next r1.2.1 0 r1.1
      let (ws', f) := s.drainRecords c k codec d.next.next rs
      (pairWrites k d r0.2.2 e0 e1 ++ ws', rowFlags e0 ||| rowFlags e1 ||| f)
    else
      let e0 := s.drainRow c k d r0.2.1 0 r0.1
      let (ws', f) := s.drainRecords c k codec d.next (some [r1] :: rs)
      (rowWrites k d 0 r0.2.2 e0 ++ ws', rowFlags e0 ||| f)
  | d, some [r0] :: rs =>
    let e0 := s.drainRow c k d r0.2.1 0 r0.1
    let (ws', f) := s.drainRecords c k codec d.next rs
    ((if codec ≠ 0 then [] else rowWrites k d 0 r0.2.2 e0) ++ ws', rowFlags e0 ||| f)
  | d, some _ :: rs => s.drainRecords c k codec d.next rs

/-- The accumulator row r as entries, or none where its Desk row holds an uncorrectable error. -/
def State.drainSource (s : State) (cfg : ArrCfg) (c a r : Nat) : Option (List AccEntry) × State :=
  let (x, s) := s.deskRead c a (0x3000 + 128 * r) 128
  let (y, s) := if cfg.split then s.deskRead c a (0x3000 + 128 * (r + 16)) 128 else (some [], s)
  (if x.isSome && y.isSome then some ((List.range 32).map (s.accEntry cfg c a r)) else none, s)

/-- What a stream does row by row: the state, and the records drained so far, newest first. -/
structure StreamAcc where
  s : State
  recs : List (Option (List (List AccEntry × Nat × (Nat → Bool))))

/-- One streamed row (R106, R108). A row whose Desk bytes hold an uncorrectable error writes nothing (log 31). -/
def streamStep (cfg : ArrCfg) (c a irow arow acc qmask : Nat) (img : Memory) (zp : Nat) (x : StreamAcc) (t : Nat) :
    StreamAcc :=
  let s := x.s
  match s.rowBad cfg c a irow t with
  | some key => ⟨s.arrayFault c a 0x0A (1 + a) (key % 16384 / 64 * 64), none :: x.recs⟩
  | none =>
    let row := rowMem (s.streamRow c a irow t)
    let halves := if cfg.mode = 2 then [0, 1] else [0]
    let rowOf (h : Nat) := if cfg.mode = 2 then (arow + 2 * t + h) % cfg.rows else (arow + t) % cfg.rows
    if acc = 2 then
      let es := halves.map (fun h => ((List.range 32).map (fun j =>
        let (p, up, lo) := halfSums cfg zp img row h j
        (⟨bypass cfg img j h p up lo, 0, 0⟩ : AccEntry)), h, active cfg qmask h))
      ⟨s, some es :: x.recs⟩
    else
      let s := halves.foldl (fun s h => s.accRow cfg c a (rowOf h) h qmask (acc = 0) zp img row) s
      if acc = 3 then
        let r := halves.foldl (fun (y : StreamAcc × Option (List (List AccEntry × Nat × (Nat → Bool)))) h =>
          let (es, s) := y.1.s.drainSource cfg c a (rowOf h)
          (⟨s, []⟩, match es, y.2 with
            | some e, some l => some (l ++ [(e, h, active cfg qmask h)])
            | _, _ => none)) (⟨s, []⟩, some [])
        ⟨r.1.s, r.2 :: x.recs⟩
      else ⟨s, x.recs⟩

/-! ### Start and completion -/

/-- Accumulator rows that a command writes or drains. -/
def ArrOp.accRows (cfg : ArrCfg) : ArrOp → List Nat
  | .mstream _ arow acc _ n =>
    if acc = 2 then [] else (List.range (min 32 (n * if cfg.mode = 2 then 2 else 1))).map (fun i => (arow + i) % cfg.rows)
  | .mdrain arow n => (List.range n).map (fun i => (arow + i) % cfg.rows)
  | .mzero arow n => (List.range n).map (fun i => (arow + i) % cfg.rows)
  | _ => []

/-- The command writes accumulator rows. -/
def ArrOp.writesAcc : ArrOp → Bool
  | .mstream _ _ acc _ _ => acc ≠ 2
  | .mzero _ _ => true
  | _ => false

/-- The command drains. -/
def ArrOp.drains : ArrOp → Bool
  | .mstream _ _ acc _ _ => decide (2 ≤ acc)
  | .mdrain _ _ => true
  | _ => false

/-- The start conditions of the head command (R102, R107, R110, R111): the loader, the feeder's governor grant, the rows
named, or every earlier command. `w` is the load of the array that runs it. -/
def canStart (x : Arr) (w : Warmth) (o : ArrOp) : Bool :=
  let cfg := arrCfg (x.reg 0)
  let wldRuns := x.running.any (fun r => match r.op with
    | .wld _ => true
    | _ => false)
  let rows := o.accRows cfg
  let clash := x.running.any (fun r => r.op.writesAcc && (r.op.accRows cfg).any (rows.contains ·))
  match o with
  | .wld _ => !wldRuns
  | .mstream _ _ _ _ _ => !wldRuns && w ≠ .cold
  | .mdrain _ _ => !clash
  | .mzero _ _ => !clash
  | _ => x.running.isEmpty

/-- In single-array mode the surviving array takes the queue whose head was issued earlier, array 0's first (R88). -/
def State.foldTurn (s : State) (c a : Nat) : Bool :=
  if !s.fold c then true
  else
    let k := s.core c
    match k.m0.queue, k.m1.queue with
    | x :: _, y :: _ => if a = 0 then decide (x.seq ≤ y.seq) else decide (y.seq < x.seq)
    | _, _ => true

/-- The image of a weight half read from the weight Desk (R100): 32 rows of 64 bytes. -/
def State.readImage (s : State) (c a half : Nat) : Option (List Byte) × State :=
  s.deskRead c a (0x2000 + half * 2048) 2048

/-- The activation table of a TABLE step, from handle H at 512 × C (R118). A failing Locker word leaves the table and is
held on the array. -/
def State.loadTable (s : State) (c a : Nat) (v : Word) : State :=
  let k := s.core c
  let key := lockerKey c ((k.handle (fld v 27 22)).base + 512 * fld v 7 0)
  match s.firstBad .locker key 264 with
  | some b => s.arrayFault c a 0x0A 0 (b % 65536 / 64 * 64)
  | none =>
    (s.coreEcc c (s.corrected .locker key 264)).onArr c a (fun x => { x with table := rowMem (s.load .locker key 264) })

/-- The effect of a command when it starts (R102, R106, R110, R111): the state and the run it leaves. The results of a
stream stand in the accumulators from its start; its drain writes wait for its completion (log 30). -/
def State.startOp (s : State) (c a : Nat) (q : ArrCmd) : State × ArrRun :=
  let x := (s.core c).arr a
  let k := s.core c
  let cfg := arrCfg (x.reg 0)
  let codec := fld (x.reg 5) 5 4
  match q.op with
  | .wld half =>
    let (bs, s) := s.readImage c a half
    (match bs with
      | some bs => s.onArr c a (fun x => { x with shadow := some (rowMem bs) })
      | none => s, { op := q.op, seq := q.seq })
  | .mstream irow arow acc qmask n =>
    let s := s.onArr c a (fun x => { x with image := x.shadow.getD x.image, shadow := none })
    let img := ((s.core c).arr a).image
    let d := drainCtx ((s.core c).arr a)
    let s := if n = 0 then s else s.streamEcc c a irow n
    let r := (List.range n).foldl (streamStep cfg c a irow arow acc qmask img (fld (x.reg 2) 7 0)) ⟨s, []⟩
    let s := r.s
    if 2 ≤ acc then
      let (ws, f) := s.drainRecords c k codec d r.recs.reverse
      (s.onArr c a (fun x => { x with dst := (x.dst.1, x.dst.2 + n * fld (x.reg 4) 23 0) }),
       { op := q.op, seq := q.seq, writes := ws, flags := f })
    else (s, { op := q.op, seq := q.seq })
  | .mdst h ofs => (s.onArr c a (fun x => { x with dst := (h, ofs) }), { op := q.op, seq := q.seq })
  | .mdrain arow n =>
    let d := drainCtx x
    let r := (List.range n).foldl (fun (y : StreamAcc) i =>
      let row := (arow + i) % cfg.rows
      let (es, s) := y.s.drainSource cfg c a row
      ⟨s, (es.map (fun e => [(e, row % 2, fun _ => true)])) :: y.recs⟩) ⟨s, []⟩
    let (ws, f) := r.s.drainRecords c k codec d r.recs.reverse
    (r.s.onArr c a (fun x => { x with dst := (x.dst.1, x.dst.2 + n * fld (x.reg 4) 23 0) }),
     { op := q.op, seq := q.seq, writes := ws, flags := f })
  | .mzero arow n =>
    ((List.range n).foldl (fun s i =>
      let r := (arow + i) % cfg.rows
      (List.range 32).foldl (fun s j => s.setAccEntry cfg c a r j ⟨0, 0, 0⟩) s) s, { op := q.op, seq := q.seq })
  | .msr r v =>
    let s := s.onArr c a (fun x => x.setReg r (aWritten r (x.reg r) v))
    (if 8 ≤ r ∧ r ≤ 0xD ∧ fld v 31 28 = 2 then s.loadTable c a v else s, { op := q.op, seq := q.seq })
  | .mrs _ r => (s, { op := q.op, seq := q.seq, value := s.aRead c a r })
  | .mscl r v => (s.onArr c a (fun x => mscl Arr.setReg x r v), { op := q.op, seq := q.seq })

/-- An array's load after a stream with rows has started (R126, R127). -/
def warmed (w : Warmth) (o : ArrOp) : Warmth :=
  match o with
  | .mstream _ _ _ _ n => if n = 0 then w else .warm
  | _ => w

/-- ARRAY_COMMAND_START: the head command of queue a starts when it can; `bad` says that a pass of it fails the residue
check (R128). -/
def State.arrayStart (s : State) (c a : Nat) (bad : Bool) : State :=
  let x := (s.core c).arr a
  let ph := s.physArray c a
  let load := ((s.core c).arr ph).warmth
  match x.queue with
  | [] => s
  | q :: rest =>
    if canStart x load q.op && s.foldTurn c a then
      let s := s.onArr c a (fun x => { x with queue := rest })
      let (s, r) := s.startOp c a q
      let s := s.onArr c a (fun x => { x with running := x.running ++ [r] })
      let s := s.onArr c ph (fun x => { x with warmth := warmed x.warmth q.op })
      if bad then s.arrayFault c ph 0x0B ph 0 else s
    else s

/-- One drain write becomes visible (R120, R169): a Library bank closed to the House discards it and holds HANDLE on the
array; bytes beyond the Locker are not written. -/
def State.drainVisible (s : State) (c a : Nat) (w : DrainWrite) : State :=
  if w.lib then
    if s.banksOk (s.core c).house w.addr w.bytes.length then s.bankWrite c w.addr w.bytes
    else s.arrayFault c a 0x03 w.h 0
  else s.lockerStore c w.addr (w.bytes.take (65536 - w.addr))

/-- ARRAY_COMMAND_COMPLETE: the oldest running command of array a completes: its drain writes and flags, the register of an
MRS; with KEEP = 0 the array then goes idle (R111, R120, R126). -/
def State.arrayComplete (s : State) (c a : Nat) : State :=
  match ((s.core c).arr a).running with
  | [] => s
  | r :: rest =>
    let ph := s.physArray c a
    let s := s.onArr c a (fun x => { x with running := rest })
    let s := r.writes.foldl (fun s w => s.drainVisible c a w) s
    let s := s.onCore c (fun k => k.orFlags r.flags)
    match r.op with
    | .mrs gd _ => s.onCore c (fun k => k.setG gd r.value)
    | .mstream _ _ _ _ n =>
      if n ≠ 0 ∧ !bit (((s.core c).arr a).reg 0) 0 then s.onArr c ph (fun x => { x with warmth := .cold }) else s
    | _ => s

end Sys2Proof.Machine
end

