-- ==== Sys2Proof/Machine/Transfer.lean ====
section
/-! DEFINITION. What the transfer slot does (R89, R90, R103 to R105, R122 to R125, R158, R206, R207): S6 of a bundle, the
transfer queue, the corridor and the matrix-vector lane. -/
namespace Sys2Proof.Machine

/-- Offset of a 24-bit OFS plus a register. -/
def ofs24 (k : Core) (ga : Nat) (w : SlotW) : Nat := (k.G ga + BitVec.ofNat 32 (fld w 23 0)).toNat

/-- The rows of 64 bytes from a Locker address; none for a row with an uncorrectable error. -/
def State.lockerRows (s : State) (c addr n : Nat) : List (Option (List Byte)) :=
  (List.range n).map (fun i =>
    let key := lockerKey c (addr + 64 * i)
    if (s.firstBad .locker key 64).isSome then none else some (s.load .locker key 64))

/-- MEM_ECC held pending on the transfer queue for the first failing row (R163); corrected words are counted. -/
def State.xferEcc (s : State) (c addr n : Nat) : State :=
  let key := lockerKey c addr
  let s := s.coreEcc c (s.corrected .locker key (64 * n))
  match s.firstBad .locker key (64 * n) with
  | some b => s.onCore c (fun k => if k.xferFault.isSome then k else { k with xferFault := some (0, b % 65536 / 64 * 64) })
  | none => s

/-! ### The matrix-vector lane -/

/-- Where an MVL's block lies: Library, Shelf, address. -/
def mvlAt (k : Core) (w : SlotW) : Nat × Nat :=
  let e := k.handle (fld w 43 38)
  (e.kind, e.base + ofs24 k (fld w 37 33) w)

/-- `n` bytes of a lane block. -/
def State.mvlBytes (s : State) (k : Core) (c : Nat) (w : SlotW) (n : Nat) : List Byte :=
  let (kind, a) := mvlAt k w
  if kind = 0 then s.load .locker (lockerKey c a) n
  else if kind = 1 then s.load .lib a n
  else (List.range n).flatMap (fun i => s.lineRead k.house (a + i) 1)

/-- The first failing byte of a lane block. -/
def State.mvlBad (s : State) (k : Core) (c : Nat) (w : SlotW) (n : Nat) : Option Nat :=
  let (kind, a) := mvlAt k w
  if kind = 0 then s.firstBad .locker (lockerKey c a) n
  else if kind = 1 then s.firstBad .lib a n
  else none

/-- What an MVL faults with at issue (R124): the handle, the header's bounds and values, the block's bounds. -/
def State.mvlCheck (s : State) (k : Core) (c : Nat) (w : SlotW) : Option CoreFault :=
  let h := fld w 43 38
  let o := ofs24 k (fld w 37 33) w
  match s.checkHandle k h [0, 1, 2] false 1 o 64 with
  | some f => some f
  | none =>
    let hd := laneHdr (s.mvlBytes k c w 64)
    if !hd.legal then some (illegalOp w) else s.checkHandle k h [0, 1, 2] false 1 o hd.size

/-- One 32-bit result of the lane: with OFMT = INT32 and floating-point inputs the spec states none (log 20). -/
def State.mvlResults (s : State) (k : Core) (c : Nat) (w : SlotW) : List VWord × Flags :=
  let hd := laneHdr (s.mvlBytes k c w 64)
  let bs := s.mvlBytes k c w hd.size
  let rs := (List.range (fld w 32 31 + 1)).map (fun i => laneVector hd (fun n => (bs.getD n 0).toNat) (k.V (sB w + i)))
  (rs.map (·.1), flAll (rs.map (·.2)))

/-- MVL goes to the lane; a failing block word is held on the transfer queue and the lane writes no result. -/
def State.mvlIssue (s : State) (k : Core) (c : Nat) (w : SlotW) : State :=
  let hd := laneHdr (s.mvlBytes k c w 64)
  let (kind, a) := mvlAt k w
  let bad := s.mvlBad k c w hd.size
  let (rs, fl) := s.mvlResults k c w
  let s := if kind = 0 then s.coreEcc c (s.corrected .locker (lockerKey c a) hd.size)
    else if kind = 1 then s.libCorrected a hd.size else s
  let s := match bad with
    | some b =>
      let s := if kind = 1 then s.libError true b else s
      let rec_ := if kind = 1 then (4, b / 64 * 64) else (0, b % 65536 / 64 * 64)
      s.onCore c (fun y => if y.xferFault.isSome then y else { y with xferFault := some rec_ })
    | none => s
  s.onCore c (fun y => { y with lane := y.lane ++
    [{ vd := sA w, n := fld w 32 31 + 1, seq := k.seq, results := if bad.isSome then none else some rs, flags := fl }] })

/-- MVL_RESULT: the oldest lane command writes its results (R123, R125). -/
def State.mvlResult (s : State) (c : Nat) : State :=
  match (s.core c).lane with
  | [] => s
  | l :: rest =>
    s.onCore c (fun k =>
      let k := { k with lane := rest }
      match l.results with
      | none => k
      | some rs => ((List.range l.n).foldl (fun k i => k.setV (l.vd + i) (rs.getD i 0)) k).orFlags l.flags)

/-! ### Issue -/

/-- What an executing transfer slot faults with (R89, Table 6.8). -/
def State.transferCheck (s : State) (k : Core) (c : Nat) (w : SlotW) : Option CoreFault :=
  let n := fld w 30 24 + 1
  match sOp w with
  | 0x01 => s.checkHandle k (fld w 44 39) [0] false 1 (ofs24 k (fld w 49 45) w) (64 * n)
  | 0x02 => s.checkHandle k (fld w 44 39) [0] true 1 (ofs24 k (fld w 49 45) w) (64 * n)
  | 0x03 => s.checkHandle k (fld w 47 42) [0] false 1 (k.G (fld w 52 48)).toNat (64 * n)
  | 0x04 => s.mvlCheck k c w
  | _ => none

/-- Bytes that a queued DMVR will write replace what a later command of the queue reads (R158). -/
def patchRows (addr : Nat) (bs : List Byte) (base : Nat) (rows : List (Option (List Byte))) : List (Option (List Byte)) :=
  (List.range rows.length).map (fun i =>
    (rows.getD i none).map (fun r => (List.range 64).map (fun j =>
      let p := base + 64 * i + j
      if addr ≤ p ∧ p < addr + bs.length then bs.getD (p - addr) 0 else r.getD j 0)))

/-- An executing transfer slot issues (R89). The Locker rows that it reads are taken in bundle order (R158). -/
def State.transferRun (s : State) (k : Core) (c : Nat) (w : SlotW) : State :=
  let n := fld w 30 24 + 1
  let put (s : State) (o : XferOp) : State := s.onCore c (fun y => { y with xfer := y.xfer ++ [(o, k.seq)] })
  let mv := (k.handle (fld w 44 39)).base + ofs24 k (fld w 49 45) w
  match sOp w with
  | 0x01 =>
    put (s.xferEcc c mv n) (.dmv (bit w 53).toNat (fld w 52 51) (bit w 50) mv (fld w 38 31) (s.lockerRows c mv n))
  | 0x02 => put s (.dmvr (bit w 53).toNat (fld w 52 51) (bit w 50) mv (fld w 38 31) n)
  | 0x03 =>
    let src := (k.handle (fld w 47 42)).base + (k.G (fld w 52 48)).toNat
    put (s.xferEcc c src n) (.csend (bit w 53) src (fld w 41 36) (k.G (fld w 35 31)).toNat (s.lockerRows c src n))
  | 0x04 => s.mvlIssue k c w
  | 0x05 =>
    (put (s.flushGather c) (.dmak (bit w 48).toNat (k.G (sA w)).toNat)).onCore c (fun y => { y with waits := y.waits ++ [.fence true] })
  | _ => s

/-! ### The moves -/

/-- Bytes written in one Desk row, by position. -/
def State.deskRowWrite (s : State) (c a ofs : Nat) (bytes : Memory) : State :=
  (runsOf bytes).foldl (fun s r => s.store .desk (deskKey c a (ofs + r.1)) r.2) s

/-- Rows moved into a Desk part, straight or on the diagonal (R86, R104): the Desk row of each step, with the bytes that it
receives. -/
def State.intoDesk (s : State) (c a part : Nat) (skew : Bool) (drow : Nat) (rows : List (Option (List Byte))) : State :=
  if skew then
    (List.range (rows.length + 31)).foldl (fun s i =>
      let bytes := (List.range 64).filterMap (fun b =>
        if b % 32 ≤ i ∧ i - b % 32 < rows.length then
          (rows.getD (i - b % 32) none).map (fun r => (b, r.getD b 0))
        else none)
      s.deskRowWrite c a (64 * ((drow + i) % 128)) bytes) s
  else
    (List.range rows.length).foldl (fun s i =>
      match rows.getD i none with
      | none => s
      | some r => s.store .desk (deskKey c a (partBase part + 64 * ((drow + i) % partRows part))) r) s

/-- The Desk byte that holds byte b of row t: straight or on the diagonal. -/
def deskByte (part : Nat) (skew : Bool) (drow t b : Nat) : Nat :=
  if skew then 64 * ((drow + t + b % 32) % 128) + b else partBase part + 64 * ((drow + t) % partRows part) + b

/-- One row read from a Desk (DMVR); none where a byte of it fails (R163), which is held on the transfer queue. -/
def State.fromDesk (s : State) (c a part : Nat) (skew : Bool) (drow t : Nat) : Option (List Byte) × State :=
  let keys := (List.range 64).map (fun b => deskKey c a (deskByte part skew drow t b))
  match keys.find? (fun k => decide (s.eccOf .desk k = 2)) with
  | some b => (none, s.onCore c (fun y => if y.xferFault.isSome then y else { y with xferFault := some (1 + a, b % 16384 / 64 * 64) }))
  | none => (some (keys.map (memRead s.desk)), s)

/-- The neighbour of a core: DIR 0 the lower lane, 1 the upper (R60). -/
def neighbour (c : Nat) (up : Bool) : Nat := c / 32 * 32 + (c % 32 + if up then 1 else 31) % 32

/-- A start joins an engine's queue (R190, R191); none where it holds four. -/
def State.dmaPush (s : State) (e addr house : Nat) : Option State :=
  let x := s.eng e
  if x.starts.length < 4 then some (s.setEng e { x with starts := x.starts ++ [{ addr := addr, house := house }] }) else none

/-- The head of the transfer queue takes effect (TRANSFER_COMMAND_COMPLETE). A DMAK waits behind its fence (R406) and for
room in the engine's start queue (R191). -/
def State.transferComplete (s : State) (c : Nat) : State :=
  let k := s.core c
  match k.xfer with
  | [] => s
  | (o, seq) :: rest =>
    let s' := s.setCore c { k with xfer := rest }
    match o with
    | .dmv arr part skew _ drow rows => s'.intoDesk c arr part skew drow rows
    | .dmvr arr part skew addr drow n =>
      (List.range n).foldl (fun s t =>
        let (r, s) := s.fromDesk c arr part skew drow t
        match r with
        | none => s
        | some bs =>
          let at_ := addr + 64 * t
          (s.lockerStore c at_ bs).onCore c (fun y => { y with xfer := y.xfer.map (fun q =>
            match q.1 with
            | .dmv a p sk b d rows => (.dmv a p sk b d (patchRows at_ bs b rows), q.2)
            | .csend u b h d rows => (.csend u b h d (patchRows at_ bs b rows), q.2)
            | _ => q) })) s'
    | .csend up _ hd dofs rows =>
      { s' with corr := s'.corr ++ (List.range rows.length).filterMap (fun i =>
          (rows.getD i none).map (fun bs =>
            ({ core := neighbour c up, up := up, seq := seq, house := k.house, hd := hd, ofs := dofs + 64 * i, bytes := bs }
              : CorrUnit))) }
    | .dmak eng addr =>
      if k.waits.contains (.fence true) then s
      else (s'.dmaPush (2 * (c / 32) + eng) (addr % 2 ^ 27) k.house).getD s

/-- A unit passes the checks of R90 and R179 at its receiver. -/
def landingOk (k : Core) (u : CorrUnit) : Bool :=
  let e := k.handle u.hd
  e.v && e.kind = 0 && e.wr && e.house = u.house && decide (u.ofs + 64 ≤ e.size)

/-- A discarded unit raises CORR_BOUNDS (R90): on a running core it stops the program, an idle core only records it. -/
def State.corrBounds (s : State) (u : CorrUnit) : State :=
  let k := s.core u.core
  let f : CoreFault := ⟨0x0C, u.hd + (if u.up then 0 else 2 ^ 8), u.ofs⟩
  if k.idle then s.setCore u.core (k.record f 6 k.afterDone)
  else if k.stopped then s.setCore u.core (k.record f 6 k.pc)
  else s.takeFault u.core f 6 k.pc

/-- CORRIDOR_LANDING: the oldest unit bound for a core from one direction lands (R206): from the upper neighbour the
sender used DIR = 0. A lane out of service discards it and DMA_CORRf counts it (R207). -/
def State.corrLand (s : State) (c : Nat) (up : Bool) : State :=
  match s.corr.find? (fun u => decide (u.core = c) && u.up = up) with
  | none => s
  | some u =>
    let s := { s with corr := s.corr.erase u }
    if !s.coreLive c then s.countErr (Reg.DMA_CORRf (c / 32))
    else if landingOk (s.core c) u then
      let n := if up then 9 else 0xA
      (s.lockerStore c (((s.core c).handle u.hd).base + u.ofs) u.bytes).onCore c (fun k => k.setC n (k.C n + 1))
    else s.corrBounds u

/-- A command or lane work of the core older than a place in its issue order is still under way, corridor units included
(FENCE.X). -/
def State.xferBusy (s : State) (c seq : Nat) : Bool :=
  let k := s.core c
  k.xfer.any (fun q => decide (q.2 < seq)) || k.lane.any (fun l => decide (l.seq < seq)) ||
    s.corr.any (fun u => decide (neighbour c u.up = u.core) && decide (u.seq < seq))

end Sys2Proof.Machine
end

