-- ==== Sys2Proof/Machine/Control.lean ====
section
/-! DEFINITION. What the control slot does (R63, R80, R91 to R93, R401 to R406): S7 of a bundle, and how waits end. -/
namespace Sys2Proof.Machine

/-- Input frame counter of a tracker (R35). -/
def State.inFrame (s : State) (t : Nat) : Nat := (s.rd (Reg.RAS_INs_FRAME t)).toNat
/-- CAPTURED of a tracker. -/
def State.captured (s : State) (t : Nat) : Nat := s.rdF (Reg.RAS_INs_LINE t) 15 0

/-- A frame counter a is later than b: 32-bit counters compared modulo 2^32 (R27, R409; log 33). -/
def later32 (a b : Nat) : Bool :=
  decide (1 ≤ (a + 2 ^ 32 - b) % 2 ^ 32) && decide ((a + 2 ^ 32 - b) % 2 ^ 32 < 2 ^ 31)

/-- The gate of IWAIT, R200 and R253: the tracker's frame is later, or equal with the line captured. -/
def State.gateOpen (s : State) (t frame line : Nat) : Bool :=
  later32 (s.inFrame t) frame || (decide (s.inFrame t = frame) && decide (line ≤ s.captured t))

/-- Stores of a core that wait at a busy bank (R168). -/
def State.lateOf (s : State) (c : Nat) : Bool := s.late.any (fun w => decide (w.1 = c))

/-- The condition of FENCE.ALL: earlier loads have returned, earlier stores are visible (R405). -/
def State.fenceDone (s : State) (c : Nat) (loads : Bool) : Bool :=
  !s.lateOf c && (!loads || (s.core c).loads.isEmpty)

/-- A drain of the array issued before a place in the core's order is not yet visible. -/
def Arr.drainBefore (x : Arr) (seq : Nat) : Bool :=
  x.queue.any (fun q => q.op.drains && decide (q.seq < seq)) || x.running.any (fun r => r.op.drains && decide (r.seq < seq))

/-- Array commands issued before a place in the core's order are under way. -/
def Arr.busyBefore (x : Arr) (seq : Nat) : Bool :=
  x.queue.any (fun q => decide (q.seq < seq)) || x.running.any (fun r => decide (r.seq < seq))

/-- A TDONE can be recorded: the stores, DMVRs and drains issued before it are visible (R93). -/
def State.tdoneReady (s : State) (c seq : Nat) : Bool :=
  let k := s.core c
  s.fenceDone c false && !k.m0.drainBefore seq && !k.m1.drainBefore seq &&
    !k.xfer.any (fun q => decide (q.2 < seq) && match q.1 with
      | .dmvr _ _ _ _ _ _ => true
      | _ => false)

/-- Everything that a core has issued is complete (R63). -/
def State.allDone (s : State) (c : Nat) : Bool :=
  let k := s.core c
  s.fenceDone c true && !k.m0.busyBefore (k.seq + 1) && !k.m1.busyBefore (k.seq + 1) && !s.xferBusy c (k.seq + 1) &&
    k.tdones.isEmpty && k.signals.isEmpty

/-- A wait has ended (Table 3.13, R91, R405). -/
def State.waitOver (s : State) (c : Nat) (w : CoreWait) : Bool :=
  let k := s.core c
  match w with
  | .bell _ => false
  | .input t f l => s.gateOpen t f l
  | .hpass _ => !s.waits (.core c)
  | .corr up n => decide (n ≤ (k.C (if up then 0xA else 9)).toNat)
  | .arrays a b seq => !(a && k.m0.busyBefore seq) && !(b && k.m1.busyBefore seq)
  | .transfers seq => !s.xferBusy c seq
  | .fence loads => s.fenceDone c loads
  | .signal => k.signals.isEmpty
  | .done => s.allDone c

/-- The signals of HSIGs whose fence holds no more are made (R406); one that saturates raises HPASS
with the address of its bundle (R94, R402). -/
def State.doSignals (s : State) (c : Nat) : State :=
  if s.fenceDone c true then
    (s.core c).signals.foldl (fun s q =>
      let (s, sat) := s.signal q.1 q.2.1 c
      if sat then s.takeFault c ⟨0x07, q.1, 0⟩ 7 q.2.2 else s)
      (s.onCore c (fun k => { k with signals := [] }))
  else s

/-- TDONEs that are ready are recorded, oldest first. -/
def State.doTdones (s : State) (c : Nat) : State :=
  (s.core c).tdones.foldl (fun s q =>
    if (s.core c).tdones.head? = some q ∧ s.tdoneReady c q.2 then
      (s.onCore c (fun k => { k with tdones := k.tdones.tail })).tdoneRecord c q.1
    else s) s

/-- Waits that have ended are dropped; a DONE that has ended makes the core idle (R63). -/
def State.dropWaits (s : State) (c : Nat) : State :=
  let k := s.core c
  let done := k.waits.contains .done && s.allDone c
  s.setCore c { k with waits := k.waits.filter (fun w => !s.waitOver c w), idle := k.idle || done }

/-- What a core does by itself once something has completed: pending signals, TDONEs and the end of its waits. -/
def State.progress (s : State) (c : Nat) : State := ((s.doSignals c).doTdones c).dropWaits c

/-- A hall pass belongs to the House of the core. -/
def State.ownPass (s : State) (k : Core) (p : Nat) : Bool := decide (s.passHouse p = some k.house)

/-- The hall pass that S7 names. -/
def s7Pass (k : Core) (w : SlotW) : Nat := fld (k.G (sA w)) 12 0

/-- What an executing control slot faults with (R80, R91, Table 3.15). -/
def State.controlCheck (s : State) (k : Core) (w : SlotW) : Option CoreFault :=
  match sOp w with
  | 0x03 | 0x04 => if s.ownPass k (s7Pass k w) then none else some ⟨0x07, s7Pass k w, 0⟩
  | 0x0E => if 2 ≤ k.loops.length then some ⟨0x06, 0, 0⟩ else none
  | 0x10 => some ⟨0x09, fld w 15 0, 0⟩
  | _ => none

/-- A wait joins the core. -/
def State.addWait (s : State) (c : Nat) (w : CoreWait) : State := s.onCore c (fun k => { k with waits := k.waits ++ [w] })

/-- The effect of an executing control slot on everything but the pc. -/
def State.controlRun (s : State) (k : Core) (c : Nat) (w : SlotW) : State :=
  match sOp w with
  | 0x01 =>
    let tag := fld w 15 0
    if k.latches.contains tag then s.onCore c (fun x => { x with latches := x.latches.erase tag })
    else s.addWait c (.bell tag)
  | 0x02 => s.addWait c (.input (fld w 53 52) (k.G (fld w 51 47)).toNat (k.G (fld w 46 42)).toNat)
  | 0x03 =>
    let s := s.flushGather c
    (s.onCore c (fun x => { x with signals := x.signals ++ [(s7Pass k w, fld w 15 0, k.pc)] })).addWait c .signal
  | 0x04 => (s.addWait c (.hpass (s7Pass k w))).join (s7Pass k w) (fld w 15 0) (.core c)
  | 0x05 =>
    match fld w 3 0 with
    | 1 | 2 => (s.flushGather c).addWait c (.fence false)
    | 3 => (s.flushGather c).addWait c (.fence true)
    | 4 => s.addWait c (.arrays true false k.seq)
    | 5 => s.addWait c (.arrays false true k.seq)
    | 6 => s.addWait c (.arrays true true k.seq)
    | _ => s.addWait c (.transfers k.seq)
  | 0x06 => s.rollIssue c (sA w) (fld w 48 46)
  | 0x07 => (s.flushGather c).onCore c (fun x => { x with tdones := x.tdones ++ [(fld (k.G (sA w)) 15 0, k.seq)] })
  | 0x08 =>
    ((s.flushGather c).onCore c (fun x =>
      { (x.setC 6 (setBit (x.C 6) 1 false)) with afterDone := (k.pc + 1) % 8192 })).addWait c .done
  | 0x09 => s.onCore c (fun x => x.setP (fld w 53 51) (bit w 0))
  | 0x0A => s.onCore c (fun x => x.setP (fld w 53 51) (k.P (fld w 50 48) && k.P (fld w 47 45)))
  | 0x0B => s.onCore c (fun x => x.setP (fld w 53 51) (k.P (fld w 50 48) || k.P (fld w 47 45)))
  | 0x0C => s.onCore c (fun x => x.setP (fld w 53 51) (k.P (fld w 50 48) ^^ k.P (fld w 47 45)))
  | 0x0D => s.onCore c (fun x => x.setP (fld w 53 51) (!k.P (fld w 50 48)))
  | 0x0F => s.addWait c (.corr (bit w 53) (k.G (fld w 52 48)).toNat)
  | _ => s

/-- A taken branch or JR ends every active loop, innermost first, whose body its target leaves (R80). -/
def endLoops (t : Nat) : List Loop → List Loop
  | [] => []
  | l :: ls => if l.start ≤ t ∧ t ≤ l.last then l :: ls else endLoops t ls

/-- The next bundle at the end of a body, and the loops that stay active (R80). -/
def loopEnd (pc : Nat) : List Loop → Nat × List Loop
  | [] => ((pc + 1) % 8192, [])
  | l :: ls =>
    if pc = l.last then (if 1 < l.left then (l.start, { l with left := l.left - 1 } :: ls) else loopEnd pc ls)
    else ((pc + 1) % 8192, l :: ls)

/-- The next bundle and the loops after a bundle: `br` is the executing branch slot, `loop` the executing LOOP slot. -/
def nextPc (k : Core) (br loop : Option SlotW) : Nat × List Loop :=
  match br, loop with
  | some w, _ => (branchTarget k w, endLoops (branchTarget k w) k.loops)
  | none, some w =>
    let n := (k.G (sA w)).toNat
    let e := fld w 12 0
    if n = 0 then ((e + 1) % 8192, k.loops) else ((k.pc + 1) % 8192, ⟨(k.pc + 1) % 8192, e, n⟩ :: k.loops)
  | none, none => loopEnd k.pc k.loops

end Sys2Proof.Machine
end

