-- ==== Sys2Proof/Machine/Dma.lean ====
section
/-! DEFINITION. DMA engines (R189 to R204): starts, descriptors and their checks, the moves, completion, faults, halt and abort.
Windows 0 to 63 are the form engines, 64 + 8s + h the context of House h on system engine s. -/
namespace Sys2Proof.Machine

/-- The engine number of a window (Table 7.1). -/
def engNum (e : Nat) : Nat := if e < 64 then e else 64 + (e - 64) / 8
/-- The requester number of a window's engine (R209). -/
def engReq (e : Nat) : Nat := if e < 64 then 1024 + e else 1088 + (e - 64) / 8
/-- The form of a form engine. -/
def engForm (e : Nat) : Nat := e / 2

/-- The House whose current or last chain, or whose context, a window holds (R213). -/
def State.dmaHouse (s : State) (e : Nat) : Nat := if e < 64 then s.rdF (Reg.DMA_En_STATUS e) 26 24 else (e - 64) % 8

/-- STATE of a window. -/
def State.setDmaState (s : State) (e v : Nat) : State := s.wrF (Reg.DMA_En_STATUS e) 2 0 v
/-- QDEPTH of a window follows its start queue. -/
def State.dmaDepth (s : State) (e : Nat) : State := s.wrF (Reg.DMA_En_STATUS e) 11 9 (s.eng e).starts.length

/-- A start from outside the core (R191): a bell's is discarded and counted when the queue is full. -/
def State.dmaBell (s : State) (e addr house : Nat) : State :=
  match s.dmaPush e addr house with
  | some s => s.dmaDepth e
  | none => (s.wrF (Reg.DMA_En_STATUS e) 8 8 1).countErr (Reg.DMA_En_DROPCNT e)

/-! ### Descriptors (Table 7.2) -/

/-- A word of a descriptor. -/
def dWord (bs : List Byte) (i : Nat) : Word := BitVec.ofNat 32 (leNat (slice (4 * i) 4 bs))

/-- The fields of a descriptor. -/
structure Desc where
  kind : Nat
  sspace : Nat
  dspace : Nat
  rot : Nat
  mirror : Bool
  chain : Bool
  elog : Nat
  hsig : Bool
  evt : Bool
  slane : Nat
  sarr : Nat
  spart : Nat
  dlane : Nat
  darr : Nat
  dpart : Nat
  saddr : Nat
  daddr : Nat
  width : Nat
  height : Nat
  sstride : Int
  dstride : Int
  pat : Nat
  hpass : Nat
  queue : Nat
  hcnt : Nat
  tag : Nat
  gtrk : Nat
  gate : Bool
  gstep : Nat
  gbase : Nat
  next : Nat
  deriving DecidableEq, Repr

/-- The fields of 64 bytes. -/
def descOf (bs : List Byte) : Desc :=
  let w := dWord bs
  { kind := fld (w 0) 3 0, sspace := fld (w 0) 7 4, dspace := fld (w 0) 11 8, rot := fld (w 0) 13 12, mirror := bit (w 0) 14
    chain := bit (w 0) 16, elog := fld (w 0) 18 17, hsig := bit (w 0) 19, evt := bit (w 0) 20
    slane := fld (w 1) 4 0, sarr := fld (w 1) 5 5, spart := fld (w 1) 7 6
    dlane := fld (w 1) 12 8, darr := fld (w 1) 13 13, dpart := fld (w 1) 15 14
    saddr := (w 2).toNat + 2 ^ 32 * fld (w 3) 15 0, daddr := (w 4).toNat + 2 ^ 32 * fld (w 5) 15 0
    width := fld (w 6) 15 0, height := fld (w 6) 31 16, sstride := (w 7).toInt, dstride := (w 8).toInt, pat := (w 9).toNat
    hpass := fld (w 10) 12 0, queue := fld (w 10) 29 16, hcnt := fld (w 11) 15 0, tag := fld (w 11) 31 16
    gtrk := fld (w 12) 1 0, gate := bit (w 12) 2, gstep := fld (w 12) 8 3, gbase := fld (w 13) 15 0, next := fld (w 14) 26 0 }

/-- Reserved bits are 0. -/
def descReserved (bs : List Byte) : Bool :=
  let w := dWord bs
  !bit (w 0) 15 && fld (w 0) 31 21 = 0 && fld (w 1) 31 16 = 0 && fld (w 3) 31 16 = 0 && fld (w 5) 31 16 = 0 &&
  fld (w 10) 15 13 = 0 && fld (w 10) 31 30 = 0 && fld (w 12) 31 9 = 0 && fld (w 13) 31 16 = 0 && fld (w 14) 31 27 = 0 &&
  w 15 = 0

/-- The fields that a KIND does not use are 0 (R192). -/
def descUnused (bs : List Byte) : Bool :=
  let w := dWord bs
  let d := descOf bs
  let noTurn : Bool := d.rot = 0 && !d.mirror && d.elog = 0
  let noSrc : Bool := d.sspace = 0 && d.slane = 0 && d.sarr = 0 && d.spart = 0 && d.saddr = 0 && w 7 = 0
  match d.kind with
  | 0 => noTurn && noSrc && d.dspace = 0 && w 1 = 0 && d.daddr = 0 && w 6 = 0 && w 8 = 0 && w 9 = 0 && w 12 = 0 && w 13 = 0
  | 1 => w 9 = 0
  | 2 => noTurn && w 9 = 0
  | 3 => noTurn && noSrc
  | _ => noTurn && w 1 = 0 && w 8 = 0 && w 9 = 0 && d.sspace = 3 && d.dspace = 0 && d.daddr = 0

/-- A space is one that the engine reaches (Table 7.3). -/
def spaceOk (e sp : Nat) : Bool := if e < 64 then sp ≤ 2 else sp = 0 || sp = 3 || sp = 4

/-- Check 3 of Table 7.4. -/
def descOk (e : Nat) (bs : List Byte) : Bool :=
  let d := descOf bs
  decide (d.kind ≤ 4) && descReserved bs && descUnused bs &&
  (d.kind = 0 || ((d.kind = 3 || spaceOk e d.sspace) && spaceOk e d.dspace &&
    !(d.sspace = 2 && d.spart = 3) && !(d.dspace = 2 && d.dpart = 3) && !(d.gate && (d.gtrk = 3 || d.gstep = 0)))) &&
  (!(d.rot ≠ 0 || d.mirror) || d.width % 2 ^ d.elog = 0) && (!d.hsig || d.hcnt ≠ 0)

/-- Check 4 of Table 7.4. -/
def skewOk (d : Desc) : Bool :=
  d.kind ≠ 2 || (d.dspace = 2 && d.dpart = 0 && (d.sspace = 0 || d.sspace = 1) && d.width = 64 && d.dstride = 64 &&
    d.daddr % 64 = 0)

/-- The side of a descriptor: space, core of a form engine's lane, array, part. -/
structure Loc where
  space : Nat
  core : Nat
  arr : Nat
  part : Nat
  deriving DecidableEq, Repr

/-- The source of a descriptor. -/
def srcLoc (e : Nat) (d : Desc) : Loc :=
  if d.sspace = 1 then ⟨1, 32 * engForm e + d.slane, 0, 0⟩
  else if d.sspace = 2 then ⟨2, 32 * engForm e + d.slane, d.sarr, d.spart⟩ else ⟨d.sspace, 0, 0, 0⟩
/-- The destination of a descriptor. -/
def dstLoc (e : Nat) (d : Desc) : Loc :=
  if d.dspace = 1 then ⟨1, 32 * engForm e + d.dlane, 0, 0⟩
  else if d.dspace = 2 then ⟨2, 32 * engForm e + d.dlane, d.darr, d.dpart⟩ else ⟨d.dspace, 0, 0, 0⟩

/-- Bytes of a space. -/
def Loc.limit (l : Loc) : Nat :=
  match l.space with
  | 0 => 0x8000000
  | 1 => 0x10000
  | 2 => if l.part = 0 then 0x2000 else 0x1000
  | _ => 2 ^ 48

/-- Rows and bytes per row of the destination grid (Table 7.5). -/
def dstGrid (d : Desc) : Nat × Nat :=
  let c := d.width / 2 ^ d.elog
  if d.rot = 1 ∨ d.rot = 3 then (c, d.height * 2 ^ d.elog) else (d.height, d.width)

/-- Lowest byte and one past the highest of a grid (R195). -/
def gridRange (base : Nat) (stride : Int) (rows width : Nat) : Int × Int :=
  let last : Int := base + ((rows : Int) - 1) * stride
  (min (base : Int) last, max (base : Int) last + width)

/-- The source range. -/
def srcRange (d : Desc) : Int × Int := gridRange d.saddr d.sstride d.height d.width
/-- The destination range; a SKEW's is its part of the Desk. -/
def dstRange (d : Desc) : Int × Int :=
  if d.kind = 2 then ((d.daddr : Int), (d.daddr : Int) + 64) else gridRange d.daddr d.dstride (dstGrid d).1 (dstGrid d).2

/-- A range that leaves its space (check 5 of Table 7.4): cause and first byte outside. -/
def boundsCheck (l : Loc) (r : Int × Int) : Option (Nat × Nat) :=
  if r.1 < 0 then some (0x02, (r.1 % (2 ^ 48 : Nat)).toNat)
  else if (l.limit : Int) < r.2 then some (0x02, max l.limit r.1.toNat)
  else none

/-- The condition of Table 7.3 for one side (check 5): cause and first byte refused. -/
def State.ownerCheck (s : State) (house : Nat) (l : Loc) (write : Bool) (r : Int × Int) : Option (Nat × Nat) :=
  let a := r.1.toNat
  let n := (r.2 - r.1).toNat
  match l.space with
  | 0 => (s.firstRefused house a n).map (fun x => (0x03, x))
  | 1 =>
    let k := s.core l.core
    if (List.range 64).any (fun h =>
      let e := k.handle h
      e.v && e.kind = 0 && e.house = house && (if write then e.wr else e.rd) && decide (e.base ≤ a) &&
        decide (a + n ≤ e.base + e.size)) then none else some (0x03, a)
  | 2 => if (s.core l.core).house = house ∧ s.arrayOn l.core l.arr then none else some (0x03, a)
  | _ => none

/-- Source and destination overlap (R197). -/
def overlaps (e : Nat) (d : Desc) : Bool :=
  d.kind = 1 && srcLoc e d = dstLoc e d && decide ((srcRange d).1 < (dstRange d).2) && decide ((dstRange d).1 < (srcRange d).2)

/-- Checks 3 to 7 of Table 7.4 in order: cause and FADDR of the first that fails. -/
def State.descCheck (s : State) (e : Nat) (x : DmaEng) : Option (Nat × Nat) :=
  let d := descOf x.bytes
  let empty : Bool := d.width = 0 || d.height = 0
  if !descOk e x.bytes ∨ !skewOk d then some (0x01, x.desc)
  else if d.kind = 0 ∨ empty then none
  else
    let side (src dst : Option (Nat × Nat)) : Option (Nat × Nat) :=
      (if d.kind = 3 then none else src).or (if d.kind = 4 then none else dst)
    match (side (boundsCheck (srcLoc e d) (srcRange d)) (boundsCheck (dstLoc e d) (dstRange d))).or
        (side (s.ownerCheck x.house (srcLoc e d) false (srcRange d)) (s.ownerCheck x.house (dstLoc e d) true (dstRange d))) with
    | some f => some f
    | none =>
      if (d.rot ≠ 0 || d.mirror) && overlaps e d then some (0x04, d.daddr)
      else
        let lane (l : Loc) (a : Int) : Option (Nat × Nat) :=
          if (l.space = 1 ∨ l.space = 2) ∧ !s.coreLive l.core then some (0x09, a.toNat) else none
        match (if d.kind = 3 then none else lane (srcLoc e d) (srcRange d).1) with
        | some f => some f
        | none => if d.kind = 4 then none else lane (dstLoc e d) (dstRange d).1

/-! ### Faults and the end of a chain -/

/-- A command completes (R386, R387): its record waits for the end of its House's slot. `detail` is word 1 [15:0]. -/
def State.complete (s : State) (h : Nat) (src : Option Nat) (op tag status detail : Nat) (res : List Nat) : State :=
  { s with completions := s.completions ++
      [{ house := h, src := src, opcode := op, tag := tag, status := status, detail := detail, res := res, dest := src.map (fun q => (s.qaux q).pair) }] }

/-- A command completes towards the completion queue that its source had when it was taken. -/
def State.completeTo (s : State) (dest : Option Nat) (h : Nat) (src : Option Nat) (op tag status detail : Nat) (res : List Nat) : State :=
  { s with completions := s.completions ++
      [{ house := h, src := src, opcode := op, tag := tag, status := status, detail := detail, res := res, dest := dest }] }

/-- A chain that DMA_RUN started has ended, and the command completes (R392). -/
def State.dmaAnswer (s : State) (w : Option (Nat × Option Nat × Nat)) : State :=
  match w with
  | some (h, q, tag) => s.complete h q 0x1E tag 0 0x7FFF []
  | none => s

/-- The chain ends: the window's state, a pending abort forgotten. -/
def State.dmaEnd (s : State) (e st : Nat) : State :=
  let x := s.eng e
  let s := (s.setDmaState e st).wr (Reg.DMA_En_CTRL e) 0
  (s.setEng e { starts := x.starts }).dmaAnswer x.waiter

/-- What a chain of DMA_RUN has written in LPDDR5X leaves the House's shelf before the command completes (R172, R392). -/
def State.dmaFlush (s : State) (e : Nat) : State :=
  let x := s.eng e
  let d := descOf x.bytes
  if x.waiter.isSome ∧ x.begun ∧ d.dspace = 3 ∧ (d.kind = 1 ∨ d.kind = 3) then
    s.flushRange x.house (dstRange d).1.toNat ((dstRange d).2 - (dstRange d).1).toNat true
  else s

/-- A fault of Table 7.6 that ends the chain (R202), with the DMA_FAULT event. -/
def State.dmaFault (s : State) (e cause addr : Nat) : State :=
  let s := s.dmaFlush e
  let x := s.eng e
  let s := s.wrF (Reg.DMA_En_STATUS e) 23 16 cause
  let s := s.wr (Reg.DMA_En_DESC e) (BitVec.ofNat 32 x.desc)
  let s := s.wr (Reg.DMA_En_POS e) (BitVec.ofNat 32 (x.row * 2 ^ 16 + x.byte))
  let s := s.wr64 (Reg.DMA_En_FADDR_LO e) (Reg.DMA_En_FADDR_HI e) (addr % 2 ^ 48)
  let s := s.setDmaState e 4
  let s := s.post x.house 0x12 0 none [engNum e, (s.rd (Reg.DMA_En_STATUS e)).toNat, x.desc,
    (s.rd (Reg.DMA_En_POS e)).toNat, addr % 2 ^ 32, addr / 2 ^ 32 % 2 ^ 16]
  s.dmaEnd e 4

/-- A descriptor is read (R192, checks 1 and 2 of Table 7.4, KIND defined): the engine then has it in hand. -/
def State.readDesc (s : State) (e addr : Nat) : State :=
  let x := s.eng e
  let s := s.wr (Reg.DMA_En_DESC e) (BitVec.ofNat 32 addr)
  let s := (s.wr (Reg.DMA_En_POS e) 0).setDmaState e 1
  let s := s.setEng e { x with desc := addr, begun := false, row := 0, byte := 0, temp := [] }
  if !s.banksOk x.house addr 64 then s.dmaFault e 0x03 addr
  else if addr % 64 ≠ 0 then s.dmaFault e 0x01 addr
  else
    match s.firstBad .lib addr 64 with
    | some b => (s.libError true b).dmaFault e 0x05 b
    | none =>
      let s := s.libCorrected addr 64
      let bs := s.load .lib addr 64
      if (descOf bs).kind ≤ 4 then
        s.setEng e { s.eng e with bytes := bs, phase := .ready }
      else s.dmaFault e 0x01 addr

/-- DMA_CHAIN_START: an engine with no chain takes the oldest start and reads its first descriptor (R190, R191). -/
def State.chainStart (s : State) (e : Nat) : State :=
  let x := s.eng e
  match x.phase, x.starts with
  | .idle, st :: rest =>
    let s := s.setEng e { starts := rest, house := st.house, waiter := st.waiter }
    let s := (s.wrF (Reg.DMA_En_STATUS e) 26 24 st.house).dmaDepth e
    s.readDesc e st.addr
  | _, _ => s

/-! ### The moves -/

/-- The key of a byte of a space; House addresses are kept as they are. -/
def State.locByte (s : State) (house : Nat) (l : Loc) (a : Nat) : Byte :=
  match l.space with
  | 0 => memRead s.lib a
  | 1 => memRead s.locker (lockerKey l.core a)
  | 2 => memRead s.desk (deskKey l.core l.arr (partBase l.part + a))
  | 3 => s.dramByte house a
  | _ => memRead s.host (hostKey house a)

/-- A run of bytes written in a space. -/
def State.locWrite (s : State) (house : Nat) (l : Loc) (a : Nat) (bs : List Byte) : State :=
  match l.space with
  | 0 => s.bankWrite 1024 a bs
  | 1 => s.lockerStore l.core a bs
  | 2 => s.store .desk (deskKey l.core l.arr (partBase l.part + a)) bs
  | 3 => s.dramWrite house a bs
  | _ => s.hostWrite house a bs

/-- Why a byte cannot be accessed: a fault, or a host page to be asked for. -/
inductive Fail where
  | fault (cause addr : Nat)
  | page (addr : Nat)
  deriving DecidableEq, Repr

/-- Host and LPDDR5X translations of a byte (R202, R203, R420). -/
def State.xlateFail (s : State) (house : Nat) (l : Loc) (a : Nat) : Option Fail :=
  if l.space = 3 then
    (if (s.translate house a).isSome then none else some (.fault 0x07 (a / 2 ^ 24 * 2 ^ 24)))
  else if l.space = 4 then
    (match s.page house a with
     | 0 => none
     | 1 => if Nat.testBit s.priOn house then some (.page (a / 4096 * 4096)) else some (.fault 0x07 (a / 4096 * 4096))
     | _ => some (.fault 0x07 (a / 4096 * 4096)))
  else none

/-- A source byte fails: translation, or an uncorrectable error. -/
def State.readFail (s : State) (house : Nat) (l : Loc) (a : Nat) : Option Fail :=
  let bad (sp : Space) (key : Nat) : Option Fail := if s.eccOf sp key = 2 then some (.fault 0x05 (a / 8 * 8)) else none
  match l.space with
  | 0 => bad .lib a
  | 1 => bad .locker (lockerKey l.core a)
  | 2 => bad .desk (deskKey l.core l.arr (partBase l.part + a))
  | _ => s.xlateFail house l a

/-- A destination byte fails: a bank that has closed, a lane out of service, translation. -/
def State.writeFail (s : State) (house : Nat) (l : Loc) (a : Nat) : Option Fail :=
  if l.space = 0 then (if s.bankOk house (bankOf a) then none else some (.fault 0x03 a))
  else s.xlateFail house l a

/-- The destination address of byte k of source row y (R196). -/
def placeByte (d : Desc) (y k : Nat) : Int :=
  let m := 2 ^ d.elog
  let c := d.width / m
  let x := k / m
  let (dx, dy) : Nat × Nat :=
    if d.rot = 0 ∧ !d.mirror then (x, y)
    else match d.rot, d.mirror with
      | 0, _ => (c - 1 - x, y)
      | 1, false => (d.height - 1 - y, x)
      | 1, true => (d.height - 1 - y, c - 1 - x)
      | 2, false => (c - 1 - x, d.height - 1 - y)
      | 2, true => (x, d.height - 1 - y)
      | _, false => (y, c - 1 - x)
      | _, true => (y, x)
  (d.daddr : Int) + dy * d.dstride + dx * m + k % m

/-- The destination address as a number. -/
def placeNat (d : Desc) (y k : Nat) : Nat := (placeByte d y k).toNat
/-- The source address of byte k of row y. -/
def sourceNat (d : Desc) (y k : Nat) : Nat := ((d.saddr : Int) + y * d.sstride + k).toNat

/-- The gate of row y is open (R200). -/
def State.rowGate (s : State) (d : Desc) (f0 : Word) (y : Nat) : Bool :=
  !d.gate || s.gateOpen d.gtrk f0.toNat (d.gbase + (y + 1) * d.gstep)

/-- The position of the first element of the present row whose access fails; elements are whole with ROT or MIRROR. A bus error
`bus` is met only in LPDDR5X or host memory (cause BUS). -/
def State.rowFail (s : State) (e : Nat) (x : DmaEng) (d : Desc) (bus : Option (Nat × Nat)) : Option (Nat × Fail) :=
  let y := x.row
  let m := if d.rot ≠ 0 || d.mirror then 2 ^ d.elog else 1
  (List.range (d.width - x.byte)).findSome? (fun i =>
    let k := x.byte + i
    let src := if d.kind = 3 then none else s.readFail x.house (srcLoc e d) (sourceNat d y k)
    let dst := if d.kind = 2 ∨ d.kind = 4 then none else s.writeFail x.house (dstLoc e d) (placeNat d y k)
    let bad := match src, dst with
      | some f, _ => some f
      | none, some f => some f
      | none, none =>
        if bus ≠ some (y, k) then none
        else if 3 ≤ (srcLoc e d).space then some (.fault 0x08 (sourceNat d y k))
        else if 3 ≤ (dstLoc e d).space then some (.fault 0x08 (placeNat d y k))
        else none
    bad.map (fun f => (k / m * m, f)))

/-- A source byte of an overlapping COPY reads what stood there before the COPY's own writes (R197). -/
def State.srcByte (s : State) (e : Nat) (x : DmaEng) (d : Desc) (y k : Nat) : Byte :=
  let a := sourceNat d y k
  match x.temp.find? (fun q => q.1 = a) with
  | some q => q.2
  | none => s.locByte x.house (srcLoc e d) a

/-- The bytes of Desk row DROW + i that a SKEW of `height` rows writes, from the rows it holds (R104). -/
def skewBytes (held : Memory) (height i : Nat) : Memory :=
  (List.range 64).filterMap (fun b =>
    if b % 32 ≤ i ∧ i - b % 32 < height then some (b, memRead held (64 * (i - b % 32) + b)) else none)

/-- The Desk rows that source row y lets a SKEW write: row y, and after the last row the 31 that end the diagonal (R198). -/
def skewRows (height y : Nat) : List Nat := (List.range (if y + 1 = height then 32 else 1)).map (y + ·)

/-- A source row of a SKEW has arrived: it is held with the 31 before it, and Desk rows are written (R198). -/
def State.skewArrive (s : State) (e : Nat) (x : DmaEng) (d : Desc) : State :=
  let y := x.row
  let l := dstLoc e d
  let row := (List.range 64).map (fun k => s.locByte x.house (srcLoc e d) (sourceNat d y k))
  let held := memWriteN (x.temp.filter (fun q => decide (64 * y ≤ q.1 + 64 * 31))) (64 * y) row
  let s := s.setEng e { s.eng e with temp := held }
  (skewRows d.height y).foldl (fun s i =>
    s.deskRowWrite l.core d.darr (64 * ((d.daddr / 64 + i) % 128)) (skewBytes held d.height i)) s

/-- The bytes of a row from `x.byte` up to `to_` moved (R195 to R199). -/
def State.moveRow (s : State) (e : Nat) (x : DmaEng) (d : Desc) (to_ : Nat) : State :=
  let ks := (List.range (to_ - x.byte)).map (x.byte + ·)
  let y := x.row
  if ks.isEmpty then s
  else
  match d.kind with
  | 1 =>
    let data := ks.map (fun k => (placeNat d y k, s.srcByte e x d y k))
    let s := if overlaps e d then
        let l := srcLoc e d
        let old := data.foldl (fun (m : Memory) q =>
          if (srcRange d).1 ≤ q.1 ∧ (q.1 : Int) < (srcRange d).2 ∧ !m.any (fun z => z.1 = q.1) then
            mapIns m q.1 (s.locByte x.house l q.1) else m) x.temp
        s.setEng e { s.eng e with temp := old }
      else s
    if d.rot = 0 ∧ !d.mirror then s.locWrite x.house (dstLoc e d) (placeNat d y x.byte) (data.map (·.2))
    else data.foldl (fun s q => s.locWrite x.house (dstLoc e d) q.1 [q.2]) s
  | 2 =>
    s.skewArrive e x d
  | 3 =>
    s.locWrite x.house (dstLoc e d) (placeNat d y x.byte) (ks.map (fun k => BitVec.ofNat 8 (d.pat / 256 ^ (k % 4))))
  | _ =>
    (linesOf (sourceNat d y x.byte) (to_ - x.byte)).foldl (fun s a =>
      if s.slotBank x.house (a / 64 % 64) < 512 then s.fillLine x.house a else s) s

/-- Rows moved until the descriptor ends, a gate is closed, a page is asked for or an access fails (R200 to R203). -/
def State.moveRows (s : State) (e : Nat) (d : Desc) (bus : Option (Nat × Nat)) : Nat → State
  | 0 => s
  | fuel + 1 =>
    let x := s.eng e
    if d.height ≤ x.row ∨ d.width = 0 then (s.setEng e { x with phase := .moved }).setDmaState e 1
    else if !s.rowGate d x.f0 x.row then s.setDmaState e 2
    else if ((srcLoc e d).space = 1 ∨ (srcLoc e d).space = 2) ∧ !s.coreLive (srcLoc e d).core then
      s.dmaFault e 0x09 (sourceNat d x.row x.byte)
    else if d.kind ≠ 4 ∧ ((dstLoc e d).space = 1 ∨ (dstLoc e d).space = 2) ∧ !s.coreLive (dstLoc e d).core then
      s.dmaFault e 0x09 (placeNat d x.row x.byte)
    else
      let s := s.setDmaState e 1
      let fail := s.rowFail e x d bus
      let to_ := match fail with
        | some (k, _) => if d.kind = 2 then x.byte else k
        | none => d.width
      let s := s.moveRow e x d to_
      let written := if d.kind = 2 ∧ fail.isNone then ((skewRows d.height x.row).map (fun i => (skewBytes [] d.height i).length)).sum
        else to_ - x.byte
      let s := if d.kind = 4 then s
        else s.count48 (Reg.DMA_En_BYTES_LO e) (Reg.DMA_En_BYTES_HI e) written (some x.house)
      match fail with
      | none => (s.setEng e { s.eng e with row := x.row + 1, byte := 0 }).moveRows e d bus fuel
      | some (k, .fault cause a) =>
        let s := s.setEng e { s.eng e with byte := k }
        let s := if cause = 5 ∧ (srcLoc e d).space = 0 then s.libError true a else s
        let s := if cause = 8 ∧ ((srcLoc e d).space = 3 ∨ (dstLoc e d).space = 3) then s.countErr Reg.VIN_DRAM_ERR else s
        s.dmaFault e cause a
      | some (k, .page a) =>
        let s := s.setEng e { s.eng e with byte := k, phase := .halted, page := a }
        let s := (s.wrF (Reg.DMA_En_STATUS e) 23 16 0x06).setDmaState e 3
        let s := s.wr (Reg.DMA_En_POS e) (BitVec.ofNat 32 (x.row * 2 ^ 16 + k))
        let s := s.wr64 (Reg.DMA_En_FADDR_LO e) (Reg.DMA_En_FADDR_HI e) a
        s.emit (.pageRequest x.house a)

/-- A descriptor row (DESC_NOP, COPY, SKEW, FILL, DESC_PREF): the engine that has a descriptor of this KIND in hand checks
it when it starts it, and moves it as far as it goes. -/
def State.runDesc (s : State) (e kind : Nat) (bus : Option (Nat × Nat)) : State :=
  let x := s.eng e
  let d := descOf x.bytes
  if x.phase ≠ .ready ∨ d.kind ≠ kind then s
  else if x.begun then s.moveRows e d bus (d.height + 1)
  else
    match s.descCheck e x with
    | some (cause, a) => s.dmaFault e cause a
    | none =>
      let s := s.setEng e { x with begun := true, f0 := s.rd (Reg.RAS_INs_FRAME d.gtrk) }
      if kind = 0 then s.setEng e { s.eng e with phase := .moved } else s.moveRows e d bus (d.height + 1)

/-- DESCRIPTOR_COMPLETE: the last write is visible; signal, event, next descriptor or the end of the chain (R201). -/
def State.descDone (s : State) (e : Nat) : State :=
  let x := s.eng e
  let d := descOf x.bytes
  if x.phase ≠ .moved then s
  else
    let badPass : Bool := d.hsig && decide (s.passHouse d.hpass ≠ some x.house)
    let badQueue : Bool := d.evt && decide (s.queueHouse d.queue ≠ some x.house)
    if badPass || badQueue then s.dmaFault e 0x0B 0
    else
      let (s, sat) := if d.hsig then s.signal d.hpass d.hcnt (engReq e) else (s, false)
      if sat then s.dmaFault e 0x0B 0
      else
        let s := s.dmaFlush e
        let s := if d.evt then s.postTo x.house d.queue 0x11 d.tag none [engNum e, x.desc] else s
        if d.chain then s.readDesc e d.next else s.dmaEnd e 0

/-- An abort of an engine or context (R204); an engine without a chain discards it. -/
def State.dmaAbort (s : State) (e : Nat) : State :=
  let x := s.eng e
  if x.phase = .idle then s
  else
    let d := descOf x.bytes
    s.dmaFault e 0x0A (if d.kind = 3 then placeNat d x.row x.byte else if d.kind = 0 then 0 else sourceNat d x.row x.byte)

/-- A write of 1 to DMA_En_CTRL.ABORT by a function, or by Dvorzar (none): of use only from the House whose chain or context
the window holds (R204, R213). -/
def State.abortWrite (s : State) (fn : Option Nat) (e : Nat) : State :=
  match fn with
  | none => s.dmaAbort e
  | some h => if s.dmaHouse e = h then s.dmaAbort e else s

/-- A PRI response for a page of a function (R203, R372): Success makes the page present and its halted contexts go on,
anything else ends them with XLATE. -/
def State.priResponse (s : State) (fn page : Nat) (ok : Bool) : State :=
  let s := if ok then s.setPage fn page 0 else s
  let s := { s with asked := s.asked.filter (fun k => decide (k ≠ hostKey fn (page / 4096 * 4096))) }
  (List.range 4).foldl (fun s i =>
    let e := 64 + 8 * i + fn
    let x := s.eng e
    if x.phase = .halted ∧ x.page = page / 4096 * 4096 then
      (if ok then (s.setEng e { x with phase := .ready }).setDmaState e 1 else s.dmaFault e 0x07 x.page)
    else s) s

end Sys2Proof.Machine
end

