-- ==== Sys2Proof/Machine/VectorSlot.lean ====
section
/-! DEFINITION. What the vector slot does (R83 to R85, Table 3.9): S3 of a bundle. -/
namespace Sys2Proof.Machine

/-- A pure lane-wise result without flags. -/
def noFl (f : Nat → Nat → Nat) (a b : Nat) : Nat × Flags := (f a b, 0)

/-- The vector result and flags of an operation that writes v[VD]. -/
def vecOp (k : Core) (w : SlotW) : VWord × Flags :=
  let t := vType w
  let bits := tyBits t
  let a := k.V (sB w)
  let b := k.V (sC w)
  let i := vImm w
  match sOp w with
  | 0x01 => vMap2 bits (laneAdd t (vSat w)) a b
  | 0x02 => vMap2 bits (laneSub t (vSat w)) a b
  | 0x03 => vMap2 bits (laneMul t) a b
  | 0x04 => vMap3 bits (laneFma t (vSat w)) a b (k.V (vC w))
  | 0x05 => vMap2 bits (laneMin t) a b
  | 0x06 => vMap2 bits (laneMax t) a b
  | 0x07 => (a &&& b, 0)
  | 0x08 => (a ||| b, 0)
  | 0x09 => (a ^^^ b, 0)
  | 0x0A => vMap2 bits (noFl (laneShl t)) a b
  | 0x0B => vMap2 bits (noFl (laneShr t)) a b
  | 0x0C => (vPack bits ((vLanes bits a).map (fun x => laneShl t x i)), 0)
  | 0x0D => (vPack bits ((vLanes bits a).map (fun x => laneShr t x i)), 0)
  | 0x0E => vMap2 bits (noFl (fun x y => if laneCmp t (i % 8) x y then 2 ^ bits - 1 else 0)) a b
  | 0x0F => vMap3 bits (fun x y z => (if z ≠ 0 then x else y, 0)) a b (k.V (vC w))
  | 0x10 => vConvert (i % 16) t (i / 32 % 8) (i / 16 % 2 = 1) a (k.V (sA w))
  | 0x11 => vReduceTy t (laneAdd t (vSat w)) a
  | 0x12 => vReduceTy t (laneMax t) a
  | 0x13 => (vPerm bits a b, 0)
  | 0x14 => (vSlide bits i a b, 0)
  | 0x15 => (vSplat bits (k.G (vC w)).toNat, 0)
  | 0x17 => (vPack bits ((vLanes bits a).set (i % (1024 / bits)) ((k.G (vC w)).toNat % 2 ^ bits)), 0)
  | 0x18 => (a, 0)
  | 0x19 => vPackF bits ((vLanes bits a).map (laneAbs t (vSat w)))
  | 0x1C => vMap2 bits (noFl (laneMulh t)) a b
  | _ => (0, 0)

/-- VEXT: one lane, sign-extended for signed types. -/
def vecExt (k : Core) (w : SlotW) : Word :=
  let t := vType w
  let x := (vLanes (tyBits t) (k.V (sB w))).getD (vImm w % (1024 / tyBits t)) 0
  if tySigned t then ofI 32 (sgn (tyBits t) x) else BitVec.ofNat 32 x

/-- The effect of an executing vector slot on the core. -/
def vecRun (k : Core) (w : SlotW) (x : Core) : Core :=
  let lanes := vLanes (tyBits (vType w)) (k.V (sB w))
  match sOp w with
  | 0x00 => x
  | 0x16 => x.setG (sA w) (vecExt k w)
  | 0x1A => x.setP (fld w 51 49) (lanes.any (· ≠ 0))
  | 0x1B => x.setP (fld w 51 49) (lanes.all (· ≠ 0))
  | _ => (x.setV (sA w) (vecOp k w).1).orFlags (vecOp k w).2

end Sys2Proof.Machine
end

