-- ==== Sys2Proof/Machine/Issue.lean ====
section
/-! DEFINITION. The issue of a bundle (R67 to R72, R94): one attempt, which stalls, faults or takes effect as a whole. -/
namespace Sys2Proof.Machine

/-- The tile cores are powered and out of reset (Table 16.2). -/
def State.coresOn (s : State) : Bool := s.resetN && s.power = .on

/-- The slots of a bundle that carry an instruction. -/
def usedSlots (ws : List SlotW) : List (Nat × SlotW) := (slotsOf ws).filter (fun x => x.2 ≠ 0)

/-- Slots that execute (R69). -/
def runSlots (k : Core) (ws : List SlotW) : List (Nat × SlotW) :=
  (usedSlots ws).filter (fun x => k.guard x.2 && sOp x.2 ≠ 0)

/-- Conditions 2 and 3 of R71: a guard, a source or a destination is outstanding; a 17th Library load. -/
def State.depStall (s : State) (k : Core) (c : Nat) (ws : List SlotW) : Bool :=
  let b := s.busyRegs c
  (usedSlots ws).any (fun x => RegSet.meets { p := [sPG x.2] } b) ||
  (runSlots k ws).any (fun x => (slotSrc x.1 x.2).meets b || (slotDest x.1 x.2).meets b) ||
  (runSlots k ws).any (fun x => x.1 = 2 && (sOp x.2 = 1 || sOp x.2 = 2 || sOp x.2 = 4) &&
    ((k.handle (s2H x.2)).kind = 1 || (k.handle (s2H x.2)).kind = 2) && decide (16 ≤ k.loads.length))

/-- Conditions 4 and 5 of R71, and the gather buffer's (R181): a full queue or lane, a pending wait. -/
def State.queueStall (s : State) (k : Core) (c : Nat) (ws : List SlotW) : Bool :=
  !k.waits.isEmpty ||
  (runSlots k ws).any (fun x =>
    (x.1 = 2 && s.gatherStall k c x.2) ||
    (x.1 = 4 && decide (4 ≤ k.m0.queue.length)) ||
    (x.1 = 5 && decide (4 ≤ k.m1.queue.length)) ||
    (x.1 = 6 && (if sOp x.2 = 0x04 then decide (2 ≤ k.lane.length) else decide (4 ≤ k.xfer.length))))

/-- The arrays whose pending fault a slot raises (R128). -/
def pendArrays (fold : Bool) (i : Nat) (w : SlotW) : List Nat :=
  let op := sOp w
  if i = 4 ∨ i = 5 then (if fold then [0, 1] else [i - 4])
  else if i = 7 ∧ (op = 7 ∨ op = 8) then [0, 1]
  else if i = 7 ∧ op = 5 ∧ 4 ≤ fld w 3 0 ∧ fld w 3 0 ≤ 6 then
    (if fold ∨ fld w 3 0 = 6 then [0, 1] else [fld w 3 0 - 4])
  else []

/-- The slot raises a fault held pending on the transfer queue (Table 6.3). -/
def pendXfer (i : Nat) (w : SlotW) : Bool :=
  i = 6 || (i = 7 && (sOp w = 7 || sOp w = 8 || (sOp w = 5 && fld w 3 0 = 7)))

/-- The first fault that is held for an executing slot: on a source register, on an array, on the transfer queue. -/
def State.heldFault (s : State) (k : Core) (c i : Nat) (w : SlotW) : Option CoreFault :=
  let src := slotSrc i w
  match k.regFault.find? (fun r => if r.1 then src.v.contains r.2.1 else r.2.1 ≠ 0 && src.g.contains r.2.1) with
  | some r => some ⟨0x0A, 4, r.2.2⟩
  | none =>
    match (pendArrays (s.fold c) i w).findSome? (fun a => (k.arr a).pendFault) with
    | some f => some ⟨f.1, f.2.1, f.2.2⟩
    | none => if pendXfer i w then k.xferFault.map (fun f => ⟨0x0A, f.1, f.2⟩) else none

/-- The fault that one slot of a bundle raises (R69, R94): decode whatever the guard, then what is held, then its checks. -/
def State.slotFault (s : State) (k : Core) (c : Nat) (ws : List SlotW) (x : Nat × SlotW) : Option CoreFault :=
  let (i, w) := x
  if !slotLegal k.pc i w then some (illegalOp w)
  else
    match bundleClash ws with
    | some (j, cls, r) => if j = i then some ⟨0x02, cls * 2 ^ 8 + r, 0⟩ else rest i w
    | none => rest i w
where
  /-- The checks of a legal slot that executes. -/
  rest (i : Nat) (w : SlotW) : Option CoreFault :=
    if !k.guard w || sOp w = 0 then none
    else
      match s.heldFault k c i w with
      | some f => some f
      | none =>
        if i ≤ 1 then scalarCheck w
        else if i = 2 then s.lockerCheck k c w
        else if i = 4 ∨ i = 5 then s.matrixCheck k (i - 4) w
        else if i = 6 then s.transferCheck k c w
        else if i = 7 then s.controlCheck k w
        else none

/-- The lowest slot that faults, with its fault. -/
def State.bundleFault (s : State) (k : Core) (c : Nat) (ws : List SlotW) : Option (Nat × CoreFault) :=
  (slotsOf ws).findSome? (fun x => (s.slotFault k c ws x).map (fun f => (x.1, f)))

/-- A fault that was held and is now raised is held no more. -/
def clearHeld (f : CoreFault) (k : Core) : Core :=
  let hit (p : Option (Nat × Nat × Nat)) : Bool := p = some (f.cause, f.info, f.addr)
  let k := if hit k.m0.pendFault then k.setArr 0 { k.m0 with pendFault := none }
    else if hit k.m1.pendFault then k.setArr 1 { k.m1 with pendFault := none }
    else if f.cause = 0x0A ∧ k.xferFault = some (f.info, f.addr) then { k with xferFault := none } else k
  if f.cause = 0x0A ∧ f.info = 4 then { k with regFault := k.regFault.filter (fun r => decide (r.2.2 ≠ f.addr)) } else k

/-- The effect of one executing slot; `k` is the core before the bundle. -/
def State.slotRun (s : State) (k : Core) (c : Nat) (x : Nat × SlotW) : State :=
  let (i, w) := x
  if i ≤ 1 then s.scalarRun k c w
  else if i = 2 then s.lockerRun k c w
  else if i = 3 then s.onCore c (vecRun k w)
  else if i = 4 ∨ i = 5 then s.onCore c (matrixRun k (i - 4) w)
  else if i = 6 then s.transferRun k c w
  else s.controlRun k c w

/-- A register that a bundle writes no longer holds a load's MEM_ECC. -/
def dropRegFaults (es : List (Nat × SlotW)) (k : Core) : Core :=
  { k with regFault := k.regFault.filter (fun r => !es.any (fun x =>
      if r.1 then (slotDest x.1 x.2).v.contains r.2.1 else (slotDest x.1 x.2).g.contains r.2.1)) }

/-- A bundle issues (R71, R72): CNT_ISSUE counts it, the pc and the loops move. -/
def State.beginBundle (s : State) (k : Core) (c : Nat) (ws : List SlotW) : State :=
  let es := runSlots k ws
  let (pc, loops) := nextPc k ((es.find? (fun x => x.1 = 0 && isBranch (sOp x.2))).map (·.2))
    ((es.find? (fun x => x.1 = 7 && sOp x.2 = 0x0E)).map (·.2))
  (s.onCore c (fun y => dropRegFaults es { y with pc := pc, loops := loops, seq := k.seq + 1, bpSkip := false })).csrCount c 0x18 1

/-- A bundle takes effect (R71, R72): it issues, then every slot acts on the values before the bundle; CSRW acts first. -/
def State.runBundle (s : State) (k : Core) (c : Nat) (ws : List SlotW) : State :=
  let es := runSlots k ws
  let s := s.beginBundle k c ws
  let s := (es.filter (fun x => x.1 ≤ 1 && sOp x.2 = 0x29)).foldl (fun s x => s.onCore c (csrwRun k x.2)) s
  (es.foldl (fun s x => s.slotRun k c x) s).progress c

/-- The core stands at its breakpoint (R444). -/
def Core.atBreak (k : Core) : Bool := bit k.bp 31 && decide (fld k.bp 12 0 = k.pc) && !k.bpSkip

/-- The core issues bundles at all: powered, in service, running a program, not halted. -/
def State.canIssue (s : State) (c : Nat) : Bool :=
  let k := s.core c
  s.coresOn && s.coreLive c && !k.idle && !k.stopped && !k.halted

/-- One cycle's attempt to issue a bundle on a core: it halts at a breakpoint, stalls and counts the cycle, faults, or takes
effect. -/
def State.issue (s : State) (c : Nat) (ws : List SlotW) : State :=
  let s := s.progress c
  let k := s.core c
  if !s.canIssue c then s
  else if k.atBreak then s.setCore c { k with halted := true }
  else if s.depStall k c ws then s.csrCount c 0x1A 1
  else if s.queueStall k c ws then s.csrCount c 0x1E 1
  else
    let s' := match s.bundleFault k c ws with
      | some (i, f) => (s.onCore c (clearHeld f)).takeFault c f i k.pc
      | none => s.runBundle k c ws
    if k.stepping then s'.onCore c (fun x => { x with halted := true, stepping := false }) else s'

/-- A row of a tile-core instruction: the attempt to issue a bundle that holds it alone, in slot i (log 8). -/
def State.issue1 (s : State) (c i op pg : Nat) (pn : Bool) (body : BitVec 54) : State :=
  s.issue c (bundle1 i (slotWord op pg pn body))

/-! ### Fetch (R77) -/

/-- The key of a byte of a form's instruction store. -/
def istoreKey (f a : Nat) : Nat := f * 2 ^ 19 + a

/-- A form that hand-offs name: a fetch outside the bundle range of the running House is delivered as a TRAP (R424). -/
def State.outsideRange (s : State) (f house pc : Nat) : Bool :=
  s.handoffs.any (fun x => bit x.2.forms f) &&
  !(s.models.any (fun m => decide (m.house = house) && m.images.any (fun im =>
    im.istore.any (fun x => decide (x.1 = f) && decide (x.2.1 ≤ pc) && decide (64 * (pc - x.2.1) < x.2.2.length)))))

/-- A bundle whose S7 holds TRAP with CODE 0xFFFF (R424). -/
def trapBundle : List SlotW := bundle1 7 (slotWord 0x10 0 false 0xFFFF)

/-- The eight slot words of the bundle at an address of a form's instruction store. -/
def State.fetch (s : State) (f pc : Nat) : List SlotW :=
  (List.range 8).map (fun i => BitVec.ofNat 64 (leNat (s.load .istore (istoreKey f (64 * pc + 8 * i)) 8)))

/-- A core fetches and issues the bundle at its pc: corrected words are counted, an uncorrectable word raises MEM_ECC. -/
def State.fetchIssue (s : State) (c : Nat) : State :=
  let s := s.progress c
  let k := s.core c
  let key := istoreKey (c / 32) (64 * k.pc)
  if !s.canIssue c || k.atBreak || !k.waits.isEmpty then s.issue c []
  else if s.outsideRange (c / 32) k.house k.pc then s.issue c trapBundle
  else if (s.firstBad .istore key 64).isSome then
    let s' := s.takeFault c ⟨0x0A, 3, k.pc⟩ 0 k.pc
    if k.stepping then s'.onCore c (fun x => { x with halted := true, stepping := false }) else s'
  else (s.coreEcc c (s.corrected .istore key 64)).issue c (s.fetch (c / 32) k.pc)

end Sys2Proof.Machine
end

