-- ==== Sys2Proof/Machine/Substitute.lean ====
section
/-! DEFINITION. The Substitute's jobs and the tiers (R268 to R285): geometry, queueing, parts, starting, release; the effective tier
of a band and what moves it. -/
namespace Sys2Proof.Machine

/-- The BAND entry of a pipeline's band for a tier, of the images that run. -/
def State.bandEnt (s : State) (p b tier : Nat) : Option BandEnt := mapGet (fun _ => none) s.bandEnts ((p * 2048 + b) * 4 + tier)
/-- A BAND entry of any tier: ROW0, ROWS, FORM and the bells are the same in all (R282). -/
def State.anyEnt (s : State) (p b : Nat) : Option BandEnt := (List.range 3).findSome? (s.bandEnt p b)
/-- A form's tier parts. -/
def State.formTier (s : State) (f : Nat) : FormTier := mapGet (fun _ => {}) s.formTiers f
/-- The bell entry at an index of a bank. -/
def State.bell (s : State) (bank e : Nat) : BellEntry := mapGet (fun _ => {}) s.bells (bank * 4096 + e)
/-- The active bell bank. -/
def State.bellBank (s : State) : Nat := s.rdF Reg.RAS_BELLSTAT 0 0
/-- VTOTAL, VACTIVE and HTOTAL of a raster. -/
def State.vtotal (s : State) (r : Nat) : Nat := s.rdF (Reg.RASn_VTIMING r) 31 16
/-- VACTIVE. -/
def State.vactive (s : State) (r : Nat) : Nat := s.rdF (Reg.RASn_VTIMING r) 15 0
/-- HTOTAL. -/
def State.htotal (s : State) (r : Nat) : Nat := s.rdF (Reg.RASn_HTIMING r) 31 16
/-- STRETCH_LINE. -/
def State.stretchLine (s : State) (r : Nat) : Nat := s.rdF (Reg.RASn_VTIMING2 r) 15 0
/-- VTOTAL_MAX. -/
def State.vtotalMax (s : State) (r : Nat) : Nat := s.rdF (Reg.RASn_VTIMING2 r) 31 16

/-! ### Jobs (R269 to R273) -/

/-- First and one past the last input row that a job reads, widened and clipped (R269). -/
def extent (row0 rows inH outH : Nat) : Nat × Nat :=
  (row0 * inH / outH - 3, min inH (ceilDiv ((row0 + rows) * inH) outH + 4))

/-- Rin of a band: the rows of its widened extent. -/
def rinOf (p : Pipe) (e : BandEnt) : Nat :=
  let x := extent e.row0 e.rows p.inH p.outH
  x.2 - x.1

/-- Bytes of the Substitute store that a job holds (R271). -/
def jobBytes (p : Pipe) (e : BandEnt) : Nat := rinOf p e * p.inW * 4

/-- T_prep in SCLK cycles (R271). -/
def tPrep (p : Pipe) (rin : Nat) : Nat := 2200 + ceilDiv (2 * rin * p.inW) 3

/-- The line, from output frame 0, at which a bell fires for a target frame (R43). -/
def bellLine (vtotal : Nat) (w0 : Word) (target : Nat) : Int := ((target : Int) - fld w0 31 30) * vtotal + fld w0 15 0

/-- The 64-bit target frame whose low half is given, near a raster's counter. -/
def nearFrame (now : Nat) (lo : Nat) : Nat := now + sgn 32 ((lo + 2 ^ 32 - now % 2 ^ 32) % 2 ^ 32) |>.toNat

/-- The job of a band for a target frame. -/
def State.findJob (s : State) (p b : Nat) (t : Word) : Option SubJob :=
  s.subJobs.find? (fun j => decide (j.pipe = p) && decide (j.band = b) && decide (j.target = t))

/-- DLN_SUB follows the jobs. -/
def State.subStat (s : State) : State :=
  let run := s.subJobs.filter (fun j => decide (j.phase = 1))
  let held := s.subJobs.filter (fun j => decide (1 ≤ j.phase))
  (s.wrF Reg.DLN_SUB 3 0 run.length).wrF Reg.DLN_SUB 21 8 (ceilDiv ((held.map (·.bytes)).sum) 1024)

/-- SSTATE of a band's record set, where the record is of this target frame. -/
def State.setSState (s : State) (p b : Nat) (t : Word) (st : SState) : State :=
  let r := s.bandRec p b
  if r.tframe = t then s.setBandRec p b { r with sstate := st } else s

/-- SSTATE as a job's phase gives it. -/
def phaseState (phase : Nat) : SState := if phase = 0 then .waiting else if phase = 1 then .preparing else .ready

/-- A House's first bell entry: the bells that an image names are places in its range (R235). -/
def State.bellBase (s : State) (h : Nat) : Nat := s.rdF (Reg.RAS_HRANGEh h) 11 0

/-- A pipeline as the jobs of its cut read it: with the new source's size (R341). -/
def Pipe.forCut (x : Pipe) : Pipe := { x with inW := x.cutW, inH := x.cutH }

/-- A preparation job is queued; its due time is fixed (R271). One job for each entry (Table 10.3): a job that is queued already
only shows in the record. -/
def State.queueJob (s : State) (p b : Nat) (t : Word) (onCall cut : Bool) : State :=
  match s.anyEnt p b, s.findJob p b t with
  | some e, none =>
    let x := s.pipe p
    let now := (s.raster x.raster).frame.toNat
    let due := bellLine (s.vtotal x.raster) (s.bell s.bellBank (s.bellBase x.house + e.lateBell)).w0 (nearFrame now t.toNat)
    let j : SubJob := { house := x.house, pipe := p, band := b, target := t, onCall := onCall, due := due.toNat
                        bytes := jobBytes (if cut then x.forCut else x) e, phase := 0, cut := cut }
    ({ s with subJobs := s.subJobs ++ [j] } : State).setSState p b t .waiting
  | _, some j => s.setSState p b t (phaseState j.phase)
  | none, none => s

/-- A job leaves; its store is free again. -/
def State.dropJob (s : State) (p b : Nat) (t : Word) : State :=
  State.subStat { s with subJobs := s.subJobs.filter (fun j => !(decide (j.pipe = p) && decide (j.band = b) && decide (j.target = t))) }

/-- An on-call call (R281): it queues a job and counts, once for an entry, when its SSTATE is NONE. -/
def State.callJob (s : State) (p b : Nat) (t : Word) : State :=
  let r := s.bandRec p b
  if bit (s.rd (Reg.DLN_Pp_CTRL p)) 1 && r.tframe = t && r.sstate = .none then
    (s.queueJob p b t true false).countErr (Reg.DLN_Pp_CALLS p)
  else s

/-- The pool of a job: a House's part, or the units and store outside every part (R271). -/
def SubJob.pool (j : SubJob) : Option Nat := if j.onCall then none else some j.house

/-- Units and store of a pool. -/
def State.poolSize (s : State) (pool : Option Nat) : Nat × Nat :=
  match pool with
  | some h => mapGet (fun _ => (0, 0)) s.parts h
  | none =>
    let used := (List.range 8).map (mapGet (fun _ => (0, 0)) s.parts)
    (8 - (used.map (·.1)).sum, 8 * 2 ^ 20 - (used.map (·.2)).sum)

/-- Time from now to a job's due instant, in nanoseconds of nominal lines. -/
def State.dueIn (s : State) (j : SubJob) : Int :=
  let r := (s.pipe j.pipe).raster
  let x := s.raster r
  let lines : Int := (j.due : Int) - (x.frame.toNat * s.vtotal r + x.line : Nat)
  let khz := mapGet (fun _ => 0) s.pclk r
  if khz = 0 then lines else lines * (s.htotal r * 1000000 : Nat) / khz

/-- Job a starts before job b: earlier due, then the lower pipeline, then the lower band (R271). -/
def State.jobBefore (s : State) (a b : SubJob) : Bool :=
  decide (s.dueIn a < s.dueIn b) || (decide (s.dueIn a = s.dueIn b) &&
    (decide (a.pipe < b.pipe) || (decide (a.pipe = b.pipe) && decide (a.band < b.band))))

/-- SUB_JOB_START: the first waiting job of a pool starts when a unit and enough store are free there. -/
def State.startJob (s : State) (p b : Nat) : State :=
  match s.subJobs.find? (fun j => decide (j.pipe = p) && decide (j.band = b) && decide (j.phase = 0)) with
  | none => s
  | some j =>
    let mates := s.subJobs.filter (fun k => decide (k.pool = j.pool))
    let size := s.poolSize j.pool
    let held := ((mates.filter (fun k => decide (1 ≤ k.phase))).map (·.bytes)).sum
    let first := (mates.filter (fun k => decide (k.phase = 0))).all (fun k => decide (k = j) || s.jobBefore j k)
    if first && decide ((mates.filter (fun k => decide (k.phase = 1))).length < size.1) && decide (held + j.bytes ≤ size.2) then
      (State.subStat { s with subJobs := s.subJobs.map (fun k => if k = j then { k with phase := 1 } else k) }).setSState p b j.target .preparing
    else s

/-! ### Tiers (R282 to R285) -/

/-- DLN_FORMf shows the parts of a form's tier. -/
def State.showFormTier (s : State) (f : Nat) : State :=
  let x := s.formTier f
  let w := setFld (s.rd (Reg.DLN_FORMf f)) 1 0 (max x.heat (max x.loss x.late))
  s.wr (Reg.DLN_FORMf f) (setBit w 2 (decide (0 < x.heat)))

/-- A form's parts replaced; a change of its tier posts TIER_CHANGE. -/
def State.setFormTier (s : State) (f : Nat) (x : FormTier) : State :=
  let old := s.rdF (Reg.DLN_FORMf f) 1 0
  let s := State.showFormTier { s with formTiers := mapSet (fun _ => {}) s.formTiers f x } f
  let new := s.rdF (Reg.DLN_FORMf f) 1 0
  if old = new then s else s.post 0 0x1E 0 none [f, new]

/-- The chip floor replaced; a change posts TIER_CHANGE. -/
def State.setChipFloor (s : State) (v : Nat) : State :=
  if s.rdF Reg.DLN_CHIP 1 0 = v then s else (s.wrF Reg.DLN_CHIP 1 0 v).post 0 0x1E 0 none [0x1F, v]

/-- The tier at which a band arms: the effective tier of R283, raised to the next tier that has an image (R285); 3 for a
pipeline whose function was reset (Table 13.6). -/
def State.armTier (s : State) (p b f : Nat) : Nat :=
  let e := max (max (s.rdF (Reg.DLN_Pp_CTRL p) 5 4) (s.rdF Reg.DLN_CHIP 1 0))
    (max (s.rdF (Reg.DLN_FORMf f) 1 0) (s.bandRec p b).btier)
  if (s.pipe p).flr then 3
  else ((List.range 3).find? (fun t => decide (e ≤ t) && (s.bandEnt p b t).isSome)).getD 3

/-- LRUN, CRUN and BTIER after a LATE check (R284). -/
def tierStep (r : BandRec) (neural : Bool) : BandRec :=
  if neural then
    let c := r.crun + 1
    if c = 255 ∧ 0 < r.btier then { r with lrun := 0, crun := 0, btier := r.btier - 1 }
    else { r with lrun := 0, crun := min c 255 }
  else
    let l := r.lrun + 1
    if l = 2 then { r with lrun := 0, crun := 0, btier := min 3 (r.btier + 1) } else { r with lrun := l, crun := 0 }

/-- The late part of a form's tier after a LATE check (Table 10.4). -/
def lateStep (x : FormTier) (t : Word) (neural : Bool) : FormTier :=
  let x := if x.frame = t then x else { x with frame := t, missed := 0 }
  if neural then
    if x.clean + 1 = 1024 then { x with clean := 0, late := x.late - 1 } else { x with clean := x.clean + 1 }
  else if x.missed + 1 = 4 then { x with missed := 4, clean := 0, late := min 3 (x.late + 1) }
  else { x with missed := x.missed + 1, clean := 0 }

end Sys2Proof.Machine
end

