-- ==== Sys2Proof/Machine/Bells.lean ====
section
/-! DEFINITION. Bells (R41 to R49), their actions (Table 2.5), band checks (R275, R276), and the hand-off (R423, R424). -/
namespace Sys2Proof.Machine

/-! ### Matching -/

/-- An entry fires at a line of a frame of a raster (R43). -/
def bellFires (w0 : Word) (r : Nat) (frame line : Nat) : Bool :=
  decide (fld w0 18 16 = r) && decide (fld w0 15 0 = line) && decide (frame % 2 ^ fld w0 22 20 = fld w0 29 23)

/-- An entry of a bank may fire for a target frame (R48): raster `r` with a swap pending on `sw` for frame `t`. -/
def bankOpen (active bank r : Nat) (sw : Option Nat) (t target : Nat) : Bool :=
  match sw with
  | none => decide (bank = active)
  | some q => if q = r then (if bank = active then decide (target < t) else decide (t ≤ target)) else decide (bank ≠ active)

/-- The frame T of the last swap. -/
def State.swapT (s : State) : Nat := s.rd64 Reg.RAS_SWAP_T_LO Reg.RAS_SWAP_T_HI

/-- The bells that match a line of a raster, in ascending entry index. -/
def State.matching (s : State) (r frame line : Nat) : List DueBell :=
  let all := s.bells.filterMap (fun x =>
    let e := x.1 % 4096
    let b := x.2
    let target := frame + fld b.w0 31 30
    if bit b.w1 4 && bellFires b.w0 r frame line && (s.bellHouse e).isSome &&
        bankOpen s.bellBank (x.1 / 4096) r (s.swap.map (·.1)) s.swapT target then
      some ({ entry := e, bell := b, target := target } : DueBell)
    else none)
  all.mergeSort (fun a b => decide (a.entry ≤ b.entry))

/-- Bells of a line begin to be dispatched: those beyond the sixteenth are late (R46). -/
def State.ringLine (s : State) (r frame line : Nat) : State :=
  let ms := s.matching r frame line
  let s := (List.range (ms.length - 16)).foldl (fun s _ => s.countErr Reg.RAS_DISPERR) s
  let x := s.raster r
  s.setRaster r { x with due := x.due ++ ms }

/-- A bell row: the named entry of a raster is being dispatched, with an action code, and `f` is its effect for its House. An
entry that is not being dispatched, or of another action, has none. -/
def State.onBell (s : State) (r e action : Nat) (f : State → Nat → DueBell → State) : State :=
  let x := s.raster r
  match x.due.find? (fun d => decide (d.entry = e) && decide (fld d.bell.w1 3 0 = action)) with
  | none => s
  | some d =>
    let s := s.setRaster r { x with due := x.due.erase d }
    match s.bellHouse e with
    | some h => f s h d
    | none => s

/-- ARG_C of a bell. -/
def DueBell.argC (d : DueBell) : Nat := fld d.bell.w1 31 16
/-- The pipeline of ARG_B. -/
def DueBell.pipe (d : DueBell) : Nat := fld d.bell.w3 17 16
/-- The target frame as records hold it. -/
def DueBell.target32 (d : DueBell) : Word := BitVec.ofNat 32 d.target

/-- The forms of a mask that a House's grant names. -/
def State.houseForms (s : State) (h : Nat) (mask : Word) : List Nat :=
  (List.range 32).filter (fun f => bit mask f && Nat.testBit (s.grant h).forms f)

/-- The cores of a form. -/
def formCores (f : Nat) : List Nat := (List.range 32).map (32 * f + ·)

/-! ### Programs (R61, R62) -/

/-- What the arrays of a core still write is written, and their commands that have not started are discarded (R62). -/
def State.stopArrays (s : State) (c : Nat) : State :=
  [0, 1].foldl (fun s a =>
    let x := (s.core c).arr a
    let s := s.onArr c a (fun x => { x with queue := [], running := [] })
    x.running.foldl (fun s r => (r.writes.foldl (fun s w => s.drainVisible c a w) s).onCore c (fun k => k.orFlags r.flags)) s) s

/-- A core's ROLLs that wait are dropped. -/
def State.dropRolls (s : State) (c : Nat) : State :=
  let f := c / 32
  let x := s.form f
  s.setForm f { x with rolls := x.rolls.filter (fun r => decide (r.core ≠ c)) }

/-- The handle tables swap at the first PROG_START whose target frame is T or later (R175). -/
def handleTurn (k : Core) (target : Nat) : Core :=
  match k.handleSwap with
  | some t => if t ≤ target then { k with handles := k.shadowHandles, shadowHandles := k.handles, handleSwap := none } else k
  | none => k

/-- One core starts a program (R61). -/
def State.startCore (s : State) (c entry pipe band target tier : Nat) : State :=
  let k := s.core c
  let running := !k.idle && !k.stopped
  let s := if running then
      let x := s.formTier (c / 32)
      { s with formTiers := mapSet (fun _ => {}) s.formTiers (c / 32) { x with preempts := x.preempts + 1 } }
    else s
  let s := (((s.flushGather c).stopArrays c).dropRolls c).unwait (.core c)
  s.onCore c (fun k =>
    let k := handleTurn k target
    let k := { k with g := [], v := [], p := 1, pc := entry, idle := false, stopped := false, loops := [], latches := [], waits := []
                      loads := [], regFault := [], xfer := [], lane := [], halted := k.hos, bpSkip := false }
    let k := (k.setG 1 (BitVec.ofNat 32 band)).setG 2 (BitVec.ofNat 32 pipe)
    let k := (((k.setC 8 0).setC 9 0).setC 0xA 0).setC 3 (BitVec.ofNat 32 (pipe * 2 ^ 16 + band))
    let k := (k.setC 4 (BitVec.ofNat 32 target)).setC 5 (BitVec.ofNat 32 tier)
    if running then k.setC 6 (setBit (k.C 6) 1 true) else k)

/-- A cut rules a band of a target frame (R341). -/
def cutRules (x : Pipe) (band target : Nat) : Bool :=
  match x.cut with
  | some (_, b, t) => (decide (target = t) && decide (b ≤ band)) || decide (t < target)
  | none => false

/-- The band of a form is armed for a target frame, and its preparation job queued (R221, R274, R280, R281, R341). -/
def State.armBand (s : State) (f p b target tier : Nat) : State :=
  let t := BitVec.ofNat 32 target
  let x := s.pipe p
  let h := x.house
  let s := match s.bandEnt p b tier with
    | some e => s.armCounter f p b t e.deal e.nt (if e.shape then some (e.shapeAddr, h) else none) tier
    | none => s.armCounter f p b t false 0 none tier
  let s := s.setPipe p { s.pipe p with tierMax := max (s.pipe p).tierMax tier }
  let onCall := bit (s.rd (Reg.DLN_Pp_CTRL p)) 1
  if cutRules x b target then s.queueJob p b t onCall true
  else if onCall then (if tier = 3 ∨ s.liveLanes f = 0 then s.callJob p b t else s)
  else s.queueJob p b t false false

/-- The homework units in a form's hands end with its PROG_START or hand-off (R301). -/
def State.hwEnd (s : State) (f : Nat) : State :=
  { s with hw := s.hw.map (fun (x : Nat × Hw) =>
      (x.1, { x.2 with units := x.2.units.map (fun (u : HwUnit) => if u.form = f then { u with ended := true } else u) })) }

/-- A PROG_START bell (R61, R221). -/
def State.progStart (s : State) (h : Nat) (d : DueBell) : State :=
  let band := d.argC
  let p := d.pipe
  let owned : Bool := band = 0xFFFF || ((s.pipe p).valid && decide ((s.pipe p).house = h))
  if !owned then s
  else
    (s.houseForms h d.bell.w2).foldl (fun s f =>
      let s := s.hwEnd f
      let tier := if band = 0xFFFF then 0 else s.armTier p band f
      let cores := (formCores f).filter (fun c => s.coreLive c && decide ((s.core c).house = h))
      let s := cores.foldl (fun s c => s.startCore c (fld d.bell.w3 12 0) p band d.target tier) s
      if band = 0xFFFF then { s with noBand := mapSet (fun _ => false) s.noBand f true }
      else s.armBand f p band d.target tier) s

/-- A WAKE bell (R91): it ends a BWAIT for its tag, or takes a latch. -/
def wakeCore (tag : Nat) (k : Core) : Core :=
  if k.waits.contains (.bell tag) then { k with waits := k.waits.filter (fun w => decide (w ≠ .bell tag)) }
  else { k with latches := (if k.latches.length < 8 then k.latches else k.latches.tail) ++ [tag] }

/-- A WAKE bell on the named forms. -/
def State.wake (s : State) (h : Nat) (d : DueBell) : State :=
  (s.houseForms h d.bell.w2).foldl (fun s f =>
    ((formCores f).filter (fun c => s.coreLive c && decide ((s.core c).house = h))).foldl (fun s c => s.onCore c (wakeCore d.argC)) s) s

/-- A DMA_START bell (R190, R191): a form engine of a form of the House, or the House's context of a system engine. -/
def State.bellDma (s : State) (h : Nat) (d : DueBell) : State :=
  let e := fld d.bell.w2 6 0
  let addr := d.bell.w3.toNat
  if e < 64 then (if Nat.testBit (s.grant h).forms (e / 2) then s.dmaBell e addr h else s)
  else if e < 68 then s.dmaBell (64 + 8 * (e - 64) + h) addr h else s

/-- A HOST_EVT bell (R44, R411): its record goes to the named queue, if that is the House's. -/
def State.hostEvt (s : State) (h r : Nat) (d : DueBell) : State :=
  let q := fld d.bell.w2 13 0
  if s.queueHouse q = some h then s.postTo h q 0x10 0 (some r) [d.bell.w3.toNat, d.entry] else s

/-! ### Band checks (R275, R276) -/

/-- A WARN bell: it calls for a job when its band is not complete. -/
def State.warn (s : State) (h : Nat) (d : DueBell) : State :=
  let p := d.pipe
  let r := s.bandRec p d.argC
  if (s.pipe p).valid ∧ (s.pipe p).house = h ∧ r.tframe = d.target32 ∧ r.nstate ≠ .complete then
    s.callJob p d.argC d.target32 else s

/-- What a LATE check selects (R276, R341). -/
def lateSel (r : BandRec) (cut : Bool) (t : Word) : Sel :=
  if !cut && decide (r.tframe = t) && decide (r.tier < 3) && decide (r.nstate = .complete) then .neural
  else if r.tframe = t && r.sstate = .ready then .sub
  else .void

/-- A LATE bell (R276, R278, R284, Table 10.4). -/
def State.late_ (s : State) (h : Nat) (d : DueBell) : State :=
  let p := d.pipe
  let b := d.argC
  let x := s.pipe p
  if !x.valid ∨ x.house ≠ h then s
  else
    let t := d.target32
    let r := s.bandRec p b
    let sel := lateSel r (cutRules x b d.target) t
    let s := s.setBandRec p b { tierStep r (decide (sel = Sel.neural)) with sel := sel }
    let s := { s with shown := mapSet (fun _ => (0, Sel.none)) s.shown ((p * 2048 + b) * 4 + d.target % 4) (d.target, sel) }
    let s := if sel = Sel.neural then s
      else (s.countErr (Reg.DLN_Pp_LATE p)).wr (Reg.DLN_Pp_LAST p) (BitVec.ofNat 32 (d.target % 2 ^ 16 * 2 ^ 16 + b))
    let s := if sel = .void then (s.countErr (Reg.DLN_Pp_VOID p)).post h 0x14 0 (some x.raster) [p, b, t.toNat] else s
    let s := if sel = .sub then s.count48 (Reg.DLN_Pp_SUB_LO p) (Reg.DLN_Pp_SUB_HI p) 1 (some h) else s.dropJob p b t
    let s := match s.anyEnt p b with
      | some e => s.setFormTier e.form (lateStep (s.formTier e.form) t (decide (sel = Sel.neural)))
      | none => s
    let n := (s.pipe p).lateSeen + 1
    if n = x.nbands then
      (s.setPipe p { s.pipe p with lateSeen := 0, tierMax := 0 }).wrF (Reg.DLN_Pp_CTRL p) 7 6 (s.pipe p).tierMax
    else s.setPipe p { s.pipe p with lateSeen := n }

/-! ### The hand-off (R423, R424) -/

/-- The array state registers, Desks and accumulators of a core at their reset values (R64). -/
def State.zeroArrays (s : State) (c : Nat) : State :=
  let s := { s with desk := s.desk.filter (fun x => decide (x.1 / 2 ^ 15 ≠ c)) }
  s.onCore c (fun k => { k with m0 := { warmth := k.m0.warmth }, m1 := { warmth := k.m1.warmth } })

/-- One core passes to a House (R424): stopped, zeroed, its latches, arrival counters and gather buffer empty. -/
def State.handCore (s : State) (c house : Nat) : State :=
  let s := ((s.dropRolls c).unwait (.core c)).zeroArrays c
  s.onCore c (fun k =>
    let k := { k with g := [], v := [], p := 1, idle := true, stopped := false, halted := false, bpSkip := false, loops := [], latches := []
                      waits := [], loads := [], regFault := [], xfer := [], xferFault := none, lane := [], gather := [], tdones := [] }
    ((((k.setC 8 0).setC 9 0).setC 0xA 0).setC 1 (BitVec.ofNat 32 house)))

/-- Every chain of a form's engines ends with ABORT, and their start queues are empty. -/
def State.handEngines (s : State) (f : Nat) : State :=
  [2 * f, 2 * f + 1].foldl (fun s e =>
    let s := s.setEng e { s.eng e with starts := [] }
    (s.dmaAbort e).dmaDepth e) s

/-- A hand-off entry of the table. -/
def State.handoff (s : State) (i : Nat) : Handoff := mapGet (fun _ => {}) s.handoffs i

/-- HANDOFF: entry i fires at the start of its line under the rule of R43; WAKE bells for the forms on that line are
discarded. -/
def State.fireHandoff (s : State) (i : Nat) : State :=
  let x := s.handoff i
  let r := fld x.w0 18 16
  let q := s.raster r
  if x.forms = 0 ∨ !s.rasterOn r ∨ !bellFires x.w0 r q.frame.toNat q.line then s
  else
    let s := (List.range 8).foldl (fun s n =>
      let y := s.raster n
      s.setRaster n { y with due := y.due.map (fun d =>
        if n = r ∧ fld d.bell.w1 3 0 = 7 then { d with bell := { d.bell with w2 := d.bell.w2 &&& ~~~x.forms } } else d) }) s
    ((List.range 32).filter (fun f => bit x.forms f)).foldl (fun s f =>
      let s := ((s.handEngines f).closeBand f).hwEnd f
      (formCores f).foldl (fun s c => s.handCore c x.house) (s.dropTdones f)) s

/-! ### The swap of the banks (R48) -/

/-- BELL_SWAP_COMPLETE: at the start of line 0 of frame T the old bank stops being matched and becomes the shadow. -/
def State.swapDone (s : State) : State :=
  match s.swap with
  | none => s
  | some (r, _) =>
    if s.rasterOn r ∧ s.swapT ≤ (s.raster r).frame.toNat then
      { (s.wrF Reg.RAS_BELLSTAT 2 0 (1 - s.bellBank)) with swap := none }
    else s

end Sys2Proof.Machine
end

