-- ==== Sys2Proof/Machine/Banks.lean ====
section
/-! DEFINITION. Library banks: ownership and handover (R166 to R169), spares and retirement (R173, R184, R288), scrubbing (R174), the
shelf's fill (R171) and the aperture (R186). -/
namespace Sys2Proof.Machine

/-! ### Ownership -/

/-- The UNIT of a bank. -/
def State.bankUnit (s : State) (b : Nat) : Nat := fld (s.bankReg b) 6 4
/-- The bank is retired: OWNER reads 0xF and RETIRED is set (R166, R173). -/
def State.bankRetired (s : State) (b : Nat) : Bool := bit (s.bankReg b) 31
/-- Banks that a House owns. -/
def State.houseBanks (s : State) (h : Nat) : List Nat := (List.range 512).filter (fun b => decide (s.bankOwner b = h))

/-- Most banks that a House may own (Table 14.5): House 0 has no limit before its first grant. -/
def State.quotaOf (s : State) (h : Nat) : Nat := if h = 0 ∧ !(s.grant h).given then 512 else (s.grant h).quota

/-- A march run holds the bank. -/
def State.inMarch (s : State) (b : Nat) : Bool := s.service.marches.any (fun m => !m.core && decide (m.unit = b))

/-- Bytes of a pipeline's capture ring (R240, R357): three planes at the plane pitch that Dvorzar has set. -/
def ringBytes (p : Nat) : Nat := 3 * (Config.ringPitch p).2
/-- Banks of a pipeline's rings. -/
def State.pipeBanks (s : State) (p : Nat) : List Nat :=
  let x := s.pipe p
  if x.valid then x.recordBank :: banksOf (x.ringBank * 2 ^ 18) (ringBytes p) else []

/-- Handle entries of a table that name a bank. -/
def tableNames (t : Map Word) (b : Nat) : Bool :=
  (List.range 64).any (fun e =>
    let w : Nat → Word := fun i => mapGet (fun _ => 0) t (4 * e + i)
    let h := handleOf (w 0) (w 1) (w 2) (w 3)
    h.v && decide (h.kind = 1) && (banksOf h.base h.size).contains b)

/-- Descriptor and data ranges aside, what still refers to a bank (R169): a handle of a core's active or shadow table, a pipeline's
rings, a queue's ring, or a chain in an engine. -/
def State.bankNamed (s : State) (b : Nat) : Bool :=
  s.cores.any (fun x => tableNames x.2.handles b || (x.2.handleSwap.isSome && tableNames x.2.shadowHandles b)) ||
  (List.range 4).any (fun p => (s.pipeBanks p).contains b) ||
  s.engines.any (fun x => decide (x.2.phase ≠ DmaPhase.idle) && decide (bankOf x.2.desc = b)) ||
  s.queueAux.any (fun x => s.queueOn x.1 && s.queueLib x.1 && decide (bankOf (s.queueBase x.1) = b))

/-- One write of LIB_BANKb by Dvorzar (R168): owner, mode, unit and ZERO take effect for requests issued from now on (timing:
log 10); a shelf bank writes back and invalidates its lines; BUSY stands until the bank is done. -/
def State.bankSet (s : State) (b owner unit : Nat) (shelf zero : Bool) : State :=
  let old := s.bankOwner b
  let s := if s.bankShelf b then s.flushBank old b else s
  let w := setFld (setFld (s.bankReg b) 3 0 owner) 6 4 unit
  let w := setBit (setBit (setBit w 8 shelf) 9 zero) 30 true
  let s := s.wr (Reg.LIB_BANKb b) w
  let s := if old < 8 then s.pointSlots old else s
  if owner < 8 then s.pointSlots owner else s

/-- The bytes and stored errors of a bank cleared. -/
def State.zeroBank (s : State) (b : Nat) : State :=
  { s with lib := s.lib.filter (fun x => decide (bankOf x.1 ≠ b))
           ecc := s.ecc.filter (fun x => decide (x.1 / 2 ^ 40 ≠ Space.lib.num) || decide (x.1 % 2 ^ 40 * 8 / 2 ^ 18 ≠ b)) }

/-- HANDOVER_COMPLETE: zeroing ends, BUSY clears, and the writes that waited at the bank are served in order (R168). -/
def State.handoverDone (s : State) (b : Nat) : State :=
  if s.bankBusy b && !s.inMarch b then
    let s := if bit (s.bankReg b) 9 then s.zeroBank b else s
    let s := s.wr (Reg.LIB_BANKb b) (setBit (setBit (s.bankReg b) 9 false) 30 false)
    let mine := s.late.filter (fun x => decide (bankOf x.2.1 = b))
    let s := { s with late := s.late.filter (fun x => decide (bankOf x.2.1 ≠ b)) }
    mine.foldl (fun s x => s.store .lib x.2.1 x.2.2) s
  else s

/-! ### Spares, retirement and counts (R173, R184, R288) -/

/-- A loaded image names a bank: in LIBMAP, in a Library handle or in an INIT entry (R288). -/
def imageNames (im : Image) (b : Nat) : Bool :=
  im.libmap.any (fun x => decide (x.1 = b)) || im.init.any (fun x => (banksOf x.1 x.2.length).contains b) ||
  im.handles.any (fun x => (List.range 64).any (fun e =>
    let h := handleOf (x.2.getD (4 * e) 0) (x.2.getD (4 * e + 1) 0) (x.2.getD (4 * e + 2) 0) (x.2.getD (4 * e + 3) 0)
    h.v && decide (h.kind = 1) && (banksOf h.base h.size).contains b))

/-- A spare: a bank that the Dean owns, not busy, not under a march, and that nothing in use and no loaded image names (R288). -/
def State.isSpare (s : State) (b : Nat) : Bool :=
  decide (s.bankOwner b = 8) && !s.bankBusy b && !s.inMarch b && !s.bankNamed b &&
    !s.models.any (fun m => m.images.any (fun im => imageNames im b))

/-- DLN_BANKS: spares in [25:16], retired banks in [9:0]. -/
def State.dlnBanks (s : State) : Word :=
  BitVec.ofNat 32 (((List.range 512).filter s.isSpare).length * 2 ^ 16 + ((List.range 512).filter s.bankRetired).length)

/-- Start-up has ended its march (R451): the Dean has started. -/
def State.started (s : State) : Bool := decide (s.rdF Reg.MBX_DEAN 3 0 ≠ 0)

/-- DLN_LIVE: forms, tile cores and arrays in service, laid out as DEV_ARRAYS; 0 until the start-up march ends (R290). -/
def State.dlnLive (s : State) : Word :=
  if s.started then
    let cores := (List.range 1024).filter s.coreLive
    let arrays := (cores.map (fun c => (s.arrayOn c 0).toNat + (s.arrayOn c 1).toNat)).sum
    let forms := (List.range 32).filter (fun f => !(s.formTier f).retired && decide (s.liveLanes f ≠ 0))
    BitVec.ofNat 32 (forms.length * 2 ^ 23 + cores.length * 2 ^ 12 + arrays)
  else 0

/-- UNIT_CHANGE (Table 14.11): kind 1 core, 2 array, 4 form, 8 bank, and the unit's number. -/
def State.unitChange (s : State) (kind unit : Nat) : State :=
  s.post 0 0x1D 0 none [s.dlnLive.toNat, s.dlnBanks.toNat, kind, unit]

/-- A bank is retired: its shelf lines that can be read are written back, its contents are lost (R173). -/
def State.retireBank (s : State) (b : Nat) : State :=
  if s.bankRetired b then s
  else
    let s := s.bankSet b 0xF 0 false false
    let s := (s.zeroBank b).wr (Reg.LIB_BANKb b) 0x8000000F
    let s := { s with service := { s.service with retiredBanks := s.service.retiredBanks ++ [b] } }
    s.unitChange 8 b

/-- The live arrays of a form. -/
def State.liveArrays (s : State) (f : Nat) : Nat :=
  ((formCores f).map (fun c => if s.coreLive c then (s.arrayOn c 0).toNat + (s.arrayOn c 1).toNat else 0)).sum

/-- The loss part of a form's tier (Table 10.4): against the images that run bands on the form. -/
def State.lossPart (s : State) (f : Nat) : State :=
  let ims := (List.range 8).flatMap (fun h =>
    match mapGet (fun _ => none) s.runs h with
    | some m => (s.models.filter (fun x => decide (x.handle = m))).flatMap (·.images)
    | none => [])
  let lost := ims.any (fun im =>
    Nat.testBit im.formMask f &&
    decide (s.liveArrays f < ceilDiv im.arraysMin ((List.range 32).filter (Nat.testBit im.formMask)).length))
  let x := s.formTier f
  if x.loss = lost.toNat then s else s.setFormTier f { x with loss := lost.toNat }

/-- A form is retired (R287): from now on no lane of it is in service. -/
def State.retireForm (s : State) (f : Nat) : State :=
  if (s.formTier f).retired then s
  else
    let s := { s with formTiers := mapSet (fun _ => {}) s.formTiers f { s.formTier f with retired := true } }
    (s.wrF (Reg.DLN_FORMf f) 3 3 1).unitChange 4 f

/-- A core stops for good: its work is dropped, what it has issued to memory completes (R227, R62). -/
def State.stopCore (s : State) (c : Nat) : State :=
  let s := (((s.flushGather c).stopArrays c).dropRolls c).unwait (.core c)
  s.setCore c { s.core c with idle := true, stopped := false, waits := [], signals := [], loads := [], xfer := [], lane := [], tdones := [] }

/-- Fewer than 16 lanes in service retire the form (R287). -/
def State.formCheck (s : State) (f : Nat) : State :=
  if ((List.range 32).filter (fun l => s.coreLive (32 * f + l))).length < 16 then s.retireForm f else s

/-- CORE_RETIRE of a whole core: it leaves service, and its lane leaves the counter (R227, R286). -/
def State.retireCore (s : State) (c : Nat) : State :=
  if (s.core c).retired then s
  else
    let s := s.stopCore c
    let s := (s.setCore c { s.core c with retired := true, marched := false }).laneRelease c
    ((s.unitChange 1 c).lossPart (c / 32)).formCheck (c / 32)

/-- One array is taken out of service (R88, R227): the lane is released, the core stays with its other array. -/
def State.loseArray (s : State) (c a : Nat) : State :=
  let k := s.core c
  let s := s.setCore c { k with lostArrays := k.lostArrays ||| 2 ^ a }
  let s := s.laneRelease c
  let s := ((s.unitChange 2 (2 * c + a)).lossPart (c / 32))
  if s.coreLive c then s.formCheck (c / 32) else (s.stopCore c).formCheck (c / 32)

end Sys2Proof.Machine
end

