-- ==== Sys2Proof/Machine/Colour.lean ====
section
/-! DEFINITION. Colour arithmetic of the compositor and the ports: widening and YCbCr conversion (R327), the conversion unit (R329),
alpha and blending (R331, R332), port encoding (R349), and the CRC-32 of R345 and R238. -/
namespace Sys2Proof.Machine

/-- A pixel of three channels. -/
structure Pix where
  r : Nat := 0
  g : Nat := 0
  b : Nat := 0
  deriving DecidableEq, Repr

/-- A function on each channel. -/
def Pix.map (f : Nat → Nat) (p : Pix) : Pix := ⟨f p.r, f p.g, f p.b⟩

/-- A pixel with its alpha. -/
structure APix where
  c : Pix := {}
  a : Nat := 0
  deriving DecidableEq, Repr

/-- The three channels of a P30 word, channel 0 (R or Y) at [9:0] (R263, R343). -/
def p30 (w : Nat) : Pix := ⟨w % 1024, w / 2 ^ 10 % 1024, w / 2 ^ 20 % 1024⟩

/-- A word with R in [29:20], G in [19:10] and B in [9:0]: CMP_CVr_BG and the graphics format of 10-bit channels. -/
def rgb30 (w : Nat) : Pix := ⟨w / 2 ^ 20 % 1024, w / 2 ^ 10 % 1024, w % 1024⟩

/-- A 10-bit value as a 12-bit canvas code (R327). -/
def widen12 (x : Nat) : Nat := (x * 4) ||| (x / 256)

/-- An 8-bit sample widened to 10 bits (R327). -/
def widen10 (x : Nat) : Nat := (x * 4) ||| (x / 64)

/-- The rows of Table 12.2: YO, KY, KRV, KGU, KGV, KBU. -/
def yuvRow (m : Nat) : Int × Int × Int × Int × Int × Int :=
  match m with
  | 0 => (64, 19133, 29459, 3504, 8757, 34711)
  | 1 => (64, 19133, 27584, 3078, 10688, 35194)
  | 2 => (0, 16384, 25802, 3069, 7670, 30402)
  | _ => (0, 16384, 24160, 2696, 9361, 30825)

/-- 10-bit YCbCr to 10-bit RGB (R327): Y, Cb, Cr in the channels of the pixel. -/
def yccToRgb (m : Nat) (p : Pix) : Pix :=
  let (yo, ky, krv, kgu, kgv, kbu) := yuvRow m
  let y := ky * ((p.r : Int) - yo) + 8192
  let cb : Int := (p.g : Int) - 512
  let cr : Int := (p.b : Int) - 512
  let cl : Int → Nat := fun t => (clampI 0 1023 (t / 16384)).toNat
  ⟨cl (y + krv * cr), cl (y - kgu * cb - kgv * cr), cl (y + kbu * cb)⟩

/-- Step 1 of R329 for one channel: a 12-bit code to linear FP32. -/
def linearise (xfer white c : Nat) : Nat :=
  let i := c / 4
  let ent : Nat → Nat := fun k => toF32 (fDecode fFP16 (Config.linTable xfer white k))
  f32Add (ent i) (f32Mul (f32Sub (ent (i + 1)) (ent i)) (toF32 (.fin false (c % 4) (-2))))

/-- Step 3 of R329 for one channel: linear FP32 to a 12-bit code. -/
def encodeLin (xfer white t : Nat) : Nat :=
  let top : FV := fvOfInt 65504
  let v := f32 t
  let v := if v.isNan then fvOfInt 0 else fvMin (fvMax v (fvOfInt 0)) top
  let h := (fRound fFP16 v).1
  let i := h / 32 % 1024
  let f := h % 32
  let ent : Nat → Nat := fun k => min 4095 (Config.codeTable xfer white k)
  (ent i * (32 - f) + ent (i + 1) * f + 16) / 32

/-- Step 2 of R329. -/
def primMul (lp cp : Nat) (p : Pix) : Pix :=
  let m := Config.primMatrix lp cp
  let row : Nat → Nat := fun j => f32Fma (m j 0) p.r (f32Fma (m j 1) p.g (f32Mul (m j 2) p.b))
  ⟨row 0, row 1, row 2⟩

/-- The conversion unit (R329): layer transfer and primaries, canvas transfer, primaries and WHITE; codes, or linear FP32 values
when the transfer is 3. -/
def convertUnit (lx lp cx cp white : Nat) (p : Pix) : Pix :=
  if lx = cx ∧ lp = cp then p
  else
    let w := if cx = 0 then 100 else white
    let lin := if lx = 3 then p else p.map (linearise lx w)
    (primMul lp cp lin).map (encodeLin cx w)

/-- Premultiplication of a layer pixel, then its global alpha (R331). -/
def alphaed (premult : Bool) (g : Nat) (x : APix) : APix :=
  let c := if premult then x.c else x.c.map (fun v => (v * x.a + 512) / 1024)
  ⟨c.map (fun v => (v * g + 512) / 1024), (x.a * g + 512) / 1024⟩

/-- A premultiplied source over a destination (R332). -/
def overlay (s d : APix) : APix :=
  let f : Nat → Nat → Nat := fun x y => min (x + (y * (1024 - s.a) + 512) / 1024) 4095
  ⟨⟨f s.c.r d.c.r, f s.c.g d.c.g, f s.c.b d.c.b⟩, min (s.a + (d.a * (1024 - s.a) + 512) / 1024) 1024⟩

/-! ### Port encoding (R349) -/

/-- A ratio rounded to the nearest whole number. -/
def roundDiv (a b : Nat) : Nat := (2 * a + b) / (2 * b)

/-- Kr, Kg, Kb of the primaries in units of 1/10,000. -/
def lumaK (prim : Nat) : Nat × Nat × Nat := if prim = 0 then (2126, 7152, 722) else (2627, 6780, 593)

/-- 12-bit RGB to 12-bit limited-range YCbCr: Y, Cb, Cr. -/
def rgbToYcc (prim : Nat) (p : Pix) : Pix :=
  let (kr, kg, kb) := lumaK prim
  let ky : Nat → Int := fun k => (roundDiv (16384 * k * 3504) (10000 * 4095) : Nat)
  let half : Int := (roundDiv (16384 * 3584) (2 * 4095) : Nat)
  let kc : Nat → Nat → Int := fun k q => (roundDiv (16384 * k * 3584) (2 * (10000 - q) * 4095) : Nat)
  let r : Int := (p.r : Nat)
  let g : Int := (p.g : Nat)
  let b : Int := (p.b : Nat)
  let y := 256 + (ky kr * r + ky kg * g + ky kb * b + 8192) / 16384
  let cb := 2048 + (half * b - kc kr kb * r - kc kg kb * g + 8192) / 16384
  let cr := 2048 + (half * r - kc kg kr * g - kc kb kr * b + 8192) / 16384
  ⟨y.toNat, cb.toNat, cr.toNat⟩

/-- A 12-bit component reduced to the port's bits per component; BPC codes 8, 10 and 12 bits as 0, 1, 2. -/
def reduceBpc (bpc v : Nat) : Nat :=
  let b := 8 + 2 * bpc
  if b = 12 then v else min ((v + 2 ^ (11 - b)) / 2 ^ (12 - b)) (2 ^ b - 1)

/-- The components that a port sends for a line of its stripe (R349): ENC 0 RGB, 1 YCbCr 4:4:4, 2 YCbCr 4:2:2. The order of the
components is the display standard's (log 55). -/
def encodeLine (enc bpc prim : Nat) : List Pix → List Nat
  | [] => []
  | [p] =>
    let q := if enc = 0 then p else rgbToYcc prim p
    Config.sendOrder enc ([q.r, q.g, q.b].map (reduceBpc bpc))
  | p :: p' :: ps =>
    if enc = 2 then
      let q := rgbToYcc prim p
      let q' := rgbToYcc prim p'
      Config.sendOrder 2 ([q.r, q'.r, (q.g + q'.g + 1) / 2, (q.b + q'.b + 1) / 2].map (reduceBpc bpc)) ++ encodeLine enc bpc prim ps
    else
      let f : Pix → List Nat := fun p =>
        let q := if enc = 0 then p else rgbToYcc prim p
        Config.sendOrder enc ([q.r, q.g, q.b].map (reduceBpc bpc))
      f p ++ f p' ++ encodeLine enc bpc prim ps

/-! ### CRC-32 (IEEE 802.3) -/

/-- One bit of the CRC. -/
def crcBit (c : Nat) : Nat := if c % 2 = 1 then (c / 2) ^^^ 0xEDB88320 else c / 2

/-- One byte of the CRC. -/
def crcByte (c : Nat) (b : Byte) : Nat := crcBit (crcBit (crcBit (crcBit (crcBit (crcBit (crcBit (crcBit (c ^^^ b.toNat))))))))

/-- The CRC-32 of some bytes. -/
def crc32 (bs : List Byte) : Nat := (bs.foldl crcByte 0xFFFFFFFF) ^^^ 0xFFFFFFFF

end Sys2Proof.Machine
end

