-- ==== Sys2Proof/Machine/CommitChecks.lean ====
section
/-! DEFINITION. What Dvorzar checks before it stages or accepts a commit: the blocks of R395, the rules of R2, R40, R46, R48, R273, R330,
R343, R347, R362 and R425, and the statuses of Table 14.3. -/
namespace Sys2Proof.Machine

/-- Why a command does not complete with OK: STATUS, DETAIL and BLOCK of the completion record (R387, Table 14.2). -/
structure CmdErr where
  status : Nat
  detail : Nat := 0x7FFF
  block : Bool := false
  deriving DecidableEq, Repr

/-- A check: none passes. -/
abbrev Check := Option CmdErr

/-- One field test: it fails, the place of the field's lowest failing bit in the block or record, and the status. -/
structure FieldTest where
  bad : Bool
  bitPos : Nat
  status : Nat
  deriving DecidableEq, Repr

/-- The failing field that DETAIL names: the lowest (R387). -/
def pickErr (block : Bool) (ts : List FieldTest) : Check :=
  match (ts.filter (·.bad)).mergeSort (fun a b => decide (a.bitPos ≤ b.bitPos)) with
  | [] => none
  | t :: _ => some { status := t.status, detail := t.bitPos / 8, block := block }

/-- The first check that fails. -/
def firstErr (cs : List Check) : Check := cs.findSome? id

/-- A status that names no field. -/
def plainErr (bad : Bool) (status : Nat) : Check := if bad then some { status := status } else none

/-- The lowest set bit of a number below 2^32. -/
def lowBit (x : Nat) : Nat := ((List.range 32).find? (fun i => Nat.testBit x i)).getD 0

/-- Word i has a bit of the mask set: a reserved field that is not 0. -/
def reservedTest (i : Nat) (w : Word) (mask : Nat) : FieldTest :=
  { bad := decide (w.toNat &&& mask ≠ 0), bitPos := 32 * i + lowBit (w.toNat &&& mask), status := 2 }

/-- A test of a field at bit `b` of word i. -/
def fieldTest (bad : Bool) (i b status : Nat) : FieldTest := { bad := bad, bitPos := 32 * i + b, status := status }

/-- Word i of a staged block. -/
def blockWord (ws : List Word) (i : Nat) : Word := ws.getD i 0

/-- Words from `n` on are zero. -/
def zerosFrom (ws : List Word) (n : Nat) : List FieldTest :=
  (List.range (16 - n)).map (fun i => reservedTest (n + i) (blockWord ws (n + i)) 0xFFFFFFFF)

/-! ### The blocks of R395 -/

/-- The fields of a MODE_SET block (R28, R29, R40, R50, Table 2.7). -/
def modeTests (ws : List Word) : List FieldTest :=
  let c := blockWord ws 0
  let vt := blockWord ws 1
  let v2 := blockWord ws 2
  let ht := blockWord ws 3
  let ph := blockWord ws 4
  let ra := blockWord ws 5
  let en := bit c 0
  [ reservedTest 0 c 0xFFFF00E0,
    fieldTest (decide (3 < fld c 4 2)) 0 2 8,
    fieldTest (decide (1 < fld c 9 8)) 0 8 2,
    fieldTest (bit c 10 && !bit c 11) 0 10 8,
    fieldTest (decide (fld c 13 12 = 3)) 0 12 8,
    fieldTest (en && decide (fld vt 15 0 = 0)) 1 0 2,
    fieldTest (en && decide (fld vt 31 16 < fld vt 15 0 + 2)) 1 16 2,
    fieldTest (en && (decide (fld v2 15 0 < fld vt 15 0) || decide (fld vt 31 16 < fld v2 15 0 + 2))) 2 0 2,
    fieldTest (en && decide (fld v2 31 16 < fld vt 31 16)) 2 16 2,
    fieldTest (en && decide (fld ht 15 0 = 0)) 3 0 2,
    fieldTest (en && decide (fld ht 31 16 < fld ht 15 0)) 3 16 2,
    fieldTest (decide (fld ph 23 16 = 0)) 4 16 2,
    reservedTest 4 ph 0xFF000000,
    fieldTest (decide (fld ra 3 0 = 0)) 5 0 2,
    fieldTest (decide (fld ra 7 4 = 0)) 5 4 2,
    reservedTest 5 ra 0xFFFFFF00,
    fieldTest (en && decide (blockWord ws 6 = 0)) 6 0 2 ] ++ zerosFrom ws 7

/-- The grade's limits for a mode on a group of `k` ports (R2, R3). -/
def gradeTests (f : Fuses) (k : Nat) (ws : List Word) : List FieldTest :=
  let w := fld (blockWord ws 3) 15 0 * k
  let h := fld (blockWord ws 1) 15 0
  let khz := (blockWord ws 6).toNat
  let total := fld (blockWord ws 3) 31 16 * fld (blockWord ws 1) 31 16
  if bit (blockWord ws 0) 0 then
    [ fieldTest (decide (f.maxHeight < h)) 1 0 7,
      fieldTest (decide (f.maxWidth < w)) 3 0 7,
      fieldTest (decide (f.maxHz * total < khz * 1000)) 6 0 7,
      fieldTest (decide (f.maxKpix * total < w * h * khz)) 6 0 7 ]
  else []

/-- The fields of a PORT_SET block for port n (R347, Tables 12.8 and 13.2). -/
def portTests (n vactive : Nat) (ws : List Word) : List FieldTest :=
  let c := blockWord ws 0
  let st := blockWord ws 1
  let d := blockWord ws 2
  [ reservedTest 0 c 0xFFF80000,
    fieldTest (decide (n < fld c 12 10) || decide (7 < fld c 12 10 + fld c 6 4) || decide (fld c 12 10 + fld c 6 4 < n)) 0 4 8,
    fieldTest (decide (fld c 12 10 + fld c 9 7 ≠ n)) 0 7 8,
    fieldTest (decide (fld c 14 13 = 3)) 0 13 2,
    fieldTest (decide (fld c 16 15 = 3)) 0 15 2,
    fieldTest (decide (fld st 15 0 % 8 ≠ 0)) 1 0 8,
    fieldTest (decide (fld st 31 16 ≠ fld c 9 7 * fld st 15 0)) 1 16 8,
    fieldTest (bit c 17 && (decide (fld d 9 0 < 128) || decide (256 < fld d 9 0))) 2 0 8,
    fieldTest (bit c 17 && (decide (fld d 13 10 < 2) || decide (8 < fld d 13 10))) 2 10 8,
    fieldTest (bit c 17 && (decide (fld d 20 14 < 8) || decide (108 < fld d 20 14) ||
      (decide (0 < vactive) && decide (vactive % fld d 20 14 ≠ 0)))) 2 14 8,
    reservedTest 2 d 0xFFE00000,
    reservedTest 3 (blockWord ws 3) 0xFFFFFFFC ] ++ zerosFrom ws 4

/-- A slot code of CMP_CVr_ORDER. -/
def orderOk (c : Nat) : Bool := decide (c ≤ 11) || decide (c = 15)

/-- The fields of a CANVAS_SET block (Table 12.7). -/
def canvasTests (ws : List Word) : List FieldTest :=
  [ reservedTest 0 (blockWord ws 0) 0xFC00FFC6,
    fieldTest (decide (fld (blockWord ws 0) 5 4 = 3)) 0 4 2,
    reservedTest 2 (blockWord ws 2) 0xC0000000 ] ++
  (List.range 8).map (fun i => fieldTest (!orderOk (fld (blockWord ws 3) (4 * i + 3) (4 * i))) 3 (4 * i) 2) ++
  (List.range 4).map (fun i => fieldTest (!orderOk (fld (blockWord ws 4) (4 * i + 3) (4 * i))) 4 (4 * i) 2) ++
  [ reservedTest 4 (blockWord ws 4) 0xFFFF0000, reservedTest 11 (blockWord ws 11) 0xFFFF0000 ] ++ zerosFrom ws 12

/-- The fields of a VLAYER_SET block (Table 12.7). -/
def vlayerTests (ws : List Word) : List FieldTest :=
  [ reservedTest 0 (blockWord ws 0) 0xFFFFFC0E,
    fieldTest (decide (fld (blockWord ws 0) 6 5 = 3)) 0 5 2,
    fieldTest (decide (1024 < fld (blockWord ws 3) 10 0)) 3 0 2,
    reservedTest 3 (blockWord ws 3) 0xFFFFF800 ] ++ zerosFrom ws 4

/-! ### The whole set, as the registers would stand -/

/-- The registers of a MODE_SET block. LEADER is set together with EN (Table 2.7). -/
def State.writeMode (s : State) (r : Nat) (ws : List Word) : State :=
  let c := setBit (blockWord ws 0) 1 (bit (blockWord ws 0) 0)
  let s := ((s.wr (Reg.RASn_CTRL r) c).wr (Reg.RASn_VTIMING r) (blockWord ws 1)).wr (Reg.RASn_VTIMING2 r) (blockWord ws 2)
  let s := ((s.wr (Reg.RASn_HTIMING r) (blockWord ws 3)).wr (Reg.RASn_PHASE r) (blockWord ws 4)).wr (Reg.RASn_RATIO r) (blockWord ws 5)
  { s with pclk := mapSet (fun _ => 0) s.pclk r (blockWord ws 6).toNat }

/-- What a port holds beside its registers. -/
def State.port (s : State) (n : Nat) : Port := mapGet (fun _ => {}) s.ports n
/-- A port's own state replaced. -/
def State.setPort (s : State) (n : Nat) (x : Port) : State := { s with ports := mapSet (fun _ => {}) s.ports n x }

/-- The registers of a PORT_SET block. -/
def State.writePort (s : State) (n : Nat) (ws : List Word) : State :=
  let s := (s.wr (Reg.SCOn_CTRL n) (blockWord ws 0)).wr (Reg.SCOn_STRIPE n) (blockWord ws 1)
  s.setPort n { s.port n with dsc := blockWord ws 2, psr := blockWord ws 3 }

/-- The 26 bytes of static metadata in a CANVAS_SET block. -/
def metaBytes (ws : List Word) : List Byte := ((ws.flatMap (fun w => leBytes 4 w.toNat)).drop 20).take 26

/-- The registers of a CANVAS_SET block. -/
def State.writeCanvas (s : State) (r : Nat) (ws : List Word) : State :=
  let s := ((s.wr (Reg.CMP_CVr_CTRL r) (blockWord ws 0)).wr (Reg.CMP_CVr_SIZE r) (blockWord ws 1)).wr (Reg.CMP_CVr_BG r) (blockWord ws 2)
  let s := (s.wr (Reg.CMP_CVr_ORDER_LO r) (blockWord ws 3)).wr (Reg.CMP_CVr_ORDER_HI r) (blockWord ws 4)
  { s with canvasMeta := mapSet (fun _ => []) s.canvasMeta r (metaBytes ws) }

/-- The registers of a VLAYER_SET block. -/
def State.writeVlayer (s : State) (v : Nat) (ws : List Word) : State :=
  ((s.wr (Reg.CMP_VLv_CTRL v) (blockWord ws 0)).wr (Reg.CMP_VLv_WIN0 v) (blockWord ws 1)).wr (Reg.CMP_VLv_WIN1 v) (blockWord ws 2)
    |>.wr (Reg.CMP_VLv_ALPHA v) (blockWord ws 3)

/-- A fetch register of a graphics layer as the layer is shown: the value that a commit last applied (R337). -/
def State.glAct (s : State) (key : Nat) : Word := mapGet regReset s.glActive key

/-- The registers of a graphics layer whose shadows a commit takes, as words from its window's base. -/
def glKeys (g : Nat) : List Nat := (List.range 11).map (fun i => 0x200400 + 0x40 * g + 4 * i)

/-- The shadows of a layer become active. -/
def State.takeGl (s : State) (g : Nat) : State :=
  { s with glActive := (glKeys g).foldl (fun m k => mapSet regReset m k (s.rd k)) s.glActive }

/-- The leader of a port's group. -/
def State.leader (s : State) (n : Nat) : Nat := s.rdF (Reg.SCOn_CTRL n) 12 10
/-- Ports of a leader's group. -/
def State.groupPorts (s : State) (r : Nat) : List Nat :=
  (List.range (s.rdF (Reg.SCOn_CTRL r) 6 4 + 1)).map (r + ·)

/-- The layers listed in a bit mask of eight. -/
def maskList (m : Nat) : List Nat := (List.range 8).filter (fun i => Nat.testBit m i)

/-- Video layers of pipelines on a raster. -/
def State.rasterPipes (s : State) (r : Nat) : List Nat :=
  (List.range 4).filter (fun p => (s.pipe p).valid && decide ((s.pipe p).raster = r))

/-- Graphics layers bound to a canvas. -/
def State.canvasLayers (s : State) (r : Nat) : List Nat :=
  (List.range 8).filter (fun g => decide (s.rdF (Reg.CMP_GLg_CTRL g) 5 3 = r))

/-- The rasters that a commit set names (R336, Table 12.4). -/
def State.setRasters (s : State) (c : CommitSet) (gl : Nat) : List Nat :=
  (c.mode.map (·.1) ++ c.port.map (fun x => fld (blockWord x.2 0) 12 10) ++ c.canvas.map (·.1) ++
    c.vlayer.map (fun x => (s.pipe x.1).raster) ++ c.route.map (fun x => (s.pipe x.1).raster) ++ c.protect.map (·.1) ++
    (maskList gl).map (fun g => s.rdF (Reg.CMP_GLg_CTRL g) 5 3)).eraseDups.mergeSort

/-- The state with a set's registers in place, to check the set against. -/
def State.view (s : State) (c : CommitSet) (gl : Nat) : State :=
  let s := c.mode.foldl (fun s x => s.writeMode x.1 x.2) s
  let s := c.port.foldl (fun s x => s.writePort x.1 x.2) s
  let s := c.canvas.foldl (fun s x => s.writeCanvas x.1 x.2) s
  let s := c.vlayer.foldl (fun s x => s.writeVlayer x.1 x.2) s
  (maskList gl).foldl State.takeGl s

/-- A transfer pair of Table 12.3 is rejected: PQ or HLG on an SDR canvas. -/
def pairBad (layer canvas : Nat) : Bool := decide (canvas = 0) && (decide (layer = 1) || decide (layer = 2))

/-- R330 for the layers of a canvas. -/
def State.pairsBad (s : State) (r : Nat) : Bool :=
  let cx := s.rdF (Reg.CMP_CVr_CTRL r) 5 4
  (s.rasterPipes r).any (fun v => bit (s.rd (Reg.CMP_VLv_CTRL v)) 0 && pairBad (s.rdF (Reg.CMP_VLv_CTRL v) 6 5) cx) ||
  (s.canvasLayers r).any (fun g =>
    let w := s.glAct (Reg.CMP_GLg_CTRL g)
    bit w 0 && pairBad (fld w 16 15) cx)

/-- The ports of a running raster's group agree (R347), and the canvas covers them (R319). -/
def State.groupBad (s : State) (r : Nat) : Bool :=
  let c := s.rd (Reg.SCOn_CTRL r)
  let ps := s.groupPorts r
  bit c 0 && (ps.any (fun n =>
    let x := s.rd (Reg.SCOn_CTRL n)
    decide (fld x 3 0 ≠ fld c 3 0) || decide (fld x 6 4 ≠ fld c 6 4) || decide (fld x 17 10 ≠ fld c 17 10) ||
    decide (s.rdF (Reg.SCOn_STRIPE n) 15 0 ≠ s.rdF (Reg.SCOn_STRIPE r) 15 0)) ||
  (bit (s.rd (Reg.CMP_CVr_CTRL r)) 0 && bit (s.rd (Reg.RASn_CTRL r)) 0 &&
    (decide (s.rdF (Reg.CMP_CVr_SIZE r) 15 0 ≠ ps.length * s.rdF (Reg.SCOn_STRIPE r) 15 0) ||
     decide (s.rdF (Reg.CMP_CVr_SIZE r) 31 16 ≠ s.vactive r))))

/-- A template lies inside its canvas and was made for it (R343). -/
def State.templateBad (s : State) (r : Nat) (t : Template) (x0 y0 : Nat) : Bool :=
  let c := s.rd (Reg.CMP_CVr_CTRL r)
  decide (t.xfer ≠ fld c 5 4) || decide (t.prim ≠ fld c 3 3) || decide (s.rdF (Reg.CMP_CVr_SIZE r) 15 0 < x0 + t.w * t.rep) ||
  decide (s.rdF (Reg.CMP_CVr_SIZE r) 31 16 < y0 + t.h * t.rep)

/-- The rasters locked to a sink (R362). -/
def State.lockedTo (s : State) (k : Nat) : List Nat :=
  (List.range 8).filter (fun r =>
    let c := s.rd (Reg.RASn_CTRL r)
    bit c 0 && decide (fld c 4 2 = 1) && decide (fld c 9 8 = k))

/-- The refresh range of two rasters does not meet: the lowest of one is above the highest of the other (R362). -/
def State.rangesApart (s : State) (a b : Nat) : Bool :=
  let khz := fun r => mapGet (fun _ => 0) s.pclk r
  decide (khz b * (s.htotal a * s.vtotalMax a) < khz a * (s.htotal b * s.vtotal b))

/-- R362: every raster locked to a sink has VRR = 1 and they share no range. -/
def State.noSharedRange (s : State) (k : Nat) : Bool :=
  let rs := s.lockedTo k
  !rs.isEmpty && rs.all (fun r => bit (s.rd (Reg.RASn_CTRL r)) 11) && rs.any (fun a => rs.any (fun b => s.rangesApart a b))

/-- VTOTAL_MAX is more than a sink of the raster accepts (R52), from the ranges that the ports' sinks have reported. -/
def State.stretchTooLong (s : State) (r : Nat) : Bool :=
  bit (s.rd (Reg.RASn_CTRL r)) 11 && (s.groupPorts r).any (fun n =>
    match (s.port n).maxLines with
    | some m => decide (m < s.vtotalMax r)
    | none => false)

/-- The configuration checks of a commit set without its timetable. -/
def State.setCheck (s : State) (c : CommitSet) (gl : Nat) : Check :=
  let v := s.view c gl
  let rs := s.setRasters c gl
  firstErr (
    c.mode.map (fun x => pickErr true (modeTests x.2 ++ gradeTests s.fuses ((v.groupPorts x.1).length) x.2)) ++
    c.port.map (fun x => pickErr true (portTests x.1 (v.vactive (fld (blockWord x.2 0) 12 10)) x.2)) ++
    [ plainErr (rs.any v.groupBad) 8,
      plainErr (rs.any v.pairsBad) 8,
      plainErr (c.protect.any (fun (r, t, x0, y0) => v.templateBad r t x0 y0)) 8,
      plainErr (c.canvas.any (fun (r, _) => !(c.protect.any (fun x => x.1 = r)) &&
        (match (mapGet (fun _ => ({} : Protect)) s.protects r) with
         | { tmpl := some t, x0 := x0, y0 := y0, .. } => v.templateBad r t x0 y0
         | _ => false))) 8,
      plainErr (v.noSharedRange 0 || v.noSharedRange 1) 8,
      plainErr (rs.any v.stretchTooLong) 8,
      plainErr (c.route.any (fun x => !s.hasInput (s.pipe x.1).house x.2)) 6 ])

end Sys2Proof.Machine
end

