-- ==== Sys2Proof/Machine/Timetable.lean ====
section
/-! DEFINITION. Timetable images: their bytes (R235 to R237) and the rules by which Dvorzar rejects one (R46, R47, R177, R238, R274,
R279, R281, R282). -/
namespace Sys2Proof.Machine

/-! ### Reading an image -/

/-- `n` bytes at an offset, as a number. -/
def num (bs : List Byte) (o n : Nat) : Nat := leNat (slice o n bs)

/-- A section entry: TYPE, OFFSET, SIZE, COUNT. -/
structure Section where
  type : Nat
  ofs : Nat
  size : Nat
  count : Nat
  deriving DecidableEq, Repr

/-- The section entries of an image. -/
def sectionsOf (bs : List Byte) : List Section :=
  (List.range (num bs 10 1)).map (fun i =>
    let o := 64 + 16 * i
    ⟨num bs o 2, num bs (o + 4) 4, num bs (o + 8) 4, num bs (o + 12) 4⟩)

/-- The entries of a section whose entries are equally long. -/
def Section.entries (x : Section) (bs : List Byte) (len : Nat) : List (List Byte) :=
  (List.range x.count).map (fun i => slice (x.ofs + len * i) len bs)

/-- A PIPE entry (Table 8.9). -/
def pipeEntOf (b : List Byte) : PipeEnt :=
  { pipe := num b 0 1, raster := num b 1 1, trk := num b 2 1, bandH := num b 3 1, inW := num b 4 2, inH := num b 6 2, outW := num b 8 2
    outH := num b 10 2, vtotal := num b 12 2, htotal := num b 14 2, nbands := num b 16 2, retime := num b 18 2 }

/-- A BAND entry (Table 8.10): pipeline, band, the rest. -/
def bandEntOf (b : List Byte) : Nat × Nat × BandEnt :=
  (num b 2 1, num b 0 2,
    { form := num b 3 1, row0 := num b 4 2, rows := num b 6 1, deal := decide (num b 7 1 % 2 = 1)
      shape := decide (num b 7 1 / 2 % 2 = 1), nt := num b 8 2, ntMax := num b 10 2, startBell := num b 12 2, warnBell := num b 14 2
      lateBell := num b 16 2, window := num b 18 2, plan := num b 20 4, shapeAddr := num b 24 4, tileAddr := num b 28 4 })

/-- A bell entry (Table 2.4). -/
def bellOf (b : List Byte) : BellEntry :=
  ⟨BitVec.ofNat 32 (num b 0 4), BitVec.ofNat 32 (num b 4 4), BitVec.ofNat 32 (num b 8 4), BitVec.ofNat 32 (num b 12 4)⟩

/-- The entries of an INIT section: address, data. -/
def initEntries (bs : List Byte) : Nat → Nat → List (Nat × List Byte)
  | 0, _ => []
  | n + 1, o => (num bs o 4, slice (o + 8) (num bs (o + 4) 4) bs) :: initEntries bs n (o + 8 + num bs (o + 4) 4)

/-- The sections of a type. -/
def ofType (xs : List Section) (t : Nat) : List Section := xs.filter (fun x => decide (x.type = t))

/-- An image as its bytes give it. -/
def imageOf (bs : List Byte) : Image :=
  let ss := sectionsOf bs
  let all : Nat → Nat → List (List Byte) := fun t len => (ofType ss t).flatMap (fun x => x.entries bs len)
  { house := num bs 8 1, tier := num bs 9 1, lowLat := decide (num bs 11 1 % 2 = 1), formMask := num bs 12 4, arraysMin := num bs 16 2
    cclkPlan := num bs 18 1
    pipes := (all 1 32).map pipeEntOf
    bands := (all 2 32).map bandEntOf
    bells := (all 3 16).map bellOf
    istore := (ofType ss 4).flatMap (fun x => (x.entries bs (x.size / max 1 x.count)).map (fun e => (num e 0 4, num e 4 4, e.drop 8)))
    handles := (all 5 1028).map (fun e => (num e 0 4, (List.range 256).map (fun i => BitVec.ofNat 32 (num e (4 + 4 * i) 4))))
    libmap := (all 6 4).map (fun e => (num e 0 4 % 512, decide (num e 0 4 / 512 % 2 = 1)))
    init := (ofType ss 7).flatMap (fun x => initEntries (slice x.ofs x.size bs) x.count 0) }

/-- Rule 1 of R238, the section types of Table 8.8, and the ranges of the header's fields. -/
def imageForm (bs : List Byte) : Bool :=
  decide (num bs 0 4 = 0x54544E48) && decide (num bs 4 2 = 0x0100) && decide (num bs 6 2 = 64) && decide (num bs 20 4 = bs.length) &&
  decide (num bs 24 4 = crc32 (bs.take 24 ++ leBytes 4 0 ++ bs.drop 28)) && decide (1 ≤ num bs 10 1) && decide (num bs 10 1 ≤ 16) &&
  decide (num bs 9 1 ≤ 3) &&
  (sectionsOf bs).all (fun x => decide (x.ofs + x.size ≤ bs.length) && decide (1 ≤ x.type) && decide (x.type ≤ 7))

/-! ### The rules -/

/-- The bell of an image at a place of the House's range. -/
def Image.bell (im : Image) (i : Nat) : BellEntry := im.bells.getD i {}

/-- The PIPE entry of a pipeline. -/
def Image.pipe? (im : Image) (p : Nat) : Option PipeEnt := im.pipes.find? (fun x => decide (x.pipe = p))

/-- A PIPE entry matches its raster, and belongs to the House (R47, R236, rule 3 of R238). -/
def State.pipeEntOk (s : State) (h : Nat) (x : PipeEnt) : Bool :=
  decide (x.pipe < 4) && decide (x.raster < 8) && (s.pipe x.pipe).valid && decide ((s.pipe x.pipe).house = h) && s.rasterOn x.raster &&
  s.hasOutput h x.raster && decide (x.trk < 3) && decide (8 ≤ x.bandH) && decide (x.bandH ≤ 64) && decide (x.outH = s.vactive x.raster) &&
  decide (x.vtotal = s.vtotal x.raster) && decide (x.htotal = s.htotal x.raster) && decide (x.nbands = ceilDiv x.outH x.bandH) &&
  decide (x.nbands ≤ 2048) && decide (0 < x.inW) && decide (0 < x.inH)

/-- Rule 4 of R238: the bands of a pipeline cover its rows once each. -/
def Image.bandsOk (im : Image) (x : PipeEnt) : Bool :=
  let mine := im.bands.filter (fun b => decide (b.1 = x.pipe))
  decide (mine.length = x.nbands) && (List.range x.nbands).all (fun k =>
    mine.any (fun b => decide (b.2.1 = k) && decide (b.2.2.row0 = k * x.bandH) && decide (b.2.2.rows = min x.bandH (x.outH - k * x.bandH))))

/-- A band's bell carries the band's index and pipeline with an action. -/
def carries (e : BellEntry) (action p b : Nat) : Bool :=
  bit e.w1 4 && decide (fld e.w1 3 0 = action) && decide (fld e.w1 31 16 = b) && decide (fld e.w3 17 16 = p)

/-- Lines from a start bell on a form to the next start bell on it, counted across frame boundaries (R217). -/
def Image.formWindow (im : Image) (f vt : Nat) (startL : Int) : Int :=
  ((im.bands.filter (fun b => decide (b.2.2.form = f))).map (fun b =>
    (bellLine vt (im.bell b.2.2.startBell).w0 0 - startL - 1) % vt + 1)).foldl min (vt : Int)

/-- Rules 5 to 7 of R238 and those of R274, R279 and R281 for one band. -/
def State.bandOk (s : State) (im : Image) (p b : Nat) (e : BandEnt) : Bool :=
  match im.pipe? p with
  | none => false
  | some x =>
    let vt := x.vtotal
    let st := im.bell e.startBell
    let la := im.bell e.lateBell
    let wa := im.bell e.warnBell
    let startL := bellLine vt st.w0 0
    let lateL := bellLine vt la.w0 0
    let khz := mapGet (fun _ => 0) s.pclk x.raster
    let pipe := s.pipe p
    let rin := rinOf { pipe with inW := x.inW, inH := x.inH, outH := x.outH } e
    let tp := tPrep { pipe with inW := x.inW } rin
    let lead := ceilDiv ((tp + 2000) * khz) (x.htotal * 1000000) + 1
    carries st 1 p b && decide (st.w2.toNat = 2 ^ e.form) && carries la 5 p b && decide (startL < lateL) &&
    (e.warnBell = 0xFFFF || carries wa 4 p b) &&
    decide (im.formWindow e.form vt startL = e.window) && decide (e.plan * khz ≤ e.window * x.htotal * im.cclkPlan * 10000) &&
    decide (e.nt ≤ e.ntMax) && decide (e.ntMax ≤ 4096) && (!e.shape || decide (e.shapeAddr % 4 = 0)) &&
    decide (lateL < startL + vt) && decide (lateL + 2 ≤ e.row0) &&
    (!bit (s.rd (Reg.DLN_Pp_CTRL p)) 1 || e.warnBell = 0xFFFF || decide (bellLine vt wa.w0 0 + lead ≤ lateL))

/-- The reserved fields and the arguments of a bell entry (R42, R44). -/
def bellForm (e : BellEntry) : Bool :=
  let a := fld e.w1 3 0
  let mask := fun (w : Word) (m : Nat) => decide (w.toNat &&& m = 0)
  mask e.w0 0x00080000 && mask e.w1 0x0000FFE0 &&
  match a with
  | 0 => mask e.w1 0xFFFF0000 && decide (e.w2 = 0) && decide (e.w3 = 0)
  | 1 => mask e.w3 0xFFFCE000
  | 2 => mask e.w2 0xFFFFFF80 && mask e.w1 0xFFFF0000
  | 3 => mask e.w2 0xFFFFFF00 && decide (e.w3 = 0) && mask e.w1 0xFFFF0000
  | 4 => decide (e.w2 = 0) && mask e.w3 0xFFFCFFFF
  | 5 => decide (e.w2 = 0) && mask e.w3 0xFFFCFFFF
  | 6 => mask e.w2 0xFFFFC000 && mask e.w1 0xFFFF0000
  | 7 => decide (e.w3 = 0)
  | _ => false

/-- R47 for one enabled entry of House h. -/
def State.bellOwned (s : State) (h : Nat) (e : BellEntry) : Bool :=
  let r := fld e.w0 18 16
  let a := fld e.w1 3 0
  let forms : Bool := decide (e.w2.toNat &&& (s.grant h).forms = e.w2.toNat)
  let pipe : Bool := (s.pipe (fld e.w3 17 16)).valid && decide ((s.pipe (fld e.w3 17 16)).house = h)
  s.rasterOn r && s.hasOutput h r && decide (fld e.w0 15 0 < s.vtotal r) && decide (fld e.w0 29 23 < 2 ^ fld e.w0 22 20) && bellForm e &&
  match a with
  | 1 => forms && (fld e.w1 31 16 = 0xFFFF || pipe)
  | 2 => decide (fld e.w2 6 0 < 68) && (decide (64 ≤ fld e.w2 6 0) || Nat.testBit (s.grant h).forms (fld e.w2 6 0 / 2))
  | 4 => pipe
  | 5 => pipe
  | 6 => decide (s.queueHouse (fld e.w2 13 0) = some h)
  | 7 => forms
  | _ => true

/-- An entry that can fire, as the line it fires on, its period and its phase. -/
structure Firing where
  raster : Nat
  line : Nat
  period : Nat
  phase : Nat
  fofs : Nat
  deriving DecidableEq, Repr

/-- When an enabled entry fires. -/
def firingOf (e : BellEntry) : Option Firing :=
  if bit e.w1 4 then some ⟨fld e.w0 18 16, fld e.w0 15 0, 2 ^ fld e.w0 22 20, fld e.w0 29 23, fld e.w0 31 30⟩ else none

/-- Some entry's line is matched by more than sixteen entries in some frame (R46): 128 frames show every phase. -/
def crowded (fs : List Firing) : Bool :=
  fs.any (fun x =>
    let mates := fs.filter (fun y => decide (y.raster = x.raster) && decide (y.line = x.line))
    decide (16 < mates.length) && (List.range 128).any (fun n => decide (16 < (mates.filter (fun y => decide (n % y.period = y.phase))).length)))

/-- A House's range of bell entries. -/
def State.bellRange (s : State) (h : Nat) : Nat × Nat := (s.bellBase h, s.rdF (Reg.RAS_HRANGEh h) 28 16)

/-- The active bank's enabled entries outside a House's range. -/
def State.otherBells (s : State) (h : Nat) : List BellEntry :=
  let (b0, n) := s.bellRange h
  s.bells.filterMap (fun x =>
    let e := x.1 % 4096
    if decide (x.1 / 4096 = s.bellBank) && (decide (e < b0) || decide (b0 + n ≤ e)) && (s.bellHouse e).isSome then some x.2 else none)

/-- R177 for one handle entry: banks that a LIBMAP gives count as the House's. -/
def State.handleOk (s : State) (h : Nat) (im : Image) (w0 w1 w2 w3 : Word) : Bool :=
  let x := handleOf w0 w1 w2 w3
  let mapped : Nat → Option Bool := fun b => (im.libmap.find? (fun m => decide (m.1 = b))).map (·.2)
  !x.v || (decide (x.house = h) && decide (x.base % 64 = 0) && decide (0 < x.size) && decide (w1.toNat / 2 ^ 16 = 0) &&
    decide (fld w3 23 0 = 0) &&
    match x.kind with
    | 0 => decide (x.base + x.size ≤ 0x10000)
    | 1 => decide (x.base + x.size ≤ 0x8000000) && (banksOf x.base x.size).all (fun b =>
        match mapped b with
        | some shelf => !shelf
        | none => decide (s.bankOwner b = h) && !s.bankShelf b)
    | 2 => ((List.range 512).any (fun b => decide (s.bankOwner b = h) && s.bankShelf b) || im.libmap.any (·.2)) &&
        (s.firstUnmapped h x.base x.size).isNone
    | _ => false)

/-- The entries of another House in a core's active table have Locker ranges apart from those of the image (R177). -/
def lockersApart (old : Map Word) (h : Nat) (ws : List Word) : Bool :=
  (List.range 64).all (fun i =>
    let x := handleOf (ws.getD (4 * i) 0) (ws.getD (4 * i + 1) 0) (ws.getD (4 * i + 2) 0) (ws.getD (4 * i + 3) 0)
    (List.range 64).all (fun j =>
      let o : Nat → Word := fun k => mapGet (fun _ => 0) old (4 * j + k)
      let y := handleOf (o 0) (o 1) (o 2) (o 3)
      !(x.v && y.v && decide (x.kind = 0) && decide (y.kind = 0) && decide (y.house ≠ h)) ||
        decide (x.base + x.size ≤ y.base) || decide (y.base + y.size ≤ x.base)))

/-- The bundle ranges of two instruction-store sections of different images meet (R282). -/
def storesMeet (a b : Image) : Bool :=
  a.istore.any (fun x => b.istore.any (fun y =>
    decide (x.1 = y.1) && decide (x.2.1 < y.2.1 + y.2.2.length / 64) && decide (y.2.1 < x.2.1 + x.2.2.length / 64)))

/-- What the images of all tiers share of a BAND entry. -/
def placing (x : Nat × Nat × BandEnt) : List Nat :=
  [x.1, x.2.1, x.2.2.form, x.2.2.window, x.2.2.startBell, x.2.2.warnBell, x.2.2.lateBell]

/-- The images of a House share bells, PIPE section and the placing of every band (R282). -/
def imagesAgree (a b : Image) : Bool :=
  decide (a.bells = b.bells) && decide (a.pipes = b.pipes) && !storesMeet a b && decide (a.tier ≠ b.tier) &&
  decide (a.bands.map placing =
    b.bands.map placing)

/-- Dvorzar accepts an image of House h (R238, R46, R47, R177, R274, R279, R281). -/
def State.imageOk (s : State) (h : Nat) (bs : List Byte) : Bool :=
  let im := imageOf bs
  let forms := (List.range 32).filter (Nat.testBit im.formMask)
  let enabled := im.bells.filter (fun e => bit e.w1 4)
  imageForm bs && decide (im.house = h) &&
  forms.all (fun f => decide (s.liveLanes f ≠ 0) && Nat.testBit (s.grant h).forms f) &&
  decide (im.arraysMin ≤ (forms.map s.liveArrays).sum) && decide (im.cclkPlan ≤ s.fuses.cclk) &&
  im.pipes.all (s.pipeEntOk h) && im.pipes.all im.bandsOk &&
  im.bands.all (fun b => s.bandOk im b.1 b.2.1 b.2.2 && Nat.testBit im.formMask b.2.2.form) &&
  decide (im.bells.length ≤ (s.bellRange h).2) && enabled.all (s.bellOwned h) &&
  !crowded ((enabled ++ s.otherBells h).filterMap firingOf) &&
  im.istore.all (fun x => decide (x.1 < 32) && decide (x.2.1 + x.2.2.length / 64 ≤ 8192)) &&
  im.handles.all (fun x => decide (x.1 < 1024) && lockersApart (s.core x.1).handles h x.2 && (List.range 64).all (fun i =>
    s.handleOk h im (x.2.getD (4 * i) 0) (x.2.getD (4 * i + 1) 0) (x.2.getD (4 * i + 2) 0) (x.2.getD (4 * i + 3) 0)))

/-- The images of one package agree with one another (R282). -/
def packageAgrees : List Image → Bool
  | [] => true
  | a :: rest => rest.all (imagesAgree a) && packageAgrees rest

end Sys2Proof.Machine
end

