-- ==== Sys2Proof/Machine/CommitOps.lean ====
section
/-! DEFINITION. Commits (R335 to R342, R396): the checks of a whole set, bell-table swaps (R48), acceptance, cuts, and the application of a
part on its raster (R24, R33, R54, R336, R337, R339). -/
namespace Sys2Proof.Machine

/-! ### The bell-table swap (R48) -/

/-- The model that a House has loaded and not committed. -/
def State.swapModel (s : State) (h : Nat) : Option Model :=
  match mapGet (fun _ => none) s.loaded h with
  | some m => s.models.find? (fun x => decide (x.handle = m))
  | none => none

/-- The images of a model share their bells and PIPE section (R282): the first stands for all. -/
def Model.bells (m : Model) : List BellEntry := (m.images.head?.map (·.bells)).getD []
/-- PIPE entries. -/
def Model.pipes (m : Model) : List PipeEnt := (m.images.head?.map (·.pipes)).getD []
/-- BAND entries as to bells and rows. -/
def Model.bands (m : Model) : List (Nat × Nat × BandEnt) := (m.images.head?.map (·.bands)).getD []

/-- The committing House's entries as the new bank will hold them: entry, new, active. -/
def State.swapPairs (s : State) (h : Nat) (m : Model) : List (Nat × BellEntry × BellEntry) :=
  let (b0, n) := s.bellRange h
  (List.range n).map (fun i => (b0 + i, m.bells.getD i {}, s.bell s.bellBank (b0 + i)))

/-- The rasters on which new and active entries differ. -/
def State.swapRasters (s : State) (h : Nat) (m : Model) : List Nat :=
  ((s.swapPairs h m).flatMap (fun x =>
    if x.2.1 = x.2.2 then []
    else (if bit x.2.1.w1 4 then [fld x.2.1.w0 18 16] else []) ++ (if bit x.2.2.w1 4 then [fld x.2.2.w0 18 16] else []))).eraseDups

/-- The swap's raster: where the banks differ, else that of the first PIPE entry. -/
def State.swapRaster (s : State) (h : Nat) (m : Model) : Nat :=
  match s.swapRasters h m with
  | r :: _ => r
  | [] => ((m.pipes.head?.map (·.raster)).getD 0)

/-- Where a raster stands: its frame counter and line; one that does not run starts from STRETCH_LINE of the mode it will take (R54). -/
def State.standing (s : State) (r : Nat) : Nat × Nat :=
  let x := s.raster r
  (x.frame.toNat, if s.rasterOn r then x.line else s.stretchLine r)

/-- The first frame whose boundary lies at least two lines ahead (R336). -/
def State.boundaryFrame (s : State) (r : Nat) : Nat :=
  let (n, l) := s.standing r
  if l + 2 ≤ s.vactive r then n + 1 else n + 2

/-- A bell of a target frame still lies ahead of a position, or never fires for it. -/
def aheadFor (e : BellEntry) (n l t : Nat) : Bool :=
  let fire : Int := (t : Int) - fld e.w0 31 30
  decide (fire % (2 ^ fld e.w0 22 20 : Nat) ≠ (fld e.w0 29 23 : Nat)) || decide ((n : Int) < fire) ||
    (decide (fire = n) && decide (l < fld e.w0 15 0))

/-- The first target frame T all of whose new bells on the swap's raster lie ahead (R48). -/
def State.swapFrame (s : State) (r : Nat) (m : Model) : Nat :=
  let (n, l) := s.standing r
  let mine := m.bells.filter (fun e => bit e.w1 4 && decide (fld e.w0 18 16 = r))
  if mine.isEmpty then s.boundaryFrame r
  else ((List.range 4).map (n + 1 + ·)).find? (fun t => mine.all (fun e => aheadFor e n l t)) |>.getD (n + 4)

/-- R46 over the swap: with both banks matched, some line of the raster has more than sixteen entries in some frame. -/
def State.swapCrowded (s : State) (h r t : Nat) (m : Model) : Bool :=
  let on : BellEntry → Option Firing := fun e => (firingOf e).filter (fun f => decide (f.raster = r))
  let others := (s.otherBells h).filterMap on
  let old := (s.swapPairs h m).filterMap (fun x => on x.2.2)
  let new := (s.swapPairs h m).filterMap (fun x => on x.2.1)
  let n0 := (s.raster r).frame.toNat
  let all := others ++ old ++ new
  (all.map (·.line)).eraseDups.any (fun l =>
    let at_ : Nat → List Firing → List Firing := fun n fs => fs.filter (fun f => decide (f.line = l) && decide (n % f.period = f.phase))
    decide (16 < (all.filter (fun f => decide (f.line = l))).length) &&
    (List.range 132).any (fun k =>
      let n := n0 + k
      decide (16 < (at_ n others).length + ((at_ n old).filter (fun f => decide (n + f.fofs < t))).length +
        ((at_ n new).filter (fun f => decide (t ≤ n + f.fofs))).length)))

/-! ### Parts of the Substitute (R273) -/

/-- A job as the check counts it: the line at which its band starts, the line at which it ends at the latest, the line after its band's
last row, its bytes. -/
structure JobSpan where
  start : Int
  stop : Int
  held : Int
  bytes : Nat
  deriving DecidableEq, Repr

/-- The spans of the shadow-mode bands of a House on a raster. -/
def State.jobSpans (s : State) (h r : Nat) (m : Model) : List JobSpan :=
  m.bands.filterMap (fun (p, _, e) =>
    match m.pipes.find? (fun x => decide (x.pipe = p)) with
    | none => none
    | some x =>
      if x.raster = r ∧ (s.pipe p).house = h ∧ !bit (s.rd (Reg.DLN_Pp_CTRL p)) 1 then
        let y := { s.pipe p with inW := x.inW, inH := x.inH, outH := x.outH }
        let khz := mapGet (fun _ => 0) s.pclk r
        let st := bellLine x.vtotal (m.bells.getD e.startBell {}).w0 0
        some ⟨st, st + ceilDiv (tPrep y (rinOf y e) * khz) (x.htotal * 1000000), e.row0 + e.rows, jobBytes y e⟩
      else none)

/-- The greatest sum of a weight over the spans that stand at one of their starts, frames repeating every `vt` lines. -/
def peak (vt : Nat) (js : List JobSpan) (stop : JobSpan → Int) (weight : JobSpan → Nat) : Nat :=
  (js.map (fun a => (js.map (fun b =>
    weight b * ((List.range 9).filter (fun (k : Nat) =>
      let st := b.start + ((k : Int) - 4) * vt
      decide (st ≤ a.start) && decide (a.start < stop b + ((k : Int) - 4) * vt))).length)).sum)).foldl max 0

/-- Units and store that a House needs (R273). -/
def State.partNeed (s : State) (h : Nat) (m : Model) : Nat × Nat :=
  let rs := (m.pipes.map (·.raster)).eraseDups
  let units := (rs.map (fun r => peak (s.vtotal r) (s.jobSpans h r m) (·.stop) (fun _ => 1))).sum
  let bytes := (rs.map (fun r => peak (s.vtotal r) (s.jobSpans h r m) (·.held) (·.bytes))).sum
  (units, ceilDiv bytes 65536 * 65536)

/-- The parts with a House's need in place. -/
def State.newParts (s : State) (h : Nat) (m : Model) : Map (Nat × Nat) := mapSet (fun _ => (0, 0)) s.parts h (s.partNeed h m)

/-- The parts together exceed the Substitute. -/
def partsTooBig (ps : Map (Nat × Nat)) : Bool :=
  decide (8 < (ps.map (fun x => x.2.1)).sum) || decide (8 * 2 ^ 20 < (ps.map (fun x => x.2.2)).sum)

/-! ### Hand-offs (R425) -/

/-- The lines, counted from frame 0, at which an entry of period and phase fires within 256 frames. -/
def firingLines (vt : Nat) (w0 : Word) : List Nat :=
  ((List.range 256).filter (fun n => decide (n % 2 ^ fld w0 22 20 = fld w0 29 23))).map (fun n => n * vt + fld w0 15 0)

/-- The hand-offs of a form on a raster: line, House. -/
def State.formHandoffs (s : State) (hs : List Handoff) (f r : Nat) : List (Nat × Nat) :=
  ((hs.filter (fun x => bit x.forms f && decide (fld x.w0 18 16 = r))).flatMap (fun x =>
    (firingLines (s.vtotal r) x.w0).map (fun l => (l, x.house)))).mergeSort (fun a b => decide (a.1 ≤ b.1))

/-- The last hand-off before a line. -/
def lastBefore (xs : List (Nat × Nat)) (l : Nat) : Option (Nat × Nat) := (xs.filter (fun x => decide (x.1 < l))).getLast?

/-- The Houses' bells and BAND entries with a commit in place: House, its bells, its bands. -/
def State.houseTables (s : State) (h : Nat) (m : Model) : List (Nat × List BellEntry × List (Nat × Nat × BandEnt)) :=
  (List.range 8).filterMap (fun k =>
    if k = h then some (h, m.bells, m.bands)
    else match mapGet (fun _ => none) s.runs k with
      | some i => (s.models.find? (fun x => decide (x.handle = i))).map (fun x => (k, x.bells, x.bands))
      | none => none)

/-- The forms that start bells of a House name. -/
def startForms (bells : List BellEntry) : List Nat :=
  (List.range 32).filter (fun f => bells.any (fun e => bit e.w1 4 && decide (fld e.w1 3 0 = 1) && bit e.w2 f))

/-- R425 fails for a House's start bell or DMA start on a form, or for its band's planned end. -/
def State.handoffBroken (s : State) (hs : List Handoff) (f k : Nat) (bells : List BellEntry) (bands : List (Nat × Nat × BandEnt)) : Bool :=
  let named := fun (e : BellEntry) =>
    bit e.w1 4 && ((decide (fld e.w1 3 0 = 1) && bit e.w2 f) || (decide (fld e.w1 3 0 = 2) && decide (fld e.w2 6 0 / 2 = f)))
  bells.any (fun e => named e && (
    let r := fld e.w0 18 16
    let xs := s.formHandoffs hs f r
    (firingLines (s.vtotal r) e.w0).any (fun l => decide (128 * s.vtotal r ≤ l) &&
      decide ((lastBefore xs l).map (·.2) ≠ some k)))) ||
  bands.any (fun (p, _, b) => decide (b.form = f) && (
    let e := bells.getD b.startBell {}
    let r := fld e.w0 18 16
    let xs := s.formHandoffs hs f r
    let cclk := max 1 (10000 * s.fuses.cclk)
    let khz := mapGet (fun _ => 0) s.pclk (s.pipe p).raster
    let long := ceilDiv ((b.plan + cclk / 1000) * khz) (cclk * max 1 (s.htotal r))
    (firingLines (s.vtotal r) e.w0).any (fun l => decide (128 * s.vtotal r ≤ l) && decide (l < 254 * s.vtotal r) &&
      match xs.find? (fun x => decide (l < x.1)) with
      | some (t, _) => decide (t < l + long)
      | none => false)))

/-- Dvorzar's hand-off entries for the next commit. -/
def State.planHandoffs (s : State) : List Handoff :=
  ((Config.handoffPlan ((s.service.commitSeq + 1) % 65536)).take 64).map (fun x => { w0 := x.1, forms := x.2.1, house := x.2.2 % 8 })

/-- R425: some form that serves more than one House breaks a condition. -/
def State.sharedFormsBad (s : State) (h : Nat) (m : Model) : Bool :=
  let ts := s.houseTables h m
  let hs := s.planHandoffs
  (List.range 32).any (fun f =>
    let users := ts.filter (fun x => (startForms x.2.1).contains f)
    decide (1 < users.length) && users.any (fun x => s.handoffBroken hs f x.1 x.2.1 x.2.2))

/-! ### Bank handovers of an image (R168, R239) -/

/-- A LIBMAP entry that cannot be carried out: 6 the bank is another's, busy, retired or named; 4 the quota is passed; 0 it can. -/
def State.libmapStatus (s : State) (h : Nat) (m : Model) : Nat :=
  let xs := (m.images.flatMap (·.libmap)).eraseDups
  let new := xs.filter (fun x => decide (s.bankOwner x.1 ≠ h))
  if xs.any (fun x => !(decide (s.bankOwner x.1 = h) && decide (s.bankShelf x.1 = x.2)) &&
      (s.bankBusy x.1 || s.bankRetired x.1 || s.bankNamed x.1 || !(decide (s.bankOwner x.1 = h) || decide (s.bankOwner x.1 = 8)))) then 6
  else if s.quotaOf h < (s.houseBanks h).length + new.length then 4
  else 0

/-- The handovers and INIT writes of a model's images. -/
def State.carryLibmap (s : State) (h : Nat) (m : Model) : State :=
  let s := ((m.images.flatMap (·.libmap)).eraseDups).foldl (fun s x =>
    if s.bankOwner x.1 = h ∧ s.bankShelf x.1 = x.2 then s else s.bankSet x.1 h 0 x.2 (decide (s.bankOwner x.1 ≠ h))) s
  (m.images.flatMap (·.init)).foldl (fun s x => s.bankWriteFor 1024 h x.1 x.2) s

/-! ### Checking a commit (R396) -/

/-- A commit that passes: its rasters, and the swap it carries. -/
structure CommitPlan where
  rasters : List Nat
  swap : Option (Model × Nat × Nat) := none
  deriving DecidableEq, Repr

/-- Entries of the configuration journal that a set needs: one, and one for each staged block (R454; log 59). -/
def setEntries (c : CommitSet) : Nat :=
  1 + c.mode.length + c.port.length + c.canvas.length + c.vlayer.length + c.protect.length + (c.route.length + 15) / 16

/-- A pipeline is named by a commit that is accepted and not applied (R338). -/
def State.pipePending (s : State) (p : Nat) : Bool :=
  s.accepted.any (fun a => a.set.route.any (fun x => decide (x.1 = p)) || a.set.vlayer.any (fun x => decide (x.1 = p)) ||
    (match a.swap with
     | some (m, _, _) => s.models.any (fun x => decide (x.handle = m) && x.pipes.any (fun y => decide (y.pipe = p)))
     | none => false))

/-- The checks of a set and its timetable, for House h; `routes` are sources that a cut gives its pipelines, which the timetable may rest
on. -/
def State.checkCommit (s : State) (h : Nat) (c : CommitSet) (gl : Nat) (timetable : Bool) : Except CmdErr CommitPlan :=
  match s.setCheck c gl with
  | some e => .error e
  | none =>
    let rs := s.setRasters c gl
    if 112 < s.service.journalPend + setEntries c + ((s.accepted.map (·.entries)).sum) then .error { status := 4 }
    else
      match if timetable then s.swapModel h else none with
      | none => .ok { rasters := rs }
      | some m =>
        let v := s.view c gl
        let r := v.swapRaster h m
        let t := v.swapFrame r m
        if bit (s.rd Reg.RAS_BELLSTAT) 2 ∨ 1 < (s.swapRasters h m).length then .error { status := 6 }
        else if ((r :: rs).eraseDups).length ≠ 1 then .error { status := 8 }
        else if m.pipes.any (fun x => !v.pipeEntOk h x) then .error { status := 9 }
        else if v.swapCrowded h r t m then .error { status := 9 }
        else if partsTooBig (v.newParts h m) then .error { status := 8 }
        else if v.sharedFormsBad h m then .error { status := 6 }
        else match s.libmapStatus h m with
          | 0 => .ok { rasters := [r], swap := some (m, r, t) }
          | st => .error { status := st }

/-! ### Acceptance -/

/-- The shadow bank for a swap: the House's new entries, every other range as the active bank has it (R48). -/
def State.fillShadow (s : State) (h : Nat) (m : Model) : State :=
  let act := s.bellBank
  let shadow := 1 - act
  let kept := s.bells.filterMap (fun x => if x.1 / 4096 = act then some (shadow * 4096 + x.1 % 4096, x.2) else none)
  let base := s.bells.filter (fun x => decide (x.1 / 4096 = act))
  let tbl := kept.foldl (fun b x => mapSet (fun _ => ({} : BellEntry)) b x.1 x.2) base
  { s with bells := (s.swapPairs h m).foldl (fun b x => mapSet (fun _ => ({} : BellEntry)) b (shadow * 4096 + x.1) x.2.1) tbl }

/-- The shadow handle tables of a swap: an image's entries in place of the House's, others' kept (R175). -/
def State.fillHandles (s : State) (h t : Nat) (m : Model) : State :=
  (m.images.flatMap (·.handles)).foldl (fun s x =>
    s.onCore x.1 (fun k =>
      let old := if k.handleSwap = some t then k.shadowHandles else k.handles
      let tbl := (List.range 64).foldl (fun tb i =>
        let w : Nat → Word := fun j => x.2.getD (4 * i + j) 0
        let cur := k.handle i
        if bit (w 3) 31 || !cur.v || decide (cur.house = h) then
          (List.range 4).foldl (fun tb j => mapSet (fun _ => (0 : Word)) tb (4 * i + j) (w j)) tb
        else tb) old
      { k with shadowHandles := tbl, handleSwap := some t })) s

/-- Cores of forms that only this House's images use take it as CORE_HOUSE. -/
def State.takeForms (s : State) (h : Nat) (m : Model) : State :=
  let ts := (s.houseTables h m).filter (fun x => decide (x.1 ≠ h))
  ((startForms m.bells).filter (fun f => !(ts.any (fun x => (startForms x.2.1).contains f)))).foldl (fun s f =>
    (formCores f).foldl (fun s c => s.onCore c (fun k => k.setC 1 (BitVec.ofNat 32 h))) s) s

/-- CMP_PEND follows the accepted commits. -/
def State.showPend (s : State) : State :=
  let m := (List.range 8).foldl (fun m r => if s.accepted.any (fun a => a.due.any (fun d => decide (d.1 = r))) then m + 2 ^ r else m) 0
  s.wr Reg.CMP_PEND (BitVec.ofNat 32 m)

/-- Homework of a model stops: units not complete are abandoned (R310). -/
def Hw.stop (x : Hw) : Hw :=
  { x with enable := false, state := 0, units := [], grads := [], updated := false, deployed := false, evals := [], frozen := false, sample := none }

/-- The homework of the models that a commit replaces stops. -/
def State.hwReplace (s : State) (h keep : Nat) : State :=
  { s with hw := s.hw.map (fun (x : Nat × Hw) =>
      if x.1 ≠ keep ∧ s.models.any (fun (m : Model) => decide (m.handle = x.1) && decide (m.house = h)) then (x.1, x.2.stop) else x) }

/-- The timetable side of an acceptance (R48, R239, R273, R423). -/
def State.acceptSwap (s : State) (h : Nat) (m : Model) (r t : Nat) : State :=
  let s := (s.hwReplace h m.handle).carryLibmap h m
  let s := ((s.fillShadow h m).fillHandles h t m).takeForms h m
  let hs := s.planHandoffs
  let tbl := (List.range hs.length).foldl (fun x i => mapSet (fun _ => ({} : Handoff)) x i (hs.getD i {})) []
  let s := { s with swap := some (r, h), parts := s.newParts h m, handoffs := if hs.isEmpty then s.handoffs else tbl
                    loaded := mapSet (fun _ => none) s.loaded h none
                    models := s.models.map (fun (x : Model) => if x.handle = m.handle then { x with committed := true } else x) }
  (s.wr64 Reg.RAS_SWAP_T_LO Reg.RAS_SWAP_T_HI t).wrF Reg.RAS_BELLSTAT 2 2 1

/-- A function level reset's floor on a House's pipelines ends with the next commit of that House or of House 0 (Table 13.6). -/
def State.liftFlr (s : State) (h : Nat) : State :=
  (List.range 4).foldl (fun s p => if h = 0 ∨ (s.pipe p).house = h then s.setPipe p { s.pipe p with flr := false } else s) s

/-! ### Application of a part (R336) -/

/-- Keys of a raster's window. -/
def rasterKeys (r : Nat) : List Nat := (List.range 16).map (fun i => 0x101000 + 0x100 * r + 4 * i)

/-- A raster is disabled: its registers read their reset values and its frame counter is kept (R24). -/
def State.disableRaster (s : State) (r : Nat) : State :=
  let s := (rasterKeys r).foldl (fun s k => s.wr k (regReset k)) s
  s.setRaster r { frame := (s.raster r).frame }

/-- A set changes the mode of a raster: its pixel clock, HTOTAL, VTOTAL, VACTIVE or port grouping, or starts it (R54). -/
def State.modeChange (s : State) (c : CommitSet) (r : Nat) : Bool :=
  c.mode.any (fun (q, ws) => decide (q = r) && bit (blockWord ws 0) 0 && (!s.rasterOn r ||
    decide ((blockWord ws 6).toNat ≠ mapGet (fun _ => 0) s.pclk r) || decide (fld (blockWord ws 3) 31 16 ≠ s.htotal r) ||
    decide (blockWord ws 1 ≠ s.rd (Reg.RASn_VTIMING r)))) ||
  (s.rasterOn r && c.port.any (fun (n, ws) => decide (fld (blockWord ws 0) 12 10 = r) &&
    (decide (fld (blockWord ws 0) 6 4 ≠ s.rdF (Reg.SCOn_CTRL n) 6 4) || decide (fld (blockWord ws 0) 12 10 ≠ s.leader n))))

/-- The relock of a pixel PLL begins (R54, R55). -/
def State.relock (s : State) (r : Nat) : State :=
  let x := s.raster r
  let s := (s.groupPorts r).foldl (fun s p => s.emit (.port p "idle")) s
  let s := s.setRaster r { frame := x.frame, line := s.vactive r, te0 := x.te0, te1 := x.te1 }
  ((s.wrF (Reg.RASn_STATUS r) 7 6 3).wrF (Reg.RASn_SLEW r) 15 0 0).wr (Reg.RASn_STRETCH r) 0

/-- Ports of a raster leave self refresh (R368). -/
def State.psrOut (s : State) (r : Nat) : State :=
  (s.groupPorts r).foldl (fun s n => s.setPort n { s.port n with psrOn := false, same := 0, changedRun := 0, changed := [] }) s

/-- A pipeline takes a new source at a frame boundary (R339): the first frame from it begins a new sequence. -/
def State.takeRoute (s : State) (p src : Nat) : State :=
  let x := s.pipe p
  s.setPipe p { x with source := src, seq := x.seq + 1, recs := [], repeats := none, discDue := false }

/-- A graphics layer's active values break R323, R324 or R326. -/
def State.glBad (s : State) (g : Nat) : Bool :=
  let w := s.glAct (Reg.CMP_GLg_CTRL g)
  let fmt := fld w 9 6
  let sz := s.glAct (Reg.CMP_GLg_SIZE g)
  let sw := fld sz 15 0
  let sh := fld sz 31 16
  let pitch := s.glAct (Reg.CMP_GLg_PITCH g)
  let planes := if fmt ≤ 3 then 1 else if fmt ≤ 7 then 2 else 3
  let e := if fmt = 0x5 ∨ fmt = 0x7 ∨ fmt = 0x9 then 2 else 1
  let row0 := if fmt ≤ 2 then 4 * sw else if fmt = 3 then 8 * sw else e * sw
  let row1 := if fmt ≤ 7 then 2 * e * ((sw + 1) / 2) else e * sw
  decide (9 < fmt) || decide (sw = 0) || decide (16384 < sw) || decide (sh = 0) || decide (16384 < sh) ||
  (List.range planes).any (fun k => decide (fld (s.glAct (Reg.CMP_GLg_ADDR g (2 * k))) 5 0 ≠ 0) ||
    decide (fld (s.glAct (Reg.CMP_GLg_ADDR g (2 * k + 1))) 31 16 ≠ 0)) ||
  decide (64 * fld pitch 15 0 < row0) || (decide (1 < planes) && decide (64 * fld pitch 31 16 < row1)) ||
  (decide (fld w 16 15 = 3) && decide (fmt ≠ 3)) || decide (1024 < fld (s.glAct (Reg.CMP_GLg_ALPHA g)) 10 0)

/-- The shadow values of a layer become active at the boundary; a layer that breaks the rules is hidden and flagged (R326, R337). -/
def State.applyGl (s : State) (g : Nat) : State :=
  let s := s.takeGl g
  let s := { s with glHidden := putBit s.glHidden g false
                    flat := s.flat.map (fun x => (x.1, x.2.filter (fun run => run.all (fun c => decide (c % 16 ≠ g))))) }
  if bit (s.glAct (Reg.CMP_GLg_CTRL g)) 0 && s.glBad g then s.wrF (Reg.CMP_GLg_ERR g) 16 16 1 else s

/-! ### The protected region (R343 to R345) -/

/-- What a canvas's protected region shows. -/
def State.protect (s : State) (r : Nat) : Protect := mapGet (fun _ => {}) s.protects r

/-- A canvas's protected region replaced. -/
def State.setProtect (s : State) (r : Nat) (q : Protect) : State := { s with protects := mapSet (fun _ => {}) s.protects r q }

/-- The template pixel that covers a canvas position, if the region does (R344). -/
def Protect.pix? (q : Protect) (x y : Nat) : Option Nat :=
  match q.tmpl with
  | none => none
  | some t =>
    if q.x0 ≤ x ∧ x < q.x0 + t.w * t.rep ∧ q.y0 ≤ y ∧ y < q.y0 + t.h * t.rep then
      some (t.words.getD ((y - q.y0) / t.rep * t.w + (x - q.x0) / t.rep) 0)
    else none

/-- The encoded components of a port's part of the region, in raster order (R345). `fill` sends the FILL colour instead. -/
def State.regionParts (s : State) (n : Nat) (fill : Bool) : List Nat :=
  let r := s.leader n
  let c := s.rd (Reg.SCOn_CTRL n)
  let st := s.rd (Reg.SCOn_STRIPE n)
  let q := s.protect r
  match q.tmpl with
  | none => []
  | some t =>
    (List.range (t.h * t.rep)).flatMap (fun dy =>
      encodeLine (fld c 16 15) (fld c 14 13) (s.rdF (Reg.CMP_CVr_CTRL r) 3 3) ((List.range (fld st 15 0)).filterMap (fun dx =>
        (q.pix? (fld st 31 16 + dx) (q.y0 + dy)).map (fun w => (p30 (if fill then t.fill else w)).map widen12))))

/-- The CRC of a port's part of the region. -/
def State.regionCrc (s : State) (n : Nat) (fill : Bool) : Nat := crc32 ((s.regionParts n fill).flatMap (leBytes 2))

/-- SCOn_PEXP of every port of a group, where its canvas has a region. -/
def State.setPexp (s : State) (r : Nat) : State :=
  if (s.protect r).tmpl.isSome then
    (s.groupPorts r).foldl (fun s n => s.wr (Reg.SCOn_PEXP n) (BitVec.ofNat 32 (s.regionCrc n false))) s
  else s

/-- A template takes its place on a canvas; FORCED and FILL end (R346). -/
def State.applyProtect (s : State) (r : Nat) (t : Template) (x0 y0 : Nat) : State :=
  let s := s.setProtect r { tmpl := some t, x0 := x0, y0 := y0 }
  let s := s.wrF (Reg.CMP_PRr_STAT r) 2 0 1
  (s.wr (Reg.CMP_PRr_POS r) (BitVec.ofNat 32 (y0 * 65536 + x0))).wr (Reg.CMP_PRr_SIZE r)
    (BitVec.ofNat 32 (t.h * t.rep * 65536 + t.w * t.rep))

/-! ### Images take over (R239) -/

/-- The images of a model begin to run: BAND entries by tier, pipelines, instruction stores (R77, R237, R282). -/
def State.activate (s : State) (m : Model) : State :=
  if mapGet (fun _ => none) s.runs m.house = some m.handle then s
  else
    let mine := fun (p : Nat) => decide ((s.pipe p).house = m.house)
    let s := { s with runs := mapSet (fun _ => none) s.runs m.house (some m.handle)
                      bandEnts := s.bandEnts.filter (fun x => !mine (x.1 / 8192)) }
    let s := m.images.foldl (fun s im =>
      let s := im.bands.foldl (fun s x =>
        { s with bandEnts := mapSet (fun _ => none) s.bandEnts ((x.1 * 2048 + x.2.1) * 4 + im.tier) (some x.2.2) }) s
      im.istore.foldl (fun s x => s.store .istore (x.1 * 2 ^ 19 + 64 * x.2.1) x.2.2) s) s
    let low := (m.images.head?.map (·.lowLat)).getD false
    let s := m.pipes.foldl (fun s x =>
      let y := { s.pipe x.pipe with raster := x.raster, bandH := x.bandH, inW := x.inW, inH := x.inH, outW := x.outW, outH := x.outH }
      (s.wrF (Reg.RAS_INs_STATUS x.trk) 7 5 x.raster).setPipe x.pipe { y with nbands := x.nbands, retime := x.retime, lowLat := low }) s
    (List.range 32).foldl State.lossPart s

/-- The model of a pending swap whose frame T has come, for a bell of its House (R48, R175). -/
def State.activateFor (s : State) (h target : Nat) : State :=
  match s.accepted.find? (fun a => decide (a.house = h) && (match a.swap with | some (_, _, t) => decide (t ≤ target) | none => false)) with
  | some { swap := some (m, _, _), .. } =>
    match s.models.find? (fun x => decide (x.handle = m)) with
    | some x => s.activate x
    | none => s
  | _ => s

/-- A PROG_START bell: the images of its target frame run (R61, R221, R239). -/
def State.progBell (s : State) (h : Nat) (d : DueBell) : State := (s.activateFor h d.target).progStart h d

/-- A cut ends when its second commit applies (R342). -/
def State.endCuts (s : State) (r : Nat) : State :=
  (s.rasterPipes r).foldl (fun s p =>
    match (s.pipe p).cut with
    | some (src, _, _) =>
      let s := s.takeRoute p src
      (s.setPipe p { s.pipe p with cut := none }).wrF (Reg.CMP_CUTp p) 31 31 0
    | none => s) s

/-- The part of a commit for one raster, all of it together. -/
def State.applyPart (s : State) (a : Accepted) (r : Nat) : State :=
  let c := a.set
  let change := s.modeChange c r
  let encode := c.port.any (fun x => decide (fld (blockWord x.2 0) 12 10 = r))
  let s := c.port.foldl (fun s x => if fld (blockWord x.2 0) 12 10 = r then s.writePort x.1 x.2 else s) s
  let s := c.mode.foldl (fun s x =>
    if x.1 = r then (if bit (blockWord x.2 0) 0 then s.writeMode r x.2 else s.disableRaster r) else s) s
  let s := if s.rdF (Reg.RASn_CTRL r) 4 2 = 0 ∧ s.rasterOn r then s.wrF (Reg.RASn_STATUS r) 0 0 1 else s
  let s := if s.rasterOn r then (s.groupPorts r).foldl (fun s n => if n = r then s else s.disableRaster n) s else s
  let s := if change then s.relock r else s
  let s := if change || encode then s.psrOut r else s
  let s := c.canvas.foldl (fun s x => if x.1 = r then s.writeCanvas r x.2 else s) s
  let s := c.vlayer.foldl (fun s x => if (s.pipe x.1).raster = r then s.writeVlayer x.1 x.2 else s) s
  let s := c.protect.foldl (fun s x => if x.1 = r then s.applyProtect r x.2.1 x.2.2.1 x.2.2.2 else s) s
  let s := (maskList a.gl).foldl (fun s g => if s.rdF (Reg.CMP_GLg_CTRL g) 5 3 = r then s.applyGl g else s) s
  let s := c.route.foldl (fun s x => if (s.pipe x.1).raster = r then s.takeRoute x.1 x.2 else s) s
  let s := match a.swap with
    | some (m, q, _) => if q = r then
        (match s.models.find? (fun (x : Model) => decide (x.handle = m)) with
         | some x => (s.activate x).endCuts r
         | none => s)
      else s
    | none => s
  let s := s.setPexp r
  let s := s.wrF (Reg.CMP_LASTr r) 15 0 a.seq
  let acc := s.accepted.map (fun (b : Accepted) => if b.seq = a.seq then { b with due := b.due.filter (fun d => decide (d.1 ≠ r)) } else b)
  let done := acc.filter (fun b => b.due.isEmpty)
  State.showPend { s with accepted := acc.filter (fun b => !b.due.isEmpty)
                          service := { s.service with journalPend := s.service.journalPend + (done.map (·.entries)).sum } }

/-- The frame whose boundary a raster has reached: that of frame N + 1 is the start of line VACTIVE of frame N (R26). -/
def State.atBoundary (s : State) (r : Nat) : Nat :=
  let x := s.raster r
  if s.vactive r ≤ x.line then x.frame.toNat + 1 else x.frame.toNat

/-- COMMIT_APPLY: the parts of a raster whose boundary has come apply in order of acceptance (R336). -/
def State.applyDue (s : State) (r : Nat) : State :=
  let due := s.accepted.filter (fun a => a.due.any (fun d => decide (d.1 = r) && decide (d.2 ≤ s.atBoundary r)))
  due.foldl (fun s a => s.applyPart a r) s

/-- A commit is accepted (R335, R336, R396): its sequence number counts, its parts wait for their boundaries; on a raster that does not run
its part applies at once (R54). -/
def State.accept (s : State) (h slot : Nat) (c : CommitSet) (gl : Nat) (p : CommitPlan) : State :=
  let seq := (s.service.commitSeq + 1) % 65536
  let rs := match p.swap with
    | some (_, r, _) => (r :: p.rasters).eraseDups
    | none => p.rasters
  let due := rs.map (fun r => (r, match p.swap with | some (_, q, t) => if q = r then t else s.boundaryFrame r | none => s.boundaryFrame r))
  let a : Accepted := { seq := seq, house := h, slot := slot, set := { c with armed := none }, gl := gl, due := due, entries := setEntries c
                        swap := p.swap.map (fun x => (x.1.handle, x.2.1, x.2.2)) }
  let s := match p.swap with
    | some (m, r, t) => s.acceptSwap h m r t
    | none => s
  let s := s.liftFlr h
  let s := { s with accepted := s.accepted ++ [a], commitSlots := mapSet (fun _ => {}) s.commitSlots slot {}
                    service := { s.service with commitSeq := seq
                                                slotDue := if s.service.slotStage.isSome then s.service.slotStage else s.service.slotDue
                                                slotStage := none } }
  let s := (rs.foldl (fun s r => s.wrF (Reg.CMP_LASTr r) 31 16 seq) s).showPend
  if rs.isEmpty then
    { s with accepted := s.accepted.filter (fun b => decide (b.seq ≠ seq))
             service := { s.service with journalPend := s.service.journalPend + a.entries } }
  else (rs.filter (fun r => !s.rasterOn r)).foldl (fun s r => s.applyPart a r) s

/-- A staged slot. -/
def State.slot (s : State) (i : Nat) : CommitSet := mapGet (fun _ => {}) s.commitSlots i

/-- A House holds a commit slot (R335, R393). -/
def State.slotOf (s : State) (h i : Nat) : Bool :=
  let g := s.grant h
  g.call || (decide (g.cbase ≤ i) && decide (i < g.cbase + g.ccount))

/-! ### Cuts (R340 to R342) -/

/-- CUT_LEAD for a pipeline with a new source's size (R341): the longest preparation of its bands. -/
def State.cutLead (s : State) (p w hgt : Nat) : Nat :=
  let x := { s.pipe p with inW := w, inH := hgt }
  let rin := ((List.range x.nbands).map (fun b => match s.anyEnt p b with | some e => rinOf x e | none => 0)).foldl max 0
  let khz := mapGet (fun _ => 0) s.pclk x.raster
  ceilDiv ((tPrep x rin + 2000) * khz) (max 1 (s.htotal x.raster) * 1000000) + 2

/-- The cut band and its target frame: the first band whose first row is sent at or after line Lc + CUT_LEAD. -/
def State.cutBand (s : State) (p lead : Nat) : Nat × Nat :=
  let x := s.pipe p
  let q := s.raster x.raster
  let vt := s.vtotal x.raster
  let fits : Nat → Nat → Bool := fun k b => decide (q.line + lead ≤ k * vt + b * x.bandH)
  match (List.range x.nbands).find? (fits 0) with
  | some b => (b, q.frame.toNat)
  | none => (((List.range x.nbands).find? (fits 1)).getD 0, q.frame.toNat + 1)

/-- A cut takes effect on a pipeline at its acceptance: old jobs from the cut band on go, the new ones are queued. -/
def State.cutPipe (s : State) (m : Model) (p src : Nat) : State :=
  match m.pipes.find? (fun x => decide (x.pipe = p)) with
  | none => s
  | some e =>
    let (b, t) := s.cutBand p (s.cutLead p e.inW e.inH)
    let x := s.pipe p
    let s := s.setPipe p { x with cut := some (src, b, t), cutW := e.inW, cutH := e.inH }
    let s := s.wr (Reg.CMP_CUTp p) (BitVec.ofNat 32 (2 ^ 31 + b))
    let now := (s.raster x.raster).frame.toNat
    let old := s.subJobs.filter (fun j => decide (j.pipe = p) &&
      (decide (t < nearFrame now j.target.toNat) || (decide (nearFrame now j.target.toNat = t) && decide (b ≤ j.band))))
    let s := old.foldl (fun s j => (s.dropJob p j.band j.target).setSState p j.band j.target .none) s
    let onCall := bit (s.rd (Reg.DLN_Pp_CTRL p)) 1
    let s := s.psrOut x.raster
    (List.range (x.nbands - b)).foldl (fun s i => s.queueJob p (b + i) (BitVec.ofNat 32 t) onCall true) s

/-- Dvorzar's checks of a cut (R338, R340): the first set holds the new sources of exactly the pipelines of the cut, none of them is named by
a pending commit, and the second set carries a timetable whose PIPE entries are for the new sources. -/
def State.checkCut (s : State) (h : Nat) (c1 : CommitSet) (mask : Nat) (c2 : CommitSet) (gl : Nat) : Except CmdErr CommitPlan :=
  let ps := (List.range 4).filter (Nat.testBit mask)
  if setEntries c1 ≠ setEntries { route := c1.route } ∨ (ps.any (fun p => !(c1.route.any (fun x => x.1 = p)))) ∨
      c1.route.any (fun x => !ps.contains x.1) then .error { status := 8 }
  else if ps.any s.pipePending then .error { status := 6 }
  else match s.setCheck c1 0 with
    | some e => .error e
    | none =>
      match s.checkCommit h c2 gl true with
      | .error e => .error e
      | .ok p =>
        match p.swap with
        | none => .error { status := 8 }
        | some (m, _, _) =>
          if c1.route.any (fun x => !(m.pipes.any (fun e => decide (e.pipe = x.1) && decide (e.trk = x.2)))) then .error { status := 8 } else .ok p

/-- Both slots of a cut are accepted together (R396): the second commit waits for its frame T, the cut takes effect at once. -/
def State.acceptCut (s : State) (h slot1 slot2 : Nat) (c1 c2 : CommitSet) (gl : Nat) (p : CommitPlan) : State :=
  let s := s.accept h slot2 c2 gl p
  let s := match p.swap with
    | some (m, _, _) => c1.route.foldl (fun (s : State) (x : Nat × Nat) => s.cutPipe m x.1 x.2) s
    | none => s
  { s with commitSlots := mapSet (fun _ => {}) s.commitSlots slot1 {} }

/-- A COMMIT bell (R44, R335, R396): a slot armed for it is accepted; any other slot is left as it is. A set that the checks no longer
pass stays armed (log 60). -/
def State.bellCommit (s : State) (h i : Nat) : State :=
  match (s.slot i).armed with
  | some a =>
    if a.house = h ∧ s.slotOf h i then
      match a.cut with
      | none =>
        match s.checkCommit h (s.slot i) a.gl true with
        | .ok p => s.accept h i (s.slot i) a.gl p
        | .error _ => s
      | some (mask, j) =>
        match s.checkCut h (s.slot i) mask (s.slot j) a.gl with
        | .ok p => s.acceptCut h i j (s.slot i) (s.slot j) a.gl p
        | .error _ => s
    else s
  | none => s

end Sys2Proof.Machine
end

