-- ==== Sys2Proof/Machine/Inputs.lean ====
section
/-! DEFINITION. Inputs: trackers (R34 to R36), input records (R264), the re-timer (R491), repeating (R37), and capture into the rings
(R355 to R361). -/
namespace Sys2Proof.Machine

/-- A tracker's own state. -/
def State.tracker (s : State) (t : Nat) : Tracker := mapGet (fun _ => {}) s.trackers t
/-- A tracker's own state replaced. -/
def State.setTracker (s : State) (t : Nat) (x : Tracker) : State := { s with trackers := mapSet (fun _ => {}) s.trackers t x }

/-- The pipelines that take a source. -/
def State.sourcePipes (s : State) (t : Nat) : List Nat :=
  (List.range 4).filter (fun p => (s.pipe p).valid && decide ((s.pipe p).source = t))

/-- Dvorzar enables a sink while a pipeline takes it, as its source or by a cut (R341, R356). -/
def State.sinkOn (s : State) (k : Nat) : Bool :=
  !(s.sourcePipes k).isEmpty || (List.range 4).any (fun p => (s.pipe p).valid && decide ((s.pipe p).cut.map (·.1) = some k))

/-- A sink that no pipeline takes any more has no link (R356). -/
def State.quietSinks (s : State) : State :=
  [0, 1].foldl (fun s k => if s.sinkOn k then s else s.wr (Reg.VIN_Ss_STATUS k) (s.rd (Reg.VIN_Ss_STATUS k) &&& 0xFFFF0080#32)) s

/-- The House that holds an input. -/
def State.inputHouse (s : State) (t : Nat) : Option Nat := (List.range 8).find? (fun h => s.hasInput h t)

/-! ### Records and discontinuities -/

/-- The newest completely captured frame of a pipeline's sequence. -/
def Pipe.lastGood (x : Pipe) : Option (Nat × Nat) := (x.recs.find? (·.complete)).map (fun r => (r.frame, r.seq))

/-- An input record entry is written (R264). -/
def State.writeRecord (s : State) (p : Nat) (r : InRec) (reason : Nat) : State :=
  let x := s.pipe p
  let flags := r.anchor.toNat + 2 * r.complete.toNat + 4 * reason
  s.bankWriteFor 1024 x.house (x.recordBank * 2 ^ 18 + 32 * (r.frame % 8))
    (leBytes 4 r.frame ++ leBytes 4 r.seq ++ leBytes 8 r.stamp ++ leBytes 1 flags ++ leBytes 15 0)

/-- A tracker declares a source discontinuity for its next frame (R36); its pipelines are to repeat from the next boundary (R37). A frame that carries
one already carries no second one (log 45). -/
def State.declareDisc (s : State) (t reason : Nat) : State :=
  if (s.tracker t).due.isSome then s else
  let w := setFld (s.rd (Reg.RAS_INs_STATUS t)) 4 3 reason
  let s := (s.wr (Reg.RAS_INs_STATUS t) (setBit w 1 true)).countErr (Reg.RAS_INs_DISCNT t)
  let s := s.setTracker t { s.tracker t with due := some reason }
  (s.sourcePipes t).foldl (fun s p =>
    let x := s.pipe p
    s.setPipe p { x with discDue := true, old := if x.repeats.isSome then x.old else x.lastGood.or x.old }) s

/-- Stamp A minus stamp B of a raster of `vt` lines, in 1/65,536 line (R27, R491). -/
def stampDiff (vt a b : Nat) : Int :=
  (sgn 32 ((a / 2 ^ 32 + 2 ^ 32 - b / 2 ^ 32) % 2 ^ 32) * (vt : Int) + ((a / 2 ^ 16 % 2 ^ 16 : Nat) : Int) - ((b / 2 ^ 16 % 2 ^ 16 : Nat) : Int)) * 65536 +
    ((a % 2 ^ 16 : Nat) : Int) - ((b % 2 ^ 16 : Nat) : Int)

/-- The raster onto which a tracker maps. -/
def State.mapOf (s : State) (t : Nat) : Nat := s.rdF (Reg.RAS_INs_STATUS t) 7 5

/-- The stamp of a new input frame is taken (R34, R35): counter, discontinuity, period and records. -/
def State.beginFrame (s : State) (t stamp : Nat) : State :=
  let last := s.rd64 (Reg.RAS_INs_LAST_LO t) (Reg.RAS_INs_LAST_HI t)
  let s := if t = 2 && (s.tracker t).have_ && (s.tracker t).due.isNone && !rtsEarlier last stamp then s.declareDisc t 0 else s
  let x := s.tracker t
  let n := (s.inFrame t + 1) % 2 ^ 32
  let s := (s.wr (Reg.RAS_INs_FRAME t) (BitVec.ofNat 32 n)).wr (Reg.RAS_INs_LINE t) 0
  let s := if n = 0 then
      let s := s.wrF (Reg.RAS_INs_STATUS t) 2 2 1
      match s.inputHouse t with
      | some h => s.post h 0x15 0 none [t]
      | none => s
    else s
  let s := s.wrF (Reg.RAS_INs_STATUS t) 0 0 1
  let s := if t < 2 && x.have_ && x.due.isNone then
      let per := (stampDiff (s.vtotal (s.mapOf t)) stamp last).toNat
      let vin := s.rdF (Reg.VIN_Ss_VTIM t) 31 16
      (s.wr (Reg.RAS_INs_PERIOD t) (BitVec.ofNat 32 per)).wr (Reg.RAS_INs_LPERIOD t) (BitVec.ofNat 32 (if vin = 0 then 0 else per / vin))
    else s
  let s := s.wr64 (Reg.RAS_INs_LAST_LO t) (Reg.RAS_INs_LAST_HI t) stamp
  let s := s.setTracker t { x with have_ := true, due := none, prev := last, open_ := true, lines := 0, lastC := [], black := false, dscBad := 0 }
  (s.sourcePipes t).foldl (fun s p =>
    let y := s.pipe p
    let anchor := x.due.isSome || y.recs.isEmpty
    let seq := if x.due.isSome then y.seq + 1 else y.seq
    let r : InRec := { frame := n, seq := seq, stamp := stamp, anchor := anchor, complete := false }
    let s := s.setPipe p { y with seq := seq, recs := if anchor then [r] else (r :: y.recs).take 16 }
    s.writeRecord p r (x.due.getD 0)) s

/-- The frame in capture is complete: its records say so before CAPTURED reaches its last line (R264). -/
def State.endFrame (s : State) (t : Nat) : State :=
  (s.sourcePipes t).foldl (fun s p =>
    let y := s.pipe p
    match y.recs with
    | r :: rest =>
      if r.frame = s.inFrame t then
        let r' := { r with complete := true }
        let s := s.setPipe p { y with recs := r' :: rest }
        s.writeRecord p r' (if r.anchor then s.rdF (Reg.RAS_INs_STATUS t) 4 3 else 0)
      else s
    | [] => s) s

/-! ### Repeating and re-timing (R37, R491) -/

/-- The anchor frame of a pipeline's sequence is completely captured. -/
def Pipe.anchorDone (x : Pipe) : Bool :=
  match x.recs.getLast? with
  | some r => !r.anchor || r.complete
  | none => false

/-- Steps 1 and 4 of R37 at a frame boundary. -/
def State.repeatStep (s : State) (p : Nat) : State :=
  let x := s.pipe p
  let ready := x.anchorDone && (s.tracker x.source).due.isNone
  if x.discDue then s.setPipe p { x with discDue := false, repeats := if ready then none else x.old }
  else if x.repeats.isSome && ready then s.setPipe p { x with repeats := none }
  else s

/-- The frame F and the weight that the re-timer takes for output frame N (R491). -/
def State.retimePick (s : State) (p n : Nat) : Option (Nat × Nat) :=
  let x := s.pipe p
  let vt := s.vtotal x.raster
  let line0 := n % 2 ^ 32 * 2 ^ 32
  let t : Int := -(x.retime * 65536 : Nat)
  let rel : InRec → Int := fun r => stampDiff vt r.stamp line0
  match x.recs with
  | [] => none
  | [r] => if x.lowLat ∨ r.anchor then some (r.frame, 0) else some (r.frame, 0)
  | r0 :: r1 :: rest =>
    let s0 := rel r0
    let per : Int := if x.source = 2 then s0 - rel r1 else (s.rd (Reg.RAS_INs_PERIOD x.source)).toNat
    let weight : Int → Int → Nat := fun sf sn =>
      if x.lowLat ∨ sn ≤ sf then 0 else (clampI 0 256 ((512 * (t - sf) + (sn - sf)) / (2 * (sn - sf)))).toNat
    if s0 ≤ t ∧ 0 < per then
      let k := (t - s0) / per
      some ((r0.frame + k.toNat) % 2 ^ 32, weight (s0 + k * per) (s0 + (k + 1) * per))
    else if s0 ≤ t then some (r0.frame, 0)
    else
      let pairs := (r0 :: r1 :: rest).zip (r1 :: rest)
      match pairs.find? (fun q => decide (rel q.2 ≤ t)) with
      | some (later, f) => some (f.frame, weight (rel f) (rel later))
      | none =>
        let oldest := (r1 :: rest).getLast?.getD r1
        match pairs.getLast? with
        | some (later, f) => some (f.frame, weight (rel f) (rel later))
        | none => some (oldest.frame, 0)

/-- A re-timing record is written (R491). -/
def State.writeRetime (s : State) (p n seq f weight : Nat) (rep : Bool) : State :=
  let x := s.pipe p
  s.bankWriteFor 1024 x.house (x.recordBank * 2 ^ 18 + 256 + 32 * (n % 8))
    (leBytes 4 n ++ leBytes 4 seq ++ leBytes 4 f ++ leBytes 2 weight ++ leBytes 1 rep.toNat ++ leBytes 17 0)

/-- The record of output frame N is formed. -/
def State.retime (s : State) (p n : Nat) : State :=
  let x := s.pipe p
  match x.repeats with
  | some (f, seq) => s.writeRetime p n seq f 0 true
  | none =>
    match s.retimePick p n with
    | some (f, w) => s.writeRetime p n x.seq f w false
    | none => s

/-- The record of frame N as it stands in its bank: SEQ, F, WEIGHT, REPEAT. -/
def State.retimeRec (s : State) (p n : Nat) : Nat × Nat × Nat × Bool :=
  let b := memReadN s.lib ((s.pipe p).recordBank * 2 ^ 18 + 256 + 32 * (n % 8)) 16
  (num b 4 4, num b 8 4, num b 12 2, decide (num b 14 1 % 2 = 1))

/-- A slip hold: the pipelines of its raster show the last frame once more, in the frame that follows (R39). -/
def State.slipRepeat (s : State) (r : Nat) : State :=
  let n := (s.raster r).frame.toNat
  (s.rasterPipes r).foldl (fun s p =>
    let (seq, f, _, _) := s.retimeRec p n
    s.writeRetime p (n + 1) seq f 0 true) s

/-! ### Capture (R357 to R361) -/

/-- A stream or ring format: SUB 0 4:4:4, 1 4:2:2, 2 4:2:0; 10 bits; YCbCr; full range. -/
structure PixFmt where
  sub : Nat
  d10 : Bool
  ycc : Bool
  full : Bool := false
  deriving DecidableEq, Repr

/-- A pipeline's ring format (Table 14.6). -/
def Pipe.fmt (x : Pipe) : PixFmt := ⟨x.ringFmt % 4, decide (x.ringFmt / 4 % 2 = 1), decide (x.ringFmt / 8 % 2 = 1), false⟩

/-- A sink's stream format from VIN_Ss_FMT. -/
def State.sinkFmt (s : State) (k : Nat) : PixFmt :=
  let w := s.rd (Reg.VIN_Ss_FMT k)
  ⟨fld w 5 4, decide (fld w 3 2 = 1), bit w 6, decide (2 ≤ fld w 1 0)⟩

/-- A sample in the ring's depth (R359). -/
def depthConv (from10 to10 : Bool) (x : Nat) : Nat :=
  if from10 == to10 then x else if from10 then min ((x + 2) / 4) 255 else widen10 x

/-- Black in a ring's depth, by plane (R359). -/
def blackSample (f : PixFmt) (rangeFull : Bool) (plane : Nat) : Nat :=
  let v := if !f.ycc || rangeFull then 0 else if plane = 0 then 64 else 512
  if f.d10 then v else v / 4

/-- Pairs averaged along a line. -/
def halve : List Nat → List Nat
  | a :: b :: xs => (a + b + 1) / 2 :: halve xs
  | [a] => [a]
  | [] => []

/-- Each sample twice. -/
def twice (xs : List Nat) : List Nat := xs.flatMap (fun x => [x, x])

/-- Chroma of a line in the ring's horizontal resolution. -/
def hConv (stream ring : PixFmt) (xs : List Nat) : List Nat :=
  if stream.sub = 0 ∧ ring.sub ≠ 0 then halve xs else if stream.sub ≠ 0 ∧ ring.sub = 0 then twice xs else xs

/-- The bytes of a ring line. -/
def lineBytes (d10 : Bool) (xs : List Nat) : List Byte := xs.flatMap (leBytes (if d10 then 2 else 1))

/-- The ring's Library address of plane c, line l (R240, R357): a 4:2:0 chroma plane has one line for two. -/
def Pipe.ringAddr (x : Pipe) (p c l : Nat) : Nat :=
  let (lp, pp) := Config.ringPitch p
  let i := l % max 1 x.ringLines
  x.ringBank * 2 ^ 18 + c * pp + (if c ≠ 0 ∧ x.fmt.sub = 2 then i / 2 else i) * lp

/-- Samples of a ring line written. -/
def State.ringWrite (s : State) (p c l : Nat) (xs : List Nat) : State :=
  let x := s.pipe p
  s.bankWriteFor 1024 x.house (x.ringAddr p c l) (lineBytes x.fmt.d10 xs)

/-- One sample read from a ring. -/
def State.ringRead (s : State) (p c l i : Nat) : Nat :=
  let x := s.pipe p
  let e := if x.fmt.d10 then 2 else 1
  memLe s.lib (x.ringAddr p c l + i * e) e

/-- Input line j, of `height` lines, goes to one pipeline's ring. `planes` are the luma samples and the chroma samples that arrive with
the line (none: they arrive with the next); `prev` the chroma of the line before; `black` writes black. -/
def State.captureFor (s : State) (p j height : Nat) (f : PixFmt) (planes prev : List (List Nat)) (black : Bool) : State :=
  let g := (s.pipe p).fmt
  let black := black || (f.ycc != g.ycc)
  let conv : Nat → List Nat → List Nat := fun c xs =>
    if black then xs.map (fun _ => blackSample g f.full c) else xs.map (depthConv f.d10 g.d10)
  let s := s.ringWrite p 0 j (conv 0 (planes.getD 0 []))
  [1, 2].foldl (fun s c =>
    let here := hConv f g (planes.getD c [])
    let before := hConv f g (prev.getD c [])
    if here.isEmpty then s
    else if f.sub = 2 ∧ g.sub ≠ 2 then (s.ringWrite p c (j - j % 2) (conv c here)).ringWrite p c j (conv c here)
    else if f.sub ≠ 2 ∧ g.sub = 2 then
      if j % 2 = 1 then s.ringWrite p c j (conv c ((before.zip here).map (fun q => (q.1 + q.2 + 1) / 2)))
      else if j + 1 = height then s.ringWrite p c j (conv c here)
      else s
    else s.ringWrite p c j (conv c here)) s

/-- An input line arrives in full: it goes to every ring of the source and is counted once its chroma is there (R358). -/
def State.captureLine (s : State) (t height : Nat) (f : PixFmt) (planes : List (List Nat)) : State :=
  let x := s.tracker t
  let j := x.lines
  let ps := s.sourcePipes t
  if !x.open_ || decide (height ≤ j) then s
  else
    let black := x.black || decide (0 < x.dscBad)
    let s := ps.foldl (fun s p => s.captureFor p j height f planes x.lastC black) s
    let s := s.setTracker t { x with lines := j + 1, lastC := planes, dscBad := x.dscBad - 1 }
    let pairs := decide (f.sub = 2) || ps.any (fun p => decide ((s.pipe p).fmt.sub = 2))
    let count := if pairs && decide (j % 2 = 0) && decide (j + 1 < height) then j else j + 1
    let s := if count = height then s.endFrame t else s
    s.wr (Reg.RAS_INs_LINE t) (BitVec.ofNat 32 count)

/-- A frame of a sink begins (R34, R361): `frac` is the fraction of the raster's line, `enc` 0 in the clear, 1 Type 0, 2 Type 1. -/
def State.sinkFrame (s : State) (k frac enc : Nat) : State :=
  if !s.sinkOn k || !bit (s.rd (Reg.VIN_Ss_STATUS k)) 1 || !(s.tracker k).ok then s
  else
    let s := s.beginFrame k (s.rts (s.mapOf k) + frac)
    let s := s.wrF (Reg.VIN_Ss_STATUS k) 4 4 (if enc = 0 then 0 else 1)
    let bad := decide (enc ≠ 0) && !bit (s.rd (Reg.VIN_Ss_STATUS k)) 3
    let s := if bad then s.countErr (Reg.VIN_Ss_HDCPERR k) else s
    let f := s.sinkFmt k
    let s := if (s.sourcePipes k).any (fun p => (s.pipe p).fmt.ycc != f.ycc) then
        (if s.rdF (Reg.VIN_Ss_ERR k) 15 8 = 0xFF then s.wrF (Reg.VIN_Ss_ERR k) 16 16 1 else s.countFld (Reg.VIN_Ss_ERR k) 15 8)
      else s
    s.setTracker k { s.tracker k with prot := decide (enc ≠ 0), type1 := decide (enc = 2), black := bad }

/-- What a stream's MSA and SDPs announce: active and total size, VIN_Ss_FMT, active pixel rate in kpixel/s, DSC, encryption. -/
structure StreamAttr where
  hactive : Nat
  htotal : Nat
  vactive : Nat
  vtotal : Nat
  fmt : Nat
  kpix : Nat
  dsc : Bool
  enc : Bool
  deriving DecidableEq, Repr

/-- A sink takes a stream's attributes and accepts it, or refuses it as oversize (R355). -/
def State.streamFormat (s : State) (k : Nat) (a : StreamAttr) : State :=
  if !s.sinkOn k || !bit (s.rd (Reg.VIN_Ss_STATUS k)) 1 then s
  else
    let big := decide (7680 < a.hactive) || decide (4320 < a.vactive) || decide (3981312 < a.kpix)
    let s := s.wr (Reg.VIN_Ss_HTIM k) (BitVec.ofNat 32 (a.htotal * 65536 + a.hactive))
    let s := s.wr (Reg.VIN_Ss_VTIM k) (BitVec.ofNat 32 (a.vtotal * 65536 + a.vactive))
    let s := s.wr (Reg.VIN_Ss_FMT k) (BitVec.ofNat 32 (a.fmt % 1024))
    let s := (s.wrF (Reg.VIN_Ss_STATUS k) 5 5 a.dsc.toNat).wrF (Reg.VIN_Ss_STATUS k) 4 4 a.enc.toNat
    let s := s.setTracker k { s.tracker k with ok := !big }
    if big then
      let s := s.wrF (Reg.VIN_Ss_STATUS k) 7 7 1
      let s := s.wrF (Reg.RAS_INs_STATUS k) 0 0 0
      s.postAll (0 :: (s.inputHouse k).toList) 0x17 0 none
        [k, (s.rd (Reg.VIN_Ss_STATUS k)).toNat, (s.rd (Reg.VIN_Ss_HTIM k)).toNat, (s.rd (Reg.VIN_Ss_VTIM k)).toNat]
    else s

/-- The MSA changes (R36, R360): another active size or total is a discontinuity; another format alone is not (R359). -/
def State.msaChange (s : State) (k : Nat) (a : StreamAttr) : State :=
  if !s.sinkOn k || !bit (s.rd (Reg.VIN_Ss_STATUS k)) 1 then s
  else
    let same := decide (s.rd (Reg.VIN_Ss_HTIM k) = BitVec.ofNat 32 (a.htotal * 65536 + a.hactive)) &&
      decide (s.rd (Reg.VIN_Ss_VTIM k) = BitVec.ofNat 32 (a.vtotal * 65536 + a.vactive))
    let s := s.streamFormat k a
    if same then s
    else
      let s := s.setTracker k { s.tracker k with open_ := false }
      s.declareDisc k 1

/-- A sink stops capture for good until its next frame (R360). -/
def State.sinkLost (s : State) (k : Nat) : State :=
  if !bit (s.rd (Reg.VIN_Ss_STATUS k)) 1 then s
  else
    let s := s.wrF (Reg.VIN_Ss_STATUS k) 1 1 0
    let s := (s.wrF (Reg.VIN_Ss_STATUS k) 3 3 0).wrF (Reg.RAS_INs_STATUS k) 0 0 0
    let s := s.setTracker k { s.tracker k with open_ := false }
    if (s.tracker k).have_ && (s.tracker k).due.isNone then s.declareDisc k 2 else s

/-- No frame starts within two expected periods (R36). -/
def State.sourceTimeout (s : State) (k : Nat) : State :=
  if (s.tracker k).have_ && (s.tracker k).due.isNone then (s.wrF (Reg.RAS_INs_STATUS k) 0 0 0).declareDisc k 2 else s

/-- A link retrains (R360): the frame in capture is cut short. -/
def State.sinkRetrain (s : State) (k : Nat) : State :=
  if !s.sinkOn k then s
  else
    let s := (s.countErr (Reg.VIN_Ss_RETRAIN k)).wrF (Reg.VIN_Ss_STATUS k) 1 1 0
    let s := s.setTracker k { s.tracker k with open_ := false }
    s.declareDisc k 3

/-- The source has trained the link (R356). -/
def State.sinkTrained (s : State) (k rate lanes : Nat) : State :=
  if s.sinkOn k then ((s.wrF (Reg.VIN_Ss_STATUS k) 1 1 1).wrF (Reg.VIN_Ss_STATUS k) 11 8 lanes).wrF (Reg.VIN_Ss_STATUS k) 15 12 rate else s

/-- A DSC slice fails to decode: its lines, from the next one, are written black (R360). -/
def State.dscError (s : State) (k lines : Nat) : State :=
  if (s.tracker k).open_ then (s.countErr (Reg.VIN_Ss_DSCERR k)).setTracker k { s.tracker k with dscBad := lines } else s

/-- An encrypted stream is not authenticated, or a link integrity check fails (R361). -/
def State.sinkHdcpFail (s : State) (k : Nat) : State :=
  let s := s.wrF (Reg.VIN_Ss_STATUS k) 3 3 0
  let x := s.tracker k
  if x.open_ && bit (s.rd (Reg.VIN_Ss_STATUS k)) 4 && !x.black then
    (s.countErr (Reg.VIN_Ss_HDCPERR k)).setTracker k { x with black := true }
  else s

/-- A sink's HDCP session is authenticated: lines are decrypted from now on (R361). -/
def State.sinkHdcpOk (s : State) (k : Nat) : State :=
  if bit (s.rd (Reg.VIN_Ss_STATUS k)) 1 && s.hdcpUsable then
    (s.wrF (Reg.VIN_Ss_STATUS k) 3 3 1).setTracker k { s.tracker k with black := false }
  else s

end Sys2Proof.Machine
end

