-- ==== Sys2Proof/Machine/HwMath.lean ====
section
/-! DEFINITION. The arithmetic of homework: quantisation (R152, R153), reciprocal (R306), the optimiser step (R307), and the layout of its
areas (R295 to R297, Table 11.1). -/
namespace Sys2Proof.Machine

/-! ### Quantisation (R152, R153) -/

/-- The target formats of R152 that homework uses. -/
inductive QFmt where
  | e4m3
  | e5m2
  | int8
  deriving DecidableEq, Repr

/-- The exponent k of a group's scale, from FP32 encodings. -/
def groupExp (q : QFmt) (xs : List Nat) : Int :=
  let amax := ((xs.map (· % 2 ^ 31)).filter (fun a => decide (a < 0x7F800000))).foldl max 0
  if amax = 0 then 0
  else
    let e : Int := match f32 amax with
      | .fin _ m e => msbExp m e
      | _ => 0
    let up : Int := if 0x600000 < amax % 2 ^ 23 then 1 else 0
    clampI (-133) 127 (match q with
      | .e4m3 => e - 8 + up
      | .e5m2 => e - 15 + up
      | .int8 => e - 6)

/-- The scale 2^k as BF16. -/
def scaleBits (k : Int) : Nat := (fRound fBF16 (.fin false 1 k)).1

/-- A value times 2^j. -/
def fvShift (v : FV) (j : Int) : FV :=
  match v with
  | .fin s m e => .fin s m (e + j)
  | v => v

/-- An element stored in the target format, as a byte. -/
def quantise (q : QFmt) (k : Int) (x : Nat) : Nat :=
  let v := fvShift (f32 x) (-k)
  match q with
  | .e4m3 => (fRound fE4M3 v).1
  | .e5m2 => (fRound fE5M2 v).1
  | .int8 => ((fvToInt (-128) 127 v).1 % 256).toNat

/-- A stored byte under a BF16 scale, as FP32: exact. -/
def dequantise (q : QFmt) (scale x : Nat) : Nat :=
  let v := match q with
    | .e4m3 => fDecode fE4M3 x
    | .e5m2 => fDecode fE5M2 x
    | .int8 => fvOfInt (sgn 8 x)
  toF32 (fvMul v (fDecode fBF16 scale)).1

/-- Groups of 32 parameters (R295). -/
def groupsOf {α : Type} (xs : List α) : List (List α) := (List.range (xs.length / 32)).map (fun j => slice (32 * j) 32 xs)

/-- FP32 elements stored group by group: the bytes of the values and those of the BF16 scales. -/
def storeGroups (q : QFmt) (xs : List Nat) : List Byte × List Byte :=
  let gs := (groupsOf xs).map (fun g => let k := groupExp q g; (g.map (quantise q k), scaleBits k))
  (gs.flatMap (fun g => g.1.map (BitVec.ofNat 8)), gs.flatMap (fun g => leBytes 2 g.2))

/-- Elements read back from values and scales. -/
def loadGroups (q : QFmt) (vals scales : List Byte) : List Nat :=
  (List.range vals.length).map (fun i => dequantise q (num scales (2 * (i / 32)) 2) (num vals i 1))

/-! ### The optimiser (R306, R307) -/

/-- recip (R306): each operation rounds once to FP32. -/
def recip32 (x : Nat) : Nat :=
  (List.range 3).foldl (fun r _ => f32Mul r (f32Fma (x ^^^ 2 ^ 31) r 0x40000000)) ((0x7EF311C3 + 2 ^ 32 - x) % 2 ^ 32)

/-- The greater of two FP32 values that are not NaN. -/
def f32Max (a b : Nat) : Nat := if fvLt (f32 a) (f32 b) then b else a

/-- A finite FP32 encoding. -/
def f32Finite (x : Nat) : Bool := decide (x / 2 ^ 23 % 256 ≠ 255)

/-- A BF16 encoding widened to FP32. -/
def widenBf (x : Nat) : Nat := x * 2 ^ 16

/-- A little-endian field of a policy block (Table 11.5). -/
def pol (p : List Byte) (o n : Nat) : Nat := num p o n

/-- One parameter: m, u and w (BF16) after a gradient g. -/
def stepParam (p : List Byte) (g m u w : Nat) : Nat × Nat × Nat :=
  let w32 := widenBf w
  let m := f32Fma (widenBf (pol p 20 2)) m (f32Mul (widenBf (pol p 22 2)) g)
  let u := f32Max (f32Mul (pol p 24 4) u) (g % 2 ^ 31)
  let d := f32Fma m (recip32 (f32Add u (pol p 28 4))) (f32Mul (pol p 32 4) w32)
  (m, u, (fRound fBF16 (f32 (f32Fma (pol p 16 4 ^^^ 2 ^ 31) d w32))).1)

/-- FP32 sum in order, from +0. -/
def f32Sum (xs : List Nat) : Nat := xs.foldl f32Add 0

/-! ### Areas (Table 11.1, R295) -/

/-- Rank, K and N of a layer. -/
def planLayer (p : Config.HwPlan) (l : Nat) : Nat × Nat × Nat := p.layers.getD l (0, 0, 0)
/-- Parameters of a layer, without padding. -/
def planReal (p : Config.HwPlan) (l : Nat) : Nat := let (r, k, n) := planLayer p l; r * (k + n)
/-- Parameters of a layer, padding included. -/
def planSize (p : Config.HwPlan) (l : Nat) : Nat := ceilDiv (planReal p l) 32 * 32
/-- Parameters of the layers before one. -/
def planOfs (p : Config.HwPlan) (l : Nat) : Nat := ((List.range l).map (planSize p)).sum
/-- Parameters of all layers. -/
def planTotal (p : Config.HwPlan) : Nat := planOfs p p.layers.length
/-- Bytes of a layer in deployed form: values, then scales (R311). -/
def deployedSize (n : Nat) : Nat := n + n / 16
/-- Address of a deployed copy: 0 X, 1 Y. -/
def copyBase (p : Config.HwPlan) (c : Nat) : Nat := if c = 0 then p.copyX else p.copyY
/-- Pitch of the gradient slots: the 68 KiB of the largest layer (Table 11.1; log 64). -/
def gradPitch : Nat := 69632

/-- BF16 masters as FP32. -/
def mastersOf (bs : List Byte) : List Nat := (List.range (bs.length / 2)).map (fun i => widenBf (num bs (2 * i) 2))

/-- The deployed form of a layer from its masters (R297). -/
def deployForm (masters : List Byte) : List Byte :=
  let (v, sc) := storeGroups .int8 (mastersOf masters)
  v ++ sc

/-- Masters that equal a deployed layer of n parameters (R309, R314): exact in BF16. -/
def mastersFrom (n : Nat) (dep : List Byte) : List Byte :=
  (loadGroups .int8 (dep.take n) (dep.drop n)).flatMap (fun x => leBytes 2 (x / 2 ^ 16))

/-- A layer after an UPDATE: masters, m, u, scales of m, scales of u; none where a gradient is not finite (R307). Padding stays 0. -/
def updateLayer (p : List Byte) (real : Nat) (gs : List (List Nat)) (masters mv uv ms us : List Byte) : Option (List Byte) :=
  let n := masters.length / 2
  let g := (List.range n).map (fun i => f32Sum (gs.map (fun x => x.getD i 0)))
  if (g.take real).any (fun x => !f32Finite x) then none
  else
    let m := loadGroups .e4m3 mv ms
    let u := loadGroups .e4m3 uv us
    let out := (List.range n).map (fun i =>
      if i < real then stepParam p (g.getD i 0) (m.getD i 0) (u.getD i 0) (num masters (2 * i) 2) else (0, 0, 0))
    let (mv, ms) := storeGroups .e4m3 (out.map (·.1))
    let (uv, us) := storeGroups .e4m3 (out.map (·.2.1))
    some (out.flatMap (fun x => leBytes 2 x.2.2) ++ mv ++ uv ++ ms ++ us)

end Sys2Proof.Machine
end

