-- ==== Sys2Proof/Machine/Homework.lean ====
section
/-! DEFINITION. Homework (chapter "In-service adaptation"): samples (R304), dealing (R301, R303, R307, R308), the units, acceptance and
reset (R298, R309), checkpoints (R311 to R315). -/
namespace Sys2Proof.Machine

/-- The homework of a model, by handle. -/
def State.hwOf (s : State) (m : Nat) : Hw := mapGet (fun _ => {}) s.hw m
/-- The homework of a model replaced. -/
def State.setHw (s : State) (m : Nat) (x : Hw) : State := { s with hw := mapSet (fun _ => {}) s.hw m x }

/-- A model and its homework areas, by handle. -/
def State.hwPlan? (s : State) (m : Nat) : Option (Model × Config.HwPlan) :=
  match s.models.find? (fun x => decide (x.handle = m)) with
  | some x => x.hw.map (fun p => (x, p))
  | none => none

/-! ### Memory of the areas -/

/-- Bytes of a House's space as its cores see them: through the shelf. -/
def State.hwRead (s : State) (h a n : Nat) : List Byte := (List.range n).flatMap (fun i => s.lineRead h (a + i) 1)

/-- Bytes that a core writes through the shelf, line by line. -/
def State.hwWrite (s : State) (c h a : Nat) (bs : List Byte) : State :=
  (linesOf a (max 1 bs.length)).foldl (fun s x =>
    let lo := max a x
    let part := slice (lo - a) (x + 64 - lo) bs
    if part.isEmpty then s else s.coreWrite c true h lo part) s

/-- Bytes written in reserved banks of a House, in transactions of one line. -/
def State.hwBank (s : State) (req h a : Nat) (bs : List Byte) : State :=
  (linesOf a (max 1 bs.length)).foldl (fun s x =>
    let lo := max a x
    let part := slice (lo - a) (x + 64 - lo) bs
    if part.isEmpty then s else s.bankWriteFor req h lo part) s

/-- The masters of a layer. -/
def State.hwMasters (s : State) (p : Config.HwPlan) (l : Nat) : List Byte := s.load .lib (p.masters + 2 * planOfs p l) (2 * planSize p l)

/-- A layer of a deployed copy. -/
def State.hwDeployed (s : State) (h : Nat) (p : Config.HwPlan) (c l : Nat) : List Byte :=
  s.hwRead h (copyBase p c + deployedSize (planOfs p l)) (deployedSize (planSize p l))

/-- A copy as a whole. -/
def State.hwCopy (s : State) (h : Nat) (p : Config.HwPlan) (c : Nat) : List Byte := s.hwRead h (copyBase p c) (deployedSize (planTotal p))

/-- The deployed form of the current masters, as the forward pass uses it (R307). -/
def State.hwCandidate (s : State) (p : Config.HwPlan) : List Byte :=
  (List.range p.layers.length).flatMap (fun l => deployForm (s.hwMasters p l))

/-! ### Counters (R318) -/

/-- A 16-bit counter of Table 11.6: it sticks and sets its bit of OVF. -/
def hwStick (x : Hw) (i v : Nat) (set : Nat → Hw) : Hw :=
  if v = 0xFFFF then { x with ovf := putBit x.ovf i true } else set (v + 1)

/-- SKIPS. -/
def Hw.skip (x : Hw) : Hw := hwStick x 0 x.skips (fun v => { x with skips := v })
/-- DISCARDS. -/
def Hw.discard (x : Hw) : Hw := hwStick x 1 x.discards (fun v => { x with discards := v })
/-- PREEMPTS. -/
def Hw.preempt (x : Hw) : Hw := hwStick x 2 x.preempts (fun v => { x with preempts := v })

/-- A 48-bit counter of a House's homework wraps: PERF_WRAP; no register stands behind it, so W5 is a free value (log 65). -/
def State.hwWrap (s : State) (h v : Nat) : State :=
  if v < 2 ^ 48 then s
  else
    let (w, s) := s.free
    s.postAll [0, h] 0x16 0 none [w.toNat]

/-! ### Rounds -/

/-- A round begins: a policy that waits takes effect (R310). -/
def Hw.newRound (x : Hw) : Hw :=
  let x := if x.next.isEmpty then x else { x with policy := x.next, next := [], rng := BitVec.ofNat 32 (pol x.next 60 4) }
  { x with step := 0, grads := [], updated := false, deployed := false, evals := [], frozen := false, state := 2 }

/-- Bytes of a record in the ring: header and payload, from one 256-byte boundary to the next. -/
def recordSize (payload : Nat) : Nat := ceilDiv (64 + payload) 256 * 256

/-- The LAYER record of a layer. -/
def layerRecord (p : Config.HwPlan) (l : Nat) : Nat := recordSize (2 * planSize p l)

/-- Step 4 of R312: the layer is pending already, or its record still fits in the next period. -/
def Hw.fits (x : Hw) (p : Config.HwPlan) (l : Nat) : Bool :=
  decide (pol x.policy 52 2 = 0) || x.pendLayers.contains l ||
  decide ((x.pendLayers.map (layerRecord p)).sum + layerRecord p l + (if x.epochDue then 256 else 0) + 256 ≤ pol x.policy 56 4)

/-- The layer of the next step: the first from the one whose turn it is that fits. -/
def Hw.nextLayer (x : Hw) (p : Config.HwPlan) : Option Nat :=
  let n := p.layers.length
  ((List.range n).map (fun i => (x.layer + i) % n)).find? (x.fits p)

/-- Samples that the training pool holds. -/
def Hw.trainCount (x : Hw) : Nat := min x.train (pol x.policy 12 2)
/-- Samples that the validation pool holds. -/
def Hw.valCount (x : Hw) : Nat := min x.val (pol x.policy 14 2)

/-- The copy out of service is inactive (R298): every band of a target frame before T has had its record closed. -/
def State.copyFree (s : State) (h : Nat) (x : Hw) : Bool :=
  match x.swapAt with
  | none => true
  | some (r, t) => decide (t ≤ (s.raster r).frame.toNat) &&
    !(List.range 32).any (fun f =>
      let p := s.rdF (Reg.RC_BAND f) 17 16
      (s.form f).open_ && decide ((s.pipe p).house = h) && decide ((s.pipe p).raster = r) &&
      decide (nearFrame (s.raster r).frame.toNat (s.rd (Reg.RC_TFRAME f)).toNat < t))

/-- A unit of a kind is in a form's hands. -/
def Hw.has (x : Hw) (kind arg sample : Nat) : Bool :=
  x.units.any (fun u => decide (u.kind = kind) && decide (u.arg = arg) && decide (u.sample = sample))

/-- The unit that the round needs next: kind, layer, pool index, argument (R307, R308). -/
def State.nextUnit (s : State) (h : Nat) (x : Hw) : Option (Nat × Nat × Nat × Nat) :=
  if x.state = 2 then
    let b := pol x.policy 5 1
    let n := max 1 x.trainCount
    match (List.range b).find? (fun i => !x.grads.contains i && !(x.units.any (fun u => decide (u.kind = 1) && decide (u.arg = i)))) with
    | some i => some (1, x.layer, (x.stepNo * b + i) % n, i)
    | none =>
      if x.grads.length < b ∨ !x.units.isEmpty then none
      else if x.updated then some (3, x.layer, 0, 0) else some (2, x.layer, 0, 0)
  else if x.state = 3 then
    if !x.deployed then (if x.units.isEmpty && s.copyFree h x then some (5, 0, 0, 1 - x.copy) else none)
    else ((List.range (2 * x.valCount)).find? (fun j => (mapGet (fun _ => none) x.evals j).isNone && !x.has 4 (j % 2) (j / 2))).map
      (fun j => (4, 0, j / 2, j % 2))
  else none

/-- Training begins when the pool holds a sample; a step takes its layer before its first unit (R312). -/
def Hw.settle (x : Hw) (p : Config.HwPlan) : Hw :=
  let x := if x.state = 1 ∧ 0 < x.trainCount then { x with state := 2 } else x
  if x.state = 2 ∧ x.grads.isEmpty ∧ x.units.isEmpty then
    match x.nextLayer p with
    | some l => { x with layer := l }
    | none => { x with state := 4 }
  else x

/-! ### Dealing (R300, R301, R303) -/

/-- A control block with a unit: SEQ is written last. -/
def State.writeUnit (s : State) (h a hp : Nat) (u : HwUnit) (cycles : Nat) (lanes : Nat) : State :=
  let s := s.bankWriteFor 1024 h (a + 4) (leBytes 1 u.kind ++ leBytes 1 u.layer ++ leBytes 2 u.sample ++ leBytes 4 u.step ++ leBytes 4 u.arg ++
    leBytes 4 cycles)
  let s := s.bankWriteFor 1024 h (a + 32) (leBytes 4 lanes ++ leBytes 2 hp ++ leBytes 26 0)
  s.bankWriteFor 1024 h a (leBytes 4 u.seq)

/-- R303: the form's heat part and late part and the chip floor are 0. -/
def State.hwIdleForm (s : State) (f : Nat) : Bool :=
  decide ((s.formTier f).heat = 0) && decide ((s.formTier f).late = 0) && decide (s.rdF Reg.DLN_CHIP 1 0 = 0)

/-- The House's homework runs: enabled, and its model's images run. -/
def State.hwRuns (s : State) (m : Model) (x : Hw) : Bool := x.enable && decide (mapGet (fun _ => none) s.runs m.house = some m.handle)

/-- HOMEWORK_DEAL: the next unit of a model goes to a form; one that a PROG_START or hand-off has ended is dealt again, its hall pass set to 0
first. -/
def State.hwDeal (s : State) (m f : Nat) : State :=
  match s.hwPlan? m with
  | none => s
  | some (md, p) =>
    match p.ctrl.find? (fun c => decide (c.1 = f)) with
    | none => s
    | some (_, a, hp) =>
      let x := (s.hwOf m).settle p
      if !s.hwRuns md x || !s.hwIdleForm f || x.units.any (fun u => decide (u.form = f) && !u.ended) || decide (s.liveLanes f = 0) then s
      else
        let seq := (x.unitSeq + 1) % 2 ^ 32
        let give : State → Hw → HwUnit → State := fun s x u =>
          let cyc := (Config.unitCycles md.modelId u.kind u.layer).toNat
          if pol x.policy 48 4 < cyc then s
          else
            let s := s.writeUnit md.house a hp u cyc (s.liveLanes f)
            s.setHw m { x with units := x.units ++ [u], unitSeq := seq, frozen := x.frozen || decide (u.kind = 4) }
        match x.units.find? (·.ended) with
        | some u =>
          let old := ((p.ctrl.find? (fun c => decide (c.1 = u.form))).map (·.2.2)).getD hp
          let s := s.wr (Reg.HPS_p_VALUE old) 0
          give s ({ x with units := x.units.filter (fun v => decide (v ≠ u)) }.preempt) { u with form := f, seq := seq, ended := false }
        | none =>
          match s.nextUnit md.house x with
          | some (k, l, smp, arg) => give s x { form := f, seq := seq, kind := k, layer := l, sample := smp, step := x.stepNo % 2 ^ 32, arg := arg }
          | none => s.setHw m x

/-! ### Units on a form (R299, R301, R305, R307) -/

/-- The lead lane of a mask. -/
def leadLane (lanes : Nat) : Nat := ((List.range 32).find? (fun l => Nat.testBit lanes l)).getD 0

/-- A unit of a kind on a form ends: the lanes that share it are in service in the House's slice, STOP is 0, and DONE_SEQ differs from SEQ;
its effect, its RESULT, the signals and the wait of its hall pass, and DONE_SEQ. `run` answers the state, the homework and RESULT. -/
def State.hwUnit (s : State) (m f kind : Nat) (run : State → Model → Config.HwPlan → Hw → HwUnit → Nat → State × Hw × Option Nat) : State :=
  match s.hwPlan? m with
  | none => s
  | some (md, p) =>
    let x := s.hwOf m
    match x.units.find? (fun u => decide (u.form = f) && decide (u.kind = kind) && !u.ended), p.ctrl.find? (fun c => decide (c.1 = f)) with
    | some u, some (_, a, hp) =>
      let w : Nat → Nat := fun o => memLe s.lib (a + o) 4
      let lanes := w 32
      let lead := 32 * f + leadLane lanes
      let here := (List.range 32).all (fun l => !Nat.testBit lanes l || (s.coreLive (32 * f + l) && decide ((s.core (32 * f + l)).house = md.house)))
      if w 0 = w 20 ∨ w 0 ≠ u.seq ∨ w 28 ≠ 0 ∨ lanes = 0 ∨ !here then s
      else
        let (s, x, res) := run s md p x u lead
        let s := s.setHw m { x with units := x.units.filter (fun v => decide (v ≠ u)) }
        let s := match res with
          | some r => s.bankWriteFor lead md.house (a + 24) (leBytes 4 r)
          | none => s
        let n := ((List.range 32).filter (fun l => Nat.testBit lanes l)).length
        let s := (s.signal hp n lead).1
        let s := s.join hp n (.core lead)
        s.bankWriteFor lead md.house (a + 20) (leBytes 4 u.seq)
    | _, _ => s

/-- The bytes of a sample (R304): both frames' patches and the motion patch; planes at the ring's resolution. -/
def sampleSize (s : Nat) (f : PixFmt) : Nat :=
  let c := (if f.sub = 0 then s else s / 2) * (if f.sub = 2 then s / 2 else s)
  2 * (2 * (s * s + 2 * c)) + 4 * s * s

/-- S of R304. -/
def Hw.patch (x : Hw) (p : Config.HwPlan) : Nat := pol x.policy 11 1 + 2 * p.halo

/-- A sample of a pool. -/
def State.hwSample (s : State) (h : Nat) (p : Config.HwPlan) (x : Hw) (val : Bool) (i : Nat) : List Byte :=
  let n := sampleSize (x.patch p) (s.pipe p.pipe).fmt
  s.hwRead h ((if val then p.valPool else p.trainPool) + n * i) n

/-- GRAD: the gradient of one sample, quantised per group, in its slot. -/
def State.hwGrad (s : State) (m f : Nat) : State :=
  s.hwUnit m f 1 (fun s md p x u lead =>
    let g := (Config.gradient md.modelId u.layer x.policy (s.hwSample md.house p x false u.sample) (s.hwCandidate p)).map BitVec.toNat
    let n := planSize p u.layer
    let real := planReal p u.layer
    let (v, sc) := storeGroups .e5m2 ((List.range n).map (fun i => if i < real then g.getD i 0 else 0))
    let s := s.hwWrite lead md.house (p.grads + gradPitch * u.arg) (v ++ sc)
    (s, { x with grads := x.grads ++ [u.arg] }, none))

/-- A step ends: the next one, or the evaluation of the round; it waits while the newest generation is not sealed (R307 to R309). -/
def Hw.endStep (x : Hw) (p : Config.HwPlan) : Hw :=
  let x := { x with grads := [], updated := false, layer := (x.layer + 1) % max 1 p.layers.length, step := x.step + 1, stepNo := x.stepNo + 1 }
  if x.step < pol x.policy 6 2 then x else { x with state := if x.sealedGen = x.gen then 3 else 4 }

/-- UPDATE: the sum of the slots and the optimiser, into staging; or the step is skipped. -/
def State.hwUpdate (s : State) (m f : Nat) : State :=
  s.hwUnit m f 2 (fun s md p x u lead =>
    let n := planSize p u.layer
    let o := planOfs p u.layer
    let gs := (List.range (pol x.policy 5 1)).map (fun i =>
      let b := s.hwRead md.house (p.grads + gradPitch * i) (deployedSize n)
      loadGroups .e5m2 (b.take n) (b.drop n))
    let sc := s.hwRead md.house (p.scales + o / 8) (n / 8)
    match updateLayer x.policy (planReal p u.layer) gs (s.hwMasters p u.layer) (s.load .lib (p.m + o) n) (s.load .lib (p.u + o) n)
        (sc.take (n / 16)) (sc.drop (n / 16)) with
    | some bs => (s.hwWrite lead md.house p.staging bs, { x with updated := true }, some 0)
    | none => (s, x.skip.endStep p, some 1))

/-- COPY: staging into the masters, the moments and the scales. -/
def State.hwCopyUnit (s : State) (m f : Nat) : State :=
  s.hwUnit m f 3 (fun s md p x u lead =>
    let n := planSize p u.layer
    let o := planOfs p u.layer
    let b := s.hwRead md.house p.staging (4 * n + n / 8)
    let s := ((s.hwBank lead md.house (p.masters + 2 * o) (b.take (2 * n))).hwBank lead md.house (p.m + o) (slice (2 * n) n b)).hwBank lead md.house
      (p.u + o) (slice (3 * n) n b)
    let s := s.hwWrite lead md.house (p.scales + o / 8) (b.drop (4 * n))
    let v := x.steps + 1
    let x := { x with steps := v % 2 ^ 48, pendLayers := if x.pendLayers.contains u.layer then x.pendLayers else x.pendLayers ++ [u.layer] }
    (s.hwWrap md.house v, x.endStep p, none))

/-- EVAL: the loss of one validation sample on one copy. -/
def State.hwEval (s : State) (m f : Nat) : State :=
  s.hwUnit m f 4 (fun s md p x u _ =>
    let c := if u.arg = 0 then 1 - x.copy else x.copy
    let l := Config.loss md.modelId x.policy (s.hwSample md.house p x true u.sample) (s.hwCopy md.house p c)
    (s, { x with evals := mapSet (fun _ => none) x.evals (2 * u.sample + u.arg) (some l) }, some l.toNat))

/-- DEPLOY: the candidate's deployed form into the inactive copy. -/
def State.hwDeploy (s : State) (m f : Nat) : State :=
  s.hwUnit m f 5 (fun s md p x u lead => (s.hwWrite lead md.house (copyBase p u.arg) (s.hwCandidate p), { x with deployed := true }, none))

/-! ### Samples (R304) -/

/-- The generator of R304. -/
def hwRandom (x : Word) : Word :=
  let x := x ^^^ (x <<< 13)
  let x := x ^^^ (x >>> 17)
  x ^^^ (x <<< 5)

/-- A position: below IN − S + 1, with bit 0 cleared. -/
def hwPosition (x : Word) (size s : Nat) : Nat := x.toNat % (size - s + 1) / 2 * 2

/-- The lines of a plane that a patch takes for line k of it: UINT16 samples of the ring. -/
def State.patchLine (s : State) (p : Nat) (q : HwSample) (size k : Nat) : List Byte :=
  let f := (s.pipe p).fmt
  let row : Nat → Nat → Nat → List Byte := fun c x0 n => (List.range n).flatMap (fun i => leBytes 2 (s.ringRead p c (q.y + k) (x0 + i)))
  let half := decide (f.sub ≠ 0)
  let chroma := decide (f.sub ≠ 2) || decide (k % 2 = 0)
  let cs := fun c => if chroma then row c (if half then q.x / 2 else q.x) (if half then size / 2 else size) else []
  row 0 q.x size ++ cs 1 ++ cs 2

/-- HOMEWORK_SAMPLE: the chains of a sample copy the lines that stand in the ring; a sample that is complete enters its pool, where its input
records are COMPLETE and of one sequence, and the pool is not frozen. `motion` is the motion-field patch. -/
def State.hwSampleRun (s : State) (m : Nat) (motion : List Byte) : State :=
  match s.hwPlan? m with
  | none => s
  | some (md, p) =>
    let x := s.hwOf m
    let y := s.pipe p.pipe
    let size := x.patch p
    let t := y.source
    let now := s.inFrame t
    let every := max 1 (pol x.policy 8 2)
    if !s.hwRuns md x ∨ x.state = 0 ∨ y.inW < size ∨ y.inH < size then s
    else
      let x := match x.sample with
        | some _ => x
        | none =>
          if now % every = 0 then
            let a := hwRandom x.rng
            let b := hwRandom a
            { x with rng := b, sample := some { frame := now, x := hwPosition a y.inW size, y := hwPosition b y.inH size, lines := 0, bytes := [] } }
          else x
      match x.sample with
      | none => s
      | some q =>
        let there := fun k => s.gateOpen t ((q.frame + k / size) % 2 ^ 32) (q.y + k % size)
        let upto := ((List.range (2 * size)).find? (fun k => decide (q.lines ≤ k) && !there k)).getD (2 * size)
        let bytes := q.bytes ++ (List.range (upto - q.lines)).flatMap (fun i => s.patchLine p.pipe q size ((q.lines + i) % size))
        if upto < 2 * size then s.setHw m { x with sample := some { q with lines := upto, bytes := bytes } }
        else
          let rec_ : Nat → Option InRec := fun f => y.recs.find? (fun r => decide (r.frame = f) && r.complete)
          let good := match rec_ q.frame, rec_ ((q.frame + 1) % 2 ^ 32) with
            | some a, some b => decide (a.seq = b.seq)
            | _, _ => false
          let val := decide (q.frame / every % max 1 (pol x.policy 10 1) = 0)
          let x := { x with sample := none }
          if !good || (val && x.frozen) then s.setHw m x.discard
          else
            let n := sampleSize size y.fmt
            let i := if val then x.val % max 1 (pol x.policy 14 2) else x.train % max 1 (pol x.policy 12 2)
            let a := (if val then p.valPool else p.trainPool) + n * i
            let s := (s.flushRange md.house a n true).dramWrite md.house a ((bytes ++ motion ++ List.replicate n 0).take n)
            s.setHw m (if val then { x with val := x.val + 1 } else { x with train := x.train + 1 })

/-! ### Acceptance, rejection, reset (R298, R308, R309) -/

/-- The handle entries that name the adapter, with their BASE moved between the copies. -/
def moveHandles (p : Config.HwPlan) (old new : Nat) (im : Image) : Image :=
  { im with handles := im.handles.map (fun x => (x.1, (List.range x.2.length).map (fun i =>
      let v : Nat → Nat := fun j => (x.2.getD j 0).toNat
      let a := v (i / 4 * 4) + 2 ^ 32 * (v (i / 4 * 4 + 1) % 2 ^ 16)
      let b := a - copyBase p old + copyBase p new
      if p.handles.contains (64 * x.1 + i / 4) then
        if i % 4 = 0 then BitVec.ofNat 32 b
        else if i % 4 = 1 then BitVec.ofNat 32 (b / 2 ^ 32 % 2 ^ 16 + v i / 2 ^ 16 * 2 ^ 16) else x.2.getD i 0
      else x.2.getD i 0))) }

/-- The candidate enters service: Dvorzar commits the images that run with the adapter's handles on the other copy. -/
def State.hwAccept (s : State) (md : Model) (p : Config.HwPlan) (x : Hw) : State :=
  let new := 1 - x.copy
  let m' := { md with images := md.images.map (moveHandles p x.copy new) }
  let s := { s with models := s.models.map (fun (y : Model) => if y.handle = md.handle then m' else y) }
  let r := s.swapRaster md.house m'
  let t := s.swapFrame r m'
  let keep := s.loaded
  let s := s.accept md.house 256 {} 0 { rasters := [r], swap := some (m', r, t) }
  let v := x.accepts + 1
  let gen := x.gen + 1
  let s := State.setHw { s with loaded := keep } md.handle (Hw.newRound
    { x with copy := new, swapAt := some (r, t), gen := gen, served := 0, rejects := 0, accepts := v % 2 ^ 48,
             sealedGen := if pol x.policy 52 2 = 0 then gen else x.sealedGen })
  s.hwWrap md.house v

/-- A candidate reset (R309): masters from the copy in service, moments and scales 0, a new epoch. -/
def State.hwReset (s : State) (md : Model) (p : Config.HwPlan) (x : Hw) : State :=
  let s := (List.range p.layers.length).foldl (fun s l =>
    s.hwBank 1024 md.house (p.masters + 2 * planOfs p l) (mastersFrom (planSize p l) (s.hwDeployed md.house p x.copy l))) s
  let n := planTotal p
  let s := (s.hwBank 1024 md.house p.m (List.replicate n 0)).hwBank 1024 md.house p.u (List.replicate n 0)
  let s := (s.flushRange md.house p.scales (n / 8) true).dramWrite md.house p.scales (List.replicate (n / 8) 0)
  s.setHw md.handle { x with epoch := x.epoch + 1, epochDue := true, pendLayers := [], rejects := 0 }

/-- Losses of a copy in ascending order of samples, summed from +0 (R308). -/
def Hw.lossSum (x : Hw) (k : Nat) : Nat :=
  f32Sum ((List.range x.valCount).map (fun v => ((mapGet (fun _ => none) x.evals (2 * v + k)).getD 0).toNat))

/-- ROUND_EVALUATE: the sums are formed and the candidate is accepted, rejected or reset. A swap that is still pending makes it wait. -/
def State.hwRound (s : State) (m : Nat) : State :=
  match s.hwPlan? m with
  | none => s
  | some (md, p) =>
    let x := s.hwOf m
    let all := (List.range (2 * x.valCount)).all (fun j => (mapGet (fun _ => none) x.evals j).isSome)
    if !s.hwRuns md x ∨ x.state ≠ 3 ∨ !x.deployed ∨ !all then s
    else
      let lc := x.lossSum 0
      let ls := x.lossSum 1
      let good := decide (x.valCount = pol x.policy 14 2) && !(f32 lc).isNan && !(f32 ls).isNan &&
        fvLt (f32 lc) (f32 (f32Mul ls (pol x.policy 44 4)))
      let x := { x with lc := BitVec.ofNat 32 lc, ls := BitVec.ofNat 32 ls }
      if good then (if bit (s.rd Reg.RAS_BELLSTAT) 2 then s else s.hwAccept md p x)
      else
        let v := x.rejectsAll + 1
        let s := s.hwWrap md.house v
        let x := { x with rejectsAll := v % 2 ^ 48, rejects := x.rejects + 1 }
        let limit := pol x.policy 54 1
        let x := x.newRound
        if limit ≤ x.rejects then s.hwReset md p x else s.setHw m x

/-! ### Checkpoints (R311 to R315) -/

/-- The records of a House's ring, oldest first. -/
def State.houseCkpts (s : State) (h : Nat) : List CkptRec := s.ckpts.filter (fun r => decide (r.house = h))

/-- The records up to the newest SEAL. -/
def sealedRecs (rs : List CkptRec) : List CkptRec := (rs.reverse.dropWhile (fun r => decide (r.kind ≠ 3))).reverse

/-- The newest record of a kind and layer that passes a test. -/
def newestRec (rs : List CkptRec) (kind layer : Nat) (ok : CkptRec → Bool) : Option CkptRec :=
  rs.reverse.find? (fun r => decide (r.kind = kind) && decide (r.layer = layer) && ok r)

/-- EPOCH of the newest RESET record, else 0. -/
def epochOf (rs : List CkptRec) : Nat := ((rs.reverse.find? (fun r => decide (r.kind = 4))).map (·.epoch)).getD 0

/-- The newest generation of which every layer has a SERVICE record. -/
def fullGen (rs : List CkptRec) (layers : Nat) : Option Nat :=
  (((rs.filter (fun r => decide (r.kind = 2))).map (·.gen)).eraseDups.filter (fun g =>
    (List.range layers).all (fun l => (newestRec rs 2 l (fun r => decide (r.gen = g))).isSome))).max?

/-- The records of a model that a restore uses (R314), of the sealed ones. -/
def usedRecs (all : List CkptRec) (modelId layers : Nat) : List CkptRec :=
  let rs := (sealedRecs all).filter (fun r => decide (r.modelId = modelId))
  let e := epochOf rs
  let gen := fullGen rs layers
  (List.range layers).flatMap (fun l =>
    (newestRec rs 1 l (fun r => decide (r.epoch = e))).toList ++
    (match gen with | some g => (newestRec rs 2 l (fun r => decide (r.gen = g))).toList | none => [])) ++
  (rs.reverse.find? (fun r => decide (r.kind = 4))).toList

/-- The records that some loaded model of a House uses. -/
def State.ckptUsed (s : State) (h : Nat) : List CkptRec :=
  let all := s.houseCkpts h
  (s.models.filter (fun m => decide (m.house = h))).flatMap (fun m => match m.hw with
    | some p => usedRecs all m.modelId p.layers.length
    | none => [])

/-- Room made for `need` bytes in a ring of `size` bytes (R315): the oldest records go; one that is still in use is written again with a new
SEQ, within the budget of the period. None: the ring cannot be reclaimed in time. -/
def reclaim (used : List CkptRec) (size need : Nat) : Nat → Nat → List CkptRec → Option (List CkptRec)
  | 0, _, _ => none
  | fuel + 1, budget, rs =>
    if (rs.map (fun r => recordSize r.payload.length)).sum + need ≤ size then some rs
    else
      match rs with
      | [] => none
      | r :: rest =>
        if used.contains r then
          let b := recordSize r.payload.length
          if b ≤ budget then
            let seq := ((rest.getLast?.map (·.seq)).getD r.seq + 1) % 2 ^ 32
            reclaim used size need fuel (budget - b) (rest ++ [{ r with seq := seq }])
          else none
        else reclaim used size need fuel budget rest

/-- CHECKPOINT_PERIOD: the records of a period are programmed and sealed (R312). A House without a ring, or a ring that cannot be reclaimed,
writes none. -/
def State.ckptPeriod (s : State) (m : Nat) : State :=
  match s.hwPlan? m with
  | none => s
  | some (md, p) =>
    let x := s.hwOf m
    let h := md.house
    let size := 4096 * (s.grant h).flashSize
    let cap := pol x.policy 56 4
    if !x.enable ∨ pol x.policy 52 2 = 0 ∨ size = 0 then s
    else
      let mk : Nat → Nat → Nat → List Byte → CkptRec := fun kind layer gen pay =>
        { house := h, seq := 0, kind := kind, layer := layer, modelId := md.modelId, epoch := x.epoch, gen := gen, payload := pay }
      let layers := x.pendLayers.map (fun l => mk 1 l 0 (s.hwMasters p l))
      let reset := if x.epochDue then [mk 4 0 0 []] else []
      let sum : List CkptRec → Nat := fun rs => (rs.map (fun r => recordSize r.payload.length)).sum
      let n := p.layers.length
      let due := if x.sealedGen = x.gen then [] else (List.range (n - x.served)).map (fun i => mk 2 (x.served + i) x.gen (s.hwDeployed h p x.copy (x.served + i)))
      let first := layers ++ reset
      let served := due.take (((List.range (due.length + 1)).filter (fun k => decide (sum first + sum (due.take k) + 256 ≤ cap))).max?.getD 0)
      let recs := first ++ served ++ [mk 3 0 0 []]
      let mine := s.houseCkpts h
      match reclaim (s.ckptUsed h) size (sum recs) (2 * mine.length + 1) (cap - sum recs) mine with
      | none => s
      | some kept =>
        let seq0 := (kept.getLast?.map (fun r => r.seq + 1)).getD 0
        let new := (recs.zip (List.range recs.length)).map (fun y => { y.1 with seq := (seq0 + y.2) % 2 ^ 32 })
        let others := s.ckpts.filter (fun r => decide (r.house ≠ h))
        let sv := x.served + served.length
        let full := decide (sv = n) && decide (x.sealedGen ≠ x.gen)
        let x := { x with pendLayers := [], epochDue := false, served := if full then 0 else sv, sealedGen := if full then x.gen else x.sealedGen
                          ckptSeq := (seq0 + recs.length - 1) % 2 ^ 32 }
        let x := if x.state = 4 then (if x.step < pol x.policy 6 2 then { x with state := 2 } else if x.sealedGen = x.gen then { x with state := 3 } else x) else x
        State.setHw { s with ckpts := others ++ kept ++ new } m x

/-! ### Restore, stop, failed banks (R288, R310, R314) -/

/-- MODEL_LOAD restores the adapter of a model from its House's ring (R314): masters, copy X, moments 0. The step at which a round resumes is a
free value where the ring holds sealed records (log 66). -/
def State.hwRestore (s : State) (md : Model) (p : Config.HwPlan) : State :=
  let n := p.layers.length
  let rs := (sealedRecs (s.houseCkpts md.house)).filter (fun r => decide (r.modelId = md.modelId))
  let gen := fullGen rs n
  let e := epochOf rs
  let service : Nat → List Byte := fun l =>
    match gen with
    | some g => ((newestRec rs 2 l (fun r => decide (r.gen = g))).map (·.payload)).getD []
    | none => slice (deployedSize (planOfs p l)) (deployedSize (planSize p l)) p.initial
  let master : Nat → List Byte := fun l =>
    match newestRec rs 1 l (fun r => decide (r.epoch = e)) with
    | some r => r.payload
    | none => mastersFrom (planSize p l) (service l)
  let s := (List.range n).foldl (fun s l => s.hwBank 1024 md.house (p.masters + 2 * planOfs p l) (master l)) s
  let t := planTotal p
  let s := (s.hwBank 1024 md.house p.m (List.replicate t 0)).hwBank 1024 md.house p.u (List.replicate t 0)
  let s := (s.flushRange md.house p.scales (t / 8) true).dramWrite md.house p.scales (List.replicate (t / 8) 0)
  let s := (s.flushRange md.house p.copyX (deployedSize t) true).dramWrite md.house p.copyX ((List.range n).flatMap service)
  let (step, s) := if rs.isEmpty then ((0 : Word), s) else s.free
  let last := ((sealedRecs (s.houseCkpts md.house)).getLast?.map (·.seq)).getD 0
  s.setHw md.handle { step := step.toNat, gen := gen.getD 0, sealedGen := gen.getD 0, epoch := e, ckptSeq := last }

/-- The areas of a homework moved from a failed bank to a spare. -/
def movePlan (b spare : Nat) (p : Config.HwPlan) : Config.HwPlan :=
  let mv : Nat → Nat := fun a => if bankOf a = b then a - b * 2 ^ 18 + spare * 2 ^ 18 else a
  { p with masters := mv p.masters, m := mv p.m, u := mv p.u, ctrl := p.ctrl.map (fun c => (c.1, mv c.2.1, c.2.2)) }

/-- A bank of a homework area has failed (R310): the candidate is reset, into the spare bank. -/
def State.hwBankLost (s : State) (b spare h : Nat) : State :=
  s.models.foldl (fun s (md : Model) =>
    match md.hw with
    | none => s
    | some p =>
      let q := movePlan b spare p
      let n := planTotal p
      if md.house ≠ h ∨ !(banksOf p.masters (2 * n) ++ banksOf p.m n ++ banksOf p.u n ++ p.ctrl.map (fun c => bankOf c.2.1)).contains b then s
      else
        let md' := { md with hw := some q }
        State.hwReset { s with models := s.models.map (fun (y : Model) => if y.handle = md.handle then md' else y) } md' q (s.hwOf md.handle)) s

end Sys2Proof.Machine
end

