-- ==== Sys2Proof/Machine/Failures.lean ====
section
/-! DEFINITION. Failed units: tile faults and the Dean's response (R94, R286), run-time shapes (R233), march runs (R182 to R184),
uncorrectable Library errors (R288), the scrubber (R174). -/
namespace Sys2Proof.Machine

/-! ### March runs -/

/-- A run is queued (R184): a bank is handed to the march-test engine, UNIT 0b011, without zeroing. -/
def State.startMarch (s : State) (m : March) : State :=
  let s := if m.core then s else s.bankSet m.unit 9 3 false false
  let s := s.wrF Reg.LIB_MARCH 1 0 1
  { s with service := { s.service with marches := s.service.marches ++ [m] } }

/-- The Locker and Desks of a core hold 0x00 with valid check bits (R182). -/
def State.zeroCore (s : State) (c : Nat) : State :=
  { s with locker := s.locker.filter (fun x => decide (x.1 / 2 ^ 16 ≠ c))
           desk := s.desk.filter (fun x => decide (x.1 / 2 ^ 15 ≠ c))
           ecc := s.ecc.filter (fun x => !(decide (x.1 / 2 ^ 40 = Space.locker.num) && decide (x.1 % 2 ^ 40 * 8 / 2 ^ 16 = c)) &&
             !(decide (x.1 / 2 ^ 40 = Space.desk.num) && decide (x.1 % 2 ^ 40 * 8 / 2 ^ 15 = c))) }

/-- A bank under test goes back to the Dean (R184). -/
def State.marchBack (s : State) (b : Nat) : State := s.wr (Reg.LIB_BANKb b) 8

/-- A bank of words with a stored error (R162). -/
def State.bankHasError (s : State) (b : Nat) : Bool :=
  s.ecc.any (fun x => decide (x.1 / 2 ^ 40 = Space.lib.num) && decide (x.1 % 2 ^ 40 * 8 / 2 ^ 18 = b))

/-- Cycles of a run (Table 6.10). -/
def March.cycles (m : March) : Nat := if m.core then 10240 else if m.preserving then 40960 else 163840

/-- LIB_MARCH after a run. -/
def State.marchReport (s : State) (m : March) (fail : Bool) (more : Bool) : State :=
  let s := s.wr Reg.LIB_MARCH (BitVec.ofNat 32 (fail.toNat * 2 ^ 16 + m.preserving.toNat * 8 + (if more then 1 else if fail then 3 else 2)))
  s.wr Reg.LIB_MARCH_TIME (BitVec.ofNat 32 m.cycles)

/-- MARCH_COMPLETE: the run of the engine ends (R184, R288). `fail`: the cells have failed; a stored error fails a preserving run. The Bool of
the answer is false when the target has failed; a run of R288 that fails the preserving algorithm is followed by the destructive one. -/
def State.marchDone (s : State) (fail : Bool) : Option (March × Bool) × State :=
  match s.service.marches with
  | [] => (none, s)
  | m :: ms =>
    let bad := fail || (m.preserving && !m.core && s.bankHasError m.unit)
    let s := { s with service := { s.service with marches := ms } }
    let s := s.marchReport m bad (!ms.isEmpty)
    if m.core then
      let s := s.zeroCore m.unit
      (some (m, bad), if bad then s else s.onCore m.unit (fun k => { k with marched := true }))
    else
      let was := s.service.retiredBanks.contains m.unit
      let s := if m.preserving then s else s.zeroBank m.unit
      if !bad then
        let s := { s with service := { s.service with retiredBanks := s.service.retiredBanks.filter (· ≠ m.unit) } }
        (some (m, false), (if was then (s.marchBack m.unit).unitChange 8 m.unit else s.marchBack m.unit))
      else if m.preserving && m.waiter.isNone then
        (none, ({ s with service := { s.service with marches := { m with preserving := false } :: ms } } : State).wrF Reg.LIB_MARCH 1 0 1)
      else
        let s := (s.zeroBank m.unit).wr (Reg.LIB_BANKb m.unit) 0x8000000F
        (some (m, true),
          if was then s
          else ({ s with service := { s.service with retiredBanks := s.service.retiredBanks ++ [m.unit] } } : State).unitChange 8 m.unit)

/-! ### Tile faults (R94, R286, R281) -/

/-- DEAN_FAULT_NOTICE: the record is read and posted to the House of the core's slice; VALID and MULTI clear. -/
def State.faultNotice (s : State) (c : Nat) : State :=
  let k := s.core c
  let w := k.C 0x10
  if bit w 31 then
    let band := k.C 3
    let p := fld band 17 16
    let own := if (s.pipe p).valid then some (s.pipe p).raster else none
    let s := s.post k.house 0x13 0 own [c, w.toNat, (k.C 0x11).toNat, (k.C 0x12).toNat, (k.C 0x13).toNat, band.toNat]
    s.onCore c (fun k => k.setC 0x10 (setFld (k.C 0x10) 31 30 0))
  else s

/-- The on-call call of a tile fault (R281): the band armed on the core's form, incomplete and not yet selected. -/
def State.faultCall (s : State) (f : Nat) : State :=
  let p := s.rdF (Reg.RC_BAND f) 17 16
  let b := s.rdF (Reg.RC_BAND f) 15 0
  let t := s.rd (Reg.RC_TFRAME f)
  let r := s.bandRec p b
  if bit (s.rd (Reg.RC_CTRL f)) 0 && decide (r.tframe = t) && decide (r.nstate = .armed) && decide (r.sel = .none) then s.callJob p b t else s

/-- The bundle at an address of a form as a loaded image holds it. -/
def State.imageBundle (s : State) (h f pc : Nat) : Option (List Byte) :=
  (s.models.filter (fun m => decide (m.house = h))).findSome? (fun m => m.images.findSome? (fun im =>
    im.istore.findSome? (fun x =>
      if x.1 = f ∧ x.2.1 ≤ pc ∧ 64 * (pc - x.2.1) + 64 ≤ x.2.2.length then some ((x.2.2.drop (64 * (pc - x.2.1))).take 64) else none)))

/-- An error in the instruction store (Table 10.5): the bundle is rewritten from the loaded image; a second error in it retires the form. -/
def State.bundleError (s : State) (c pc : Nat) : State :=
  let f := c / 32
  let x := s.formTier f
  if x.badBundles.contains pc then s.retireForm f
  else
    let s := { s with formTiers := mapSet (fun _ => {}) s.formTiers f { x with badBundles := x.badBundles ++ [pc] } }
    match s.imageBundle (s.core c).house f pc with
    | some bs => s.store .istore (istoreKey f (64 * pc)) bs
    | none => s

/-- TILE_FAULT_RESPONSE: the Dean acts on the cause (Table 10.5) and makes the on-call call (R281). -/
def State.faultResponse (s : State) (c : Nat) : State :=
  let k := s.core c
  if !k.respond then s
  else
    let s := s.onCore c (fun k => { k with respond := false })
    let cause := fld (k.C 0x10) 7 0
    let info := k.C 0x12
    let s :=
      if cause = 0x0B then (if s.fold c then s.retireCore c else s.loseArray c (fld info 0 0))
      else if cause = 0x0A ∧ !bit info 2 then
        match fld info 1 0 with
        | 0 => (s.retireCore c).startMarch { core := true, unit := c, preserving := false, waiter := none }
        | 3 => s.bundleError c (k.C 0x13).toNat
        | _ => s.retireCore c
      else s
    s.faultCall (c / 32)

/-- BREAKPOINT: a core that stands at its breakpoint address halts before it issues the bundle (R442, R444). -/
def State.breakHalt (s : State) (c : Nat) : State :=
  let s := s.progress c
  let k := s.core c
  if s.canIssue c && k.atBreak then s.setCore c { k with halted := true } else s

/-! ### Run-time shapes (R233) -/

/-- An arm whose shape cannot be taken; an on-call pipeline calls (R281). -/
def State.shapeBad (s : State) (f : Nat) : State :=
  let s := s.shapeFail f
  s.callJob (s.rdF (Reg.RC_BAND f) 17 16) (s.rdF (Reg.RC_BAND f) 15 0) (s.rd (Reg.RC_TFRAME f))

/-- SHAPE_WORD_READ: the arm of a form takes NT from its shape word, or fails. A read of a busy bank waits. -/
def State.shapeRead (s : State) (f : Nat) : State :=
  match (s.form f).shape with
  | none => s
  | some (a, h) =>
    if s.bankBusy (bankOf a) && s.banksOk h a 4 then s
    else
      let s := s.setForm f { s.form f with shape := none }
      if !s.banksOk h a 4 then s.shapeBad f
      else match s.firstBad .lib a 4 with
        | some b => (s.libError true b).shapeBad f
        | none =>
          let w := leNat (s.load .lib a 4)
          let s := s.libCorrected a 4
          if w / 2 ^ 13 = 0 ∧ w ≤ 4096 then s.armTiles f w else s.shapeBad f

/-! ### The Library (R174, R288) -/

/-- LIBRARY_SCRUB: the next row of a bank is read; corrected errors are counted and rewritten, a row with an uncorrectable one is reported. -/
def State.scrub (s : State) (b : Nat) : State :=
  if !bit (s.rd Reg.LIB_SCRUB) 0 || s.bankBusy b || decide (s.bankUnit b = 3) then s
  else
    let r := mapGet (fun _ => 0) s.service.scrubRows b
    let a := b * 2 ^ 18 + 64 * r
    let s := { s with service := { s.service with scrubRows := mapSet (fun _ => 0) s.service.scrubRows b ((r + 1) % 4096) } }
    let s := s.libCorrected a 64
    let s := ((wordsTouched a 64).filter (fun k => decide (s.eccOf .lib k = 1))).foldl (fun s k => s.setEcc .lib k 0) s
    match s.firstBad .lib a 64 with
    | some x => s.libError true x
    | none => s

/-- The address that takes the place of one in the failed bank. -/
def moved (b spare a : Nat) : Nat := a - b * 2 ^ 18 + spare * 2 ^ 18

/-- A handle table with the entries that lie in a bank of a House moved to the spare. -/
def remapTable (b spare : Nat) (t : Map Word) : Map Word :=
  (List.range 64).foldl (fun t e =>
    let w : Nat → Word := fun i => mapGet (fun _ => 0) t (4 * e + i)
    let h := handleOf (w 0) (w 1) (w 2) (w 3)
    if h.v && decide (h.kind = 1) && decide (banksOf h.base h.size = [b]) then
      let a := moved b spare h.base
      let t := mapSet (fun _ => (0 : Word)) t (4 * e) (BitVec.ofNat 32 a)
      mapSet (fun _ => (0 : Word)) t (4 * e + 1) (BitVec.ofNat 32 (a / 2 ^ 32))
    else t) t

/-- A loaded image with its LIBMAP, INIT and HANDLES entries moved. -/
def remapImage (b spare : Nat) (im : Image) : Image :=
  { im with
    libmap := im.libmap.map (fun x => if x.1 = b then (spare, x.2) else x)
    init := im.init.map (fun x => if banksOf x.1 x.2.length = [b] then (moved b spare x.1, x.2) else x)
    handles := im.handles.map (fun x =>
      let t := remapTable b spare ((x.2.zip (List.range x.2.length)).map (fun y => (y.2, y.1)))
      (x.1, (List.range x.2.length).map (mapGet (fun _ => (0 : Word)) t))) }

/-- A core's active and shadow tables moved. -/
def remapCore (b spare : Nat) (k : Core) : Core :=
  { k with handles := remapTable b spare k.handles, shadowHandles := remapTable b spare k.shadowHandles }

/-- Steps 1 and 2 of R288: the spare takes the place of the failed bank of its House. -/
def State.substituteBank (s : State) (b spare h : Nat) : State :=
  let shelf := s.bankShelf b
  let s := s.bankSet spare h 0 shelf true
  let inits := ((s.models.filter (fun m => decide (m.house = h))).flatMap (fun m => m.images.flatMap (·.init))).filter
    (fun x => decide (banksOf x.1 x.2.length = [b]))
  let ms := s.models.map (fun (m : Model) => if m.house = h then { m with images := m.images.map (remapImage b spare) } else m)
  let s := { s with models := ms }
  let s := s.cores.foldl (fun (s : State) x => s.onCore x.1 (remapCore b spare)) s
  (inits.foldl (fun s x => s.bankWriteFor 1092 h (moved b spare x.1) x.2) s).hwBankLost b spare h

/-- Three uncorrectable errors since RESET_N (R288). -/
def State.bankWorn (s : State) (b : Nat) : Bool := decide (3 ≤ mapGet (fun _ => 0) s.service.bankErrors b)

/-- The spare that Dvorzar takes: the lowest-numbered other than b. -/
def State.spareFor (s : State) (b : Nat) : Option Nat := (List.range 512).find? (fun x => decide (x ≠ b) && s.isSpare x)

/-- LIBRARY_UNC_RESPONSE: what Dvorzar does after an uncorrectable error in a bank outside a march (R288). -/
def State.uncResponse (s : State) (b : Nat) : State :=
  if !s.service.uncTold.contains b || s.bankRetired b || decide (s.bankUnit b = 3) || s.bankBusy b then s
  else
    let s := { s with service := { s.service with uncTold := s.service.uncTold.filter (· ≠ b) } }
    let h := s.bankOwner b
    let spare := s.spareFor b
    let s := match spare with
      | some x => if h < 8 then s.substituteBank b x h else s
      | none => s
    if s.bankWorn b || (decide (h < 8) && spare.isNone) then s.retireBank b
    else (if h = 8 then s else s.bankSet b 8 0 false false).startMarch { core := false, unit := b, preserving := true, waiter := none }

end Sys2Proof.Machine
end

