-- ==== Sys2Proof/Machine/Compose.lean ====
section
/-! DEFINITION. Composition (R319 to R334): the expander (R272), graphics fetch (R323 to R326), the canvas pixel (R331, R332), the flattening
cache (R333, R334), and what a port sends of a line (R344 to R350, R366, R368). -/
namespace Sys2Proof.Machine

/-! ### The expander (R272) -/

/-- Coefficient k of a phase. -/
def Pipe.coefAt (x : Pipe) (phase k : Nat) : Int := sgn 16 (num x.coef (2 * (8 * phase + k)) 2)

/-- The input position and phase of an output position along one axis. -/
def expandPos (inN outN x : Nat) : Int × Nat :=
  let step := inN * 65536 / outN
  let xs : Int := ((x * step + step / 2 : Nat) : Int) - 32768
  (xs / 65536, (xs / 1024 % 64).toNat)

/-- A position clamped to `n` positions from `lo` on. -/
def clampPos (lo n : Nat) (i : Int) : Nat := (clampI lo ((lo + n : Nat) - 1) i).toNat - lo

/-- The word of a prepared band at input position (i, j), clamped to its extent. -/
def Prepared.at_ (q : Prepared) (i j : Int) : Nat := (q.words.getD (clampPos q.row0 q.words.length j) []).getD (clampPos 0 q.inW i) 0

/-- A channel of a P30 word: 0, 1 or 2 from the bottom (R263). -/
def chan (w c : Nat) : Nat := w / 2 ^ (10 * c) % 1024

/-- The channels put together. -/
def p30Word (f : Nat → Nat) : Nat := f 0 + f 1 * 2 ^ 10 + f 2 * 2 ^ 20

/-- Eight taps weighted, rounded and clamped. -/
def taps (x : Pipe) (phase : Nat) (v : Nat → Nat) : Nat :=
  let sum := ((List.range 8).map (fun k => x.coefAt phase k * (v k : Int))).foldl (· + ·) 0
  (clampI 0 1023 ((sum + 8192) / 16384)).toNat

/-- One output pixel of a band selected SUB. -/
def expandPix (p : Pipe) (q : Prepared) (x y : Nat) : Nat :=
  let (i, px) := expandPos q.inW p.outW x
  let (j, py) := expandPos q.inH p.outH y
  let dir := q.at_ i j / 2 ^ 30
  let mean : Int → Int → Int → Int → Nat := fun a b c d =>
    p30Word (fun ch => (chan (q.at_ a b) ch + chan (q.at_ c d) ch + 1) / 2)
  if dir = 1 then mean (i - 1) (j + 1) (i + 1) (j - 1)
  else if dir = 2 then mean (i - 1) (j - 1) (i + 1) (j + 1)
  else p30Word (fun ch => taps p px (fun k => taps p py (fun m => chan (q.at_ (i - 3 + k) (j - 3 + m)) ch)))

/-! ### Video layers (R321) -/

/-- What a LATE check selected for a band of output frame n; none where none was made. -/
def State.shownSel (s : State) (p b n : Nat) : Sel :=
  let x := mapGet (fun _ => (0, Sel.none)) s.shown ((p * 2048 + b) * 4 + n % 4)
  if x.1 = n then x.2 else .none

/-- The P30 word that pipeline p has for a position of output frame n; none in rows of a band not selected NEURAL or SUB. -/
def State.videoWord (s : State) (p n x y : Nat) : Option Nat :=
  let q := s.pipe p
  let b := y / max 1 q.bandH
  match s.shownSel p b n with
  | .neural => some (Config.bandPixel p b (BitVec.ofNat 32 n) x y).toNat
  | .sub => some (expandPix q (mapGet (fun _ => {}) s.prepared ((p * 2048 + b) * 4 + n % 4)) x y)
  | _ => none

/-- The colour settings of a canvas: transfer, primaries, WHITE. -/
def State.canvasColour (s : State) (r : Nat) : Nat × Nat × Nat :=
  let w := s.rd (Reg.CMP_CVr_CTRL r)
  (fld w 5 4, fld w 3 3, fld w 25 16)

/-- A video layer's pixel on its canvas, ready for blending. -/
def State.videoPix (s : State) (r v n x y : Nat) : APix :=
  let c := s.rd (Reg.CMP_VLv_CTRL v)
  let w0 := s.rd (Reg.CMP_VLv_WIN0 v)
  let w1 := s.rd (Reg.CMP_VLv_WIN1 v)
  let inside : Bool := decide (fld w0 15 0 ≤ x) && decide (x < fld w0 15 0 + fld w1 15 0) && decide (fld w0 31 16 ≤ y) &&
    decide (y < fld w0 31 16 + fld w1 31 16)
  if !bit c 0 || !inside || !(s.pipe v).valid || decide ((s.pipe v).raster ≠ r) then {}
  else
    match s.videoWord v n x y with
    | none => {}
    | some w =>
      let (cx, cp, white) := s.canvasColour r
      let rgb := if bit c 9 then yccToRgb (fld c 8 7) (p30 w) else p30 w
      let pix := convertUnit (fld c 6 5) (fld c 4 4) cx cp white (rgb.map widen12)
      alphaed true (fld (s.rd (Reg.CMP_VLv_ALPHA v)) 10 0) { c := pix, a := 1024 }

/-! ### Graphics layers (R323 to R326) -/

/-- The source position that Table 7.5 places at a destination position, for C = c and H = h. -/
def unplace (rot : Nat) (mirror : Bool) (c h dx dy : Nat) : Nat × Nat :=
  match rot, mirror with
  | 0, false => (dx, dy)
  | 0, true => (c - 1 - dx, dy)
  | 1, false => (dy, h - 1 - dx)
  | 1, true => (c - 1 - dy, h - 1 - dx)
  | 2, false => (c - 1 - dx, h - 1 - dy)
  | 2, true => (dx, h - 1 - dy)
  | _, false => (c - 1 - dy, dx)
  | _, true => (dy, dx)

/-- The fetch registers of a graphics layer as they are active. -/
structure GlCfg where
  house : Nat
  premult : Bool
  yuv : Nat
  prim : Nat
  xfer : Nat
  host : Bool
  static : Bool
  mirror : Bool
  rot : Nat
  fmt : Nat
  addr : Nat → Nat
  p0 : Nat
  p12 : Nat
  x0 : Int
  y0 : Int
  sw : Nat
  sh : Nat
  g : Nat

/-- The active configuration of a layer. -/
def State.glCfg (s : State) (g : Nat) : GlCfg :=
  let c := s.glAct (Reg.CMP_GLg_CTRL g)
  let pos := s.glAct (Reg.CMP_GLg_POS g)
  let sz := s.glAct (Reg.CMP_GLg_SIZE g)
  let pi := s.glAct (Reg.CMP_GLg_PITCH g)
  { house := s.rdF (Reg.CMP_GLg_CTRL g) 31 29, premult := bit c 20, yuv := fld c 19 18, prim := fld c 17 17, xfer := fld c 16 15
    host := bit c 14, static := bit c 13, mirror := bit c 12, rot := fld c 11 10, fmt := fld c 9 6
    addr := fun k => (s.glAct (Reg.CMP_GLg_ADDR g (2 * k))).toNat + 2 ^ 32 * (s.glAct (Reg.CMP_GLg_ADDR g (2 * k + 1))).toNat
    p0 := 64 * fld pi 15 0, p12 := 64 * fld pi 31 16, x0 := sgn 16 (fld pos 15 0), y0 := sgn 16 (fld pos 31 16)
    sw := fld sz 15 0, sh := fld sz 31 16, g := fld (s.glAct (Reg.CMP_GLg_ALPHA g)) 10 0 }

/-- A layer is shown: enabled, valid (R326) and not hidden by a function-level reset. -/
def State.glShown (s : State) (g : Nat) : Bool :=
  bit (s.glAct (Reg.CMP_GLg_CTRL g)) 0 && !s.glBad g && !Nat.testBit s.glHidden g

/-- Width and height of a layer's destination. -/
def GlCfg.dest (x : GlCfg) : Nat × Nat := if x.rot % 2 = 0 then (x.sw, x.sh) else (x.sh, x.sw)

/-- The byte ranges that a source pixel is read from (Table 12.1, R324). -/
def GlCfg.ranges (x : GlCfg) (sx sy : Nat) : List (Nat × Nat) :=
  let e := if x.fmt = 5 ∨ x.fmt = 7 ∨ x.fmt = 9 then 2 else 1
  if x.fmt ≤ 2 then [(x.addr 0 + sy * x.p0 + 4 * sx, 4)]
  else if x.fmt = 3 then [(x.addr 0 + sy * x.p0 + 8 * sx, 8)]
  else if x.fmt ≤ 5 then [(x.addr 0 + sy * x.p0 + e * sx, e), (x.addr 1 + sy / 2 * x.p12 + 2 * e * (sx / 2), 2 * e)]
  else if x.fmt ≤ 7 then [(x.addr 0 + sy * x.p0 + e * sx, e), (x.addr 1 + sy * x.p12 + 2 * e * (sx / 2), 2 * e)]
  else [(x.addr 0 + sy * x.p0 + e * sx, e), (x.addr 1 + sy * x.p12 + e * sx, e), (x.addr 2 + sy * x.p12 + e * sx, e)]

/-- The bytes of a range in the layer's space. -/
def State.glBytes (s : State) (x : GlCfg) (r : Nat × Nat) : List Byte :=
  if x.host then s.hostRead x.house r.1 r.2 else s.dramRead x.house r.1 r.2

/-- An FP16 alpha (R331). -/
def fpAlpha (h : Nat) : Nat :=
  match fDecode fFP16 h with
  | .nan => 0
  | v => (fvToInt 0 1024 (fvMul v (fvOfInt 1024)).1).1.toNat

/-- A source pixel as fetched: its channels as 12-bit canvas codes, or FP32 values for a linear layer; and its alpha (R327, R331). -/
def State.glFetch (s : State) (x : GlCfg) (sx sy : Nat) : APix :=
  let bs := (x.ranges sx sy).map (s.glBytes x)
  let b : Nat → List Byte := fun k => bs.getD k []
  let a8 : Nat → Nat := fun a => (a * 1028 + 128) / 256
  let w8 : Nat → Nat := fun v => widen12 (widen10 v)
  if x.fmt = 0 then
    let w := leNat (b 0)
    ⟨⟨w8 (w / 2 ^ 16 % 256), w8 (w / 2 ^ 8 % 256), w8 (w % 256)⟩, a8 (w / 2 ^ 24)⟩
  else if x.fmt = 1 then
    let w := leNat (b 0)
    ⟨⟨w8 (w % 256), w8 (w / 2 ^ 8 % 256), w8 (w / 2 ^ 16 % 256)⟩, a8 (w / 2 ^ 24)⟩
  else if x.fmt = 2 then
    let w := leNat (b 0)
    ⟨(rgb30 w).map widen12, [0, 341, 683, 1024].getD (w / 2 ^ 30) 0⟩
  else if x.fmt = 3 then
    let h : Nat → Nat := fun k => num (b 0) (2 * k) 2
    let f : Nat → Nat := fun k => if x.xfer = 3 then toF32 (fDecode fFP16 (h k)) else Config.fpCode (h k) % 4096
    ⟨⟨f 0, f 1, f 2⟩, fpAlpha (h 3)⟩
  else
    let d10 : Bool := decide (x.fmt % 2 = 1)
    let e := if d10 then 2 else 1
    let v : Nat → Nat := fun n => if d10 then n % 1024 else widen10 n
    let y := v (leNat (b 0))
    let (cb, cr) := if x.fmt ≤ 7 then (v (num (b 1) 0 e), v (num (b 1) e e)) else (v (leNat (b 1)), v (leNat (b 2)))
    ⟨(yccToRgb x.yuv ⟨y, cb, cr⟩).map widen12, 1024⟩

/-- A layer's pixel at a destination position, ready for blending. -/
def State.glPix (s : State) (r : Nat) (x : GlCfg) (dx dy : Nat) : APix :=
  let (sx, sy) := unplace x.rot x.mirror x.sw x.sh dx dy
  let (cx, cp, white) := s.canvasColour r
  let q := s.glFetch x sx sy
  alphaed x.premult x.g { q with c := convertUnit x.xfer x.prim cx cp white q.c }

/-- The pages of host memory that the fetch of a destination line touches, once each. -/
def GlCfg.linePages (x : GlCfg) (dy : Nat) : List Nat :=
  ((List.range x.dest.1).flatMap (fun dx =>
    let (sx, sy) := unplace x.rot x.mirror x.sw x.sh dx dy
    (x.ranges sx sy).flatMap (fun q => [q.1 / 4096 * 4096, (q.1 + q.2 - 1) / 4096 * 4096]))).eraseDups

/-- A line's fetch fails in the House's space: an address does not translate. -/
def State.lineUnmapped (s : State) (x : GlCfg) (dy : Nat) : Bool :=
  (List.range x.dest.1).any (fun dx =>
    let (sx, sy) := unplace x.rot x.mirror x.sw x.sh dx dy
    (x.ranges sx sy).any (fun q => (s.firstUnmapped x.house q.1 q.2).isSome))

/-- A line's fetch from LPDDR5X meets a link error that cannot be corrected (R380). -/
def State.lineLinkBad (s : State) (x : GlCfg) (dy : Nat) : Bool :=
  (List.range x.dest.1).any (fun dx =>
    let (sx, sy) := unplace x.rot x.mirror x.sw x.sh dx dy
    (x.ranges sx sy).any (fun q => s.linkFails x.house q.1 q.2))

/-- The destination line of a layer on canvas row y. -/
def GlCfg.line? (x : GlCfg) (y : Nat) : Option Nat :=
  let dy : Int := (y : Int) - x.y0
  if 0 ≤ dy ∧ dy < x.dest.2 then some dy.toNat else none

/-- The fetch of a layer's line (R325, R380): page requests go out, a line that cannot be read counts; the Bool says that it can. -/
def State.glLine (s : State) (g : Nat) (x : GlCfg) (dy : Nat) : State × Bool :=
  if x.host then
    let bad := (x.linePages dy).filter (fun a => decide (s.page x.house a ≠ 0))
    let ask := bad.filter (fun a => decide (s.page x.house a = 1) && Nat.testBit s.priOn x.house && !s.asked.contains (hostKey x.house a))
    let s := ask.foldl (fun s a => { s.emit (.pageRequest x.house a) with asked := hostKey x.house a :: s.asked }) s
    if bad.isEmpty then (s, true) else (s.countFld (Reg.CMP_GLg_ERR g) 15 0, false)
  else if s.lineUnmapped x dy then (s.countFld (Reg.CMP_GLg_ERR g) 15 0, false)
  else if s.lineLinkBad x dy then ((s.countErr Reg.VIN_DRAM_ERR).countFld (Reg.CMP_GLg_ERR g) 15 0, false)
  else (s, true)

/-- A graphics layer's pixels on a canvas row of `w` pixels. -/
def State.glRow (s : State) (r g y w : Nat) : State × List APix :=
  let clear := List.replicate w ({} : APix)
  if !s.glShown g || decide (s.rdF (Reg.CMP_GLg_CTRL g) 5 3 ≠ r) then (s, clear)
  else
    let x := s.glCfg g
    match x.line? y with
    | none => (s, clear)
    | some dy =>
      let (s, ok) := s.glLine g x dy
      if ok then
        (s, (List.range w).map (fun (cx : Nat) =>
          let dx : Int := (cx : Int) - x.x0
          if 0 ≤ dx ∧ dx < x.dest.1 then s.glPix r x dx.toNat dy else {}))
      else (s, clear)

/-! ### The canvas (R332) -/

/-- Slot i of a canvas's ORDER. -/
def State.orderSlot (s : State) (r i : Nat) : Nat :=
  if i < 8 then s.rdF (Reg.CMP_CVr_ORDER_LO r) (4 * i + 3) (4 * i) else s.rdF (Reg.CMP_CVr_ORDER_HI r) (4 * (i - 8) + 3) (4 * (i - 8))

/-- A piece of the stack from bottom to top: a video layer, a graphics layer, or a static run as 16 × slot + layer. -/
inductive Piece where
  | video (v : Nat)
  | gl (g : Nat)
  | run (xs : List Nat)
  deriving DecidableEq, Repr

/-- The stack of a canvas from a list of its slots: consecutive slots with static layers form runs. -/
def State.stackFrom (s : State) (r : Nat) : List Nat → List Piece
  | [] => []
  | i :: is =>
    let rest := s.stackFrom r is
    let c := s.orderSlot r i
    if c < 4 then .video c :: rest
    else if c < 12 then
      (if bit (s.glAct (Reg.CMP_GLg_CTRL (c - 4))) 13 then
        (match rest with
         | .run xs :: more => if (xs.headD 0) / 16 = i + 1 then .run ((16 * i + (c - 4)) :: xs) :: more else .run [16 * i + (c - 4)] :: rest
         | _ => .run [16 * i + (c - 4)] :: rest)
      else .gl (c - 4) :: rest)
    else rest

/-- The whole stack of a canvas. -/
def State.stack (s : State) (r : Nat) : List Piece := s.stackFrom r (List.range 12)

/-- The static runs of a canvas. -/
def State.runsOf (s : State) (r : Nat) : List (List Nat) :=
  (s.stack r).filterMap (fun p => match p with | .run xs => some xs | _ => none)

/-- Rows of pixels placed one over the other. -/
def overRow (top bottom : List APix) : List APix := (top.zip bottom).map (fun q => overlay q.1 q.2)

/-- A pixel's record of the cache (R333). -/
def recOf (p : APix) : Nat := p.c.r + 2 ^ 12 * p.c.g + 2 ^ 24 * p.c.b + 2 ^ 36 * p.a
/-- The pixel of a record. -/
def ofRec (n : Nat) : APix := ⟨⟨n % 4096, n / 2 ^ 12 % 4096, n / 2 ^ 24 % 4096⟩, n / 2 ^ 36⟩

/-- The place of a run's line in the cache. -/
def cacheKey (r : Nat) (run : List Nat) (y : Nat) : Nat := (r * 16 + run.headD 0 / 16) * 2 ^ 16 + y

/-- A static run's group pixels on a row: read from the cache, or combined and written there (R332, R334). -/
def State.runRow (s : State) (r y w : Nat) (run : List Nat) : State × List APix :=
  if (mapGet (fun _ => []) s.flat r).contains run then
    (s, (mapGet (fun _ => []) s.flatLines (cacheKey r run y)).map ofRec)
  else
    let (s, group) := run.foldl (fun (x : State × List APix) c =>
      let (s, row) := x.1.glRow r (c % 16) y w
      (s, overRow row x.2)) (s, List.replicate w ({} : APix))
    ({ s with flatLines := mapSet (fun _ => []) s.flatLines (cacheKey r run y) (group.map recOf) }, group)

/-- The background colour of a canvas as a 12-bit pixel. -/
def State.background (s : State) (r : Nat) : Pix := (rgb30 (s.rd (Reg.CMP_CVr_BG r)).toNat).map widen12

/-- Canvas row y of output frame n. -/
def State.canvasRow (s : State) (r n y : Nat) : State × List APix :=
  let w := s.rdF (Reg.CMP_CVr_SIZE r) 15 0
  (s.stack r).foldl (fun (x : State × List APix) piece =>
    match piece with
    | .video v => (x.1, overRow ((List.range w).map (fun cx => x.1.videoPix r v n cx y)) x.2)
    | .gl g =>
      let (s, row) := x.1.glRow r g y w
      (s, overRow row x.2)
    | .run run =>
      let (s, row) := x.1.runRow r y w run
      (s, overRow row x.2)) (s, List.replicate w ({ c := s.background r, a := 1024 } : APix))

/-! ### Ports -/

/-- A pixel packed as the scan-out FIFO holds it. -/
def packPix (p : Pix) : Nat := p.r * 2 ^ 24 + p.g * 2 ^ 12 + p.b
/-- The pixel of a FIFO entry. -/
def unpackPix (n : Nat) : Pix := ⟨n / 2 ^ 24, n / 2 ^ 12 % 4096, n % 4096⟩

/-- The compositor fills the FIFOs of a raster's group for a line (R350). -/
def State.fillFifos (s : State) (r y : Nat) : State :=
  let n := (s.raster r).frame.toNat
  let (s, row) := if bit (s.rd (Reg.CMP_CVr_CTRL r)) 0 then s.canvasRow r n y
    else (s, List.replicate (s.rdF (Reg.CMP_CVr_SIZE r) 15 0) ({ c := s.background r } : APix))
  (s.groupPorts r).foldl (fun s p =>
    let st := s.rd (Reg.SCOn_STRIPE p)
    s.setPort p { s.port p with line := y, fifo := ((row.drop (fld st 31 16)).take (fld st 15 0)).map (fun q => packPix q.c) }) s

/-- The components that a port sends for the line in its FIFO: blocked content, the protected region, encoding (R344, R349, R366). -/
def State.portLine (s : State) (p : Nat) : List Nat :=
  let r := s.leader p
  let x := s.port p
  let c := s.rd (Reg.SCOn_CTRL p)
  let x0 := s.rdF (Reg.SCOn_STRIPE p) 31 16
  let q := s.protect r
  let bg := s.background r
  let pix : Nat × Nat → Pix := fun (i, v) =>
    match q.pix? (x0 + i) x.line with
    | some w => (p30 (if q.fill then ((q.tmpl.map (·.fill)).getD 0) else w)).map widen12
    | none => if x.blocked then bg else unpackPix v
  encodeLine (fld c 16 15) (fld c 14 13) (s.rdF (Reg.CMP_CVr_CTRL r) 3 3) (((List.range x.fifo.length).zip x.fifo).map pix)

/-- A port keeps block CRCs: eDP mode with PSR enabled (R368). -/
def State.psrPort (s : State) (p : Nat) : Bool := bit (s.rd (Reg.SCOn_CTRL p)) 1 && bit (s.port p).psr 0

/-- The rows that a selective update covers: first and one past the last (R368). -/
def suRows (lo hi gran vactive : Nat) : Nat × Nat :=
  let g := max 1 gran
  (16 * lo / g * g, min vactive (ceilDiv (16 * (hi + 1)) g * g))

/-- A port that is sending sends a row: its link is up, and in self refresh a selective update covers it. -/
def State.portSends (s : State) (p y : Nat) : Bool :=
  let x := s.port p
  bit (s.rd (Reg.SCOn_CTRL p)) 0 && x.up &&
  (!x.psrOn || (match x.su with
    | some (lo, hi, gran) =>
      let q := suRows lo hi gran (s.vactive (s.leader p))
      decide (q.1 ≤ y) && decide (y < q.2)
    | none => false))

/-- The line in a port's FIFO has been sent: its components go out, and the CRC of its block goes on (R345, R368). -/
def State.sendLine (s : State) (p : Nat) : State :=
  let x := s.port p
  if x.fifo.isEmpty then s
  else
    let comps := s.portLine p
    let s := if s.portSends p x.line then s.emit (.pixels p x.line comps) else s
    let s := if s.psrPort p then
        let crc := (comps.flatMap (leBytes 2)).foldl crcByte x.crc
        if x.line % 16 = 15 ∨ x.line + 1 = s.vactive (s.leader p) then
          s.setPort p { s.port p with crc := 0xFFFFFFFF, blocks := x.blocks ++ [crc ^^^ 0xFFFFFFFF] }
        else s.setPort p { s.port p with crc := crc }
      else s
    s.setPort p { s.port p with fifo := [] }

/-- The places at which two lists of CRCs differ. -/
def crcDiffs (a b : List Nat) : List Nat := (List.range (max a.length b.length)).filter (fun i => decide (a[i]? ≠ b[i]?))

/-- The last active line of a frame has been sent: what R368 keeps of the frame. -/
def State.psrFrame (s : State) (p : Nat) : State :=
  let x := s.port p
  if !s.psrPort p then s
  else
    let x := { x with crc := 0xFFFFFFFF, blocks := [] , su := none }
    let old := s.port p
    if old.psrOn then
      let sent := match old.su with
        | some (lo, hi, _) => (List.range (max old.sent.length old.blocks.length)).map (fun i =>
            if lo ≤ i ∧ i ≤ hi then old.blocks.getD i 0 else old.sent.getD i 0)
        | none => old.sent
      let ch := crcDiffs old.blocks sent
      s.setPort p { x with sent := sent, changed := ch, changedRun := if ch.isEmpty then 0 else old.changedRun + 1 }
    else
      let quiet : Bool := decide (old.blocks = old.sent) && !old.blocks.isEmpty && !old.torn
      s.setPort p { x with sent := old.blocks, changed := [], changedRun := 0, same := (if quiet then old.same + 1 else 0), torn := old.torn && !old.up }

/-- The SDPs that a port sends in vertical blanking (R364, R365). -/
def State.sendSdps (s : State) (r p : Nat) : State :=
  if !(bit (s.rd (Reg.SCOn_CTRL p)) 0 && (s.port p).up && !(s.port p).psrOn) then s
  else
    let c := s.rd (Reg.SCOn_CTRL p)
    let v := s.rd (Reg.CMP_CVr_CTRL r)
    let eotf := [0, 2, 3].getD (fld v 5 4) 0
    let metaB := mapGet (fun _ => ([] : List Byte)) s.canvasMeta r
    let s := s.emit (.sdp p (fld c 16 15) (fld c 14 13) (fld v 3 3) eotf metaB)
    if bit (s.rd (Reg.RASn_CTRL r)) 11 then s.emit (.port p "adaptive-sync") else s

end Sys2Proof.Machine
end

