-- ==== Sys2Proof/Machine/Raster.lean ====
section
/-! DEFINITION. The rasters (R25 to R39, R50 to R56): lines and frames, holds, lock references, and what happens at line 0, at STRETCH_LINE and at
the frame boundary. -/
namespace Sys2Proof.Machine

/-- LOCK of a raster. -/
def State.lockSel (s : State) (r : Nat) : Nat := s.rdF (Reg.RASn_CTRL r) 4 2
/-- VRR of a raster. -/
def State.vrrOn (s : State) (r : Nat) : Bool := bit (s.rd (Reg.RASn_CTRL r)) 11
/-- A status bit of a raster set or cleared. -/
def State.rasBit (s : State) (r i : Nat) (b : Bool) : State := s.wrF (Reg.RASn_STATUS r) i i b.toNat

/-- The raster tracks a reference by line length (Table 2.1). -/
def State.slews (s : State) (r : Nat) : Bool := decide (s.lockSel r = 2) || (decide (s.lockSel r = 1) && !s.vrrOn r)

/-- The largest |d| (R30). -/
def State.dMax (s : State) (r : Nat) : Int := (s.htotal r / 1000 : Nat)

/-- PPM shows d / HTOTAL. -/
def State.showPpm (s : State) (r : Nat) (d : Int) : State :=
  s.wrF (Reg.RASn_SLEW r) 15 0 (ofI 16 (d * 1000000 / max 1 (s.htotal r))).toNat

/-- The length of a line that starts (R30, R39): the error is brought towards zero at the largest rate; in holdover d stays (R32). -/
def State.slewLine (s : State) (r : Nat) : State :=
  let x := s.raster r
  if bit (s.rd (Reg.RASn_STATUS r)) 1 then s
  else
    let d := if s.slews r then clampI (-(s.dMax r)) (s.dMax r) x.err else 0
    (s.setRaster r { x with d := d, err := x.err - d }).showPpm r d

/-! ### Holds -/

/-- Lines by which a frame may still be lengthened. -/
def State.holdRoom (s : State) (r : Nat) : Nat := s.vtotalMax r - s.vtotal r

/-- Held lines of the frame. -/
def State.held (s : State) (r : Nat) : Nat := (s.rd (Reg.RASn_STRETCH r)).toNat

/-- A tearing-effect instant is pending (R50). -/
def State.tePending (s : State) (r : Nat) : Bool :=
  let x := s.raster r
  match s.rdF (Reg.RASn_CTRL r) 13 12 with
  | 0 => x.te0
  | 1 => x.te1
  | _ => x.te0 && x.te1

/-- The pending instant is consumed (R50, R51). -/
def State.teConsume (s : State) (r : Nat) : State :=
  let x := s.raster r
  match s.rdF (Reg.RASn_CTRL r) 13 12 with
  | 0 => s.setRaster r { x with te0 := false }
  | 1 => s.setRaster r { x with te1 := false }
  | _ => s.setRaster r { x with te0 := false, te1 := false }

/-- A hold ends; the next line is STRETCH_LINE + 1. -/
def State.endHold (s : State) (r : Nat) : State := s.setRaster r { s.raster r with hold := none }

/-- A hold of each kind ends at VTOTAL_MAX (R39, R51, R52). -/
def State.holdLimit (s : State) (r : Nat) : State :=
  match (s.raster r).hold with
  | some .te => (s.endHold r).rasBit r 4 true
  | some .vrr =>
    let s := (s.endHold r).rasBit r 0 false
    let x := s.raster r
    let s := s.setRaster r { x with vrrMiss := x.vrrMiss + 1 }
    if 2 ≤ x.vrrMiss + 1 then s.rasBit r 1 true else s
  | some (.slip n) =>
    let s := s.endHold r
    let x := s.raster r
    s.setRaster r { x with err := x.err + n }
  | none => s

/-- SLIP_HOLD_LIMIT, TE_MISS and VRR_TIMEOUT: a hold of the named kind has reached VTOTAL_MAX lines. -/
def State.limitRow (s : State) (r : Nat) (kind : Hold → Bool) : State :=
  match (s.raster r).hold with
  | some h => if kind h && decide (s.holdRoom r ≤ s.held r) then s.holdLimit r else s
  | none => s

/-- The first instant + OFFSET lets line 0 follow `n` lines from now. -/
def vrrReady (due : List Int) (n : Int) : Bool :=
  match due with
  | d :: _ => decide (d ≤ n)
  | [] => false

/-- A raster reaches STRETCH_LINE: it holds, or runs on (R39, R50, R51, R52). -/
def State.atStretch (s : State) (r : Nat) : State :=
  let s := s.wr (Reg.RASn_STRETCH r) 0
  let x := s.raster r
  if s.lockSel r = 3 then
    if s.tePending r then (s.teConsume r).rasBit r 5 true
    else if s.holdRoom r = 0 then s.rasBit r 4 true
    else s.setRaster r { x with hold := some .te }
  else if s.lockSel r = 1 ∧ s.vrrOn r then
    if vrrReady x.vrrDue ((s.vtotal r : Int) - s.stretchLine r) then s
    else
      let s := s.setRaster r { x with hold := some .vrr }
      if s.holdRoom r = 0 then s.holdLimit r else s
  else match x.slipDue with
    | some n =>
      let s := (s.setRaster r { x with slipDue := none, hold := some (.slip n), d := 0 }).showPpm r 0
      let s := s.slipRepeat r
      if s.holdRoom r = 0 then s.holdLimit r else s
    | none => s

/-! ### Line 0 -/

/-- Adaptive-Sync at line 0 (R52): the instant whose frame this is, its error and LOCKED. -/
def State.vrrFrame (s : State) (r : Nat) : State :=
  let x := s.raster r
  match (x.vrrDue.filter (fun d => decide (d ≤ 0))).getLast? with
  | none => s
  | some d =>
    let s := s.setRaster r { x with vrrDue := x.vrrDue.filter (fun d => decide (0 < d)), vrrMiss := 0 }
    (s.wrF (Reg.RASn_SLEW r) 31 16 (clampI 0 0x7FFF (-d * 16)).toNat).rasBit r 0 (decide (d = 0))

/-- The trackers of the video layers that a canvas shows (R361, R366). -/
def State.shownSources (s : State) (r : Nat) : List Nat :=
  ((s.stack r).filterMap (fun p => match p with
    | .video v =>
      let w := s.rd (Reg.CMP_VLv_WIN1 v)
      if bit (s.rd (Reg.CMP_VLv_CTRL v)) 0 && (s.pipe v).valid && decide ((s.pipe v).raster = r) && decide (0 < fld w 15 0) &&
          decide (0 < fld w 31 16) then some v else none
    | _ => none)).flatMap (fun v =>
      let x := s.pipe v
      x.source :: (match x.cut with | some (src, _, _) => [src] | none => []))

/-- A port's HDCP test for a frame (R366), and its resumption after training (R367). -/
def State.portFrame (s : State) (r p : Nat) : State :=
  let x := s.port p
  let on := bit (s.rd (Reg.SCOn_CTRL p)) 0
  let s := if x.resume then
      let s := s.setPort p { x with resume := false, up := true }
      s.postAll (0 :: ((List.range 8).filter (fun h => s.hasOutput h p))) 0x1A 0 (some r) [p, 1]
    else s
  let x := s.port p
  let srcs := (s.shownSources r).map s.tracker
  let prot := srcs.any (·.prot)
  let type1 := srcs.any (fun t => t.prot && t.type1)
  let allowed := x.auth && bit (s.rd (Reg.SCOn_CTRL p)) 18 && (!type1 || x.type1)
  let blocked := prot && !allowed
  let s := s.setPort p { x with blocked := blocked }
  if blocked && on && x.up then
    (s.countFld (Reg.VIN_PROTBLK p) 15 0).post 0 0x19 0 (some r) [p, (s.raster r).frame.toNat % 2 ^ 32]
  else s

/-- Line 0 of a frame starts. -/
def State.atLine0 (s : State) (r : Nat) : State :=
  let s := if s.lockSel r = 1 ∧ s.vrrOn r then s.vrrFrame r else s
  let s := (s.groupPorts r).foldl (fun s p => s.portFrame r p) s
  let s := s.setProtect r { s.protect r with fill := bit (s.rd (Reg.CMP_PRr_STAT r)) 2 }
  if bit (s.rd (Reg.CMP_CVr_CTRL r)) 0 then { s with flat := mapSet (fun _ => []) s.flat (8 + r) (s.runsOf r) } else s

/-! ### The frame boundary -/

/-- The chip floor after a frame of the lowest-numbered running raster (Table 10.4). -/
def State.chipFloor (s : State) : State :=
  let v := s.service
  let s := s.wrF Reg.DLN_CHIP 5 5 v.stretched.toNat
  if v.stretched then
    (State.setChipFloor { s with service := { v with stretched := false, calm := 0 } } (min 3 (s.rdF Reg.DLN_CHIP 1 0 + 1)))
  else if v.calm + 1 = 120 then
    State.setChipFloor { s with service := { v with calm := 0 } } (s.rdF Reg.DLN_CHIP 1 0 - 1)
  else { s with service := { v with calm := v.calm + 1 } }

/-- The flattening cache at a frame boundary (R334): the runs of the frame are valid, but for those with a DIRTY layer. -/
def State.flatBoundary (s : State) (r : Nat) : State :=
  let dirty := (List.range 8).filter (fun g => decide (s.rdF (Reg.CMP_GLg_CTRL g) 5 3 = r) && bit (s.rd (Reg.CMP_GLg_CTRL g)) 21)
  let runs := (mapGet (fun _ => []) s.flat (8 + r)).filter (fun run => run.all (fun c => !dirty.contains (c % 16)))
  let s := { s with flat := mapSet (fun _ => []) (mapSet (fun _ => []) s.flat r runs) (8 + r) [] }
  dirty.foldl (fun s g => s.wrF (Reg.CMP_GLg_CTRL g) 21 21 0) s

/-- Layers hidden from the next boundary of their canvas are hidden now (Table 13.6). -/
def State.hideBoundary (s : State) (r : Nat) : State :=
  { s with glHidden := (s.canvasLayers r).foldl (fun m g => if Nat.testBit m (8 + g) then putBit (putBit m (8 + g) false) g true else m) s.glHidden }

/-- PWR_STRETCH.FMAX at a frame boundary of raster 0. -/
def State.stretchPeak (s : State) : State :=
  let s := s.wrF Reg.PWR_STRETCH 13 8 s.service.smax
  { s with service := { s.service with smax := s.rdF Reg.PWR_STRETCH 5 0 } }

/-- The start of line VACTIVE of frame N: the frame boundary of N + 1 (R26). -/
def State.atVactive (s : State) (r : Nat) : State :=
  let s := (s.groupPorts r).foldl (fun s p => (s.psrFrame p).sendSdps r p) s
  let s := ((s.flatBoundary r).hideBoundary r).compat r 0
  let s := if (List.range 8).find? s.rasterOn = some r then s.chipFloor else s
  let s := if r = 0 then s.stretchPeak else s
  (s.rasterPipes r).foldl (fun s p => (s.repeatStep p).retime p ((s.raster r).frame.toNat + 4)) s

/-! ### A line -/

/-- Store of prepared bands selected SUB is free once their last row has been sent (R271). -/
def State.freeSent (s : State) (r line frame : Nat) : State :=
  let gone := s.subJobs.filter (fun j => decide (j.phase = 2) && decide ((s.pipe j.pipe).raster = r) &&
    decide (j.target = BitVec.ofNat 32 frame) && (match s.anyEnt j.pipe j.band with
      | some e => decide (e.row0 + e.rows ≤ line)
      | none => true))
  gone.foldl (fun s j => s.dropJob j.pipe j.band j.target) s

/-- A journal checkpoint of an output frame counter, every 2^20 frames and at its first frame (R452). -/
def State.frameMark (s : State) (r n : Nat) : State :=
  if n % 2 ^ 20 = 0 then { s with service := { s.service with frameMarks := mapSet (fun _ => none) s.service.frameMarks r (some n) } } else s

/-- Line l starts. -/
def State.startLine (s : State) (r l : Nat) : State :=
  let s := (s.groupPorts r).foldl State.sendLine s
  let x := s.raster r
  let frame := if l = 0 then x.frame + 1 else x.frame
  let s := s.setRaster r { x with line := l, frame := frame, vrrDue := x.vrrDue.map (· - 1) }
  let s := s.slewLine r
  let s := if l = 0 then (s.frameMark r x.frame.toNat).atLine0 r else s
  let s := if l = s.vactive r then s.atVactive r else s
  let s := if bit (s.rd (Reg.RASn_LMATCH r)) 16 && decide (s.rdF (Reg.RASn_LMATCH r) 15 0 = l) then s.compat r 1 else s
  let s := s.freeSent r l frame.toNat
  let s := s.ringLine r frame.toNat l
  let s := if l < s.vactive r then s.fillFifos r l else s
  if l = s.stretchLine r then s.atStretch r else s

/-- One more held line. -/
def State.holdMore (s : State) (r : Nat) : State := s.wr (Reg.RASn_STRETCH r) (BitVec.ofNat 32 (s.held r + 1))

/-- A line period of a hold has passed (R25, R39, R50, R52): the raster holds on, or STRETCH_LINE + 1 starts. -/
def State.holdLine (s : State) (r : Nat) (h : Hold) : State :=
  let next := s.stretchLine r + 1
  match h with
  | .te => if s.holdRoom r ≤ s.held r then (s.holdLimit r).startLine r next else s.holdMore r
  | .vrr =>
    let x := s.raster r
    if vrrReady x.vrrDue ((s.vtotal r : Int) - s.stretchLine r) then (s.endHold r).startLine r next
    else if s.holdRoom r ≤ s.held r then (s.holdLimit r).startLine r next
    else (s.setRaster r { x with vrrDue := x.vrrDue.map (· - 1) }).holdMore r
  | .slip n =>
    if n ≤ 0 then (s.endHold r).startLine r next
    else if s.holdRoom r ≤ s.held r then (s.holdLimit r).startLine r next
    else
      let ht : Int := (s.htotal r : Nat)
      let s := s.setRaster r { s.raster r with hold := some (.slip (n - ht)) }
      if ht ≤ n then s.holdMore r else s

/-- LINE_START of raster r: a raster that does not run, or whose pixel PLL relocks, has no lines (R54). -/
def State.lineStart (s : State) (r : Nat) : State :=
  if !s.rasterOn r || bit (s.rd (Reg.RASn_STATUS r)) 6 then s
  else
    match (s.raster r).hold with
    | some h => s.holdLine r h
    | none => if (s.raster r).line + 1 < s.vtotal r then s.startLine r ((s.raster r).line + 1) else s.startLine r 0

/-! ### Lock references (R29, R31, R32, R39) -/

/-- A phase error reduced into the lock period (R31), in pixel clocks. -/
def reduceErr (period : Nat) (x : Int) : Int :=
  if period = 0 then x
  else
    let m := x % (period : Int)
    if 2 * m ≤ period then m else m - period

/-- PHASE_ERR shows Δ in 1/16 line, saturated. -/
def State.showErr (s : State) (r : Nat) (x : Int) : State :=
  s.wrF (Reg.RASn_SLEW r) 31 16 (ofI 16 (clampI (-32768) 32767 (x * 16 / max 1 (s.htotal r)))).toNat

/-- A jump is resolved (Table 2.2). -/
def State.jump (s : State) (r : Nat) (delta : Int) : State :=
  let s := ((s.rasBit r 2 true).countErr (Reg.RASn_ERRCNT r)).rasBit r 0 false
  let x := s.raster r
  let e := x.err + x.slipDue.getD 0 + delta
  if bit (s.rd (Reg.RASn_CTRL r)) 10 && decide (0 < e) then
    let s := s.setRaster r { x with err := 0, slipDue := some e }
    if x.line = s.stretchLine r ∧ x.hold.isNone then s.atStretch r else s
  else s.setRaster r { x with err := e, slipDue := none }

/-- REFERENCE_INSTANT: an instant of the raster's reference, `delta` pixel clocks after the predicted one. -/
def State.refInstant (s : State) (r : Nat) (delta : Int) : State :=
  if !s.rasterOn r then s
  else if s.lockSel r = 1 ∧ s.vrrOn r then
    let x := s.raster r
    let s := s.setRaster r { x with vrrDue := x.vrrDue ++ [sgn 16 (s.rdF (Reg.RASn_PHASE r) 15 0)], vrrMiss := 0 }
    s.rasBit r 1 false
  else if s.slews r then
    let x := s.raster r
    let inFr := max 1 (s.rdF (Reg.RASn_RATIO r) 7 4)
    let s := s.setRaster r { x with refCount := x.refCount + 1 }
    if x.refCount % inFr ≠ 0 then s
    else
      let e := reduceErr (s.rdF (Reg.RASn_RATIO r) 3 0 * s.vtotal r * s.htotal r) delta
      let s := s.showErr r e
      let lost := bit (s.rd (Reg.RASn_STATUS r)) 1
      let s := s.rasBit r 1 false
      if lost || decide (s.rdF (Reg.RASn_PHASE r) 23 16 * s.htotal r < e.natAbs) then s.jump r e
      else
        let x := s.raster r
        (s.setRaster r { x with err := x.err + e }).rasBit r 0 true
  else s

/-- HOLDOVER (R32). -/
def State.holdover (s : State) (r : Nat) : State :=
  if s.rasterOn r && s.slews r then (s.rasBit r 1 true).rasBit r 0 false else s

/-- TE_EDGE on an input (R50, R51): it becomes pending on every raster paced by it, and ends a hold that waits for it. -/
def State.teEdge1 (s : State) (r pin : Nat) (falling : Bool) : State :=
  let c := s.rd (Reg.RASn_CTRL r)
  let sel := fld c 13 12
  if s.rasterOn r && decide (s.lockSel r = 3) && (bit c 14 == falling) && (decide (sel = pin) || decide (sel = 2)) then
    let x := s.raster r
    let s := s.setRaster r (if pin = 0 then { x with te0 := true } else { x with te1 := true })
    if (s.raster r).hold = some .te ∧ s.tePending r then (s.teConsume r).endHold r else s
  else s

/-- An edge of TE0 or TE1. -/
def State.teEdge (s : State) (pin : Nat) (falling : Bool) : State := (List.range 8).foldl (fun s r => s.teEdge1 r pin falling) s

/-- RELOCK_COMPLETE (R54): the next line is STRETCH_LINE + 1 of the new mode. -/
def State.relocked (s : State) (r : Nat) : State :=
  if bit (s.rd (Reg.RASn_STATUS r)) 6 then
    (s.wrF (Reg.RASn_STATUS r) 7 6 0).setRaster r { s.raster r with line := s.stretchLine r, hold := none }
  else s

/-! ### Frame done, the protected layer, underruns -/

/-- The region CRC of a port for a frame that has left it (R345, R346): `upset` is the difference that a fault made. -/
def State.regionDone (s : State) (r p upset : Nat) : State :=
  let crc := BitVec.ofNat 32 (s.regionCrc p (s.protect r).fill ^^^ upset)
  let s := s.wr (Reg.SCOn_PCRC p) crc
  if crc = s.rd (Reg.SCOn_PEXP p) then s
  else
    let s := (s.countErr (Reg.SCOn_PMIS p)).wrF (Reg.CMP_PRr_STAT r) 3 3 1
    let s := s.setProtect r { s.protect r with due := true }
    s.post 0 0x18 0 (some r) [r + 256 * p, crc.toNat, (s.rd (Reg.SCOn_PEXP p)).toNat, (s.rd (Reg.CMP_PRr_STAT r)).toNat]

/-- FRAME_DONE: the last active pixel has left every port of the group (R56). -/
def State.frameDone (s : State) (r : Nat) (upsets : List (Nat × Nat)) : State :=
  if !s.rasterOn r || decide ((s.raster r).line < s.vactive r) then s
  else
    let s := if (s.protect r).tmpl.isSome then
        (s.groupPorts r).foldl (fun s p => s.regionDone r p (((upsets.find? (fun u => decide (u.1 = p))).map (·.2)).getD 0)) s
      else s
    s.compat r 2

/-- PROTECT_REWRITE: the Proctor's two stages after an alarm (R346). -/
def State.protectRewrite (s : State) (r : Nat) : State :=
  if !(s.protect r).due then s
  else
    let s := s.setProtect r { s.protect r with due := false }
    if bit (s.rd (Reg.CMP_PRr_STAT r)) 1 then s.wrF (Reg.CMP_PRr_STAT r) 2 2 1 else s.wrF (Reg.CMP_PRr_STAT r) 1 1 1

/-- SCANOUT_UNDERRUN of a port at a pixel of its stripe (R350). -/
def State.underrun (s : State) (p pixel : Nat) : State :=
  let r := s.leader p
  let x := s.port p
  if !bit (s.rd (Reg.SCOn_CTRL p)) 0 || x.fifo.isEmpty || decide (x.fifo.length ≤ pixel) then s
  else
    let bg := packPix (s.background r)
    let s := s.setPort p { x with fifo := x.fifo.take pixel ++ List.replicate (x.fifo.length - pixel) bg }
    let s := (s.countErr (Reg.SCOn_UNDER p)).wr (Reg.SCOn_ULAST p) (BitVec.ofNat 32 (x.line * 65536 + pixel))
    s.compat r 3

/-! ### Links of the ports (R366, R367) -/

/-- Loss or return of a port, posted. -/
def State.portEvent (s : State) (p : Nat) (up : Bool) : State :=
  s.postAll (0 :: ((List.range 8).filter (fun h => s.hasOutput h p))) 0x1A 0 (some (s.leader p)) [p, up.toNat]

/-- PORT_HPD_LOSS. -/
def State.portLoss (s : State) (p : Nat) : State :=
  let x := s.port p
  if x.up then
    (s.setPort p { x with up := false, training := false, resume := false, psrOn := false, same := 0, changedRun := 0, changed := [] }).portEvent p false
  else s.setPort p { x with training := false, resume := false }

/-- PORT_HPD_RETURN: Dvorzar trains the link. -/
def State.portReturn (s : State) (p : Nat) : State :=
  let x := s.port p
  if x.up then s else (s.setPort p { x with training := true }).emit (.port p "train")

/-- PORT_LINK_TRAINED: `lines` is the longest frame that the sink reports to accept, if it reports one. -/
def State.portTrained (s : State) (p : Nat) (lines : Option Nat) : State :=
  let x := s.port p
  if x.training then s.setPort p { x with training := false, resume := true, maxLines := lines } else s

/-- PORT_HDCP_LOSS: it counts from the next frame. -/
def State.portHdcpLoss (s : State) (p : Nat) : State := s.setPort p { s.port p with auth := false }

/-- PORT_HDCP_AUTHENTICATED, on a port that has HDCP enabled. -/
def State.portHdcpOk (s : State) (p : Nat) (type1 : Bool) : State :=
  if bit (s.rd (Reg.SCOn_CTRL p)) 18 && s.hdcpUsable then s.setPort p { s.port p with auth := true, type1 := type1 } else s

/-! ### Panel self refresh (R368) -/

/-- The port stands in vertical blanking. -/
def State.inBlank (s : State) (p : Nat) : Bool := decide (s.vactive (s.leader p) ≤ (s.raster (s.leader p)).line)

/-- PSR_ENTER. -/
def State.psrEnter (s : State) (p : Nat) : State :=
  let x := s.port p
  if s.psrPort p && s.inBlank p && !x.psrOn && x.up && decide (4 ≤ x.same) && !x.torn then
    (s.setPort p { x with psrOn := true, changed := [], changedRun := 0 }).emit (.port p "psr enter")
  else s

/-- The port leaves self refresh and sends every frame. -/
def State.psrLeave (s : State) (p : Nat) : State :=
  (s.setPort p { s.port p with psrOn := false, same := 0, changedRun := 0, changed := [], su := none }).emit (.port p "psr exit")

/-- PSR_SELECTIVE_UPDATE: `gran` is the panel's Y granularity in lines. -/
def State.psrUpdate (s : State) (p gran : Nat) : State :=
  let x := s.port p
  match x.changed with
  | [] => s
  | lo :: rest =>
    if s.psrPort p && s.inBlank p && x.psrOn && decide (x.changedRun = 1) then
      (if bit x.psr 1 then (s.setPort p { x with su := some (lo, rest.getLast?.getD lo, gran) }).emit (.port p "psr selective update")
       else s.psrLeave p)
    else s

/-- PSR_EXIT: changed blocks in two frames in a row. -/
def State.psrExit (s : State) (p : Nat) : State :=
  if (s.port p).psrOn && s.inBlank p && decide (2 ≤ (s.port p).changedRun) then s.psrLeave p else s

end Sys2Proof.Machine
end

