-- ==== Sys2Proof/Machine/HostFrame.lean ====
section
/-! DEFINITION. Host frames (R374 to R378): the descriptor ring, the checks of Table 13.7, capture by line groups, aborts; and the link rows
of the sinks. -/
namespace Sys2Proof.Machine

/-- The House that holds tracker 2. -/
def State.hfHouse (s : State) : Option Nat := s.inputHouse 2
/-- VIN_HF_CTRL.EN. -/
def State.hfOn (s : State) : Bool := bit (s.rd Reg.VIN_HF_CTRL) 0
/-- Entries of the ring. -/
def State.hfSize (s : State) : Nat := s.rdF Reg.VIN_HF_SIZE 8 0
/-- HEAD. -/
def State.hfHead (s : State) : Nat := s.rdF Reg.VIN_HF_HEAD 7 0
/-- TAIL. -/
def State.hfTail (s : State) : Nat := s.rdF Reg.VIN_HF_TAIL 7 0
/-- The address of an entry in the function's space. -/
def State.hfAddr (s : State) (i : Nat) : Nat :=
  64 * s.rdF Reg.VIN_HF_BASE_LO 31 6 + 2 ^ 32 * s.rdF Reg.VIN_HF_BASE_HI 15 0 + 64 * i

/-- The entry at HEAD gets its STATUS, and HEAD advances (R374). -/
def State.hfFinish (s : State) (h cause : Nat) : State :=
  let s := s.hostWrite h (s.hfAddr s.hfHead + 60) (leBytes 4 (1 + 16 * cause))
  ({ s with hostFrame := none } : State).wrF Reg.VIN_HF_HEAD 7 0 ((s.hfHead + 1) % max 1 s.hfSize)

/-- The frame in capture ends early: its record keeps COMPLETE = 0. -/
def State.hfCut (s : State) : State := s.setTracker 2 { s.tracker 2 with open_ := false }

/-- An abort (R377): CAUSE 3 for the descriptor in progress and every one up to TAIL; HEAD is then TAIL. -/
def State.hfAbort (s : State) (h : Nat) : State :=
  let n := (s.hfTail + max 1 s.hfSize - s.hfHead) % max 1 s.hfSize
  let tail := s.hfTail
  let s := if s.hostFrame.isSome then s.hfCut else s
  let s := (List.range n).foldl (fun s _ => s.hfFinish h 3) s
  ({ s with hostFrame := none } : State).wrF Reg.VIN_HF_HEAD 7 0 tail

/-- An abort of a window, by a function or by Dvorzar (R204, R377). -/
def State.abortWindow (s : State) (fn : Option Nat) (e : Nat) : State :=
  let ok : Bool := match fn with
    | none => true
    | some h => decide (s.dmaHouse e = h)
  let s := s.abortWrite fn e
  match s.hfHouse with
  | some h => if ok && decide (e = 64 + h) && s.hfOn then s.hfAbort h else s
  | none => s

/-- A write of VIN_HF_TAIL (R377, R378). -/
def State.hfTailWrite (s : State) (v : Nat) : State :=
  if !s.hfOn then s
  else
    let n := max 1 s.hfSize
    let ahead := (s.hfTail + n - s.hfHead) % n
    let d := (v + n - s.hfTail % n) % n
    if n ≤ v ∨ n ≤ ahead + d then s.wrF Reg.VIN_HF_ERR 16 16 1 else s.wrF Reg.VIN_HF_TAIL 7 0 v

/-- A write of VIN_HF_CTRL.EN (R378). -/
def State.hfCtrlWrite (s : State) (h : Nat) (on : Bool) : State :=
  if on && !s.hfOn then ((s.wrF Reg.VIN_HF_HEAD 7 0 0).wrF Reg.VIN_HF_TAIL 7 0 0).wrF Reg.VIN_HF_CTRL 0 0 1
  else if !on && s.hfOn then (s.hfAbort h).wrF Reg.VIN_HF_CTRL 0 0 0
  else s

/-- A page request for host memory that a fetch needs, once until it is answered. -/
def State.askPage (s : State) (h a : Nat) : State :=
  if s.asked.contains (hostKey h a) then s else { s.emit (.pageRequest h a) with asked := hostKey h a :: s.asked }

/-- What stands in the way of reading host bytes: pages not present (asked for) or refused. -/
inductive HostRead where
  | ok
  | wait (page : Nat)
  | refused
  deriving DecidableEq, Repr

/-- The state of some host ranges. -/
def State.hostRanges (s : State) (h : Nat) (rs : List (Nat × Nat)) : HostRead :=
  let pages := (rs.flatMap (fun r => if r.2 = 0 then [] else
    (List.range ((r.1 + r.2 - 1) / 4096 - r.1 / 4096 + 1)).map (fun i => (r.1 / 4096 + i) * 4096))).eraseDups
  match pages.find? (fun a => decide (s.page h a ≠ 0)) with
  | none => .ok
  | some a => if s.page h a = 1 ∧ Nat.testBit s.priOn h then .wait a else .refused

/-- Word i of a descriptor. -/
def HostFrame.w (x : HostFrame) (i : Nat) : Nat := (x.words.getD i 0).toNat
/-- Width. -/
def HostFrame.width (x : HostFrame) : Nat := x.w 1 % 65536
/-- Height. -/
def HostFrame.height (x : HostFrame) : Nat := x.w 1 / 65536
/-- The format. -/
def HostFrame.fmt (x : HostFrame) : PixFmt := ⟨x.w 0 % 4, Nat.testBit (x.w 0) 2, Nat.testBit (x.w 0) 3, decide (2 ≤ x.w 0 / 16 % 4)⟩
/-- Plane address. -/
def HostFrame.addr (x : HostFrame) (k : Nat) : Nat := x.w (4 + 2 * k) + 2 ^ 32 * x.w (5 + 2 * k)
/-- Bytes of a row of a plane. -/
def HostFrame.rowBytes (x : HostFrame) (k : Nat) : Nat :=
  (if k ≠ 0 ∧ x.fmt.sub ≠ 0 then x.width / 2 else x.width) * (if x.fmt.d10 then 2 else 1)

/-- The rules of Table 13.7. -/
def HostFrame.ok (x : HostFrame) : Bool :=
  let f := x.fmt
  decide (f.sub ≠ 3) && (f.ycc || decide (f.sub = 0)) && decide (x.w 0 / 2 ^ 7 % 4 ≠ 3) && decide (x.w 0 / 2 ^ 9 = 0) &&
  decide (0 < x.width) && decide (0 < x.height) && decide (x.width ≤ 7680) && decide (x.height ≤ 4320) &&
  (decide (f.sub = 0) || decide (x.width % 2 = 0)) && (decide (f.sub ≠ 2) || decide (x.height % 2 = 0)) &&
  [0, 1, 2].all (fun k => decide (x.w (4 + 2 * k) % 64 = 0) && decide (x.w (5 + 2 * k) / 65536 = 0)) &&
  [10, 11].all (fun i => decide (x.w i / 2 ^ 24 = 0) && decide (x.w i % 64 = 0)) &&
  decide (x.rowBytes 0 ≤ x.w 10) && decide (x.rowBytes 1 ≤ x.w 11) && [12, 13, 14].all (fun i => decide (x.w i = 0))

/-- HOST_FRAME_DESCRIPTOR (R374, R375): the descriptor at HEAD is read and checked. -/
def State.hfDescriptor (s : State) : State :=
  match s.hfHouse with
  | none => s
  | some h =>
    if !s.hfOn || s.hostFrame.isSome || decide (s.hfHead = s.hfTail) then s
    else match s.hostRanges h [(s.hfAddr s.hfHead, 64)] with
      | .wait a => s.askPage h a
      | .refused => s.hfFinish h 2
      | .ok =>
        let bs := s.hostRead h (s.hfAddr s.hfHead) 64
        let x : HostFrame := { words := (List.range 16).map (fun i => BitVec.ofNat 32 (num bs (4 * i) 4)), group := 0 }
        if !x.ok then (s.countFld Reg.VIN_HF_ERR 15 0).hfFinish h 1
        else
          let s := match (s.tracker 2).size with
            | some sz => if sz = (x.width, x.height) then s else s.declareDisc 2 1
            | none => s
          let s := s.beginFrame 2 (x.w 2 + 2 ^ 32 * x.w 3)
          let s := s.setTracker 2 { s.tracker 2 with size := some (x.width, x.height), yuv := x.w 0 / 16 % 4 }
          { s with hostFrame := some x }

/-- The samples of a row of a plane. -/
def HostFrame.samples (x : HostFrame) (bs : List Byte) : List Nat :=
  let e := if x.fmt.d10 then 2 else 1
  (List.range (bs.length / e)).map (fun i => num bs (e * i) e % (if x.fmt.d10 then 1024 else 256))

/-- HOST_FRAME_GROUP (R376): a line group is fetched and becomes visible; `fault` is a DMA fault other than PAGE. -/
def State.hfGroup (s : State) (fault : Bool) : State :=
  match s.hfHouse, s.hostFrame with
  | some h, some x =>
    let two := decide (x.fmt.sub = 2)
    let lumas := if two then [2 * x.group, 2 * x.group + 1] else [x.group]
    let lumaR := lumas.map (fun l => (x.addr 0 + l * x.w 10, x.rowBytes 0))
    let chromaR := [1, 2].map (fun k => (x.addr k + x.group * x.w 11, x.rowBytes k))
    match if fault then HostRead.refused else s.hostRanges h (lumaR ++ chromaR) with
    | .wait a => s.askPage h a
    | .refused => s.hfCut.hfFinish h 2
    | .ok =>
      let row : Nat × Nat → List Nat := fun r => x.samples (s.hostRead h r.1 r.2)
      let chroma := chromaR.map row
      let s := match lumaR.map row with
        | [a, b] => (s.captureLine 2 x.height x.fmt [a]).captureLine 2 x.height x.fmt (b :: chroma)
        | a :: _ => s.captureLine 2 x.height x.fmt (a :: chroma)
        | [] => s
      let n := if two then x.height / 2 else x.height
      if x.group + 1 = n then s.hfFinish h 0 else { s with hostFrame := some { x with group := x.group + 1 } }
  | _, _ => s

/-- REPEAT_END (R37): at the boundary the pipeline whose anchor frame is captured goes on with the new sequence. -/
def State.repeatEnd (s : State) (p : Nat) : State :=
  let x := s.pipe p
  let q := s.raster x.raster
  if x.valid && x.repeats.isSome && decide (q.line = s.vactive x.raster) then
    let s' := s.repeatStep p
    if (s'.pipe p).repeats.isNone then s'.retime p (q.frame.toNat + 4) else s
  else s

end Sys2Proof.Machine
end

