-- ==== Sys2Proof/Machine/PowerReq.lean ====
section
/-! DEFINITION. Requests of a power state (R448 to R450, Table 16.3): PWR_REQ, D3hot and D0 of PF0. -/
namespace Sys2Proof.Machine

/-- STATE of PWR_STATE. -/
def State.powerState (s : State) : Nat := s.rdF Reg.PWR_STATE 2 0

/-- The images that run, and those of accepted commits. -/
def State.committedImages (s : State) : List Image :=
  (s.models.filter (fun m => s.runs.any (fun x => decide (x.2 = some m.handle)) ||
    s.accepted.any (fun a => match a.swap with | some (k, _, _) => decide (k = m.handle) | none => false))).flatMap (·.images)

/-- Some committed image needs more than the CCLK of Eco (R450). -/
def State.ecoTooSlow (s : State) : Bool := s.committedImages.any (fun im => decide (s.rdF Reg.PWR_ECO 7 0 < im.cclkPlan))

/-- A transition to a state begins. -/
def State.transBegin (s : State) (t : Nat) : State :=
  { s.wrF Reg.PWR_STATE 3 3 1 with service := { s.service with trans := some t, heldReq := none } }

/-- A request for Eco that is refused. -/
def State.ecoRefused (s : State) : State :=
  State.post { s.wrF Reg.PWR_STATE 8 8 1 with service := { s.service with heldReq := none } } 0 0x20 0 none [6]

/-- The request that waits is acted on, unless a transition is in progress: 0 Full, 1 Eco, 2 Standby, 3 the D0 of PF0. -/
def State.powerAct (s : State) : State :=
  match s.service.trans, s.service.heldReq with
  | none, some v =>
    let st := s.powerState
    let done : State := { s with service := { s.service with heldReq := none } }
    if v = 2 then (if st = 2 then done else s.transBegin 2)
    else if v = 1 then (if st = 0 then (if s.ecoTooSlow then s.ecoRefused else s.transBegin 1) else done)
    else if v = 3 then (if st = 2 then s.transBegin 0 else done)
    else if st = 0 then done else s.transBegin 0
  | _, _ => s

/-- A request arrives; a later one takes the place of one that waits (R449). -/
def State.powerAsk (s : State) (v : Nat) : State := State.powerAct { s with service := { s.service with heldReq := some v } }

/-- A write of PWR_REQ: 3 is discarded. -/
def State.pwrReq (s : State) (v : Nat) : State := if v = 3 then s else (s.wrF Reg.PWR_REQ 1 0 v).powerAsk v

end Sys2Proof.Machine
end

