-- ==== Sys2Proof/Machine/Access.lean ====
section
/-! DEFINITION. Registers as the PCIe functions reach them in BAR0 (R8 to R14, R58 and the visibility rule of each chapter): what a
function sees, what it reads, what a write does; the TCD windows (R439 to R444); the Library aperture (R186). -/
namespace Sys2Proof.Machine

/-! ### What a function sees -/

/-- The function's House has a grant (R371); PF0 needs none. -/
def State.granted (s : State) (fn : Nat) : Bool := decide (fn = 0) || (s.grant fn).given

/-- Registers that every function sees (R371). -/
def openToAll (off : Nat) : Bool :=
  decide (off ≤ 0x14) || decide (off = 0x100C4) || decide (off = 0x800000) || decide (off = 0x1800000) || decide (off = 0x1800004) ||
  decide (off = 0x1800008)

/-- A register of a window of `size` bytes from `base`, one for each index below n: the index. -/
def window (base size n off : Nat) : Option Nat := if base ≤ off ∧ off < base + size * n then some ((off - base) / size) else none

/-- The index of a window passes a test. -/
def inWindow (base size n off : Nat) (f : Nat → Bool) : Bool := match window base size n off with | some i => f i | none => false

/-- A source feeds a pipeline of the House (R57). -/
def State.feeds (s : State) (h t : Nat) : Bool :=
  (List.range 4).any (fun p => (s.pipe p).valid && decide ((s.pipe p).house = h) && decide ((s.pipe p).source = t))

/-- The images that run for a House. -/
def State.runImages (s : State) (h : Nat) : List Image :=
  match mapGet (fun _ => none) s.runs h with
  | some m => (s.models.filter (fun x => decide (x.handle = m))).flatMap (·.images)
  | none => []

/-- The forms that a House's timetable uses. -/
def State.usesForm (s : State) (h f : Nat) : Bool := (s.runImages h).any (fun im => Nat.testBit im.formMask f)

/-- A pipeline of the House. -/
def State.ownsPipe (s : State) (h p : Nat) : Bool := (s.pipe p).valid && decide ((s.pipe p).house = h)

/-- A graphics layer of the House (R322). -/
def State.ownsLayer (s : State) (h g : Nat) : Bool := Nat.testBit (s.grant h).glayers g

/-- RAS and its deadline registers (R57, R292). -/
def State.seesRas (s : State) (fn off : Nat) : Bool :=
  let pf := decide (fn = 0)
  decide (off < 0x100040) || inWindow 0x100040 4 8 off (fun h => pf || decide (h = fn)) ||
  inWindow 0x100800 0x40 3 off (fun t => pf || s.feeds fn t) || inWindow 0x101000 0x100 8 off (fun r => pf || s.hasOutput fn r) ||
  inWindow 0x140000 16 4096 off (fun e => decide (s.bellHouse e = some fn)) ||
  (if pf then decide (0x102000 ≤ off) && decide (off < 0x104000)
   else inWindow 0x102000 0x40 4 off (s.ownsPipe fn) || decide (off = Reg.DLN_LIVE))

/-- CMP and SCO (R351). -/
def State.seesCmp (s : State) (fn off : Nat) : Bool :=
  decide (fn = 0) || decide (off ≤ Reg.CMP_PEND) || inWindow 0x200010 4 8 off (s.hasOutput fn) || inWindow 0x200040 4 4 off (s.ownsPipe fn) ||
  inWindow 0x200100 0x20 8 off (s.hasOutput fn) || inWindow 0x200200 0x20 4 off (s.ownsPipe fn) ||
  inWindow 0x200400 0x40 8 off (s.ownsLayer fn) || inWindow 0x300100 0x40 8 off (s.hasOutput fn)

/-- VIN (R383). -/
def State.seesVin (s : State) (fn off : Nat) : Bool :=
  decide (fn = 0) || decide (off = Reg.VIN_CAPS) || inWindow 0x400100 0x80 2 off (s.hasInput fn) ||
  (decide (0x400400 ≤ off) && decide (off < 0x40041C) && s.hasInput fn 2) || inWindow 0x400020 4 8 off (s.hasOutput fn)

/-- QUE, HPS and EVT (R413). -/
def State.seesSync (s : State) (fn off : Nat) : Bool :=
  let pf := decide (fn = 0)
  inWindow 0x500000 16 16384 off (fun q => pf || decide (s.queueHouse q = some fn)) || decide (off = Reg.QUE_CAPS) ||
  inWindow 0x540010 4 8 off (fun h => pf || decide (h = fn)) ||
  inWindow 0x600000 16 8192 off (fun p => pf || decide (s.passHouse p = some fn)) || decide (off = Reg.HPS_CAPS) ||
  inWindow 0x620010 4 8 off (fun h => pf || decide (h = fn)) || decide (off = Reg.EVT_CAPS) ||
  inWindow 0x700010 4 8 off (fun h => decide (h = fn)) || inWindow 0x700040 4 8 off (fun h => decide (h = fn)) ||
  (decide (0x700800 ≤ off) && decide (off < 0x700810))

/-- DMA (R213). -/
def State.seesDma (s : State) (fn off : Nat) : Bool :=
  decide (fn = 0) || decide (off = Reg.DMA_CAPS) || inWindow 0x900040 4 8 off (fun h => decide (h = fn)) ||
  inWindow 0x900100 4 32 off (s.usesForm fn) || inWindow 0x901000 0x40 96 off (fun e => decide (s.dmaHouse e = fn))

/-- LIB (R187). -/
def State.seesLib (s : State) (fn off : Nat) : Bool :=
  let pf := decide (fn = 0)
  decide (off ≤ Reg.LIB_APERR_ADDR) || (pf && decide (off < 0xA00100)) || inWindow 0xA00100 16 8 off (fun h => decide (h = fn)) ||
  inWindow 0xA01000 4 512 off (fun b => pf || decide (s.bankOwner b = fn))

/-- A function sees the register at an offset below the TCD block. -/
def State.sees (s : State) (fn off : Nat) : Bool :=
  openToAll off ||
  (s.granted fn &&
    (if off < 0x10000 then (if off = Reg.DEV_UID_LO ∨ off = Reg.DEV_UID_HI then decide (fn = 0) else true)
     else if off < 0x100000 then true
     else if off < 0x200000 then s.seesRas fn off
     else if off < 0x400000 then s.seesCmp fn off
     else if off < 0x500000 then s.seesVin fn off
     else if off < 0x800000 then s.seesSync fn off
     else if off < 0x900000 then decide (fn = 0)
     else if off < 0xA00000 then s.seesDma fn off
     else s.seesLib fn off))

/-- Registers of which each function has its own copy: MBX but for MBX_DEAN, the compatibility block, LIB_APBASE to LIB_APERR_ADDR,
CMP_SHSTAT. -/
def ownCopy (off : Nat) : Bool :=
  (decide (0x10000 ≤ off) && decide (off < 0x100000) && decide (off ≠ Reg.MBX_DEAN)) || (decide (0x700800 ≤ off) && decide (off < 0x700810)) ||
  decide (off = Reg.LIB_APBASE) || decide (off = Reg.LIB_APERR) || decide (off = Reg.LIB_APERR_ADDR) || decide (off = Reg.CMP_SHSTAT)

/-- The key of a register for a function. -/
def keyFor (fn off : Nat) : Nat := if ownCopy off then Reg.own fn off else off

/-! ### Reading -/

/-- Arrays that passed test (R6). -/
def Fuses.arrayPasses (f : Fuses) (a : Nat) : Bool := !f.arraysOff.contains a

/-- DEV_ARRAYS (R5, R6). -/
def Fuses.arrays (f : Fuses) : Nat :=
  let core : Nat → Bool := fun c => f.arrayPasses (2 * c) || f.arrayPasses (2 * c + 1)
  let cores := (List.range 1024).filter core
  let forms := (List.range 32).filter (fun x => (formCores x).any core)
  forms.length * 2 ^ 23 + cores.length * 2 ^ 12 + ((List.range 2048).filter f.arrayPasses).length

/-- The registers that the fuses give (Tables 0.4 and 16.12). -/
def Fuses.reg (f : Fuses) (off : Nat) : Option Word :=
  let w : Nat → Option Word := fun n => some (BitVec.ofNat 32 n)
  if off = Reg.DEV_ID then w (0x91600000 + f.step * 2 ^ 8)
  else if off = Reg.DEV_GRADE then w (f.tdp * 2 ^ 16 + f.cclk * 2 ^ 8 + f.grade)
  else if off = Reg.DEV_ARRAYS then w f.arrays
  else if off = Reg.DEV_CANVAS then w (f.maxHeight * 2 ^ 16 + f.maxWidth)
  else if off = Reg.DEV_PIXRATE then w f.maxKpix
  else if off = Reg.DEV_REFRESH then w f.maxHz
  else if off = Reg.DEV_UID_LO then w f.uid
  else if off = Reg.DEV_UID_HI then w (f.uid / 2 ^ 32)
  else if off = Reg.PWR_LIMITS then w (f.pPeak * 2 ^ 16 + f.pSus)
  else none

/-- Live registers of a raster window (Table 2.7), by offset in the window; of a raster that does not run they read their reset values
(R24). -/
def State.rasterReg (s : State) (r o : Nat) : Option Word :=
  let q := s.raster r
  let now := s.rtsNow r
  if !s.rasterOn r then none
  else if o = 0x14 then some (BitVec.ofNat 32 (q.line + q.hold.isSome.toNat * 2 ^ 16 + (decide (s.vactive r ≤ q.line)).toNat * 2 ^ 17))
  else if o = 0x18 then some (BitVec.ofNat 32 q.frame.toNat)
  else if o = 0x1C then some (BitVec.ofNat 32 (q.frame.toNat / 2 ^ 32))
  else if o = 0x20 then some (BitVec.ofNat 32 now)
  else if o = 0x24 then some (BitVec.ofNat 32 (now / 2 ^ 32))
  else none

/-- A word of a bell entry of the active bank. -/
def State.bellWord (s : State) (e i : Nat) : Word :=
  let b := s.bell s.bellBank e
  if i = 0 then b.w0 else if i = 1 then b.w1 else if i = 2 then b.w2 else b.w3

/-- VIN_Ss_STATUS with EN, HPD and VRR (R356, R362). -/
def State.sinkStatus (s : State) (k : Nat) : Word :=
  let on := s.sinkOn k
  setBit (setBit (setBit (s.rd (Reg.VIN_Ss_STATUS k)) 0 on) 2 on) 6 on

/-- The value of a register below the TCD block, as a function reads it. -/
def State.regValue (s : State) (fn off : Nat) : Word :=
  match s.fuses.reg off, window 0x101000 0x100 8 off with
  | some w, _ => w
  | none, some r => (s.rasterReg r (off % 0x100)).getD (if (regRow? off).isSome then s.rd off else 0)
  | none, none =>
    if 0x140000 ≤ off ∧ off < 0x150000 then s.bellWord ((off - 0x140000) / 16) (off % 16 / 4)
    else if 0x600000 ≤ off ∧ off < 0x620000 ∧ off % 16 = 8 then
      setFld (s.rd off) 11 0 ((s.waiters.filter (fun w => decide (w.pass = (off - 0x600000) / 16))).length)
    else if off = Reg.DLN_LIVE then s.dlnLive
    else if off = Reg.DLN_BANKS then s.dlnBanks
    else if off = Reg.VIN_Ss_STATUS 0 then s.sinkStatus 0
    else if off = Reg.VIN_Ss_STATUS 1 then s.sinkStatus 1
    else if (regRow? off).isSome then s.rd (keyFor fn off)
    else 0

/-! ### The TCD block (R439 to R444) -/

/-- The unit is in Manufacturing or in Device-open (R438). -/
def State.openDevice (s : State) : Bool := s.deviceOpen || decide (s.fuses.life = 0)

/-- The function reaches the window of a core (R439, R441): the cores are powered, and Device-open for PF0 or House-scoped while the core's
CORE_HOUSE is the function's House. -/
def State.tcdOpen (s : State) (fn c : Nat) : Bool :=
  s.coresOn && ((s.openDevice && decide (fn = 0)) || (!s.openDevice && Nat.testBit s.scopedHouses fn && decide ((s.core c).house = fn)))

/-- Columns of the mesh that hold forms of a mask (R208). -/
def formColumns (mask : Nat) : List Nat := (List.range 8).filter (fun x => (List.range 4).any (fun i => Nat.testBit mask (8 * i + x)))

/-- The forms of a House's running images. -/
def State.houseMask (s : State) (h : Nat) : Nat :=
  (List.range 32).foldl (fun m f => if s.usesForm h f then m + 2 ^ f else m) 0

/-- COLUMNS of Table 15.5. -/
def State.isoColumns (s : State) : Bool :=
  (List.range 8).all (fun h =>
    let cs := formColumns (s.houseMask h)
    match cs.head?, cs.getLast? with
    | some lo, some hi =>
      decide (cs.length = hi + 1 - lo) && (s.houseBanks h).all (fun b => decide (lo ≤ b / 32 % 8) && decide (b / 32 % 8 ≤ hi)) &&
      (List.range 8).all (fun k => decide (k = h) || (formColumns (s.houseMask k)).all (fun x => !cs.contains x ||
        s.handoffs.all (fun e =>
          let named := (List.range 4).filter (fun i => bit e.2.forms (8 * i + x))
          decide (named.length = 0) || decide (named.length = 4))))
    | _, _ => true)

/-- TCD_ISO.COND (Table 15.5). -/
def State.isoCond (s : State) : List Bool :=
  [s.isoColumns,
   (List.range 8).all (fun h => decide (s.rdF (Reg.DMA_SHAREh h) 10 0 = 0) || bit (s.rd (Reg.DMA_SHAREh h)) 15),
   (List.range 4).all (fun p => !(s.pipe p).valid || !bit (s.rd (Reg.DLN_Pp_CTRL p)) 1),
   decide (((List.range 8).filter (fun h => !(s.houseBanks h).isEmpty)).length ≤ ((List.range 512).filter s.isSpare).length),
   s.accepted.all (fun a => a.due.all (fun d => s.hasOutput a.house d.1)),
   (List.range 32).all (fun f => !bit (s.rd (Reg.DLN_FORMf f)) 2) && decide (s.rdF Reg.DLN_CHIP 1 0 = 0)]

/-- The device identification code (R440). -/
def Fuses.idcode (f : Fuses) : Nat :=
  (if f.step = 0 then 0 else if f.step = 1 then 1 else 2) * 2 ^ 28 + 0x9160 * 2 ^ 12 + 0x2B5 * 2 + 1

/-- A global TCD register. -/
def State.tcdGlobal (s : State) (off : Nat) : Word :=
  let c := s.isoCond
  BitVec.ofNat 32 (
    if off = 0x1800000 then s.fuses.life * 2 ^ 8 + (if s.openDevice then 0xFF else s.scopedHouses)
    else if off = 0x1800004 then
      (c.zip (List.range 6)).foldl (fun m x => if x.1 then m + 2 ^ x.2 else m) (if c.all id then 2 ^ 31 else 0)
    else if off = 0x1800008 then s.fuses.idcode
    else if off = 0x180000C then s.fuses.keygen
    else 0)

/-- A register of a core's window (Table 15.10), by offset in the window. -/
def State.tcdReg (s : State) (c o : Nat) : Word :=
  let k := s.core c
  if o < 0x1000 then s.csrLive c (o / 4)
  else if o < 0x1400 then mapGet (fun _ => 0) k.handles ((o - 0x1000) / 4)
  else if o = 0x1800 then BitVec.ofNat 32 (k.halted.toNat * 8 + k.hos.toNat * 16)
  else if o = 0x1804 then BitVec.ofNat 32 k.pc
  else if o = 0x1808 then k.bp
  else if o = 0x1A00 then BitVec.ofNat 32 k.vsel
  else if !k.halted then 0
  else if o = 0x1880 then k.p.setWidth 32
  else if 0x1900 ≤ o ∧ o < 0x1980 then k.G ((o - 0x1900) / 4)
  else if 0x1A80 ≤ o ∧ o < 0x1B00 then BitVec.ofNat 32 ((k.V k.vsel).toNat / 2 ^ (8 * (o - 0x1A80)))
  else 0

/-- HALT: the core halts at the next bundle boundary. -/
def coreHalt (k : Core) : Core := { k with halted := true, stepping := false }
/-- RESUME: the core leaves the halt, past a breakpoint at its bundle. -/
def coreResume (k : Core) : Core := if k.halted then { k with halted := false, stepping := false, bpSkip := true } else k

/-- STEP: one bundle is issued, then the core halts. A bundle that stalls issues at a later attempt. -/
def State.coreStep (s : State) (c : Nat) : State :=
  let k := s.core c
  if k.halted then (s.setCore c { k with halted := false, stepping := true, bpSkip := true }).fetchIssue c else s

/-- A write in a core's window. -/
def State.tcdWrite (s : State) (c o : Nat) (v : Word) : State :=
  let k := s.core c
  if o = 0x1800 then
    let s := s.setCore c { k with hos := bit v 4 }
    let s := if bit v 0 then s.onCore c coreHalt else s
    let s := if bit v 1 then s.onCore c coreResume else s
    if bit v 2 then s.coreStep c else s
  else if o = 0x1808 then s.setCore c { k with bp := v &&& 0x80001FFF#32 }
  else if o = 0x1A00 then s.setCore c { k with vsel := fld v 4 0 }
  else if !k.halted then s
  else if o = 0x20 then s.setCore c (k.setC 8 (v &&& 0x1F#32))
  else if o = 0x1880 then s.setCore c { k with p := setBit (BitVec.ofNat 8 v.toNat) 0 true }
  else if 0x1900 ≤ o ∧ o < 0x1980 then s.setCore c (k.setG ((o - 0x1900) / 4) v)
  else if 0x1A80 ≤ o ∧ o < 0x1B00 then
    let i := 8 * (o - 0x1A80)
    s.setCore c (k.setV k.vsel (setFld (k.V k.vsel) (i + 31) i v.toNat))
  else s

/-! ### Reads with snapshots (R58) -/

/-- The upper word of the pair whose lower word lies at an offset (R58, R187, R213, R292, R472). -/
def upperOf (off : Nat) : Option Nat :=
  let lo : Bool := decide (off = Reg.RAS_SWAP_T_LO) || inWindow 0x100800 0x40 3 off (fun _ => decide (off % 0x40 = 0x10)) ||
    inWindow 0x101000 0x100 8 off (fun _ => decide (off % 0x100 = 0x18) || decide (off % 0x100 = 0x20)) ||
    inWindow 0x102000 0x40 4 off (fun _ => decide (off % 0x40 = 0x18)) || decide (off = Reg.PWR_STRUS_LO) || decide (off = Reg.PWR_GRANT_LO) ||
    inWindow 0x901000 0x40 96 off (fun _ => decide (off % 0x40 = 0x18)) ||
    inWindow 0xA00100 16 8 off (fun _ => decide (off % 16 = 0) || decide (off % 16 = 8)) ||
    inWindow 0x1000000 0x2000 1024 off (fun _ => decide (off % 0x2000 < 0x1000) && csrIsLo (off % 0x2000 / 4))
  if lo then some (off + 4) else none

/-- The word at an offset as the function reads it now; 0 where it sees nothing. -/
def State.barValue (s : State) (fn off : Nat) : Word :=
  if off < 0x1000000 then (if s.sees fn off then s.regValue fn off else 0)
  else if off < 0x1800000 then
    let c := (off - 0x1000000) / 0x2000
    if s.tcdOpen fn c then s.tcdReg c (off % 0x2000) else 0
  else if openToAll off || s.granted fn then s.tcdGlobal off else 0

/-- An aligned 32-bit read: a lower word takes a snapshot of its upper word, which the function's next read of the upper word returns. -/
def State.read32 (s : State) (fn off : Nat) : Word × State :=
  match upperOf off with
  | some hi => (s.barValue fn off, { s with snaps := mapSet (fun _ => none) s.snaps (Reg.own fn hi) (some (s.barValue fn hi)) })
  | none =>
    match mapGet (fun _ => none) s.snaps (Reg.own fn off), decide (upperOf (off - 4) = some off) with
    | some w, true => (w, { s with snaps := mapSet (fun _ => none) s.snaps (Reg.own fn off) none })
    | _, _ => (s.barValue fn off, s)

/-- A read of 1, 2, 4 or 8 bytes (R13): narrow reads take bytes of the word, a 64-bit read is two, lower address first. -/
def State.barRead (s : State) (fn off size : Nat) : State :=
  let a := off / 4 * 4
  let (lo, s) := s.read32 fn a
  if size = 8 then
    let (hi, s) := s.read32 fn (a + 4)
    s.emit (.readData fn off (lo.toNat + 2 ^ 32 * hi.toNat))
  else s.emit (.readData fn off (lo.toNat / 2 ^ (8 * (off % 4)) % 2 ^ (8 * size)))

/-! ### Mailboxes, queues, hall passes (R397 to R402, R412) -/

/-- BUSY of a function's mailbox. -/
def State.mbxBusy (s : State) (fn : Nat) : Bool := bit (s.rd (Reg.own fn Reg.MBX_STATUS)) 0

/-- A write that a busy mailbox discards. -/
def State.mbxLost (s : State) (fn : Nat) : State := s.wrF (Reg.own fn Reg.MBX_STATUS) 2 2 1

/-- A write of MBX_DOORBELL (R397). -/
def State.mbxDoorbell (s : State) (fn : Nat) (go : Bool) : State :=
  if s.mbxBusy fn then s.mbxLost fn else if go then s.wrF (Reg.own fn Reg.MBX_STATUS) 0 0 1 else s

/-- A write of QUE_q_TAIL (R399): DROP is W1C; TAIL moves on an enabled command queue, unless the ring would overfill. -/
def State.queTail (s : State) (q : Nat) (v : Word) : State :=
  let key := Reg.QUE_q_TAIL q
  let s := s.wr key (s.rd key &&& ~~~(v &&& 0xFFFF0000#32))
  if s.queueKind q ≠ 0 ∨ !s.queueOn q then s
  else
    let n := s.queueLen q
    let t := fld v 11 0
    let used := (s.queueTail q + n - s.queueHead q) % n
    let more := (t + n - s.queueTail q) % n
    if n ≤ t ∨ n ≤ used + more then s.wrF (Reg.QUE_q_HEAD q) 16 16 1 else s.wrF key 11 0 t

/-- A write of QUE_q_HEAD (R400): OVF is W1C; HEAD moves on an enabled completion or event queue, and records that it leaves send the
message. -/
def State.queHead (s : State) (q : Nat) (v : Word) : State :=
  let key := Reg.QUE_q_HEAD q
  let s := s.wr key (s.rd key &&& ~~~(v &&& 0x10000#32))
  if s.queueKind q = 0 ∨ !s.queueOn q then s
  else
    let s := s.wrF key 11 0 (fld v 11 0)
    match s.queueHouse q with
    | some h => if s.queueEmpty q then s else s.queueMsg h q
    | none => s

/-- A write of HPS_p_SIGNAL by a function (R401, R402): a pass of another House changes nothing. -/
def State.hpsSignal (s : State) (fn p n : Nat) : State :=
  if s.passHouse p = some fn ∧ n ≠ 0 then (s.signal p n (1108 + fn)).1 else s

/-- A write of EVT_C_MASK (R412): setting a bit whose STATUS bit is 1 sends the message. -/
def State.evtMask (s : State) (fn : Nat) (v : Word) : State :=
  let old := s.rd (Reg.own fn Reg.EVT_C_MASK)
  let s := s.wr (Reg.own fn Reg.EVT_C_MASK) v
  let irq := s.rd (Reg.own fn Reg.EVT_C_IRQ)
  if v &&& ~~~old &&& s.rd (Reg.own fn Reg.EVT_C_STATUS) ≠ 0 ∧ bit irq 6 then s.emit (.msix fn (fld irq 5 0)) else s

/-! ### Graphics shadows (R11, R334, R337) -/

/-- A commit that lists the layer is accepted and not applied on the layer's raster: RWL writes are discarded. -/
def State.glLocked (s : State) (g : Nat) : Bool :=
  let r := s.rdF (Reg.CMP_GLg_CTRL g) 5 3
  s.accepted.any (fun a => Nat.testBit a.gl g && a.due.any (fun d => decide (d.1 = r)))

/-- CMP_GLg_CTRL.DIRTY is set (R334). -/
def State.dirty (s : State) (g : Nat) : State := s.wrF (Reg.CMP_GLg_CTRL g) 21 21 1

/-! ### Writing (R11, R13, R14) -/

/-- A write under the access codes of the register's row. `locked`: its RWL fields are discarded. -/
def State.codeWrite (s : State) (key : Nat) (r : RegRow) (v : Word) (locked : Bool) : State :=
  let old := s.rd key
  let m : Nat → Word := fun n => BitVec.ofNat 32 n
  let plain := if locked then m r.rw else m r.rw ||| m r.rwl
  let w := (old &&& ~~~plain) ||| (v &&& plain)
  let w := (w &&& ~~~(v &&& m r.w1c)) ||| (v &&& m r.w1s)
  s.wr key (if r.ovf && bit v 16 then setFld w 15 0 0 else w)

/-- The row of a register that a write may change, with its behaviour. -/
def State.regWrite (s : State) (fn off : Nat) (v : Word) : State :=
  let key := keyFor fn off
  match regRow? off with
  | none => s
  | some r =>
    match window 0x500000 16 16384 off, window 0x600000 16 8192 off, window 0x901000 0x40 96 off, window 0x200400 0x40 8 off with
    | some q, _, _, _ => if off % 16 = 8 then s.queHead q v else if off % 16 = 12 then s.queTail q v else s
    | _, some p, _, _ => if off % 16 = 4 then s.hpsSignal fn p (fld v 15 0) else s.codeWrite key r v false
    | _, _, some e, _ =>
      if s.dmaHouse e ≠ fn then s
      else if off % 0x40 = 0x14 then (if bit v 0 then s.abortWindow (some fn) e else s)
      else s.codeWrite key r v false
    | _, _, _, some g =>
      if s.ownsLayer fn g then
        let lock := s.glLocked g && decide (r.rwl ≠ 0)
        let s := s.codeWrite key r v lock
        if lock then s.wrF (Reg.own fn Reg.CMP_SHSTAT) 0 0 1 else s
      else s.codeWrite key { r with rw := 0, rwl := 0, w1s := 0 } v false
    | _, _, _, _ =>
      if 0x10000 ≤ off ∧ off < 0x10040 then (if s.mbxBusy fn then s.mbxLost fn else s.codeWrite key r v false)
      else if off = Reg.MBX_DOORBELL then s.mbxDoorbell fn (bit v 0)
      else if off = Reg.EVT_C_MASK then s.evtMask fn v
      else if off = Reg.VIN_HF_TAIL then (if s.hfHouse = some fn then s.hfTailWrite (fld v 7 0) else s)
      else if off = Reg.VIN_HF_CTRL then (if s.hfHouse = some fn then s.hfCtrlWrite fn (bit v 0) else s)
      else if off = Reg.VIN_HF_BASE_LO ∨ off = Reg.VIN_HF_BASE_HI ∨ off = Reg.VIN_HF_SIZE then
        (if s.hfOn || decide (s.hfHouse ≠ some fn) then s else s.codeWrite key r v false)
      else if off = Reg.PWR_REQ then s.pwrReq (fld v 1 0)
      else s.codeWrite key r v false

/-- An aligned 32-bit write. -/
def State.write32 (s : State) (fn off : Nat) (v : Word) : State :=
  if off < 0x1000000 then (if s.sees fn off then s.regWrite fn off v else s)
  else if off < 0x1800000 then
    let c := (off - 0x1000000) / 0x2000
    if s.tcdOpen fn c then s.tcdWrite c (off % 0x2000) v else s
  else s

/-- A write of 1, 2, 4 or 8 bytes (R13): a narrow one is discarded and flagged, a 64-bit one is two, lower address first. -/
def State.barWrite (s : State) (fn off size : Nat) (v : BitVec 64) : State :=
  let a := off / 4 * 4
  if size < 4 then s.wrF Reg.DEV_ERRSTAT 0 0 1
  else
    let s := s.write32 fn a (BitVec.ofNat 32 v.toNat)
    if size = 8 then s.write32 fn (a + 4) (BitVec.ofNat 32 (v.toNat / 2 ^ 32)) else s

/-- A command of the host link: it reaches a device that is out of reset, in Full, Eco or Standby (Table 16.2). -/
def State.linked (s : State) (f : State → State) : State := if s.resetN && (s.power = .on || s.power = .standby) then f s else s

/-- The House, beside House 0, that sees the 48-bit counter whose lower word lies at an offset; none where no counter lies there. -/
def State.counterAt (s : State) (off : Nat) : Option (Option Nat) :=
  match window 0x102000 0x40 4 off, window 0xA00100 16 8 off, window 0x901000 0x40 96 off with
  | some p, _, _ => if off % 0x40 = 0x18 then some (some (s.pipe p).house) else none
  | _, some h, _ => if off % 8 = 0 then some (some h) else none
  | _, _, some e => if off % 0x40 = 0x18 then some (some (s.dmaHouse e)) else none
  | _, _, _ => if off = Reg.PWR_STRUS_LO ∨ off = Reg.PWR_GRANT_LO then some none else none

/-- PERF_WRAP: a counter that stands at its maximum counts one more (Table 14.10). -/
def State.perfWrap (s : State) (off : Nat) : State :=
  let c := (off - 0x1000000) / 0x2000
  let n := off % 0x2000 / 4
  if 0x1000000 ≤ off ∧ off < 0x1800000 ∧ off % 0x2000 < 0x1000 ∧ off % 4 = 0 ∧ csrIsLo n = true then
    let k := s.core c
    if (k.C n).toNat + 2 ^ 32 * (k.C (n + 1)).toNat = 2 ^ 48 - 1 then s.csrCount c n 1 else s
  else match s.counterAt off with
    | some h => if s.rd64 off (off + 4) = 2 ^ 48 - 1 then s.count48 off (off + 4) 1 h else s
    | none => s

/-! ### The Library aperture (R186) -/

/-- The Library address that a window offset reaches. -/
def State.apertureAddr (s : State) (fn o : Nat) : Nat :=
  (s.rdF (Reg.own fn Reg.LIB_APBASE) 8 0 + o / 0x40000) % 512 * 0x40000 + o % 0x40000

/-- An access of `n` bytes at a window offset: none where it is refused, else the Library address of each byte. -/
def State.apertureBytes (s : State) (fn o n : Nat) : Option (List Nat) :=
  let as := (List.range n).map (fun i => s.apertureAddr fn (o + i))
  if s.granted fn && decide (o + n ≤ 0x2000000) &&
      as.all (fun a => s.bankOk fn (bankOf a) && !s.bankBusy (bankOf a)) then some as else none

/-- A refused access is counted once, with the offset of its first byte. -/
def State.apertureRefused (s : State) (fn o : Nat) : State :=
  (s.countErr (Reg.own fn Reg.LIB_APERR)).wr (Reg.own fn Reg.LIB_APERR_ADDR) (BitVec.ofNat 32 (o % 2 ^ 25))

/-- A word with an uncorrectable error among the bytes is counted and reads 0, corrected ones are counted (R162, R163). -/
def State.apertureRead (s : State) (fn o n : Nat) : State :=
  match s.apertureBytes fn o n with
  | none => (s.apertureRefused fn o).emit (.readData fn (0x2000000 + o) 0)
  | some as =>
    let bytes := as.map (fun a => if (s.firstBad .lib a 1).isSome then (0 : Byte) else memRead s.lib a)
    let words := (as.map (fun a => a / 8 * 8)).eraseDups
    let s := words.foldl (fun s a => match s.firstBad .lib a 8 with | some b => s.libError true b | none => s.libCorrected a 8) s
    s.emit (.readData fn (0x2000000 + o) (leNat bytes))

/-- A write through the aperture. -/
def State.apertureWrite (s : State) (fn o : Nat) (bs : List Byte) : State :=
  match s.apertureBytes fn o bs.length with
  | none => s.apertureRefused fn o
  | some as => (as.zip bs).foldl (fun s x => s.store .lib x.1 [x.2]) s

end Sys2Proof.Machine
end

