-- ==== Sys2Proof/Machine/AccessRows.lean ====
section
/-! DEFINITION. The rows of the register accesses of the PCIe functions (Table 0.6 and the visibility rules), of the failed units and of debug in the windows. -/
namespace Sys2Proof.Machine

/-- REGISTER_WRITE (R11): a write of `size` bytes (1, 2, 4 or 8) by function fn below the Library aperture. -/
def execRegisterWrite (fn : Fin 8) (off : Fin 33554432) (size : Nat) (value : BitVec 64) (s : State) : Host.Outcome State Fault Refusal :=
  .next (s.linked (fun s => s.barWrite fn off size value))

/-- PAIR_SNAPSHOT_READ (R58): a read of `size` bytes by function fn below the Library aperture; a lower word of a pair takes the snapshot, the next read of the upper word returns it. -/
def execPairSnapshotRead (fn : Fin 8) (off : Fin 33554432) (size : Nat) (s : State) : Host.Outcome State Fault Refusal :=
  .next (s.linked (fun s => s.barRead fn off size))

/-- APERTURE_ACCESS (R186): an access at a window offset: the bytes of a write, or a read of `size` bytes. -/
def execApertureAccess (fn : Fin 8) (off : Fin 33554432) (size : Nat) (write : Option (List Byte)) (s : State) : Host.Outcome State Fault Refusal :=
  .next (s.powered (fun s => (match write with | some bs => s.apertureWrite fn off bs | none => s.apertureRead fn off size)))

/-- DIRTY (R334): a write of 1 to CMP_GLg_CTRL.DIRTY by function fn, of the House that owns the layer. -/
def execDirty (fn : Fin 8) (g : Fin 8) (s : State) : Host.Outcome State Fault Refusal :=
  .next (s.linked (fun s => if s.granted fn && s.ownsLayer fn g then s.dirty g else s))

/-- MBX_DOORBELL (R397): a write of MBX_DOORBELL by function fn. -/
def execMbxDoorbell (fn : Fin 8) (go : Bool) (s : State) : Host.Outcome State Fault Refusal :=
  .next (s.linked (fun s => s.write32 fn Reg.MBX_DOORBELL (BitVec.ofNat 32 go.toNat)))

/-- QUE_TAIL (R399): a write of QUE_q_TAIL by function fn. -/
def execQueTail (fn : Fin 8) (q : Fin 16384) (value : Word) (s : State) : Host.Outcome State Fault Refusal :=
  .next (s.linked (fun s => s.write32 fn (Reg.QUE_q_TAIL q) value))

/-- QUE_HEAD (R400): a write of QUE_q_HEAD by function fn. -/
def execQueHead (fn : Fin 8) (q : Fin 16384) (value : Word) (s : State) : Host.Outcome State Fault Refusal :=
  .next (s.linked (fun s => s.write32 fn (Reg.QUE_q_HEAD q) value))

/-- HPS_SIGNAL (R401): a write of HPS_p_SIGNAL by function fn. -/
def execHpsSignal (fn : Fin 8) (p : Fin 8192) (count : Fin 65536) (s : State) : Host.Outcome State Fault Refusal :=
  .next (s.linked (fun s => s.write32 fn (Reg.HPS_p_SIGNAL p) (BitVec.ofNat 32 count)))

/-- EVT_C_MASK (R412): a write of function fn's EVT_C_MASK. -/
def execEvtCMask (fn : Fin 8) (value : Word) (s : State) : Host.Outcome State Fault Refusal :=
  .next (s.linked (fun s => s.write32 fn Reg.EVT_C_MASK value))

/-- PERF_WRAP (R409): the 48-bit performance counter with its lower word at the offset, at its maximum, counts one more. -/
def execPerfWrap (off : Fin 33554432) (s : State) : Host.Outcome State Fault Refusal :=
  .next (s.powered (fun s => s.perfWrap off))

/-- DEAN_FAULT_NOTICE (R94): the Dean reads the fault record of core c. -/
def execDeanFaultNotice (c : Fin 1024) (s : State) : Host.Outcome State Fault Refusal :=
  .next (s.powered (fun s => s.faultNotice c))

/-- TILE_FAULT_RESPONSE (R286): the Dean acts on the fault of core c. -/
def execTileFaultResponse (c : Fin 1024) (s : State) : Host.Outcome State Fault Refusal :=
  .next (s.powered (fun s => s.faultResponse c))

/-- BREAKPOINT (R442): core c stands at its breakpoint address. -/
def execBreakpoint (c : Fin 1024) (s : State) : Host.Outcome State Fault Refusal :=
  .next (s.powered (fun s => s.breakHalt c))

/-- SHAPE_WORD_READ (R233): the arm of form f reads its shape word. -/
def execShapeWordRead (f : Fin 32) (s : State) : Host.Outcome State Fault Refusal :=
  .next (s.powered (fun s => s.shapeRead f))

/-- HANDOVER_COMPLETE (R168): bank b finishes its handover. -/
def execHandoverComplete (b : Fin 512) (s : State) : Host.Outcome State Fault Refusal :=
  .next (s.powered (fun s => s.handoverDone b))

/-- SHELF_FILL (R171): a fill that is out for a line of House h's shelf completes. -/
def execShelfFill (h : Fin 8) (line : Nat) (s : State) : Host.Outcome State Fault Refusal :=
  .next (s.powered (fun s => (if s.fills.contains (h.val, line / 64 * 64) then s.shelfFill h (line / 64 * 64) else s)))

/-- LIBRARY_SCRUB (R174): the scrubber reads its next row of bank b. -/
def execLibraryScrub (b : Fin 512) (s : State) : Host.Outcome State Fault Refusal :=
  .next (s.powered (fun s => s.scrub b))

/-- LIBRARY_UNC_RESPONSE (R288): Dvorzar acts on an uncorrectable error in bank b. -/
def execLibraryUncResponse (b : Fin 512) (s : State) : Host.Outcome State Fault Refusal :=
  .next (s.powered (fun s => s.uncResponse b))

/-- HALT (R444): a write of 1 to TCD_c_DBG.HALT by function fn. -/
def execHalt (fn : Fin 8) (c : Fin 1024) (s : State) : Host.Outcome State Fault Refusal :=
  .next (s.powered (fun s => if s.tcdOpen fn c then s.onCore c coreHalt else s))

/-- STEP (R444): a write of 1 to TCD_c_DBG.STEP by function fn. -/
def execStep (fn : Fin 8) (c : Fin 1024) (s : State) : Host.Outcome State Fault Refusal :=
  .next (s.powered (fun s => if s.tcdOpen fn c then s.coreStep c else s))

/-- RESUME (R444): a write of 1 to TCD_c_DBG.RESUME by function fn. -/
def execResume (fn : Fin 8) (c : Fin 1024) (s : State) : Host.Outcome State Fault Refusal :=
  .next (s.powered (fun s => if s.tcdOpen fn c then s.onCore c coreResume else s))

end Sys2Proof.Machine
end

