-- ==== Sys2Proof/Machine/BellRows.lean ====
section
/-! DEFINITION. The bell actions (Table 2.5), the bell-table swap and the hand-off. -/
namespace Sys2Proof.Machine

/-- BELL_SWAP_COMPLETE (R48): the old bank becomes the shadow bank, once line 0 of frame T has started. -/
def execBellSwapComplete (s : State) : Host.Outcome State Fault Refusal :=
  .next (s.powered State.swapDone)

/-- BELL_NOP (R44): the entry has matched; it has no effect. -/
def execBellNop (r : Fin 8) (entry : Fin 4096) (s : State) : Host.Outcome State Fault Refusal :=
  .next (s.powered (fun s => s.onBell r entry 0x0 (fun s _ _ => s)))

/-- PROG_START (R61): a band program starts on every enabled core of the named forms. -/
def execProgStart (r : Fin 8) (entry : Fin 4096) (s : State) : Host.Outcome State Fault Refusal :=
  .next (s.powered (fun s => s.onBell r entry 0x1 (fun s h d => s.progBell h d)))

/-- DMA_START (R190): a chain is queued on an engine. -/
def execDmaStart (r : Fin 8) (entry : Fin 4096) (s : State) : Host.Outcome State Fault Refusal :=
  .next (s.powered (fun s => s.onBell r entry 0x2 (fun s h d => s.bellDma h d)))

/-- BELL_COMMIT (R396): the commit set armed in the slot is accepted. -/
def execBellCommit (r : Fin 8) (entry : Fin 4096) (s : State) : Host.Outcome State Fault Refusal :=
  .next (s.powered (fun s => s.onBell r entry 0x3 (fun s h d => s.bellCommit h (fld d.bell.w2 7 0))))

/-- WARN (R275): the warning check of a band. -/
def execWarn (r : Fin 8) (entry : Fin 4096) (s : State) : Host.Outcome State Fault Refusal :=
  .next (s.powered (fun s => s.onBell r entry 0x4 (fun s h d => s.warn h d)))

/-- LATE (R276): the late check of a band. -/
def execLate (r : Fin 8) (entry : Fin 4096) (s : State) : Host.Outcome State Fault Refusal :=
  .next (s.powered (fun s => s.onBell r entry 0x5 (fun s h d => s.late_ h d)))

/-- HOST_EVT (R44): an event record goes to a queue. -/
def execHostEvt (r : Fin 8) (entry : Fin 4096) (s : State) : Host.Outcome State Fault Refusal :=
  .next (s.powered (fun s => s.onBell r entry 0x6 (fun s h d => s.hostEvt h r d)))

/-- WAKE (R91): cores that wait on the tag go on, the others latch it. -/
def execWake (r : Fin 8) (entry : Fin 4096) (s : State) : Host.Outcome State Fault Refusal :=
  .next (s.powered (fun s => s.onBell r entry 0x7 (fun s h d => s.wake h d)))

/-- HANDOFF (R424): hand-off entry i, when its line starts. -/
def execHandoff (i : Fin 64) (s : State) : Host.Outcome State Fault Refusal :=
  .next (s.powered (fun s => s.fireHandoff i))

end Sys2Proof.Machine
end

