-- ==== Sys2Proof/Machine/ControlRows.lean ====
section
/-! DEFINITION. The control-slot instructions (R91, Table 3.13, R405). -/
namespace Sys2Proof.Machine

/-- BWAIT (R91): waits for a WAKE bell with TAG, or takes a wake latch. -/
def execBwait (x : At) (body : BitVec 54) (s : State) : Host.Outcome State Fault Refusal :=
  .next (s.issue1 x.core 7 0x01 x.pg x.pn body)

/-- IWAIT (R91): waits for an input frame and line. -/
def execIwait (x : At) (body : BitVec 54) (s : State) : Host.Outcome State Fault Refusal :=
  .next (s.issue1 x.core 7 0x02 x.pg x.pn body)

/-- HSIG (R91): signals a hall pass after a full fence. -/
def execHsig (x : At) (body : BitVec 54) (s : State) : Host.Outcome State Fault Refusal :=
  .next (s.issue1 x.core 7 0x03 x.pg x.pn body)

/-- HWAIT (R91): waits on a hall pass. -/
def execHwait (x : At) (body : BitVec 54) (s : State) : Host.Outcome State Fault Refusal :=
  .next (s.issue1 x.core 7 0x04 x.pg x.pn body)

/-- FENCE_SL (R405): earlier stores visible before later loads. -/
def execFenceSl (x : At) (rsv : BitVec 50) (s : State) : Host.Outcome State Fault Refusal :=
  .next (s.issue1 x.core 7 0x05 x.pg x.pn (rsv ++ 1#4))

/-- FENCE_SS (R405): earlier stores visible before later stores. -/
def execFenceSs (x : At) (rsv : BitVec 50) (s : State) : Host.Outcome State Fault Refusal :=
  .next (s.issue1 x.core 7 0x05 x.pg x.pn (rsv ++ 2#4))

/-- FENCE_ALL (R405): every earlier access complete. -/
def execFenceAll (x : At) (rsv : BitVec 50) (s : State) : Host.Outcome State Fault Refusal :=
  .next (s.issue1 x.core 7 0x05 x.pg x.pn (rsv ++ 3#4))

/-- FENCE_M0 (R91): waits for the commands of array 0. -/
def execFenceM0 (x : At) (rsv : BitVec 50) (s : State) : Host.Outcome State Fault Refusal :=
  .next (s.issue1 x.core 7 0x05 x.pg x.pn (rsv ++ 4#4))

/-- FENCE_M1 (R91): waits for the commands of array 1. -/
def execFenceM1 (x : At) (rsv : BitVec 50) (s : State) : Host.Outcome State Fault Refusal :=
  .next (s.issue1 x.core 7 0x05 x.pg x.pn (rsv ++ 5#4))

/-- FENCE_M (R91): waits for the commands of both arrays. -/
def execFenceM (x : At) (rsv : BitVec 50) (s : State) : Host.Outcome State Fault Refusal :=
  .next (s.issue1 x.core 7 0x05 x.pg x.pn (rsv ++ 6#4))

/-- FENCE_X (R91): waits for transfers, landings and MVL results. -/
def execFenceX (x : At) (rsv : BitVec 50) (s : State) : Host.Outcome State Fault Refusal :=
  .next (s.issue1 x.core 7 0x05 x.pg x.pn (rsv ++ 7#4))

/-- ROLL (R222): draws a tile index. -/
def execRoll (x : At) (body : BitVec 54) (s : State) : Host.Outcome State Fault Refusal :=
  .next (s.issue1 x.core 7 0x06 x.pg x.pn body)

/-- TDONE (R226): reports a tile complete. -/
def execTdone (x : At) (body : BitVec 54) (s : State) : Host.Outcome State Fault Refusal :=
  .next (s.issue1 x.core 7 0x07 x.pg x.pn body)

/-- DONE (R63): ends the program. -/
def execDone (x : At) (body : BitVec 54) (s : State) : Host.Outcome State Fault Refusal :=
  .next (s.issue1 x.core 7 0x08 x.pg x.pn body)

/-- PSET (R91): p[PD] := IMM. -/
def execPset (x : At) (body : BitVec 54) (s : State) : Host.Outcome State Fault Refusal :=
  .next (s.issue1 x.core 7 0x09 x.pg x.pn body)

/-- PAND (R91): p[PD] := p[PA] AND p[PB]. -/
def execPand (x : At) (body : BitVec 54) (s : State) : Host.Outcome State Fault Refusal :=
  .next (s.issue1 x.core 7 0x0A x.pg x.pn body)

/-- POR (R91): p[PD] := p[PA] OR p[PB]. -/
def execPor (x : At) (body : BitVec 54) (s : State) : Host.Outcome State Fault Refusal :=
  .next (s.issue1 x.core 7 0x0B x.pg x.pn body)

/-- PXOR (R91): p[PD] := p[PA] XOR p[PB]. -/
def execPxor (x : At) (body : BitVec 54) (s : State) : Host.Outcome State Fault Refusal :=
  .next (s.issue1 x.core 7 0x0C x.pg x.pn body)

/-- PNOT (R91): p[PD] := NOT p[PA]. -/
def execPnot (x : At) (body : BitVec 54) (s : State) : Host.Outcome State Fault Refusal :=
  .next (s.issue1 x.core 7 0x0D x.pg x.pn body)

/-- LOOP (R80): starts a counted loop. -/
def execLoop (x : At) (body : BitVec 54) (s : State) : Host.Outcome State Fault Refusal :=
  .next (s.issue1 x.core 7 0x0E x.pg x.pn body)

/-- CWAIT (R91): waits for corridor units. -/
def execCwait (x : At) (body : BitVec 54) (s : State) : Host.Outcome State Fault Refusal :=
  .next (s.issue1 x.core 7 0x0F x.pg x.pn body)

/-- TRAP (R91): raises TRAP with CODE. -/
def execTrap (x : At) (body : BitVec 54) (s : State) : Host.Outcome State Fault Refusal :=
  .next (s.issue1 x.core 7 0x10 x.pg x.pn body)

end Sys2Proof.Machine
end

