-- ==== Sys2Proof/Machine/Governor.lean ====
section
/-! DEFINITION. The current governor (R127, R455, R456): its target, the stretch and the burst time. -/
namespace Sys2Proof.Machine

/-- The TDP that the limits use: PCAP in Eco (R450). -/
def State.govTdp (s : State) : Nat := if s.rdF Reg.PWR_STATE 2 0 = 1 then s.rdF Reg.PWR_ECO 17 8 else s.fuses.tdp

/-- The governor's target in watts. -/
def State.govTarget (s : State) : Nat := if bit (s.rd Reg.PWR_GOV) 16 then s.fuses.pSus else s.fuses.pPeak

/-- P1, in 0.1 W, is above the target minus 5 % of TDP: no grant is issued. -/
def State.powerHigh (s : State) : Bool := decide (20 * s.govTarget < 2 * s.rdF Reg.PWR_PNOW 15 0 + s.govTdp)

/-- P1 is below the target minus 7 % of TDP. -/
def State.powerLow (s : State) : Bool := decide (100 * s.rdF Reg.PWR_PNOW 15 0 + 70 * s.govTdp < 1000 * s.govTarget)

/-- Most steps by which the stretch changes in a microsecond: `pa` is P_A in µW, `arrays` the arrays enabled. -/
def State.stretchStep (s : State) (pa arrays : Nat) : Nat := 1280000 * s.govTdp / max 1 (pa * arrays)

/-- The stretch after a microsecond. -/
def State.nextStretch (s : State) (pa arrays : Nat) : Nat :=
  let v := s.rdF Reg.PWR_STRETCH 5 0
  if s.powerHigh then min 48 (v + s.stretchStep pa arrays)
  else if s.powerLow then v - s.stretchStep pa arrays
  else v

/-- The burst time after a microsecond, and the target that follows from it; cause 0x04 when the target moves to P_SUS (R456, R471). -/
def State.burstStep (s : State) : State :=
  let v := s.service
  let kept := v.burst.filter (fun t => decide (v.us < t + 100000))
  let burst := if 10 * s.fuses.pSus < s.rdF Reg.PWR_PNOW 15 0 then kept ++ [v.us] else kept
  let was := bit (s.rd Reg.PWR_GOV) 16
  let now := decide (2000 ≤ burst.length)
  let s := { s with service := { v with burst := burst, us := v.us + 1 } }
  let s := (s.wrF Reg.PWR_GOV 11 0 (min 2000 burst.length)).wrF Reg.PWR_GOV 16 16 now.toNat
  if now && !was then s.post 0 0x20 0 none [4] else s

/-- The stretch takes a value: it counts its microsecond, and marks the frame (R456, Table 10.4). -/
def State.setStretch (s : State) (v : Nat) : State :=
  let s := s.wrF Reg.PWR_STRETCH 5 0 v
  if v = 0 then s
  else
    let x := s.service
    State.count48 { s with service := { x with stretched := true, smax := max x.smax v } } Reg.PWR_STRUS_LO Reg.PWR_STRUS_HI 1 none

/-- GOVERNOR_TICK: every 100 ns the estimate of P1; at the tenth tick of a microsecond the burst time, the target and the stretch move. -/
def State.governorTick (s : State) (p1 p100 pa arrays : Nat) : State :=
  let s := s.wr Reg.PWR_PNOW (BitVec.ofNat 32 (p100 * 65536 + p1))
  let t := s.service.tick
  let s := { s with service := { s.service with tick := (t + 1) % 10 } }
  if t < 9 then s
  else
    let s := s.burstStep
    s.setStretch (s.nextStretch pa arrays)

end Sys2Proof.Machine
end

