-- ==== Sys2Proof/Machine/DeanCmd.lean ====
section
/-! DEFINITION. The Dean's commands: the record and its checks (R387, R388, R391, R392), buffers (R390), and how a command ends. -/
namespace Sys2Proof

/-- Word i of a command record (Table 14.1), from word 1 on. -/
def DeanCmd.w (d : DeanCmd) (i : Nat) : Word := if i = 1 then d.word1 else d.args.getD (i - 2) 0
/-- A field of a word of the record. -/
def DeanCmd.f (d : DeanCmd) (i hi lo : Nat) : Nat := fld (d.w i) hi lo
/-- The buffer address in words i and i + 1 (R390). -/
def DeanCmd.addr (d : DeanCmd) (i : Nat) : Nat := (d.w i).toNat + 2 ^ 32 * (d.w (i + 1)).toNat
/-- The command queue that the record came from, as a number. -/
def DeanCmd.from_ (d : DeanCmd) : Option Nat := d.src.map Fin.val

end Sys2Proof

namespace Sys2Proof.Machine

/-! ### The checks of the record -/

/-- The bits of word i that a command uses. -/
def usedMask (used : List (Nat × Nat)) (i : Nat) : Nat := ((used.find? (fun x => decide (x.1 = i))).map (·.2)).getD 0

/-- Reserved fields and unused words are 0 (R387). -/
def unusedTests (d : DeanCmd) (used : List (Nat × Nat)) : List FieldTest :=
  { bad := decide (d.res0.val ≠ 0), bitPos := 8 + lowBit d.res0, status := 2 } ::
  (List.range 15).map (fun i => reservedTest (i + 1) (d.w (i + 1)) (0xFFFFFFFF - usedMask used (i + 1)))

/-- The buffer address in words i and i + 1 is well formed (R390). -/
def addrTests (d : DeanCmd) (i : Nat) : List FieldTest :=
  [ fieldTest (decide (d.addr i % 64 ≠ 0)) i 0 2, reservedTest (i + 1) (d.w (i + 1)) 0x7FFF0000,
    fieldTest (bit (d.w (i + 1)) 31 && decide (d.addr i % 2 ^ 48 / 2 ^ 27 ≠ 0)) i 0 2 ]

/-- A byte of a block that must be 0. -/
def zeroByte (bs : List Byte) (o : Nat) : FieldTest :=
  { bad := decide (bs.getD o 0 ≠ 0), bitPos := 8 * o + lowBit (bs.getD o 0).toNat, status := 2 }

/-- `n` bytes of a block from an offset that must be 0. -/
def zeroBytes (bs : List Byte) (o n : Nat) : List FieldTest := (List.range n).map (fun i => zeroByte bs (o + i))

/-- Bits of a field of a block that must be 0: the field's offset and value, and their mask. -/
def maskTest (o v mask : Nat) : FieldTest := { bad := decide (v &&& mask ≠ 0), bitPos := 8 * o + lowBit (v &&& mask), status := 2 }

/-- A test of the field at an offset of a block. -/
def byteTest (bad : Bool) (o status : Nat) : FieldTest := { bad := bad, bitPos := 8 * o, status := status }

/-! ### How a command ends -/

/-- What a command comes to: it fails and has no effect, it completes with OK, its results and its effect, it completes later, or it has to
wait before it can be carried out (a host page of its buffer). -/
inductive Answer where
  | fail (e : CmdErr)
  | ok (res : List Nat) (s : State)
  | later (s : State)
  | hold (s : State)

/-- A check before an answer. -/
def checked (c : Check) (a : Answer) : Answer :=
  match c with
  | some e => .fail e
  | none => a

/-- A status, with the word of the record whose field has failed. -/
def wordErr (bad : Bool) (i status : Nat) : Check := if bad then some { status := status, detail := 4 * i } else none

/-- A status, with the offset of the field of a block that has failed. -/
def blockErr (bad : Bool) (o status : Nat) : Check := if bad then some { status := status, detail := o, block := true } else none

/-- DETAIL and BLOCK as word 1 [15:0] of the completion (Table 14.2). -/
def CmdErr.word (e : CmdErr) : Nat := e.detail + 2 ^ 15 * e.block.toNat

/-- A source of commands waits for a command that it has started (R389). -/
def State.outstanding (s : State) (h : Nat) (src : Option Nat) : Bool :=
  let mine : Option (Nat × Option Nat × Nat) → Bool := fun w => match w with
    | some (k, q, _) => decide (k = h) && decide (q = src)
    | none => false
  s.engines.any (fun x => mine x.2.waiter || x.2.starts.any (fun st => mine st.waiter)) || s.service.marches.any (fun m => mine m.waiter) ||
  (decide (h = 0) && decide (s.service.swapWaiter.map (·.1) = some src))

/-- The Dean takes commands of a House from a source: a granted function's mailbox, or an enabled command queue of the House (R371, R398). -/
def State.takesFrom (s : State) (h : Nat) (src : Option Nat) : Bool :=
  s.granted h && !s.outstanding h src &&
  match src with
  | none => true
  | some q => s.queueOn q && decide (s.queueKind q = 0) && decide (s.queueHouse q = some h)

/-- A command's record is checked and the command carried out; the second part says that it has been taken (R385 to R391). The issuer is checked
first, then the fields of the record, then what the command rests on. -/
def State.deanTake (s : State) (op : Nat) (only0 standby : Bool) (tests : List FieldTest) (d : DeanCmd) (run : State → Answer) : State × Bool :=
  let dean := s.rdF Reg.MBX_DEAN 3 0
  let end_ : Nat → Nat → List Nat → State → State := fun st det res t =>
    t.completeTo (d.from_.map (fun q => (s.qaux q).pair)) d.house d.from_ op d.tag st det res
  if !s.takesFrom d.house d.from_ then (s, false)
  else if dean = 2 ∨ (dean = 4 ∧ d.house = 0 ∧ d.src = none) then
    let c := firstErr [ plainErr (decide (dean = 4 ∧ op ≠ 0x15)) 0xC, plainErr (only0 && decide (d.house ≠ 0)) 3, pickErr false tests,
      plainErr (!standby && decide (s.power = .standby)) 0xC ]
    match checked c (run s) with
    | .fail e => (end_ e.status e.word [] s, true)
    | .ok res s => (end_ 0 0x7FFF res s, true)
    | .later s => (s, true)
    | .hold s => (s, false)
  else (s, false)

/-- The row of a command. -/
def State.dean (s : State) (t : State → State × Bool) : State := (t s).1

/-! ### Buffers (R390) -/

/-- Where a buffer lies. -/
inductive BufPlace where
  | lib (a : Nat)
  | dram (a : Nat)
  | host (a : Nat)
  deriving DecidableEq, Repr

/-- The place of a buffer address: bit 63 names a Library bank; else the House's LPDDR5X space for a command from a queue in the Library, and
host memory for any other. -/
def State.bufPlace (s : State) (src : Option Nat) (a : Nat) : BufPlace :=
  if a / 2 ^ 63 = 1 then .lib (a % 2 ^ 27)
  else match src with
    | some q => if s.queueLib q then .dram (a % 2 ^ 48) else .host (a % 2 ^ 48)
    | none => .host (a % 2 ^ 48)

/-- What stands in the way of a transfer of `n` bytes of a buffer of House h; `o` and `block` say what DETAIL names. -/
inductive BufState where
  | good
  | bad (e : CmdErr)
  | wait (page : Nat)

/-- The state of a buffer. -/
def State.bufState (s : State) (h : Nat) (p : BufPlace) (n o : Nat) (block : Bool) : BufState :=
  match p with
  | .lib a =>
    if !s.banksOk h a n then .bad { status := 3, detail := o, block := block }
    else if (s.firstBad .lib a n).isSome then .bad { status := 0xD } else .good
  | .dram a => if (s.firstUnmapped h a n).isSome then .bad { status := 0xD } else .good
  | .host a =>
    match s.hostRanges h [(a, n)] with
    | .ok => .good
    | .wait p => if Nat.testBit s.priOn h then .wait p else .bad { status := 0xD }
    | .refused => .bad { status := 0xD }

/-- The bytes of a buffer. -/
def State.bufRead (s : State) (h : Nat) (p : BufPlace) (n : Nat) : List Byte :=
  match p with
  | .lib a => s.load .lib a n
  | .dram a => s.dramRead h a n
  | .host a => s.hostRead h a n

/-- Bytes written in a buffer. -/
def State.bufWrite (s : State) (h : Nat) (p : BufPlace) (bs : List Byte) : State :=
  match p with
  | .lib a => s.bankWriteFor 1092 h a bs
  | .dram a => s.dramWrite h a bs
  | .host a => s.hostWrite h a bs

/-- A command goes on with the bytes of a buffer at an address that word or offset `o` names. -/
def State.withBytes (s : State) (d : DeanCmd) (a n o : Nat) (block : Bool) (f : State → List Byte → Answer) : Answer :=
  let p := s.bufPlace d.from_ a
  match s.bufState d.house p n o block with
  | .bad e => .fail e
  | .wait pg => .hold (s.askPage d.house pg)
  | .good =>
    let t := match p with
      | .lib a => s.libCorrected a n
      | _ => s
    f t (s.bufRead d.house p n)

/-- A command goes on with `n` bytes of the buffer that words i and i + 1 name. -/
def State.withBuf (s : State) (d : DeanCmd) (i n : Nat) (f : State → List Byte → Answer) : Answer := s.withBytes d (d.addr i) n (4 * i) false f

/-- The words of a block of 64 bytes. -/
def blockWords (bs : List Byte) : List Word := (List.range 16).map (fun i => BitVec.ofNat 32 (num bs (4 * i) 4))

end Sys2Proof.Machine
end

