-- ==== Sys2Proof/Machine/DeanQueues.lean ====
section
/-! DEFINITION. Commands on queues, hall passes, chains, the shelf, status and units (Table 14.4): QUEUE_CREATE, QUEUE_DESTROY, HPASS_SET,
HPASS_WAIT, DMA_RUN, SHELF_FLUSH, BAND_STATUS, PIPE_STATUS, TIER_FLOOR, CORE_RETIRE, CORE_REJOIN, MARCH_RUN. -/
namespace Sys2Proof.Machine

/-- A NOP completes with no effect. -/
def State.cmdNop (d : DeanCmd) (s : State) : State × Bool := s.deanTake 0x01 false true (unusedTests d []) d (fun s => .ok [] s)

/-! ### Queues (R398, R399) -/

/-- The command queues that are paired with a completion queue. -/
def State.pairedWith (s : State) (q : Nat) : List Nat :=
  (s.queueAux.filter (fun x => decide (x.2.pair = q) && s.queueOn x.1 && decide (s.queueKind x.1 = 0))).map (·.1)

/-- Posts the POWER causes that were held until House 0 enables its first event queue with the POWER bit (R471). -/
def State.postHeld (s : State) : State :=
  s.service.held.foldl (fun s c => s.post 0 0x20 0 none [c]) { s with service := { s.service with held := [] } }

/-- A queue configured: its registers, its pair and its mask. -/
def State.queueSet (s : State) (h q addr cfg pair : Nat) (mask : Word) : State :=
  let s := (s.wr (Reg.QUE_q_BASE q) (BitVec.ofNat 32 addr)).wr (Reg.QUE_q_CFG q) (BitVec.ofNat 32 (cfg + addr / 2 ^ 32 % 2 ^ 16))
  let s := (s.wr (Reg.QUE_q_HEAD q) 0).wr (Reg.QUE_q_TAIL q) 0
  let s := { s with queueAux := mapSet (fun _ => {}) s.queueAux q { pair := pair, mask := mask } }
  if h = 0 && s.queueKind q = 2 && bit mask 16 then s.postHeld else s

/-- QUEUE_CREATE. -/
def State.cmdQueueCreate (d : DeanCmd) (s : State) : State × Bool :=
  let h := d.house.val
  let q := d.f 2 13 0
  let log2 := d.f 5 3 0
  let kind := d.f 5 5 4
  let lib := bit (d.w 5) 6
  let pair := d.f 6 13 0
  let a := d.addr 3 % 2 ^ 48
  let tests := unusedTests d [(2, 0x3FFF), (3, 0xFFFFFFFF), (4, 0xFFFFFFFF), (5, 0x3FFF), (6, if kind = 0 then 0x3FFF else 0),
      (7, if kind = 2 then 0xFFFFFFFF else 0)] ++ addrTests d 3 ++
    [ fieldTest (decide (bit (d.w 4) 31 ≠ lib)) 3 0 2, fieldTest (decide (log2 = 0) || decide (12 < log2)) 5 0 2, fieldTest (decide (kind = 3)) 5 4 2 ]
  s.deanTake 0x02 false true tests d (fun s =>
    checked (firstErr [
      wordErr (decide (s.queueHouse q ≠ some h)) 2 3,
      wordErr (decide (kind = 0) && decide (s.queueHouse pair ≠ some h)) 6 3,
      wordErr (lib && !s.banksOk h a (64 * 2 ^ log2)) 3 3,
      wordErr (s.queueOn q) 2 5,
      wordErr (decide (kind = 0) && (!s.queueOn pair || decide (s.queueKind pair ≠ 1) || !(s.pairedWith pair).isEmpty)) 6 6 ])
    (.ok [] (s.queueSet h q a (2 ^ 31 + d.f 5 13 13 * 2 ^ 30 + d.f 5 12 7 * 2 ^ 24 + kind * 2 ^ 22 + lib.toNat * 2 ^ 21 + log2 * 2 ^ 16) pair
      (d.w 7))))

/-- A queue's registers at their reset values, and what the device keeps beside them. -/
def State.queueClear (s : State) (q : Nat) : State :=
  let s := (((s.wr (Reg.QUE_q_BASE q) 0).wr (Reg.QUE_q_CFG q) 0).wr (Reg.QUE_q_HEAD q) 0).wr (Reg.QUE_q_TAIL q) 0
  { s with queueAux := mapSet (fun _ => {}) s.queueAux q {} }

/-- The commands that stand in a command queue and are not started, as records. -/
def State.queueWaiting (s : State) (h q : Nat) : List (List Byte) :=
  let n := s.queueLen q
  (List.range ((s.queueTail q + n - s.queueHead q) % n)).map (fun i => s.queueLoad h q ((s.queueHead q + i) % n))

/-- Commands not started complete with ABORTED (Table 14.3). -/
def State.abortQueue (s : State) (h q : Nat) : State :=
  if s.queueKind q = 0 then
    (s.queueWaiting h q).foldl (fun s bs => s.complete h (some q) (num bs 0 1) (num bs 2 2) 0xE 0x7FFF []) s
  else s

/-- QUEUE_DESTROY. -/
def State.cmdQueueDestroy (d : DeanCmd) (s : State) : State × Bool :=
  let h := d.house.val
  let q := d.f 2 13 0
  s.deanTake 0x03 false true (unusedTests d [(2, 0x3FFF)]) d (fun s =>
    checked (firstErr [
      wordErr (decide (s.queueHouse q ≠ some h)) 2 3,
      wordErr (s.queueOn q && decide (s.queueKind q = 1) && !(s.pairedWith q).isEmpty) 2 6 ])
    (.ok [] (if s.queueOn q then (s.abortQueue h q).queueClear q else s)))

/-! ### Hall passes (R401) -/

/-- HPASS_SET. -/
def State.cmdHpassSet (d : DeanCmd) (s : State) : State × Bool :=
  let p := d.f 2 12 0
  s.deanTake 0x1C false true (unusedTests d [(2, 0x1FFF), (3, 0xFFFFFFFF)]) d (fun s =>
    checked (wordErr (decide (s.passHouse p ≠ some d.house.val)) 2 3) (.ok [] ((s.wr (Reg.HPS_p_VALUE p) (d.w 3)).servePass p)))

/-- Waits of HPASS_WAIT commands of a House that stand in the lists. -/
def State.cmdWaits (s : State) (h : Nat) : Nat :=
  (s.waiters.filter (fun w => match w.who with | .cmd k _ _ => decide (k = h) | _ => false)).length

/-- HPASS_WAIT. -/
def State.cmdHpassWait (d : DeanCmd) (s : State) : State × Bool :=
  let h := d.house.val
  let p := d.f 2 12 0
  let q := d.f 4 13 0
  s.deanTake 0x1D false true (unusedTests d [(2, 0x1FFF), (3, 0xFFFFFFFF), (4, 0x3FFF), (5, 0xFFFF)]) d (fun s =>
    checked (firstErr [
      wordErr (decide (s.passHouse p ≠ some h)) 2 3,
      wordErr (decide (s.queueHouse q ≠ some h)) 4 3,
      plainErr (decide (256 ≤ s.cmdWaits h)) 4 ])
    (.ok [] (s.join p (d.w 3).toNat (.cmd h q (d.f 5 15 0)))))

/-! ### Chains and the shelf -/

/-- DMA_RUN: a start in the House's context of a system engine; the command completes when the chain ends. -/
def State.cmdDmaRun (d : DeanCmd) (s : State) : State × Bool :=
  let h := d.house.val
  let e := 64 + 8 * d.f 2 1 0 + h
  let a := d.f 3 26 0
  s.deanTake 0x1E false false (unusedTests d [(2, 3), (3, 0x7FFFFFF)] ++ [fieldTest (decide (a % 64 ≠ 0)) 3 0 2]) d (fun s =>
    let x := s.eng e
    checked (wordErr (decide (4 ≤ x.starts.length)) 2 5)
      (.later ((s.setEng e { x with starts := x.starts ++ [{ addr := a, house := h, waiter := some (h, d.from_, d.tag) }] }).dmaDepth e)))

/-- SHELF_FLUSH (R172). -/
def State.cmdShelfFlush (d : DeanCmd) (s : State) : State × Bool :=
  s.deanTake 0x1F false true (unusedTests d [(2, 0xFFFFFFFF), (3, 0xFFFFFFFF), (4, 0xFFFFFFFF), (5, 1)]) d (fun s =>
    .ok [] (s.flushRange d.house (d.addr 2) (d.w 4).toNat (bit (d.w 5) 0)))

/-! ### Status -/

/-- The forms that a House's loaded images use. -/
def State.loadedForm (s : State) (h f : Nat) : Bool :=
  s.models.any (fun m => decide (m.house = h) && m.images.any (fun im => Nat.testBit im.formMask f))

/-- BAND_STATUS: the roll-counter window of a form and its preemptions. -/
def State.cmdBandStatus (d : DeanCmd) (s : State) : State × Bool :=
  let f := d.f 2 4 0
  s.deanTake 0x19 false true (unusedTests d [(2, 0x1F)]) d (fun s =>
    checked (wordErr (!s.loadedForm d.house f) 2 3)
      (.ok ((List.range 10).map (fun i => (s.rd (Reg.RC_BAND f + 4 * i)).toNat) ++ [(s.formTier f).preempts % 2 ^ 32]) s))

/-- PIPE_STATUS: the slot registers and the pipeline's window of Table 9.6. -/
def State.cmdPipeStatus (d : DeanCmd) (s : State) : State × Bool :=
  let p := d.f 2 1 0
  s.deanTake 0x1A false true (unusedTests d [(2, 3)]) d (fun s =>
    checked (wordErr (!s.ownsPipe d.house p) 2 3)
      (.ok ([s.rd Reg.FFJ_SLOTS, s.rd Reg.FFJ_SLOTEN, s.rd (Reg.FFJ_Pp_LIST p), s.rd (Reg.FFJ_Pp_WALK p), s.rd (Reg.FFJ_Pp_ERR p), 0].map
        BitVec.toNat) s))

/-! ### Tiers and units -/

/-- TIER_FLOOR: DLN_Pp_CTRL.FLOOR, from the next arm (R283). -/
def State.cmdTierFloor (d : DeanCmd) (s : State) : State × Bool :=
  let p := d.f 2 1 0
  s.deanTake 0x11 false true (unusedTests d [(2, 3), (3, 3)]) d (fun s =>
    checked (wordErr (!s.ownsPipe d.house p) 2 3) (.ok [] (s.wrF (Reg.DLN_Pp_CTRL p) 5 4 (d.f 3 1 0))))

/-- CORE_RETIRE of a core, or of one of its arrays: the last array of a core takes the core with it (Table 10.5). -/
def State.cmdCoreRetire (d : DeanCmd) (s : State) : State × Bool :=
  let c := d.f 2 9 0
  let only := bit (d.w 3) 0
  let a := d.f 3 1 1
  s.deanTake 0x12 true true (unusedTests d [(2, 0x3FF), (3, if only then 3 else 1)]) d (fun s =>
    checked (plainErr ((s.core c).retired || (only && !s.arrayOn c a)) 0xC)
      (.ok [] (if only && !s.fold c then s.loseArray c a else s.retireCore c)))

/-- CORE_REJOIN of a retired core that has passed a march since (R289). -/
def State.cmdCoreRejoin (d : DeanCmd) (s : State) : State × Bool :=
  let c := d.f 2 9 0
  s.deanTake 0x13 true true (unusedTests d [(2, 0x3FF)]) d (fun s =>
    let k := s.core c
    checked (plainErr (!k.retired || !k.marched) 0xC)
      (.ok [] (((s.setCore c { k with retired := false, marched := false }).unitChange 1 c).lossPart (c / 32))))

/-- A target of MARCH_RUN that Table 6.9 allows: a bank that the Dean owns or a retired one, idle, or a retired core. -/
def State.marchTarget (s : State) (core : Bool) (n : Nat) : Bool :=
  if core then (s.core n).retired else !s.bankBusy n && (decide (s.bankOwner n = 8) || s.bankRetired n)

/-- MARCH_RUN (R182 to R184): the command completes when the run ends. -/
def State.cmdMarchRun (d : DeanCmd) (s : State) : State × Bool :=
  let core := bit (d.w 2) 0
  let n := d.f 3 9 0
  let keep := bit (d.w 4) 0
  s.deanTake 0x14 true true (unusedTests d [(2, 1), (3, 0x3FF), (4, 1)] ++
      [fieldTest (!core && decide (511 < n)) 3 0 2, fieldTest (core && keep) 4 0 2]) d (fun s =>
    checked (plainErr (!s.marchTarget core n) 0xC)
      (.later (s.startMarch { core := core, unit := n, preserving := keep, waiter := some (d.house, d.from_, d.tag) })))

/-- MARCH_COMPLETE: the run ends, and the MARCH_RUN that waits for it completes with LIB_MARCH and the cycles. -/
def State.marchComplete (s : State) (fail : Bool) : State :=
  match s.marchDone fail with
  | (some (m, _), s) =>
    (match m.waiter with
     | some (h, q, tag) => s.complete h q 0x14 tag 0 0x7FFF [(s.rd Reg.LIB_MARCH).toNat, (s.rd Reg.LIB_MARCH_TIME).toNat]
     | none => s)
  | (none, s) => s

end Sys2Proof.Machine
end

