-- ==== Sys2Proof/Machine/DeanGrant.lean ====
section
/-! DEFINITION. Commands of House 0 that give the Houses their resources (Table 14.4): HOUSE_GRANT (R393, R420 to R422), BANK_HANDOVER (R168,
R169, R419), PIPE_CREATE and PIPE_DESTROY (R394). -/
namespace Sys2Proof.Machine

/-- One entry more for the configuration journal (R454). -/
def State.journalAdd (s : State) : State := { s with service := { s.service with journalPend := s.service.journalPend + 1 } }

/-! ### The grant block (Table 14.5) -/

/-- The fields of a grant block. -/
structure GrantBlock where
  house : Nat
  qbase : Nat
  qcount : Nat
  hbase : Nat
  hcount : Nat
  bbase : Nat
  bcount : Nat
  cbase : Nat
  ccount : Nat
  outputs : Nat
  inputs : Nat
  glayers : Nat
  canvases : Nat
  forms : Nat
  share : Nat
  quota : Nat
  flashBase : Nat
  flashSize : Nat
  flashBps : Nat
  xlate : Nat
  call : Bool
  deriving DecidableEq, Repr

/-- The fields of 64 bytes. -/
def grantOf (b : List Byte) : GrantBlock :=
  { house := num b 0 1, qbase := num b 4 2, qcount := num b 6 2, hbase := num b 8 2, hcount := num b 10 2, bbase := num b 12 2
    bcount := num b 14 2, cbase := num b 16 1, ccount := num b 17 1, outputs := num b 18 1, inputs := num b 19 1, glayers := num b 20 1
    canvases := num b 21 3, forms := num b 24 4, share := num b 28 2, quota := num b 30 2, flashBase := num b 32 4, flashSize := num b 36 4
    flashBps := num b 40 4, xlate := num b 44 8, call := decide (num b 52 1 % 2 = 1) }

/-- The fields are in range and reserved ones are 0. -/
def grantTests (arg2 : Nat) (b : List Byte) : List FieldTest :=
  let g := grantOf b
  zeroBytes b 1 3 ++ zeroBytes b 53 11 ++
  [ byteTest (decide (g.house ≠ arg2)) 0 2, byteTest (decide (16384 < g.qbase + g.qcount)) 4 2,
    byteTest (decide (8192 < g.hbase + g.hcount)) 8 2, byteTest (decide (4096 < g.bbase + g.bcount)) 12 2,
    byteTest (decide (256 < g.cbase + g.ccount) || (g.call && decide (g.cbase ≠ 0))) 16 2, byteTest (g.call && decide (g.ccount ≠ 0)) 17 2,
    maskTest 19 g.inputs 0xF8, maskTest 28 g.share 0x7800, byteTest (decide (1024 < g.share % 2048)) 28 2,
    byteTest (decide (g.xlate % 64 ≠ 0) || (decide (g.xlate / 2 ^ 63 = 1) && decide (g.xlate % 2 ^ 48 / 2 ^ 27 ≠ 0))) 44 2,
    maskTest 48 (g.xlate / 2 ^ 32) 0x7FFF0000, maskTest 52 (num b 52 1) 0xFE ]

/-- Two ranges meet. -/
def meet (a n b m : Nat) : Bool := decide (0 < n) && decide (0 < m) && decide (a < b + m) && decide (b < a + n)

/-- The commit slots of a grant: first and count. -/
def slotRange (base count : Nat) (call : Bool) : Nat × Nat := if call then (0, 256) else (base, count)

/-- The grant meets resources of another House (R393); the offset of the field. -/
def State.grantMeets (s : State) (g : GrantBlock) (k : Nat) : List FieldTest :=
  let o := s.grant k
  let r := fun (key cntHi baseHi : Nat) => (s.rdF key baseHi 0, s.rdF key cntHi 16)
  let q := r (Reg.QUE_HRANGEh k) 30 13
  let p := r (Reg.HPS_HRANGEh k) 29 12
  let e := r (Reg.RAS_HRANGEh k) 28 11
  let a := slotRange g.cbase g.ccount g.call
  let c := slotRange o.cbase o.ccount o.call
  [ byteTest (meet g.qbase g.qcount q.1 q.2) 4 6, byteTest (meet g.hbase g.hcount p.1 p.2) 8 6, byteTest (meet g.bbase g.bcount e.1 e.2) 12 6,
    byteTest (meet a.1 a.2 c.1 c.2) 16 6, byteTest (decide (g.outputs &&& o.outputs ≠ 0)) 18 6,
    byteTest (decide (g.inputs &&& o.inputs ≠ 0)) 19 6, byteTest (decide (g.glayers &&& o.glayers ≠ 0)) 20 6,
    byteTest (meet g.flashBase g.flashSize o.flashBase o.flashSize) 32 6 ]

/-! ### What a House still uses -/

/-- Something of a list lies in the old range and not in the new one. -/
def leaves (old new : Nat × Nat) (xs : List Nat) : Bool :=
  xs.any (fun x => decide (old.1 ≤ x) && decide (x < old.1 + old.2) && !(decide (new.1 ≤ x) && decide (x < new.1 + new.2)))

/-- A graphics layer is fetched, or is set to be. -/
def State.layerUsed (s : State) (g : Nat) : Bool := bit (s.rd (Reg.CMP_GLg_CTRL g)) 0 || bit (s.glAct (Reg.CMP_GLg_CTRL g)) 0

/-- The grant would remove something that its House still uses (R393), or a sink that feeds a pipeline of another House (R356). -/
def State.grantRemoves (s : State) (g : GrantBlock) : List FieldTest :=
  let h := g.house
  let o := s.grant h
  let r := fun (key cntHi baseHi : Nat) => (s.rdF key baseHi 0, s.rdF key cntHi 16)
  let gone := fun (old new : Nat) => (List.range 32).filter (fun i => Nat.testBit old i && !Nat.testBit new i)
  let e := r (Reg.RAS_HRANGEh h) 28 11
  let staged := (s.commitSlots.filter (fun x => decide (x.2 ≠ {}))).map (·.1)
  let bells := ((s.bells.filter (fun x => decide (x.1 / 4096 = s.bellBank) && bit x.2.w1 4)).map (fun x => x.1 % 4096)).filter
    (fun x => decide (e.1 ≤ x) && decide (x < e.1 + e.2))
  [ byteTest (leaves (r (Reg.QUE_HRANGEh h) 30 13) (g.qbase, g.qcount) ((s.queueAux.filter (fun x => s.queueOn x.1)).map (·.1) ++
      ((List.range 16384).filter (fun q => decide (s.queueHouse q = some h) && s.queueOn q)))) 4 6,
    byteTest (leaves (r (Reg.HPS_HRANGEh h) 29 12) (g.hbase, g.hcount) (s.waiters.map (·.pass))) 8 6,
    byteTest (!bells.isEmpty && (decide (g.bbase ≠ e.1) || leaves e (g.bbase, g.bcount) bells)) 12 6,
    byteTest (leaves (slotRange o.cbase o.ccount o.call) (slotRange g.cbase g.ccount g.call) staged) 16 6,
    byteTest ((gone o.outputs g.outputs).any (fun n => decide (n < 8) && s.rasterOn n)) 18 6,
    byteTest ((gone o.inputs g.inputs).any (fun t => (List.range 4).any (fun p => s.ownsPipe h p && decide ((s.pipe p).source = t))) ||
      (List.range 3).any (fun t => Nat.testBit g.inputs t && (List.range 4).any (fun p => (s.pipe p).valid && decide ((s.pipe p).house ≠ h) &&
        decide ((s.pipe p).source = t)))) 19 6,
    byteTest ((gone o.glayers g.glayers).any (fun l => decide (l < 8) && s.layerUsed l)) 20 6,
    byteTest ((gone o.forms g.forms).any (fun f => s.loadedForm h f)) 24 6,
    byteTest (decide (g.quota < (s.houseBanks h).length)) 30 6,
    byteTest ((decide (g.flashBase ≠ o.flashBase) || decide (g.flashSize ≠ o.flashSize)) && decide (0 < o.flashSize) &&
      s.hw.any (fun x => x.2.enable && s.models.any (fun m => decide (m.handle = x.1) && decide (m.house = h)))) 32 6 ]

/-! ### The translation table (R420 to R422) -/

/-- Entry i of a House's table as it stands. -/
def State.xlateEntry (s : State) (h i : Nat) : Word := mapGet (fun _ => (0 : Word)) s.xlate (h * 2 ^ 12 + i)

/-- The table's header is well formed. -/
def xlateHeader (b : List Byte) : List FieldTest :=
  [byteTest (decide (num b 0 4 ≠ 0x4C584E48)) 0 2, byteTest (decide (2048 < num b 4 2)) 4 2] ++ zeroBytes b 6 58

/-- The entries of a table. -/
def xlateEntries (b : List Byte) : List Word := (List.range (num b 4 2)).map (fun i => BitVec.ofNat 32 (num b (64 + 4 * i) 4))

/-- The first entry that fails a test, as an error at its offset. -/
def entryErr (ws : List Word) (bad : Nat → Word → Bool) (status : Nat) : Check :=
  ((List.range ws.length).find? (fun i => bad i (ws.getD i 0))).map (fun i => { status := status, detail := 64 + 4 * i, block := true })

/-- Another House's table maps a granule. -/
def State.granuleTaken (s : State) (h g : Nat) : Bool :=
  s.xlate.any (fun x => decide (x.1 / 2 ^ 12 ≠ h) && bit x.2 31 && decide (fld x.2 10 0 = g))

/-- The ranges of a House's space that its enabled graphics layers and the Shelf handles of its loaded images name: first byte, bytes. -/
def State.mappedUses (s : State) (h : Nat) : List (Nat × Nat) :=
  let layer : Nat → List (Nat × Nat) := fun g =>
    let w := s.glAct (Reg.CMP_GLg_CTRL g)
    if bit w 0 && !bit w 14 && s.ownsLayer h g then
      let fmt := fld w 9 6
      let rows := s.rdF (Reg.CMP_GLg_SIZE g) 31 16
      let pitch := s.glAct (Reg.CMP_GLg_PITCH g)
      let at_ : Nat → Nat := fun k => (s.glAct (Reg.CMP_GLg_ADDR g (2 * k))).toNat + 2 ^ 32 * (s.glAct (Reg.CMP_GLg_ADDR g (2 * k + 1))).toNat
      (at_ 0, 64 * fld pitch 15 0 * rows) :: (if 3 < fmt then (List.range (if fmt ≤ 7 then 1 else 2)).map (fun k =>
        (at_ (k + 1), 64 * fld pitch 31 16 * rows)) else [])
    else []
  (List.range 8).flatMap layer ++
  (s.models.filter (fun m => decide (m.house = h))).flatMap (fun m => m.images.flatMap (fun im => im.handles.flatMap (fun x =>
    (List.range 64).filterMap (fun i =>
      let e := handleOf (x.2.getD (4 * i) 0) (x.2.getD (4 * i + 1) 0) (x.2.getD (4 * i + 2) 0) (x.2.getD (4 * i + 3) 0)
      if e.v && decide (e.kind = 2) then some (e.base, e.size) else none))))

/-- A new table takes away a granule that something names (R422). -/
def State.unmapsUsed (s : State) (h : Nat) (ws : List Word) : Bool :=
  let lost := fun i => bit (s.xlateEntry h i) 31 && decide (ws.getD i 0 ≠ s.xlateEntry h i)
  (s.mappedUses h).any (fun r => decide (0 < r.2) &&
    (List.range (min 2048 ((r.1 + r.2 - 1) / 2 ^ 24 + 1) - r.1 / 2 ^ 24)).any (fun i => lost (r.1 / 2 ^ 24 + i)))

/-- A table is checked (R421, R422). -/
def State.xlateCheck (s : State) (h : Nat) (ws : List Word) : Check :=
  firstErr [
    entryErr ws (fun _ w => decide (fld w 30 11 ≠ 0)) 2,
    entryErr ws (fun _ w => bit w 31 && decide (s.service.granules ≤ fld w 10 0 + 8)) 8,
    entryErr ws (fun _ w => bit w 31 && s.granuleTaken h (fld w 10 0)) 6,
    blockErr (s.unmapsUsed h ws) 44 6 ]

/-- A granule is zeroed. -/
def State.zeroGranule (s : State) (g : Nat) : State := { s with dram := s.dram.filter (fun x => decide (x.1 / 2 ^ 24 ≠ g)) }

/-- A House's new table takes effect (R422). -/
def State.xlateSet (s : State) (h : Nat) (ws : List Word) : State :=
  let old := (s.xlate.filter (fun x => decide (x.1 / 2 ^ 12 = h)))
  let new := (List.range ws.length).foldl (fun m i => mapSet (fun _ => (0 : Word)) m (h * 2 ^ 12 + i) (ws.getD i 0)) []
  if old = new then s
  else
    let s := s.flushHouse h
    let enter := ((ws.filter (fun w => bit w 31)).map (fun w => fld w 10 0)).eraseDups
    let s := enter.foldl (fun s g =>
      let last := mapGet (fun _ => 0) s.lastMap g
      let s := if last ≠ 0 ∧ last ≠ h + 1 then s.zeroGranule g else s
      { s with lastMap := mapSet (fun _ => 0) s.lastMap g (h + 1) }) s
    let tbl := s.xlate.filter (fun x => decide (x.1 / 2 ^ 12 ≠ h))
    { s with xlate := (List.range ws.length).foldl (fun m i => mapSet (fun _ => (0 : Word)) m (h * 2 ^ 12 + i) (ws.getD i 0)) tbl }

/-! ### HOUSE_GRANT -/

/-- A range register: base in the low bits, count from bit 16. -/
def rangeWord (base count : Nat) : Word := BitVec.ofNat 32 (base + count * 2 ^ 16)

/-- A graphics layer's House and canvas as the grants give them (R322). -/
def State.grantLayers (s : State) (g : GrantBlock) : State :=
  (List.range 8).foldl (fun s l =>
    if Nat.testBit g.glayers l then
      (s.wrF (Reg.CMP_GLg_CTRL l) 31 29 g.house).wrF (Reg.CMP_GLg_CTRL l) 5 3 (g.canvases / 2 ^ (3 * l) % 8)
    else s) s

/-- A grant replaces the House's previous one as a whole (R393). -/
def State.grantSet (s : State) (g : GrantBlock) (ws : List Word) : State :=
  let h := g.house
  let s := (s.wr (Reg.QUE_HRANGEh h) (rangeWord g.qbase g.qcount)).wr (Reg.HPS_HRANGEh h) (rangeWord g.hbase g.hcount)
  let s := (s.wr (Reg.RAS_HRANGEh h) (rangeWord g.bbase g.bcount)).wr (Reg.DMA_SHAREh h) (BitVec.ofNat 32 g.share)
  let x : Grant := { given := true, cbase := g.cbase, ccount := g.ccount, call := g.call, outputs := g.outputs, inputs := g.inputs
                     glayers := g.glayers, glCanvas := g.canvases, forms := g.forms, quota := g.quota, flashBase := g.flashBase
                     flashSize := g.flashSize, flashBps := g.flashBps, xlate := g.xlate }
  let s := { s with grants := mapSet (fun _ => {}) s.grants h x }
  ((s.grantLayers g).xlateSet h ws).journalAdd

/-- The checks of a grant beside those of its table. -/
def State.grantCheck (s : State) (g : GrantBlock) : Check :=
  let others := (List.range 8).filter (fun k => decide (k ≠ g.house))
  firstErr [
    pickErr true (others.flatMap (s.grantMeets g) ++ s.grantRemoves g),
    blockErr (decide (1024 < g.share % 2048 + (others.map (fun k => s.rdF (Reg.DMA_SHAREh k) 10 0)).sum)) 28 6,
    plainErr ((s.houseBanks g.house).any s.bankBusy) 5 ]

/-- HOUSE_GRANT. -/
def State.cmdHouseGrant (d : DeanCmd) (s : State) : State × Bool :=
  s.deanTake 0x04 true true (unusedTests d [(2, 7), (3, 0xFFFFFFFF), (4, 0xFFFFFFFF)] ++ addrTests d 3) d (fun s =>
    s.withBuf d 3 64 (fun s b =>
      let g := grantOf b
      checked (pickErr true (grantTests (d.f 2 2 0) b))
        (s.withBytes d g.xlate 64 44 true (fun s hd =>
          checked (pickErr true (xlateHeader hd))
            (s.withBytes d g.xlate (64 + 4 * num hd 4 2) 44 true (fun s t =>
              checked (firstErr [s.grantCheck g, s.xlateCheck g.house (xlateEntries t)])
                (.ok [] (s.grantSet g (xlateEntries t)))))))))

/-! ### BANK_HANDOVER -/

/-- ZERO as Dvorzar writes it (R169, R419): forced where a bank goes to another House or unit. -/
def zeroForced (old new oldUnit newUnit : Nat) (asked : Bool) : Bool :=
  asked || (decide (new ≠ 8) && (decide (old ≠ new) || (decide (new = 9) && decide (oldUnit ≠ newUnit))))

/-- Owner, unit and mode of a bank for the configuration journal (R454). -/
def State.journalBank (s : State) (b : Nat) : State :=
  let w := BitVec.ofNat 32 (s.rdF (Reg.LIB_BANKb b) 8 0)
  { s with service := { s.service with bankCfg := mapSet (fun _ => (8 : Word)) s.service.bankCfg b w } }

/-- BANK_HANDOVER. -/
def State.cmdBankHandover (d : DeanCmd) (s : State) : State × Bool :=
  let b := d.f 2 8 0
  let owner := d.f 3 3 0
  let unit := d.f 3 6 4
  let shelf := bit (d.w 3) 8
  let tests := unusedTests d [(2, 0x1FF), (3, 0x37F)] ++
    [ fieldTest (decide (9 < owner)) 3 0 2, fieldTest (if owner = 9 then decide (3 < unit) else decide (unit ≠ 0)) 3 4 2,
      fieldTest (shelf && decide (7 < owner)) 3 8 2 ]
  s.deanTake 0x05 true true tests d (fun s =>
    let old := s.bankOwner b
    checked (firstErr [
      wordErr (s.bankRetired b) 2 0xC,
      wordErr (s.bankBusy b) 2 5,
      wordErr (s.bankNamed b) 2 6,
      wordErr (decide (owner < 8) && decide (old ≠ owner) && decide (s.quotaOf owner ≤ (s.houseBanks owner).length)) 3 6 ])
    (.ok [] ((s.bankSet b owner unit shelf (zeroForced old owner (s.bankUnit b) unit (bit (d.w 3) 9))).journalBank b).journalAdd))

/-! ### Pipelines (R394) -/

/-- The fields of a pipeline block (Table 14.6). -/
def pipeTests (b : List Byte) : List FieldTest :=
  let lines := num b 4 2
  let sub := num b 12 1 % 4
  let colour := num b 13 1
  let coef := num b 16 8
  zeroBytes b 24 40 ++
  [ byteTest (decide (3 < num b 0 1)) 0 2, byteTest (decide (7 < num b 1 1)) 1 2, byteTest (decide (2 < num b 2 1)) 2 2,
    maskTest 3 (num b 3 1) 0xFC, byteTest (!([16, 32, 64, 128, 256, 512].contains lines)) 4 2, byteTest (decide (1023 < num b 6 2)) 6 2,
    byteTest (decide (511 < num b 8 2)) 8 2, byteTest (decide (511 < num b 10 2)) 10 2, byteTest (decide (sub = 3)) 12 2,
    maskTest 12 (num b 12 1) 0xF0, byteTest (decide (sub ≠ 0) && decide (num b 12 1 / 8 % 2 = 0)) 12 8,
    { bad := decide (colour / 2 % 4 = 3), bitPos := 8 * 13 + 1, status := 2 },
    { bad := decide (colour / 32 % 2 = 1) && decide (num b 12 1 / 8 % 2 = 0), bitPos := 8 * 13 + 5, status := 8 },
    maskTest 13 colour 0xC0,
    byteTest (decide (coef % 64 ≠ 0) || (decide (coef / 2 ^ 63 = 1) && decide (coef % 2 ^ 48 / 2 ^ 27 ≠ 0))) 16 2,
    maskTest 20 (coef / 2 ^ 32) 0x7FFF0000 ]

/-- Each of the 64 phases of the coefficients sums to 16,384 (R272). -/
def coefOk (cs : List Byte) : Bool :=
  (List.range 64).all (fun p => decide (((List.range 8).map (fun k => sgn 16 (num cs (16 * p + 2 * k) 2))).sum = 16384))

/-- The fixed-function slots as the next commit will set them: owners and enables. -/
def State.nextSlots (s : State) : Word × Word :=
  (s.service.slotStage.orElse (fun _ => s.service.slotDue)).getD (s.rd Reg.FFJ_SLOTS, s.rd Reg.FFJ_SLOTEN)

/-- The slots of a mask given to a pipeline. -/
def giveSlots (w : Word × Word) (p mask : Nat) : Word × Word :=
  (List.range 16).foldl (fun w i => if Nat.testBit mask i then (setFld w.1 (2 * i + 1) (2 * i) p, setBit w.2 i true) else w) w

/-- The slots of a pipeline taken away. -/
def dropSlots (w : Word × Word) (p : Nat) : Word × Word :=
  (List.range 16).foldl (fun w i => if bit w.2 i && decide (fld w.1 (2 * i + 1) (2 * i) = p) then
    (setFld w.1 (2 * i + 1) (2 * i) 0, setBit w.2 i false) else w) w

/-- A pipeline begins to exist (R394). -/
def State.pipeSet (s : State) (b : List Byte) (coef : List Byte) : State :=
  let p := num b 0 1
  let flags := num b 3 1
  let s := s.setPipe p { valid := true, house := num b 1 1, source := num b 2 1, blend := decide (flags / 2 % 2 = 1), ringLines := num b 4 2
                         edgeT := num b 6 2, ringBank := num b 8 2, recordBank := num b 10 2, ringFmt := num b 12 1
                         outColour := num b 13 1 % 64, slots := num b 14 2, coef := coef }
  let s := s.wr (Reg.DLN_Pp_CTRL p) (BitVec.ofNat 32 (1 + flags % 2 * 2))
  let s := s.wrF (Reg.CMP_VLv_CTRL p) 9 4 (num b 13 1)
  State.journalAdd { s with service := { s.service with slotStage := some (giveSlots s.nextSlots p (num b 14 2)) } }

/-- PIPE_CREATE. -/
def State.cmdPipeCreate (d : DeanCmd) (s : State) : State × Bool :=
  s.deanTake 0x06 true false (unusedTests d [(2, 0xFFFFFFFF), (3, 0xFFFFFFFF)] ++ addrTests d 2) d (fun s =>
    s.withBuf d 2 64 (fun s b =>
      let h := num b 1 1
      checked (firstErr [
        pickErr true (pipeTests b),
        blockErr (s.pipe (num b 0 1)).valid 0 6,
        blockErr (!s.granted h) 1 8,
        blockErr (!s.hasInput h (num b 2 1)) 2 6,
        blockErr (!s.bankOk h (num b 8 2)) 8 8,
        blockErr (!s.bankOk h (num b 10 2)) 10 8,
        blockErr ((List.range 4).any (fun p => (s.pipe p).valid && decide ((s.pipe p).slots &&& num b 14 2 ≠ 0))) 14 6 ])
      (s.withBytes d (num b 16 8) 1024 16 true (fun s cs =>
        checked (blockErr (!coefOk cs) 16 8) (.ok [] (s.pipeSet b cs))))))

/-- A pipeline ceases to exist. -/
def State.pipeClear (s : State) (p : Nat) : State :=
  let w := dropSlots s.nextSlots p
  let s := { s with service := { s.service with slotStage := some w }
                    subJobs := s.subJobs.filter (fun j => decide (j.pipe ≠ p))
                    bandRecs := s.bandRecs.filter (fun x => decide (x.1 / 2048 ≠ p))
                    bandEnts := s.bandEnts.filter (fun x => decide (x.1 / 8192 ≠ p))
                    walks := mapSet (fun _ => {}) s.walks p {} }
  ((((s.setPipe p {}).wr (Reg.DLN_Pp_CTRL p) 0).wrF (Reg.CMP_CUTp p) 31 31 0).quietSinks).subStat

/-- PIPE_DESTROY. -/
def State.cmdPipeDestroy (d : DeanCmd) (s : State) : State × Bool :=
  let p := d.f 2 1 0
  s.deanTake 0x07 true true (unusedTests d [(2, 3)]) d (fun s =>
    checked (firstErr [
      wordErr (!(s.pipe p).valid) 2 2,
      wordErr (s.models.any (fun m => m.images.any (fun im => im.pipes.any (fun e => decide (e.pipe = p))))) 2 6 ])
    (.ok [] (s.pipeClear p)))

end Sys2Proof.Machine
end

