-- ==== Sys2Proof/Machine/DeanModel.lean ====
section
/-! DEFINITION. Signed images (R431, R432) and the commands on models and commit sets (Table 14.4): MODEL_LOAD, MODEL_UNLOAD, ROUTE_SET,
COMMIT (R396), MODE_SET, PORT_SET, CANVAS_SET, VLAYER_SET (R395), PROTECT_SET (R343). -/
namespace Sys2Proof

/-- The record with word i replaced. -/
def DeanCmd.setArg (d : DeanCmd) (i : Nat) (v : Word) : DeanCmd := { d with args := ((d.args ++ List.replicate 14 0).take 14).set (i - 2) v }

/-- A COMMIT record whose flags are those of its row: BELL, CUT, CLEAR where given, the record's own elsewhere. -/
def DeanCmd.commitFlags (d : DeanCmd) (bell cut clear : Option Bool) : DeanCmd :=
  let put : Word → Nat → Option Bool → Word := fun w i b => match b with
    | some b => setBit w i b
    | none => w
  d.setArg 3 (put (put (put (d.w 3) 0 bell) 1 cut) 2 clear)

end Sys2Proof

namespace Sys2Proof.Machine

/-! ### Signed images -/

/-- The reserved bytes of an envelope are 0; HOUSES is 0 but for kinds 2 and 3. -/
def envelopeZero (b : List Byte) : Bool :=
  (slice 6 2 b ++ slice 13 3 b ++ slice 28 36 b ++ slice 112 16 b ++ slice 224 32 b).all (fun x => decide (x = 0)) &&
  (decide (num b 4 1 = 2) || decide (num b 4 1 = 3) || decide (num b 12 1 = 0))

/-- The payload that follows an envelope. -/
def payloadOf (b : List Byte) : List Byte := slice 256 (num b 16 4) b

/-- Check 2 of R432: the slot holds a hash, and the key page's public key hashes to it. -/
def State.keyInPlace (s : State) (k : Nat) : Bool := decide (k ≤ 4) && Nat.testBit s.fuses.keySlots k && Config.keyPageOk k

/-- The checks of R432 in their order, for an image of a kind that House h brings. Owner keys of model packages are refused in Returned (R437);
a token's key is the transition's affair (Table 15.8). -/
def State.signCheck (s : State) (h kind : Nat) (b : List Byte) : Check :=
  let key := num b 5 1
  let owner := if kind = 2 then decide (s.fuses.life = 4) && decide (key ≠ 0) else if kind = 4 then false else decide (key ≠ 0) && !Config.slotAllows key kind
  let counter := if kind = 1 then some 0 else if kind = 2 then some (1 + key) else none
  let uid := num b 20 8
  firstErr [
    plainErr (decide (b.length < 256) || decide (num b 0 4 ≠ 0x53474E48) || !envelopeZero b || decide (num b 4 1 ≠ kind) || owner) 0xA,
    plainErr (!s.keyInPlace key) 0xA,
    plainErr (decide (uid ≠ 0) && decide (uid ≠ s.fuses.uid)) 0xA,
    plainErr ((decide (kind = 2) || decide (kind = 3)) && !Nat.testBit (num b 12 1) h) 3,
    plainErr (match counter with
      | some c => decide (num b 8 4 < mapGet (fun _ => 0) s.fuses.rollback c)
      | none => false) 0xB,
    plainErr (decide (b.length < 256 + num b 16 4) || !Config.sigOk key (b.take 256) (payloadOf b)) 0xA ]

/-! ### Models -/

/-- A handle that no model has, from a free value (log 67). -/
def State.freshHandle (s : State) : Nat × State :=
  let (w, s) := s.free
  let taken : Nat → Bool := fun n => s.models.any (fun m => decide (m.handle = n))
  (((List.range (s.models.length + 1)).map (fun i => (w.toNat + i) % 2 ^ 32)).find? (fun n => !taken n) |>.getD w.toNat, s)

/-- The tiers of which a model has an image. -/
def tierMask (ims : List Image) : Nat := (List.range 4).foldl (fun m t => if ims.any (fun im => decide (im.tier = t)) then m + 2 ^ t else m) 0

/-- The checks of a package's images (R238, R282, R450). -/
def State.packageCheck (s : State) (h : Nat) (p : Config.Package) : Check :=
  let ims := p.images.map imageOf
  firstErr [
    plainErr (!(p.images.all (s.imageOk h)) || !packageAgrees ims) 9,
    plainErr (decide (s.rdF Reg.PWR_STATE 2 0 = 1) && ims.any (fun im => decide (s.rdF Reg.PWR_ECO 7 0 < im.cclkPlan))) 8 ]

/-- The weights of the edge-layer engine go to its banks (R256). -/
def State.edgeWeights (s : State) (m : Model) : State :=
  m.edge.foldl (fun (s : State) x => if bankOf x.1 < 512 ∧ s.bankOwner (bankOf x.1) = 9 ∧ s.bankUnit (bankOf x.1) = 0 then
    s.bankWrite 1024 x.1 x.2 else s) s

/-- A package becomes a model: its edge weights are written (R256), its adapter is restored (R314), and the House's next commit brings its
images (R239). -/
def State.modelSet (s : State) (h key svn : Nat) (p : Config.Package) : List Nat × State :=
  let ims := p.images.map imageOf
  let (n, s) := s.freshHandle
  let md : Model := { handle := n, house := h, images := ims, key := key, svn := svn, board := p.board, modelId := p.modelId, edge := p.edge, hw := p.hw }
  let s := s.edgeWeights md
  let s := { s with models := s.models ++ [md], loaded := mapSet (fun _ => none) s.loaded h (some n) }
  let s := match p.hw with
    | some q => s.hwRestore md q
    | none => s
  ([n, tierMask ims], if p.board then s.journalAdd else s)

/-- MODEL_LOAD. -/
def State.cmdModelLoad (d : DeanCmd) (s : State) : State × Bool :=
  let h := d.house.val
  let n := (d.w 4).toNat
  s.deanTake 0x08 false true (unusedTests d [(2, 0xFFFFFFFF), (3, 0xFFFFFFFF), (4, 0xFFFFFFFF)] ++ addrTests d 2 ++
      [fieldTest (decide (n < 256)) 4 0 2]) d (fun s =>
    s.withBuf d 2 n (fun s b =>
      let p := Config.package (payloadOf b)
      checked (firstErr [s.signCheck h 2 b, s.packageCheck h p])
        (let (res, t) := s.modelSet h (num b 5 1) (num b 8 4) p
         .ok res t)))

/-- A model is in the active bell bank, or a swap or an armed slot's House is to bring it there. -/
def State.modelActive (s : State) (m : Nat) : Bool :=
  s.runs.any (fun x => decide (x.2 = some m)) ||
  s.accepted.any (fun a => match a.swap with | some (k, _, _) => decide (k = m) | none => false)

/-- A model unloaded. -/
def State.modelDrop (s : State) (m : Nat) : State :=
  { s with models := s.models.filter (fun x => decide (x.handle ≠ m)), loaded := s.loaded.filter (fun x => decide (x.2 ≠ some m))
           hw := s.hw.filter (fun x => decide (x.1 ≠ m)) }

/-- What a command that names a model checks: the model exists and is its House's. -/
def State.modelCheck (s : State) (h m i : Nat) : Check :=
  match s.models.find? (fun x => decide (x.handle = m)) with
  | none => wordErr true i 2
  | some x => wordErr (decide (x.house ≠ h)) i 3

/-- MODEL_UNLOAD. -/
def State.cmdModelUnload (d : DeanCmd) (s : State) : State × Bool :=
  let m := (d.w 2).toNat
  s.deanTake 0x09 false true (unusedTests d [(2, 0xFFFFFFFF)]) d (fun s =>
    checked (firstErr [s.modelCheck d.house m 2, wordErr (s.modelActive m) 2 6]) (.ok [] (s.modelDrop m)))

/-! ### Staging (R335, R395) -/

/-- The entry of an object in a staged list, replaced. -/
def stage {α : Type} (xs : List (Nat × α)) (i : Nat) (v : α) : List (Nat × α) := xs.filter (fun x => decide (x.1 ≠ i)) ++ [(i, v)]

/-- What a staging command checks of its slot. -/
def State.slotCheck (s : State) (h i : Nat) : Check :=
  firstErr [wordErr (!s.slotOf h i) 2 3, wordErr (s.slot i).armed.isSome 2 6]

/-- A slot's set replaced. -/
def State.setSlot (s : State) (i : Nat) (c : CommitSet) : State := { s with commitSlots := mapSet (fun _ => {}) s.commitSlots i c }

/-- ROUTE_SET. -/
def State.cmdRouteSet (d : DeanCmd) (s : State) : State × Bool :=
  let h := d.house.val
  let i := d.f 2 7 0
  let p := d.f 3 1 0
  let src := d.f 3 9 8
  s.deanTake 0x0A false true (unusedTests d [(2, 0xFF), (3, 0x303)] ++ [fieldTest (decide (src = 3)) 3 8 2]) d (fun s =>
    checked (firstErr [s.slotCheck h i, wordErr (!s.ownsPipe h p) 3 3, wordErr (!s.hasInput h src) 3 6])
      (.ok [] (s.setSlot i { s.slot i with route := stage (s.slot i).route p src })))

/-- A staging command of House 0 with a block of 64 bytes: the object's mask in word 3, the checks of the block, and the set with it. -/
def State.stageBlock (op mask : Nat) (d : DeanCmd) (check : State → Nat → CommitSet → List Word → Check) (put : CommitSet → Nat → List Word → CommitSet)
    (s : State) : State × Bool :=
  let i := d.f 2 7 0
  let n := (d.w 3).toNat % 8
  s.deanTake op true false (unusedTests d [(2, 0xFF), (3, mask), (4, 0xFFFFFFFF), (5, 0xFFFFFFFF)] ++ addrTests d 4) d (fun s =>
    checked (s.slotCheck d.house i)
      (s.withBuf d 4 64 (fun s b =>
        let ws := blockWords b
        checked (check s n (s.slot i) ws) (.ok [] (s.setSlot i (put (s.slot i) n ws))))))

/-- MODE_SET. -/
def State.cmdModeSet (d : DeanCmd) (s : State) : State × Bool :=
  s.stageBlock 0x0C 7 d (fun s n c ws => pickErr true (modeTests ws ++ gradeTests s.fuses ((s.view c 0).groupPorts n).length ws))
    (fun c n ws => { c with mode := stage c.mode n ws })

/-- PORT_SET. -/
def State.cmdPortSet (d : DeanCmd) (s : State) : State × Bool :=
  s.stageBlock 0x0D 7 d (fun s n c ws => pickErr true (portTests n ((s.view c 0).vactive (fld (blockWord ws 0) 12 10)) ws))
    (fun c n ws => { c with port := stage c.port n ws })

/-- CANVAS_SET. -/
def State.cmdCanvasSet (d : DeanCmd) (s : State) : State × Bool :=
  s.stageBlock 0x0E 7 d (fun _ _ _ ws => pickErr true (canvasTests ws)) (fun c n ws => { c with canvas := stage c.canvas n ws })

/-- VLAYER_SET. -/
def State.cmdVlayerSet (d : DeanCmd) (s : State) : State × Bool :=
  s.stageBlock 0x0F 3 d (fun _ _ _ ws => pickErr true (vlayerTests ws)) (fun c n ws => { c with vlayer := stage c.vlayer n ws })

/-- The template of a payload (R343). -/
def templateOf (pay : List Byte) : Template :=
  let (xfer, prim, rep, fill, w, h, words) := Config.template pay
  { xfer := xfer, prim := prim, rep := rep, fill := fill, w := w, h := h, words := words, board := Config.templateBoard pay }

/-- PROTECT_SET (R343, R432): the Proctor checks the envelope, then the template against its canvas. -/
def State.cmdProtectSet (d : DeanCmd) (s : State) : State × Bool :=
  let i := d.f 2 7 0
  let r := d.f 3 2 0
  s.deanTake 0x10 true true (unusedTests d [(2, 0xFF), (3, 7), (4, 0xFFFFFFFF), (5, 0xFFFFFFFF), (6, 0xFFFFFFFF)] ++ addrTests d 4) d (fun s =>
    checked (s.slotCheck d.house i)
      (s.withBuf d 4 256 (fun s hd =>
        s.withBuf d 4 (256 + num hd 16 4) (fun s b =>
          let t := templateOf (payloadOf b)
          let x := d.f 6 15 0
          let y := d.f 6 31 16
          let bad := !([1, 2, 4, 8].contains t.rep) || decide (4096 < t.w) || decide (1024 < t.h) || (s.view (s.slot i) 0).templateBad r t x y
          checked (firstErr [s.signCheck d.house 3 b, plainErr bad 8])
            (.ok [] (s.setSlot i { s.slot i with protect := stage (s.slot i).protect r (t, x, y) }))))))

/-! ### COMMIT (R396) -/

/-- The results of an acceptance: sequence number, rasters, frame T of a swap. -/
def State.commitResults (s : State) (p : CommitPlan) : List Nat :=
  let t := match p.swap with
    | some (_, _, t) => t
    | none => 0
  [s.service.commitSeq, (p.rasters.map (2 ^ ·)).sum, t % 2 ^ 32, t / 2 ^ 32 % 2 ^ 32]

/-- A commit with its flags: CLEAR empties the slot, BELL checks and arms it, else it is accepted. -/
def State.cmdCommit (d : DeanCmd) (s : State) : State × Bool :=
  let h := d.house.val
  let i := d.f 2 7 0
  let bell := bit (d.w 3) 0
  let clear := bit (d.w 3) 2
  let cut := bit (d.w 3) 1 && !clear
  let gl := d.f 4 7 0
  let mask := d.f 5 3 0
  let j := d.f 6 7 0
  let used := [(2, 0xFF), (3, 7), (4, if clear then 0 else 0xFF), (5, if cut then 0xF else 0), (6, if cut then 0xFF else 0)]
  s.deanTake 0x0B false false (unusedTests d used) d (fun s =>
    let mine := firstErr [
      wordErr (!s.slotOf h i) 2 3,
      wordErr ((maskList gl).any (fun g => !s.ownsLayer h g)) 4 3,
      wordErr (cut && (List.range 4).any (fun p => Nat.testBit mask p && !s.ownsPipe h p)) 5 3,
      wordErr (cut && !s.slotOf h j) 6 3 ]
    checked mine (
      if clear then .ok [] (s.setSlot i {})
      else
        let plan := if cut then s.checkCut h (s.slot i) mask (s.slot j) gl else s.checkCommit h (s.slot i) gl true
        match plan with
        | .error e => .fail e
        | .ok p =>
          if bell then .ok [] (s.setSlot i { s.slot i with armed := some { house := h, gl := gl, cut := if cut then some (mask, j) else none } })
          else
            let t := if cut then s.acceptCut h i j (s.slot i) (s.slot j) gl p else s.accept h i (s.slot i) gl p
            .ok (t.commitResults p) t.quietSinks))

end Sys2Proof.Machine
end

