-- ==== Sys2Proof/Machine/DeanService.lean ====
section
/-! DEFINITION. Commands on firmware, debug and homework (Table 14.4): FW_STAGE, FW_SWAP (R434, R468), DEBUG_SET (R437, R438, R442), ADAPT_POLICY
(R313, R317), HW_STATUS (R318). -/
namespace Sys2Proof.Machine

/-! ### Firmware -/

/-- FW_STAGE. With no image that runs (MBX_DEAN.STATE 0x4, R434) it writes the image as A, selects it, and the device restarts once its completion
is written. -/
def State.cmdFwStage (d : DeanCmd) (s : State) : State × Bool :=
  let n := (d.w 4).toNat
  s.deanTake 0x15 true true (unusedTests d [(2, 0xFFFFFFFF), (3, 0xFFFFFFFF), (4, 0xFFFFFFFF)] ++ addrTests d 2 ++
      [fieldTest (decide (n < 256)) 4 0 2]) d (fun s =>
    checked (plainErr (decide (s.service.swap ≠ .none)) 5)
      (s.withBuf d 2 n (fun s b =>
        let v := Config.imageVersion (payloadOf b) % 65536
        let svn := num b 8 4
        checked (s.signCheck d.house 1 b)
          (.ok [v] (if s.rdF Reg.MBX_DEAN 3 0 = 4 then
              { s with service := { s.service with verA := v, svnA := svn, bootB := false, rescue := true, staged := false } }
            else if s.service.runB then { s with service := { s.service with verA := v, svnA := svn, staged := true } }
            else { s with service := { s.service with verB := v, svnB := svn, staged := true } })))))

/-- FW_SWAP: the swap is requested; it completes from the new image, or from the old one after the watchdog (R468, R469). -/
def State.cmdFwSwap (d : DeanCmd) (s : State) : State × Bool :=
  s.deanTake 0x16 true true (unusedTests d []) d (fun s =>
    checked (plainErr (!s.service.staged) 0xC)
      (.later { s with service := { s.service with swap := .pending, swapWaiter := some (d.from_, d.tag) } }))

/-! ### Debug (R438) -/

/-- Halted cores of a House go on when its windows close (R442). -/
def State.resumeHouse (s : State) (h : Nat) : State :=
  s.cores.foldl (fun s x => if x.2.halted && decide (x.2.house = h) then s.onCore x.1 coreResume else s) s

/-- A House's debug state becomes Closed. -/
def State.closeDebug (s : State) (h : Nat) : State := State.resumeHouse { s with scopedHouses := putBit s.scopedHouses h false } h

/-- The wrapped secrets are lost (R435, R437). -/
def State.eraseKeys (s : State) : State :=
  { s with fuses := { s.fuses with keygen := min 15 (s.fuses.keygen + 1) }, service := { s.service with hdcpKeys := false } }

/-- The permit of Houses 1 to 7 withdrawn. -/
def State.dropPermit (s : State) : State := { s with service := { s.service with permit := false } }

/-- DEBUG_SET. -/
def State.cmdDebugSet (d : DeanCmd) (s : State) : State × Bool :=
  let h := d.house.val
  let v := d.f 2 1 0
  s.deanTake 0x17 false true (unusedTests d [(2, 3)]) d (fun s =>
    let life := s.fuses.life
    let scopable := decide (life = 1) || ((decide (life = 2) || decide (life = 3)) && (decide (h = 0) || s.service.permit))
    checked (firstErr [
      wordErr (decide (h ≠ 0) && decide (2 ≤ v)) 2 3,
      plainErr s.openDevice 0xC,
      plainErr (decide (v = 1) && !scopable) 0xC,
      plainErr (decide (v = 2) && !(decide (life = 1) || decide (life = 4))) 0xC ])
    (.ok [] (
      if v = 0 then
        if h = 0 then ((List.range 8).foldl State.closeDebug s).dropPermit else s.closeDebug h
      else if v = 1 then { s with scopedHouses := putBit s.scopedHouses h true }
      else if v = 2 then { s.eraseKeys with deviceOpen := true }
      else { s with service := { s.service with permit := true } })))

/-! ### Homework -/

/-- An FP32 field that is not finite, or lies outside low ≤ x ≤ high (encodings; the low bound may be excluded). -/
def f32Out (x low high : Nat) (openLow : Bool) : Bool :=
  !f32Finite x || fvLt (f32 x) (f32 low) || fvLt (f32 high) (f32 x) || (openLow && !fvLt (f32 low) (f32 x))

/-- The fields of a policy block (Table 11.5). -/
def policyTests (b : List Byte) : List FieldTest :=
  let big := 0x7F7FFFFF
  let out : Nat → Nat → Nat → Nat → FieldTest := fun o n lo hi => byteTest (decide (num b o n < lo) || decide (hi < num b o n)) o 2
  [ maskTest 4 (num b 4 1) 0xFE, out 5 1 1 16, out 6 2 1 65535, out 8 2 1 1024, out 10 1 2 64,
    byteTest (decide (num b 11 1 < 32) || decide (128 < num b 11 1) || decide (num b 11 1 % 8 ≠ 0)) 11 2,
    out 12 2 8 1024, out 14 2 4 256,
    byteTest (f32Out (num b 16 4) 0 big true) 16 2,
    byteTest (f32Out (widenBf (num b 20 2)) 0 0x3F800000 false) 20 2, byteTest (f32Out (widenBf (num b 22 2)) 0 0x3F800000 false) 22 2,
    byteTest (f32Out (num b 24 4) 0 0x3F800000 false) 24 2,
    byteTest (decide (num b 28 4 < 0x00800000) || decide (big < num b 28 4)) 28 2,
    byteTest (f32Out (num b 32 4) 0 big false) 32 2, byteTest (f32Out (num b 36 4) 0 big false) 36 2,
    byteTest (f32Out (num b 40 4) 0 big false) 40 2, byteTest (f32Out (num b 44 4) 0 0x3F800000 true) 44 2,
    out 48 4 10000 10000000,
    byteTest (decide (num b 52 2 ≠ 0) && (decide (num b 52 2 < 100) || decide (2000 < num b 52 2))) 52 2,
    out 54 1 1 255, zeroByte b 55, out 56 4 4096 1048576, out 60 4 1 0xFFFFFFFF ]

/-- R313: what a power loss may cost, and no checkpoints without a ring. -/
def State.policyRing (s : State) (h : Nat) (b : List Byte) : Bool :=
  let g := s.grant h
  let ms := num b 52 2
  decide (ms ≠ 0) && (decide (g.flashSize = 0) || decide (2000 * g.flashBps < ms * g.flashBps + 1000 * num b 56 4))

/-- A policy in force, or for the next round where one runs (R310). -/
def Hw.setPolicy (x : Hw) (b : List Byte) : Hw :=
  let on := decide (num b 4 1 % 2 = 1)
  if x.state = 0 then
    { x with policy := b, next := [], enable := on, state := on.toNat, rng := BitVec.ofNat 32 (num b 60 4), step := x.step % max 1 (num b 6 2) }
  else { x with next := b, enable := on }

/-- ADAPT_POLICY. -/
def State.cmdAdaptPolicy (d : DeanCmd) (s : State) : State × Bool :=
  let h := d.house.val
  s.deanTake 0x18 false true (unusedTests d [(2, 0xFFFFFFFF), (3, 0xFFFFFFFF)] ++ addrTests d 2 ++
      [fieldTest (!bit (d.w 3) 31) 2 0 2]) d (fun s =>
    s.withBuf d 2 64 (fun s b =>
      let m := num b 0 4
      let md := s.models.find? (fun x => decide (x.handle = m))
      checked (firstErr [
        pickErr true (policyTests b),
        blockErr (match md with | some x => decide (x.house ≠ h) | none => false) 0 6,
        blockErr (match md with | some x => x.hw.isNone | none => true) 0 2,
        blockErr (s.policyRing h b) 52 2 ])
      (.ok [] (s.setHw m ((s.hwOf m).setPolicy b)))))

/-- The record of Table 11.6. -/
def Hw.record (x : Hw) : List Byte :=
  leBytes 1 (if x.enable then x.state else 0) ++ leBytes 1 x.ovf ++ leBytes 2 x.skips ++ leBytes 2 x.discards ++ leBytes 2 x.preempts ++
  leBytes 8 x.steps ++ leBytes 8 x.accepts ++ leBytes 8 x.rejectsAll ++ leBytes 4 x.lc.toNat ++ leBytes 4 x.ls.toNat ++ leBytes 4 x.gen ++
  leBytes 4 x.epoch ++ leBytes 4 x.sealedGen ++ leBytes 4 x.ckptSeq ++ leBytes 8 0

/-- A buffer in a Library bank: a stored error does not stand in the way of writing it. -/
def BufPlace.isLib : BufPlace → Bool
  | .lib _ => true
  | _ => false

/-- HW_STATUS: the record goes to the buffer. -/
def State.cmdHwStatus (d : DeanCmd) (s : State) : State × Bool :=
  let h := d.house.val
  let m := (d.w 2).toNat
  s.deanTake 0x1B false true (unusedTests d [(2, 0xFFFFFFFF), (3, 0xFFFFFFFF), (4, 0xFFFFFFFF)] ++ addrTests d 3) d (fun s =>
    checked (s.modelCheck h m 2)
      (let p := s.bufPlace d.from_ (d.addr 3)
       match s.bufState h p 64 12 false with
       | .bad e => if decide (e.status = 0xD) && p.isLib then .ok [] (s.bufWrite h p (s.hwOf m).record) else .fail e
       | .wait pg => .hold (s.askPage h pg)
       | .good => .ok [] (s.bufWrite h p (s.hwOf m).record)))

end Sys2Proof.Machine
end

