-- ==== Sys2Proof/Machine/StartUp.lean ====
section
/-! DEFINITION. The configuration journal (R454), what a reset or a loss of power leaves (Table 16.2), and start-up (R434, R451, R452). -/
namespace Sys2Proof.Machine

/-! ### The configuration journal (R454) -/

/-- Registers that hold the configuration of grants, pipelines and commits, graphics layers aside. -/
def configKeys : List Nat :=
  (List.range 8).flatMap (fun r =>
    [Reg.RASn_CTRL r, Reg.RASn_VTIMING r, Reg.RASn_VTIMING2 r, Reg.RASn_HTIMING r, Reg.RASn_PHASE r, Reg.RASn_RATIO r,
     Reg.CMP_CVr_CTRL r, Reg.CMP_CVr_SIZE r, Reg.CMP_CVr_BG r, Reg.CMP_CVr_ORDER_LO r, Reg.CMP_CVr_ORDER_HI r,
     Reg.SCOn_CTRL r, Reg.SCOn_STRIPE r, Reg.QUE_HRANGEh r, Reg.HPS_HRANGEh r, Reg.RAS_HRANGEh r, Reg.DMA_SHAREh r]) ++
  (List.range 4).flatMap (fun v =>
    [Reg.CMP_VLv_CTRL v, Reg.CMP_VLv_WIN0 v, Reg.CMP_VLv_WIN1 v, Reg.CMP_VLv_ALPHA v, Reg.DLN_Pp_CTRL v]) ++
  [Reg.FFJ_SLOTS, Reg.FFJ_SLOTEN]

/-- A register of a graphics layer as the journal holds it: the committed value with EN = 0, HOUSE and CANVAS as granted (R452). -/
def State.glSaved (s : State) (g k : Nat) : Word :=
  if k = Reg.CMP_GLg_CTRL g then (s.glAct k &&& 0x1FFFC0#32) ||| (s.rd k &&& 0xE0000038#32) else s.glAct k

/-- A pipeline as PIPE_CREATE and the commits have set it: its position in its source is not configuration. -/
def Pipe.config (x : Pipe) : Pipe :=
  { x with seq := 0, recs := [], repeats := none, old := none, discDue := false, flr := false, lateSeen := 0, tierMax := 0, cut := none,
           copyBase := 0, cutW := 0, cutH := 0 }

/-- The configuration as a snapshot of the journal. -/
def State.snapshot (s : State) : Journal :=
  let regs := configKeys.foldl (fun m k => mapSet regReset m k (s.rd k)) []
  let regs := (List.range 8).foldl (fun m g => (glKeys g).foldl (fun m k => mapSet regReset m k (s.glSaved g k)) m) regs
  { regs := regs, grants := s.grants, pipes := s.pipes.map (fun x => (x.1, x.2.config)), banks := s.service.bankCfg, canvasMeta := s.canvasMeta
    xlate := s.xlate, handoffs := s.handoffs
    protects := (s.protects.filter (fun x => match x.2.tmpl with | some t => t.board | none => false)).map (fun x =>
      (x.1, { x.2 with due := false, fill := false }))
    ports := s.ports.map (fun x => (x.1, x.2.dsc, x.2.psr)), pclk := s.pclk
    models := s.models.filter (·.board)
    runs := s.runs.filter (fun x => s.models.any (fun m => m.board && decide (some m.handle = x.2))) }

/-- The pending entries go to the flash. -/
def State.journalFlush (s : State) : State :=
  if s.service.journalPend = 0 then s
  else { s with journal := s.snapshot, service := { s.service with journalPend := 0 } }

/-! ### What is lost -/

/-- What the always-on domain and the flash keep when RESET_N or a loss of power ends everything else; `warm`: the always-on domain stays
powered and is not reset, so the PWR registers and the debug state stay too (R442, R447, R477). -/
def State.wipe (s : State) (warm : Bool) : State :=
  let v := s.service
  let kept : Service := { verA := v.verA, verB := v.verB, svnA := v.svnA, svnB := v.svnB, bootB := v.bootB, runB := v.runB, rescued := v.rescued
                          lcReq := v.lcReq, cold := v.cold, hdcpKeys := v.hdcpKeys, granules := v.granules, frameMarks := v.frameMarks }
  let kept := if warm then { kept with save := v.save, saveJournal := v.saveJournal, saved := v.saved, resetHeld := v.resetHeld
                                       tripped := v.tripped, permit := v.permit, tick := v.tick, us := v.us, burst := v.burst, held := v.held }
    else kept
  { pending := s.pending, out := s.out, freeCtr := s.freeCtr, resetN := s.resetN, power := s.power, fuses := s.fuses, host := s.host
    flash := s.flash, pages := s.pages, priOn := s.priOn, ckpts := s.ckpts, journal := s.journal, saves := s.saves, gpio := s.gpio
    regs := if warm then s.regs.filter (fun x => decide (0x800000 ≤ x.1) && decide (x.1 < 0x900000)) else []
    scopedHouses := if warm then s.scopedHouses else 0
    deviceOpen := warm && s.deviceOpen
    jtag := if warm then s.jtag else {}
    service := kept }

/-! ### Units out of service (R184, R452) -/

/-- A bank is out of service, without an event. -/
def State.bankOut (s : State) (b : Nat) : State :=
  if s.bankRetired b then s
  else { s.wr (Reg.LIB_BANKb b) 0x8000000F with service := { s.service with retiredBanks := s.service.retiredBanks ++ [b] } }

/-- A core is out of service. -/
def State.coreOut (s : State) (c : Nat) : State := s.onCore c (fun k => { k with retired := true, marched := false })

/-- An array, 2 × core + array, is out of service. -/
def State.arrayOut (s : State) (a : Nat) : State := s.onCore (a / 2) (fun k => { k with lostArrays := k.lostArrays ||| 2 ^ (a % 2) })

/-- A form is out of service. -/
def State.formOut (s : State) (f : Nat) : State :=
  { s with formTiers := mapSet (fun _ => {}) s.formTiers f { s.formTier f with retired := true } }.wrF (Reg.DLN_FORMf f) 3 3 1

/-- The units that a save record marks (UNITS of Table 16.6). -/
def State.unitsOut (s : State) (r : SaveRec) : State :=
  let s := r.banks.foldl State.bankOut s
  let s := r.cores.foldl State.coreOut s
  r.arrays.foldl State.arrayOut s

/-- The memories that the start-up march leaves at 0x00 (R182). -/
def State.clearCells (s : State) : State := { s with lib := [], locker := [], desk := [], istore := [], ecc := [] }

/-- The start-up march (R184, R185): failing units leave service; cores out of service that pass have their march (R289). -/
def State.startMarchAll (s : State) (u : StartUp) : State :=
  let s := s.clearCells
  let s := (List.range 1024).foldl (fun (s : State) c =>
    if (s.core c).retired && !(u.cores.map Fin.val).contains c then s.onCore c (fun k => { k with marched := true }) else s) s
  let s := u.banks.foldl (fun s b => s.bankOut b) s
  let s := u.cores.foldl (fun s c => s.coreOut c) s
  let s := u.arrays.foldl (fun s a => s.arrayOut a) s
  let s := u.forms.foldl (fun s f => s.formOut f) s
  let few := (List.range 32).filter (fun f => decide (((List.range 32).filter (fun l => s.coreLive (32 * f + l))).length < 16))
  let s := few.foldl State.formOut s
  let fail := !(u.banks.isEmpty && u.cores.isEmpty && u.arrays.isEmpty && u.forms.isEmpty)
  s.marchReport { core := false, unit := 0, preserving := false, waiter := none } fail false

/-! ### Images run again (R453) -/

/-- The images of a model run as after a commit that has applied. -/
def State.rerun (s : State) (m : Model) : State :=
  let s : State := { s with runs := mapSet (fun _ => none) s.runs m.house none }
  let s := s.acceptSwap m.house m (s.swapRaster m.house m) 0
  let s := { s.wrF Reg.RAS_BELLSTAT 2 0 (1 - s.bellBank) with swap := none }
  let s := s.cores.foldl (fun s x => s.onCore x.1 (fun k => handleTurn k 0)) s
  let s := (s.activate m).edgeWeights m
  match m.hw with
  | some p =>
    let old := s.hwOf m.handle
    let s := s.hwRestore m p
    let x := s.hwOf m.handle
    s.setHw m.handle { x with policy := old.policy, next := old.next, enable := old.enable, state := if old.enable then 1 else 0, rng := old.rng }
  | none => s

/-- Every model whose images run. -/
def State.rerunAll (s : State) : State :=
  let ms := s.models.filter (fun m => s.runs.any (fun x => decide (x.2 = some m.handle)))
  ms.foldl State.rerun s

/-- Step 6: the PLLs of running rasters lock, and the ports that are enabled train. -/
def State.picturesStart (s : State) : State :=
  let s := (List.range 8).foldl (fun (s : State) n =>
    let x := s.port n
    if bit (s.rd (Reg.SCOn_CTRL n)) 0 then s.setPort n { dsc := x.dsc, psr := x.psr, torn := x.torn, up := false, training := true } else s) s
  (List.range 8).foldl (fun (s : State) r => if s.rasterOn r then s.relock r else s) s

/-! ### Step 3: what is restored (R452) -/

/-- The newest save record, where the last save was sealed (R459). -/
def State.newestSave (s : State) : Option SaveRec :=
  match s.saves.getLast? with
  | some r => if r.valid then some r else none
  | none => none

/-- PWR_HOLD and PWR_HOLDSEQ. -/
def State.showHold (s : State) : State :=
  let s := s.wr Reg.PWR_HOLD (match s.newestSave with
    | some r => BitVec.ofNat 32 (r.vholdEnd * 65536 + r.torn * 256 + (decide (r.vholdEnd < 1800)).toNat * 2 + 1)
    | none => 0)
  s.wr Reg.PWR_HOLDSEQ (BitVec.ofNat 32 (((s.saves.filter (·.valid)).getLast?.map (·.seq)).getD 0))

/-- The POWER causes of a start, held until House 0 has an event queue (R471). -/
def State.startCauses (s : State) (last : Nat) : State :=
  let one := match s.newestSave with
    | some r => 1 :: (if r.vholdEnd < 1800 then [3] else [])
    | none => [2]
  { s with service := { s.service with held := (s.service.held ++ one ++ (if last = 3 then [5] else [])).take 8 } }

/-- Output frame counters: FRAME + 1 of the record; else the last checkpoint + 2^20; a raster that never ran stays at 0. -/
def State.restoreFrames (s : State) : State :=
  (List.range 8).foldl (fun (s : State) r =>
    let n := match s.newestSave with
      | some x => x.frames.getD r 0 + 1
      | none => match mapGet (fun _ => none) s.service.frameMarks r with
        | some m => m + 2 ^ 20
        | none => 0
    s.setRaster r { frame := BitVec.ofNat 64 n }) s

/-- The items of the newest valid record. -/
def State.restoreRecord (s : State) : State :=
  match s.newestSave with
  | none => s
  | some r =>
    let s := (List.range 3).foldl (fun (s : State) t => s.wr (Reg.RAS_INs_FRAME t) (BitVec.ofNat 32 (r.inFrames.getD t 0))) s
    let s := (List.range 8).foldl (fun (s : State) q =>
      let a := r.applied.getD q 0
      (s.wr (Reg.CMP_LASTr q) (BitVec.ofNat 32 (a % 65536 * 65537))).wr (Reg.EVT_SEQh q) (BitVec.ofNat 32 (r.evtSeq.getD q 0))) s
    State.unitsOut { s with service := { s.service with commitSeq := r.commitSeq } } r

/-- A port that was cut short and that the restored configuration does not enable: one black frame at the panel's native mode, then the panel
is powered down (R463). -/
def State.tornPorts (s : State) : State :=
  match s.newestSave with
  | none => s
  | some r =>
    ((List.range 8).filter (Nat.testBit r.torn)).foldl (fun (s : State) n =>
      if bit (s.rd (Reg.SCOn_CTRL n)) 0 then s.setPort n { s.port n with torn := true }
      else (((s.emit (.port n "native mode")).emit (.port n "black frame")).emit (.port n "panel off")).wrF Reg.PWR_HOLD (8 + n) (8 + n) 0) s

/-- The journal is replayed. -/
def State.replay (s : State) : State :=
  let j := s.journal
  let s := j.regs.foldl (fun s x => s.wr x.1 x.2) s
  let s := (List.range 4).foldl (fun (s : State) p => s.wrF (Reg.DLN_Pp_CTRL p) 5 4 0) s
  let gl := j.regs.filter (fun x => decide (0x200400 ≤ x.1) && decide (x.1 < 0x200600))
  let last := j.xlate.foldl (fun m x => if bit x.2 31 then mapSet (fun _ => 0) m (fld x.2 10 0) (x.1 / 2 ^ 12 + 1) else m) []
  let ran : Nat → Bool := fun h => j.runs.any (fun x => decide (x.1 = h))
  let s := { s with glActive := gl, grants := j.grants, canvasMeta := j.canvasMeta, xlate := j.xlate, lastMap := last, handoffs := j.handoffs
                    pclk := j.pclk, models := j.models, runs := j.runs
                    pipes := j.pipes.map (fun x => (x.1, { x.2 with flr := x.2.valid && !ran x.2.house }))
                    service := { s.service with bankCfg := j.banks } }
  let s := j.ports.foldl (fun (s : State) x => s.setPort x.1 { dsc := x.2.1, psr := x.2.2 }) s
  let s := j.banks.foldl (fun (s : State) x =>
    if s.bankRetired x.1 then s else s.bankSet x.1 (fld x.2 3 0) (fld x.2 6 4) (bit x.2 8) false) s
  j.protects.foldl (fun (s : State) x => match x.2.tmpl with
    | some t => (s.applyProtect x.1 t x.2.x0 x.2.y0).setPexp x.1
    | none => s) s

/-! ### The sequence (Table 16.4) -/

/-- Step 1: the Proctor ROM reads the fuses; a lifecycle request takes effect (R436, R437); the slews are set (R486). -/
def State.bootFuses (s : State) : State :=
  let s := s.wrF Reg.PWR_IO 5 4 3
  match s.service.lcReq with
  | none => s
  | some (dst, slots) =>
    let s := if dst = 4 then s.eraseKeys else s
    { s with fuses := { s.fuses with life := dst, keySlots := s.fuses.keySlots ||| (slots * 2) }, service := { s.service with lcReq := none } }

/-- SVN of an image. -/
def Service.svn (v : Service) (b : Bool) : Nat := if b then v.svnB else v.svnA
/-- Version of an image. -/
def Service.version (v : Service) (b : Bool) : Nat := if b then v.verB else v.verA

/-- Step 2: the selected image, or the other where it fails (R434). -/
def State.bootImage (s : State) (u : StartUp) : Option Bool :=
  let ok : Bool → Bool := fun b => (if b then u.bOk else u.aOk) && decide (mapGet (fun _ => 0) s.fuses.rollback 0 ≤ s.service.svn b)
  if ok s.service.bootB then some s.service.bootB else if ok (!s.service.bootB) then some (!s.service.bootB) else none

/-- MBX_DEAN of an image that runs, in a STATE. -/
def State.showDean (s : State) (b : Bool) (st : Nat) : State :=
  s.wr Reg.MBX_DEAN (BitVec.ofNat 32 (s.service.version b % 65536 * 65536 + b.toNat * 16 + st))

/-- What Dvorzar sets in the PWR block from the board configuration. -/
def State.bootBoard (s : State) (u : StartUp) : State :=
  let s := (s.wr Reg.PWR_ECO (u.eco.setWidth 32)).wr Reg.PWR_SSC (u.ssc.setWidth 32)
  let s := (s.wrF Reg.PWR_IO 3 2 u.lsio).wrF Reg.PWR_IO 1 0 u.gpio
  s.wrF Reg.PWR_VCORE 9 0 u.vcore

/-- Steps 3 to 7 with an image. -/
def State.bootRun (s : State) (u : StartUp) (last : Nat) (b : Bool) : State :=
  let s := State.showDean { s with service := { s.service with runB := b, cold := false, rescued := false } } b 2
  let s := ((s.wrF Reg.PWR_STATE 7 4 last).wrF Reg.PWR_STATE 3 0 0).bootBoard u
  let s := ((s.showHold).startCauses last).restoreRecord
  let s := (s.restoreFrames.startMarchAll u).replay
  s.tornPorts.rerunAll.picturesStart

/-- Steps 2 to 7; without an image that passes, the firmware rescue (R434). -/
def State.bootFrom2 (s : State) (u : StartUp) (last : Nat) : State :=
  match s.bootImage u with
  | some b => s.bootRun u last b
  | none => ({ s with service := { s.service with cold := false, rescued := false } }.wrF Reg.MBX_DEAN 3 0 4).wrF Reg.PWR_STATE 7 4 last

end Sys2Proof.Machine
end

