-- ==== Sys2Proof/Machine/Power.lean ====
section
/-! DEFINITION. Reset (R477), the power states (R447 to R453), Hold-up (R457 to R463), heat (Table 10.4), VCORE (R446) and renewal in service
(R470). -/
namespace Sys2Proof.Machine

/-- A POWER event to House 0 (R471). -/
def State.powerEvent (s : State) (cause : Nat) : State := s.post 0 0x20 0 none [cause]

/-! ### RESET_N (R477) -/

/-- RESET_N takes effect: everything is reset, the always-on domain included. -/
def State.resetNow (s : State) : State :=
  let s := s.wipe false
  { s with resetN := false, power := if s.power = .standby then .on else s.power }

/-- RESET_ASSERT: held off while a save is in progress. -/
def State.resetAssert (s : State) : State :=
  if s.power = .holdup && s.service.save.isSome && !s.service.saved then { s with service := { s.service with resetHeld := true } }
  else s.resetNow

/-- LAST of a start after RESET_N. -/
def State.startKind (s : State) : Nat := if s.service.cold then 0 else if s.service.rescued then 4 else 1

/-- RESET_RELEASE: start-up from step 1, which it does not leave while PWRSAG_N is low. -/
def State.resetRelease (s : State) (u : StartUp) (sag : Bool) : State :=
  let waits := s.resetN && (decide (s.power ≠ .on) || s.started || s.service.startHeld.isSome)
  if waits then s
  else
    let s := State.bootFuses { s with resetN := true, power := .on }
    if sag then { s with service := { s.service with startHeld := some s.startKind } } else s.bootFrom2 u s.startKind

/-- PWRSAG_N_HIGH: start-up goes on after step 1. -/
def State.sagHigh (s : State) (u : StartUp) : State :=
  match s.service.startHeld with
  | some last => State.bootFrom2 { s with service := { s.service with startHeld := none } } u last
  | none => s

/-! ### Standby (R449, R453) -/

/-- Commits that are accepted and not applied are discarded; the model of a discarded swap is loaded again. -/
def State.dropCommits (s : State) : State :=
  let s := s.accepted.foldl (fun (s : State) a => match a.swap with
    | some (m, _, _) => if (mapGet (fun _ => none) s.loaded a.house).isNone then { s with loaded := mapSet (fun _ => none) s.loaded a.house (some m) } else s
    | none => s) s
  let s := { s with accepted := [], swap := none }
  s.showPend.wrF Reg.RAS_BELLSTAT 2 2 0

/-- Keys of the windows that lose their power with the forms: the roll counters and the walks (Tables 8.5 and 9.6, FFJ_SLOTS and FFJ_SLOTEN
aside). -/
def formKey (k : Nat) : Bool := decide (2 ^ 40 + 0x40 ≤ k)

/-- Forms, Library and line memory are powered off. -/
def State.dark (s : State) : State :=
  let s := s.clearCells
  { s with
    power := .standby
    regs := s.regs.filter (fun x => !formKey x.1)
    cores := (s.cores.map (fun x => (x.1, ({ retired := x.2.retired, marched := x.2.marched, lostArrays := x.2.lostArrays } : Core)))).filter
      (fun x => decide (x.2 ≠ {}))
    waiters := s.waiters.filter (fun w => match w.who with | .cmd _ _ _ => true | _ => false)
    rasters := s.rasters.map (fun x => (x.1, { frame := x.2.frame }))
    forms := [], engines := [], shelfTags := [], shelfLru := [], fills := [], late := [], bandRecs := [], corr := [], subJobs := []
    walks := [], prepared := [], shown := [], flat := [], flatLines := [], hostFrame := none, asked := []
    ports := s.ports.map (fun x => (x.1, { dsc := x.2.dsc, psr := x.2.psr, up := false }))
    hw := s.hw.map (fun x => (x.1, { x.2 with units := [], grads := [], updated := false, deployed := false, evals := [], frozen := false, sample := none }))
    service := { s.service with marches := [] } }

/-- STANDBY_ENTRY: the accepted commits have applied, or 2 frames have passed (`timeout`); chains in the engines end. -/
def State.standbyEntry (s : State) (timeout : Bool) : State :=
  if s.service.trans = some 2 && s.power = .on && (timeout || s.accepted.isEmpty) then
    let s := s.dropCommits
    let s := (List.range 96).foldl (fun s e => s.abortWindow none e) s
    let s := (List.range 2).foldl (fun s k => s.sinkLost k) s
    s.dark.subStat
  else s

/-- The return from Standby, from step 4 of start-up: march, images and pictures. -/
def State.wakeUp (s : State) (u : StartUp) : State :=
  let s := State.startMarchAll { s with power := .on } u
  let s := (List.range 512).foldl (fun (s : State) b => if s.bankBusy b then (s.wrF (Reg.LIB_BANKb b) 30 30 0).wrF (Reg.LIB_BANKb b) 9 9 0 else s) s
  s.rerunAll.picturesStart

/-- POWER_TRANSITION_COMPLETE: the new state is reported, and a request that waits is acted on. -/
def State.transDone (s : State) (u : StartUp) : State :=
  match s.service.trans with
  | none => s
  | some t =>
    if t = 2 && s.power = .on then s
    else
      let s := if s.power = .standby && decide (t ≠ 2) then s.wakeUp u else s
      let s := (s.wrF Reg.PWR_STATE 2 0 t).wrF Reg.PWR_STATE 3 3 0
      (State.powerEvent { s with service := { s.service with trans := none } } 7).powerAct

/-! ### Hold-up (R458 to R463) -/

/-- A port stands between the first and the last active line of a frame or of a selective update that it sends (R463). -/
def State.portTorn (s : State) (n : Nat) : Bool :=
  let r := s.leader n
  let l := (s.raster r).line
  s.psrPort n && s.rasterOn r && !bit (s.rd (Reg.RASn_STATUS r)) 6 && decide (l < s.vactive r) && s.portSends n l

/-- The record of Table 16.6. -/
def State.saveRecord (s : State) (cause : Nat) : SaveRec :=
  let per : (Nat → Nat) → List Nat := fun f => (List.range 8).map f
  { seq := ((s.saves.filter (·.valid)).getLast?.map (·.seq)).getD 0 + 1, cause := cause
    torn := (List.range 8).foldl (fun m n => if s.portTorn n || bit (s.rd Reg.PWR_HOLD) (8 + n) then m + 2 ^ n else m) 0
    fw := s.service.version s.service.runB % 65536 + s.service.runB.toNat * 65536
    frames := per (fun r => (s.raster r).frame.toNat), inFrames := (List.range 3).map (fun t => (s.rd (Reg.RAS_INs_FRAME t)).toNat)
    applied := per (fun r => s.rdF (Reg.CMP_LASTr r) 15 0), commitSeq := s.service.commitSeq, nj := s.service.journalPend
    ckpt := per (fun h => ((sealedRecs (s.houseCkpts h)).getLast?.map (·.seq)).getD 0)
    evtSeq := per (fun h => (s.rd (Reg.EVT_SEQh h)).toNat), banks := (List.range 512).filter s.bankRetired
    cores := (List.range 1024).filter (fun c => (s.core c).retired || (s.formTier (c / 32)).retired)
    arrays := (List.range 2048).filter (fun a => Nat.testBit (s.core (a / 2)).lostArrays (a % 2)) }

/-- Hold-up is entered and the save begins; before start-up has passed its step 3 no record is written (Table 16.7). -/
def State.holdUp (s : State) (cause : Nat) : State :=
  let rec_ := s.saveRecord cause
  let cfg := s.snapshot
  let run := s.started && decide (s.rdF Reg.MBX_DEAN 3 0 ≠ 4)
  let s := s.wipe true
  { s with power := .holdup
           service := { s.service with save := if run then some rec_ else none, saveJournal := cfg, saved := !run, startHeld := none } }

/-- HOLDUP_WARNING: 1 PWRSAG_N, 2 the internal monitor. -/
def State.holdupWarning (s : State) (cause : Nat) : State :=
  if s.resetN && (s.power = .on || s.power = .standby) then s.holdUp cause else s

/-- SAVE_SEALED: page 0 is written with VHOLD_END; a reset that waited takes effect. -/
def State.saveSealed (s : State) (vhold : Nat) : State :=
  match s.service.save with
  | some r =>
    if s.power = .holdup && !s.service.saved then
      let s := { s with saves := s.saves ++ [{ r with vholdEnd := vhold }], journal := s.service.saveJournal
                        service := { s.service with saved := true, save := none, saveJournal := {} } }
      if s.service.resetHeld then s.resetNow else s
    else s
  | none => s

/-- POWER_OFF: VHOLD has fallen below 3.0 V; a record whose page 0 is not written is not valid (R459). -/
def State.powerOff (s : State) : State :=
  if s.power = .holdup then
    let s := match s.service.save with
      | some r => if s.service.saved then s else { s with saves := s.saves ++ [{ r with valid := false }] }
      | none => s
    let s := s.wipe false
    { s with power := .off, resetN := false, service := { s.service with cold := true } }
  else s

/-- The device starts again from step 3 without RESET_N. -/
def State.warmStart (s : State) (u : StartUp) (last : Nat) : State :=
  let s := { s with power := .on, service := { s.service with saved := false, tripped := false } }
  s.bootRun u last s.service.runB

/-- HOLDUP_RESUME: the supplies are in range again and the save has ended. -/
def State.holdupResume (s : State) (u : StartUp) : State :=
  if s.power = .holdup && s.resetN && s.service.saved && !s.service.tripped then s.warmStart u 2 else s

/-- THERMAL_RESTART: every sensor has read below 100 °C for 10 s. -/
def State.thermalRestart (s : State) (u : StartUp) : State :=
  if s.power = .holdup && s.resetN && s.service.saved && s.service.tripped then s.warmStart u 3 else s

/-! ### Heat (Table 10.4, R457) -/

/-- The heat part that a temperature gives. -/
def heatLevel (t : Nat) : Nat := if 108 ≤ t then 3 else if 105 ≤ t then 2 else if 102 ≤ t then 1 else 0

/-- A sample stands at least 3 °C below the threshold of a level. -/
def coolFor (level t : Nat) : Bool := decide (t + 3 ≤ 99 + 3 * level)

/-- A form's heat part after a temperature. -/
def heatStep (x : FormTier) (t : Nat) : FormTier :=
  if x.heat < heatLevel t then { x with heat := heatLevel t, cool := 0 }
  else { x with cool := if coolFor x.heat t then x.cool + 1 else 0 }

/-- PWR_TJ: the highest of the forms' last samples, its form, and the peak since RESET_N. -/
def State.showTj (s : State) : State :=
  let t : Nat → Nat := fun f => s.rdF (Reg.DLN_FORMf f) 15 8
  let top := (List.range 32).foldl (fun b f => if t b < t f then f else b) 0
  let s := (s.wrF Reg.PWR_TJ 7 0 (t top)).wrF Reg.PWR_TJ 15 8 top
  s.wrF Reg.PWR_TJ 23 16 (max (s.rdF Reg.PWR_TJ 23 16) (t top))

/-- THERMAL_SAMPLE of a form: 115 °C or more twice in a row trips the device. -/
def State.thermalSample (s : State) (f t : Nat) : State :=
  let x := s.formTier f
  let s := (s.wrF (Reg.DLN_FORMf f) 15 8 t).setFormTier f { heatStep x t with last := t, trip := decide (115 ≤ t) }
  let s := s.showTj
  if x.trip && decide (115 ≤ t) then
    let s := s.holdUp 3
    { s with service := { s.service with tripped := true } }
  else s

/-- HEAT_TIER_DECAY: 10,000 samples, one second, without a break. -/
def State.heatDecay (s : State) (f : Nat) : State :=
  let x := s.formTier f
  if 0 < x.heat ∧ 10000 ≤ x.cool then s.setFormTier f { x with heat := x.heat - 1, cool := 0 } else s

/-! ### Calibration and VCORE (R446, R470) -/

/-- A calibration that failed keeps the previous values. -/
def State.calFailed (s : State) : State := (s.wrF Reg.PWR_CAL 16 16 1).powerEvent 8

/-- SENSOR_CALIBRATE: the form's heat part takes the higher of its last sample and that of the form below it in its column; the lowest form of a
column has only its own (log 71). -/
def State.sensorCal (s : State) (f : Nat) (ok : Bool) : State :=
  let s := s.wrF Reg.PWR_CAL 4 0 f
  let x := s.formTier f
  let t := max x.last (if f < 24 then (s.formTier (f + 8)).last else 0)
  let s := s.setFormTier f (if x.heat < heatLevel t then { x with heat := heatLevel t, cool := 0 } else x)
  if ok then s else s.calFailed

/-- PLL_RECALIBRATE: the idle PLL of a pair takes over. -/
def State.pllCal (s : State) (bitNo : Nat) (ok : Bool) : State :=
  if ok then s.wrF Reg.PWR_CAL bitNo bitNo (1 - s.rdF Reg.PWR_CAL bitNo bitNo) else s.calFailed

/-- DRAM_RETRAIN of the next channel (R379). -/
def State.dramRetrain (s : State) (ok : Bool) : State :=
  let s := { s with service := { s.service with dramChannel := (s.service.dramChannel + 1) % 8 } }
  if ok then s else s.calFailed

/-- VCORE_ADJUST: the set point moves by at most 10 mV towards that of the monitors, within the range of Table 16.1; a measured VCORE outside the
range of R480 that is no warning is reported. -/
def State.vcoreAdjust (s : State) (want meas : Nat) : State :=
  let set := s.rdF Reg.PWR_VCORE 9 0
  let want := max 550 (min 850 want)
  let next := if set < want then min want (set + 10) else max want (set - 10)
  let s := (s.wrF Reg.PWR_VCORE 9 0 next).wrF Reg.PWR_VCORE 25 16 meas
  if next + 40 < meas || (decide (meas + 30 < next) && decide (next ≤ meas + 40)) then s.powerEvent 9 else s

/-! ### Firmware (R433, R468, R469) -/

/-- FW_SWAP_HANDOVER: the running image writes the handover record. -/
def State.fwHandover (s : State) : State :=
  if s.service.swap = .pending then { s.wrF Reg.MBX_DEAN 3 0 3 with service := { s.service with swap := .gap } } else s

/-- The FW_SWAP that waits completes. -/
def State.fwAnswer (s : State) (status : Nat) : State :=
  let s := match s.service.swapWaiter with
    | some (q, tag) => s.complete 0 q 0x16 tag status 0x7FFF [s.service.version s.service.runB]
    | none => s
  { s with service := { s.service with swap := .none, swapWaiter := none } }

/-- The staged image runs, and posts FW_SWAPPED to every House with a grant. -/
def State.fwRuns (s : State) : State :=
  let b := !s.service.runB
  let s := State.showDean { s with service := { s.service with runB := b, staged := false } } b 2
  let s := s.fwAnswer 0
  s.postAll ((List.range 8).filter s.granted) 0x1F 0 none [s.service.version b, b.toNat]

/-- FW_WATCHDOG: the old image goes on. -/
def State.fwWatchdog (s : State) : State :=
  if s.service.swap = .gap then (s.showDean s.service.runB 2).fwAnswer 0xC else s

/-- FW_BOOT_CONFIRM: the boot selector names the image that runs. -/
def State.fwConfirm (s : State) : State :=
  if s.rdF Reg.MBX_DEAN 3 0 = 2 then { s with service := { s.service with bootB := s.service.runB } } else s

/-- ROLLBACK_RAISE of the running Dvorzar image (none), or of the key slot of a committed model. -/
def State.rollbackRaise (s : State) (m : Option Nat) : State :=
  let raise : Nat → Nat → State := fun i v =>
    { s with fuses := { s.fuses with rollback := mapSet (fun _ => 0) s.fuses.rollback i (max (mapGet (fun _ => 0) s.fuses.rollback i) (min v 63)) } }
  match m with
  | none => if s.rdF Reg.MBX_DEAN 3 0 = 2 then raise 0 (s.service.svn s.service.runB) else s
  | some h =>
    match s.models.find? (fun x => decide (x.handle = h)) with
    | some x => if x.committed then raise (1 + x.key) x.svn else s
    | none => s

end Sys2Proof.Machine
end

