-- ==== Sys2Proof/Machine/Debug.lean ====
section
/-! DEFINITION. Function level resets (R373, R477), JTAG and the lifecycle (R435 to R441), GPIO interrupts (R382). -/
namespace Sys2Proof.Machine

/-! ### Function level reset (Table 13.6) -/

/-- A waiting command of a House forgotten: it completes, and its record is discarded (R389). -/
def forget (h : Nat) (w : Option (Nat × Option Nat × Nat)) : Option (Nat × Option Nat × Nat) :=
  match w with
  | some (k, q, tag) => if k = h then none else some (k, q, tag)
  | none => none

/-- No completion of the House is written any more. -/
def State.dropCompletions (s : State) (h : Nat) : State :=
  { s with
    completions := s.completions.filter (fun c => decide (c.house ≠ h))
    engines := s.engines.map (fun x => (x.1, { x.2 with waiter := forget h x.2.waiter, starts := x.2.starts.map (fun st =>
      { st with waiter := forget h st.waiter }) }))
    service := { s.service with marches := s.service.marches.map (fun m => { m with waiter := forget h m.waiter })
                                swapWaiter := if h = 0 then none else s.service.swapWaiter } }

/-- The PCIe-side registers of a function: its mailbox and the message set-up of its compatibility block. -/
def State.resetFunction (s : State) (fn : Nat) : State :=
  let keys := (List.range 35).map (fun i => 0x10000 + 4 * i) ++ [Reg.EVT_C_STATUS, Reg.EVT_C_MASK, Reg.EVT_C_IRQ]
  let s := keys.foldl (fun s k => s.wr (Reg.own fn k) (regReset (Reg.own fn k))) s
  { s with snaps := s.snaps.filter (fun x => decide (x.1 / 2 ^ 32 ≠ fn)), asked := s.asked.filter (fun k => decide (k / 2 ^ 64 ≠ fn)) }

/-- Every queue of a House is disabled and its indices read 0 (R399). -/
def State.resetQueues (s : State) (h : Nat) : State :=
  let w := s.rd (Reg.QUE_HRANGEh h)
  ((List.range (fld w 30 16)).map (fld w 13 0 + ·)).foldl (fun s q => s.queueClear q) s

/-- The hall passes of a House read 0, and the waits of its commands end. -/
def State.resetPasses (s : State) (h : Nat) : State :=
  let w := s.rd (Reg.HPS_HRANGEh h)
  let s := { s with waiters := s.waiters.filter (fun x => match x.who with | .cmd k _ _ => decide (k ≠ h) | _ => true) }
  ((List.range (fld w 29 16)).map (fld w 12 0 + ·)).foldl (fun s p => (s.wr (Reg.HPS_p_VALUE p) 0).wr (Reg.HPS_p_STAT p) 0) s

/-- What an FLR of VFh does beside the PCIe side. -/
def State.resetHouse (s : State) (h : Nat) : State :=
  let s := (List.range 4).foldl (fun s i => s.abortWindow none (64 + 8 * i + h)) s
  let s := s.resetPasses h
  let s := { s with glHidden := (List.range 8).foldl (fun m g => if s.ownsLayer h g then putBit m (8 + g) true else m) s.glHidden }
  let s := (List.range 4).foldl (fun (s : State) p => if s.ownsPipe h p then s.setPipe p { s.pipe p with flr := true } else s) s
  s.closeDebug h

/-- FLR of a function. -/
def State.flr (s : State) (fn : Nat) : State :=
  let s := s.dropCompletions fn
  let s := if fn = 0 then s else s.resetHouse fn
  let s := (s.dropCompletions fn).resetQueues fn
  s.resetFunction fn

/-- PERST_N low: every function acts as after its FLR. -/
def State.perst (s : State) : State := (List.range 8).foldl State.flr s

/-! ### JTAG (R440, R441) -/

/-- The port answers: not in Off, and not while RESET_N holds the TAP in reset (Table 17.3). -/
def State.jtagOn (s : State) : Bool := s.resetN && decide (s.power ≠ .off)

/-- EXTEST and INTEST work (X of Table 15.9): in Manufacturing, Development and Returned, but for Hold-up. -/
def State.jtagX (s : State) : Bool :=
  s.jtagOn && decide (s.power ≠ .holdup) && (decide (s.fuses.life ≤ 1) || decide (s.fuses.life = 4))

/-- An instruction takes its place. -/
def State.jtagInstr (s : State) (n : Nat) : State := { s with jtag := { s.jtag with instr := n, drives := decide (n = 4) } }

/-- IDCODE. -/
def State.jtagIdcode (s : State) : State := if s.jtagOn then (s.jtagInstr 1).emit (.tdo s.fuses.idcode) else s

/-- BYPASS: the one-bit register captures 0 and takes TDI. -/
def State.jtagBypass (s : State) (tdi : Bool) : State :=
  if s.jtagOn then State.emit { s.jtagInstr 2 with jtag := { (s.jtagInstr 2).jtag with bypass := tdi } } (.tdo 0) else s

/-- The boundary scan register is shifted: what it captured goes out, and the new content comes in. -/
def State.jtagScan (s : State) (n captured content : Nat) : State :=
  State.emit { s.jtagInstr n with jtag := { (s.jtagInstr n).jtag with bsr := content } } (.tdo captured)

/-- SAMPLE/PRELOAD: `pins` are the balls as they stand. -/
def State.jtagSample (s : State) (pins content : Nat) : State := if s.jtagOn then s.jtagScan 3 pins content else s

/-- EXTEST: the balls are driven from the register. -/
def State.jtagExtest (s : State) (pins content : Nat) : State := if s.jtagX then s.jtagScan 4 pins content else s

/-- INTEST: what the core answers to the pattern is a free value. -/
def State.jtagIntest (s : State) (content : Nat) : State :=
  if s.jtagX then
    let (w, s) := s.free
    s.jtagScan 5 w.toNat content
  else s

/-- The TCD access instruction: every TCD window in Device-open, the global registers alone in Standby. -/
def State.jtagTcd (s : State) (wr : Bool) (off : Nat) (v : Word) : State :=
  if s.jtagOn && decide (s.power ≠ .holdup) && s.openDevice then
    let s := s.jtagInstr 6
    let a := 0x1000000 + off / 4 * 4 % 0x1000000
    if wr then s.write32 0 a v else s.emit (.tdo (s.barValue 0 a).toNat)
  else s

/-! ### The lifecycle (R436, Table 15.8) -/

/-- A lifecycle token passes the checks of R432, from a key of a kind, and is bound to the unit. -/
def State.tokenOk (s : State) (root : Bool) (b : List Byte) : Bool :=
  (s.signCheck 0 4 b).isNone && (decide (num b 5 1 = 0) == root) && decide (num b 20 8 ≠ 0)

/-- LC_REQ: `slots` are the owner key slots, bit i for slot 1 + i, that stand ready to be fused. -/
def State.lcRequest (s : State) (dst : Nat) (slots : Nat) (token : List Byte) : State :=
  let from_ := s.fuses.life
  let ok := (decide (from_ = 0) && decide (dst = 1)) ||
    (decide (from_ = 0) && decide (dst = 2) && decide (slots ≠ 0) && s.service.hdcpKeys) ||
    (decide (from_ = 2) && decide (dst = 3) && s.tokenOk false token) ||
    ((decide (from_ = 1) || decide (from_ = 2) || decide (from_ = 3)) && decide (dst = 4) && s.tokenOk true token)
  if s.jtagOn && decide (s.power ≠ .holdup) && ok then
    { s with service := { s.service with lcReq := some (dst, if from_ = 0 ∧ dst = 2 then slots else 0) } }
  else s

/-- HDCP_PROVISION: in Manufacturing and Development. -/
def State.hdcpProvision (s : State) : State :=
  if s.jtagOn && decide (s.power ≠ .holdup) && decide (s.fuses.life ≤ 1) then { s with service := { s.service with hdcpKeys := true } } else s

/-! ### GPIO (R382) -/

/-- A level of a pin meets its interrupt: 1 rising, 2 falling, 3 both edges, 4 high, 5 low. -/
def gpioMeets (irq : Nat) (old new : Bool) : Bool :=
  match irq with
  | 1 => !old && new
  | 2 => old && !new
  | 3 => old != new
  | 4 => new
  | 5 => !new
  | _ => false

/-- GPIO_INTERRUPT: a pin, as Dvorzar has configured it, takes a level after its filter. -/
def State.gpioLevel (s : State) (pin mode irq : Nat) (level : Bool) : State :=
  let x := mapGet (fun _ => ({} : Gpio)) s.gpio pin
  let s := { s with gpio := mapSet (fun _ => ({} : Gpio)) s.gpio pin { mode := mode, irq := irq, level := level } }
  if decide (mode = 1) && gpioMeets irq x.level level then s.emit (.gpioIrq pin) else s

end Sys2Proof.Machine
end

