-- ==== Sys2Proof/Machine/DeanSlot.lean ====
section
/-! DEFINITION. The slots of the Dean (R385, R386, R389): commands are read from the mailbox and the queues of a House and carried out, and at the
end of the slot their completions are written (R397 to R400). -/
namespace Sys2Proof.Machine

/-! ### Carrying out -/

/-- The command of Table 14.4 with an opcode. -/
def deanOp (op : Nat) : Option (DeanCmd → State → State × Bool) :=
  match op with
  | 0x01 => some State.cmdNop
  | 0x02 => some State.cmdQueueCreate
  | 0x03 => some State.cmdQueueDestroy
  | 0x04 => some State.cmdHouseGrant
  | 0x05 => some State.cmdBankHandover
  | 0x06 => some State.cmdPipeCreate
  | 0x07 => some State.cmdPipeDestroy
  | 0x08 => some State.cmdModelLoad
  | 0x09 => some State.cmdModelUnload
  | 0x0A => some State.cmdRouteSet
  | 0x0B => some State.cmdCommit
  | 0x0C => some State.cmdModeSet
  | 0x0D => some State.cmdPortSet
  | 0x0E => some State.cmdCanvasSet
  | 0x0F => some State.cmdVlayerSet
  | 0x10 => some State.cmdProtectSet
  | 0x11 => some State.cmdTierFloor
  | 0x12 => some State.cmdCoreRetire
  | 0x13 => some State.cmdCoreRejoin
  | 0x14 => some State.cmdMarchRun
  | 0x15 => some State.cmdFwStage
  | 0x16 => some State.cmdFwSwap
  | 0x17 => some State.cmdDebugSet
  | 0x18 => some State.cmdAdaptPolicy
  | 0x19 => some State.cmdBandStatus
  | 0x1A => some State.cmdPipeStatus
  | 0x1B => some State.cmdHwStatus
  | 0x1C => some State.cmdHpassSet
  | 0x1D => some State.cmdHpassWait
  | 0x1E => some State.cmdDmaRun
  | 0x1F => some State.cmdShelfFlush
  | _ => none

/-- An opcode that is not in the table completes with BAD_OPCODE. -/
def State.badOpcode (s : State) (op : Nat) (d : DeanCmd) : State × Bool :=
  if !s.takesFrom d.house d.from_ then (s, false)
  else (s.complete d.house d.from_ op d.tag (if s.rdF Reg.MBX_DEAN 3 0 = 4 then 0xC else 1) 0 [], true)

/-- The sixteen words of a record as a command: its opcode and the rest. -/
def recordCmd (h : Fin 8) (src : Option (Fin 16384)) (ws : List Word) : Nat × DeanCmd :=
  let w0 := ws.getD 0 0
  (fld w0 7 0, { house := h, src := src, tag := Fin.ofNat 65536 (fld w0 31 16), res0 := Fin.ofNat 256 (fld w0 15 8), word1 := ws.getD 1 0
                 args := ws.drop 2 })

/-- The record that a source holds next. -/
def State.nextRecord (s : State) (h : Fin 8) (src : Option (Fin 16384)) : Nat × DeanCmd :=
  match src with
  | none => recordCmd h none ((List.range 16).map (fun i => s.rd (Reg.own h (Reg.MBX_CMDn i))))
  | some q => recordCmd h (some q) (blockWords (s.queueLoad h q (s.queueHead q)))

/-- A record is carried out. -/
def State.runRecord (s : State) (x : Nat × DeanCmd) : State × Bool :=
  match deanOp x.1 with
  | some f => f x.2 s
  | none => s.badOpcode x.1 x.2

/-! ### The order of a slot (R389) -/

/-- A completion of a source waits to be written. -/
def State.owed (s : State) (h : Nat) (src : Option Nat) : Bool := s.completions.any (fun c => decide (c.house = h) && decide (c.src = src))

/-- Completions that wait for a queue, and the records that it holds, leave no room in it (R399). -/
def State.noRoom (s : State) (q : Nat) : Bool :=
  let n := s.queueLen q
  decide (n ≤ (s.queueTail q + n - s.queueHead q) % n + (s.completions.filter (fun c => decide (c.dest = some q))).length + 1)

/-- A source has a command that may start. -/
def State.ready (s : State) (h : Nat) (src : Option Nat) : Bool :=
  s.takesFrom h src &&
  match src with
  | none => s.mbxBusy h && !s.owed h none
  | some q => !s.queueEmpty q && !s.noRoom (s.qaux q).pair

/-- The command queues of a House, from the one whose turn it is. -/
def State.turnQueues (s : State) (h : Nat) : List Nat :=
  let w := s.rd (Reg.QUE_HRANGEh h)
  let qs := ((List.range (fld w 30 16)).map (fld w 13 0 + ·)).filter (fun q => s.queueOn q && decide (s.queueKind q = 0))
  let next := mapGet (fun _ => 0) s.service.slotNext h
  qs.filter (fun q => decide (next ≤ q)) ++ qs.filter (fun q => decide (q < next))

/-- The source whose command is next, but for those that have to wait. -/
def State.nextSource (s : State) (h : Nat) (skip : List (Option Nat)) : Option (Option Nat) :=
  (none :: (s.turnQueues h).map some).find? (fun x => s.ready h x && !skip.contains x)

/-- HEAD moves on as the Dean takes a record. -/
def State.takeHead (s : State) (q : Nat) : State := s.wrF (Reg.QUE_q_HEAD q) 11 0 ((s.queueHead q + 1) % s.queueLen q)

/-- One command of a source: taken, or left where it has to wait. -/
def State.serveSource (s : State) (h : Fin 8) (src : Option Nat) : State × Bool :=
  let x := s.nextRecord h (src.map (Fin.ofNat 16384))
  match src with
  | none => s.runRecord x
  | some q =>
    let old := s.queueHead q
    let next := { s.service with slotNext := mapSet (fun _ => 0) s.service.slotNext h (q + 1) }
    let (t, taken) := (({ s with service := next } : State).takeHead q).runRecord x
    if taken then (t, true) else ({ t with service := { t.service with slotNext := s.service.slotNext } }.wrF (Reg.QUE_q_HEAD q) 11 0 old, false)

/-- Up to `n` commands of a House. -/
def State.serveSlot (h : Fin 8) : Nat → List (Option Nat) → State → State
  | 0, _, s => s
  | n + 1, skip, s =>
    match s.nextSource h skip with
    | none => s
    | some src =>
      let r := s.serveSource h src
      State.serveSlot h n (if r.2 then skip else src :: skip) r.1

/-! ### Completions -/

/-- The words of a completion record (Table 14.2). -/
def Completion.words (c : Completion) : List Nat := [c.opcode + 256 * c.status + 65536 * c.tag, c.detail] ++ c.res

/-- A completion goes to the mailbox: the record, then BUSY, DONE and the message (R397). -/
def State.mbxAnswer (s : State) (h : Nat) (c : Completion) : State :=
  let s := (List.range 16).foldl (fun s i => s.wr (Reg.own h (Reg.MBX_RSPn i)) (BitVec.ofNat 32 (c.words.getD i 0))) s
  let s := s.wrF (Reg.own h Reg.MBX_STATUS) 1 0 2
  let irq := s.rd (Reg.own h Reg.MBX_IRQ)
  if bit irq 6 then s.emit (.msix h (fld irq 5 0)) else s

/-- The queue still takes completions of its House. -/
def State.takesDone (s : State) (h q : Nat) : Bool := s.queueOn q && decide (s.queueKind q = 1) && decide (s.queueHouse q = some h)

/-- One completion: written; held while its queue is full; dropped when the queue is gone. -/
def State.writeDone (s : State) (h : Nat) (c : Completion) : State :=
  match c.src, c.dest with
  | none, _ => s.mbxAnswer h c
  | some _, some q =>
    if s.takesDone h q then
      (if s.queueFull q then { s with completions := s.completions ++ [c] } else s.queuePut h q (recordBytes c.words))
    else s
  | some _, none => s

/-- The completions of a House are written in their order. -/
def State.writeDones (s : State) (h : Nat) : State :=
  let mine := s.completions.filter (fun c => decide (c.house = h))
  mine.foldl (fun s c => s.writeDone h c) { s with completions := s.completions.filter (fun c => decide (c.house ≠ h)) }

/-- After the completion of an FW_STAGE that no image ran for, the device restarts as RESET_N would restart it (R434). -/
def State.rescueRestart (s : State) : State :=
  if s.service.rescue && !s.owed 0 none then
    State.wipe { s with service := { s.service with rescued := true } } false
  else s

/-- DEAN_SLOT of a House in which the Dean carries out up to `n` commands. In the gap of a swap the slot of House 0 is the new image's first; every
other waits (R468). -/
def State.deanSlot (s : State) (h : Fin 8) (n : Nat) : State :=
  let s := if s.service.swap = .gap ∧ h = 0 then s.fwRuns else s
  let st := s.rdF Reg.MBX_DEAN 3 0
  if st = 2 ∨ (st = 4 ∧ h = 0) then
    ((State.serveSlot h n [] s).journalFlush.writeDones h).rescueRestart
  else s

end Sys2Proof.Machine
end

