-- ==== Sys2Proof/Machine/DeanRows.lean ====
section
/-! DEFINITION. The commands that Dvorzar carries out (Table 14.4), march runs and the slots of the Dean (R385). -/
namespace Sys2Proof.Machine

/-- NOP (R392): completes with no effect. -/
def execNop (d : DeanCmd) (s : State) : Host.Outcome State Fault Refusal :=
  .next (s.linked (fun s => s.dean (State.cmdNop d)))

/-- QUEUE_CREATE (R398): configures a queue of the House (R398). -/
def execQueueCreate (d : DeanCmd) (s : State) : Host.Outcome State Fault Refusal :=
  .next (s.linked (fun s => s.dean (State.cmdQueueCreate d)))

/-- QUEUE_DESTROY (R392): a queue is disabled; its waiting commands complete with ABORTED. -/
def execQueueDestroy (d : DeanCmd) (s : State) : Host.Outcome State Fault Refusal :=
  .next (s.linked (fun s => s.dean (State.cmdQueueDestroy d)))

/-- HPASS_SET (R401): sets the value of a hall pass (R401). -/
def execHpassSet (d : DeanCmd) (s : State) : Host.Outcome State Fault Refusal :=
  .next (s.linked (fun s => s.dean (State.cmdHpassSet d)))

/-- HPASS_WAIT (R401): registers a wait on a hall pass (R401). -/
def execHpassWait (d : DeanCmd) (s : State) : Host.Outcome State Fault Refusal :=
  .next (s.linked (fun s => s.dean (State.cmdHpassWait d)))

/-- DMA_RUN (R392): starts a chain in the House's context of a system engine (R190). -/
def execDmaRun (d : DeanCmd) (s : State) : Host.Outcome State Fault Refusal :=
  .next (s.linked (fun s => s.dean (State.cmdDmaRun d)))

/-- SHELF_FLUSH (R392): writes a range of the shelf back (R172). -/
def execShelfFlush (d : DeanCmd) (s : State) : Host.Outcome State Fault Refusal :=
  .next (s.linked (fun s => s.dean (State.cmdShelfFlush d)))

/-- BAND_STATUS (R228): returns a form's roll-counter window. -/
def execBandStatus (d : DeanCmd) (s : State) : Host.Outcome State Fault Refusal :=
  .next (s.linked (fun s => s.dean (State.cmdBandStatus d)))

/-- PIPE_STATUS (R260): returns a pipeline's job status. -/
def execPipeStatus (d : DeanCmd) (s : State) : Host.Outcome State Fault Refusal :=
  .next (s.linked (fun s => s.dean (State.cmdPipeStatus d)))

/-- TIER_FLOOR (R392): sets DLN_Pp_CTRL.FLOOR (R283). -/
def execTierFloor (d : DeanCmd) (s : State) : Host.Outcome State Fault Refusal :=
  .next (s.linked (fun s => s.dean (State.cmdTierFloor d)))

/-- CORE_RETIRE (R227): retires a core or one of its arrays (R286). -/
def execCoreRetire (d : DeanCmd) (s : State) : Host.Outcome State Fault Refusal :=
  .next (s.linked (fun s => s.dean (State.cmdCoreRetire d)))

/-- CORE_REJOIN (R289): a retired core that has passed a march rejoins (R289). -/
def execCoreRejoin (d : DeanCmd) (s : State) : Host.Outcome State Fault Refusal :=
  .next (s.linked (fun s => s.dean (State.cmdCoreRejoin d)))

/-- MARCH_RUN (R184): starts a march run (R184). -/
def execMarchRun (d : DeanCmd) (s : State) : Host.Outcome State Fault Refusal :=
  .next (s.linked (fun s => s.dean (State.cmdMarchRun d)))

/-- HOUSE_GRANT (R393): gives a House its resources (R393, R420). -/
def execHouseGrant (d : DeanCmd) (s : State) : Host.Outcome State Fault Refusal :=
  .next (s.linked (fun s => s.dean (State.cmdHouseGrant d)))

/-- BANK_HANDOVER (R168): hands a Library bank over (R168, R419). -/
def execBankHandover (d : DeanCmd) (s : State) : Host.Outcome State Fault Refusal :=
  .next (s.linked (fun s => s.dean (State.cmdBankHandover d)))

/-- PIPE_CREATE (R394): creates a pipeline (R394). -/
def execPipeCreate (d : DeanCmd) (s : State) : Host.Outcome State Fault Refusal :=
  .next (s.linked (fun s => s.dean (State.cmdPipeCreate d)))

/-- PIPE_DESTROY (R392): destroys a pipeline (R394). -/
def execPipeDestroy (d : DeanCmd) (s : State) : Host.Outcome State Fault Refusal :=
  .next (s.linked (fun s => s.dean (State.cmdPipeDestroy d)))

/-- MODEL_LOAD (R238): loads a signed model package (R239, R432). -/
def execModelLoad (d : DeanCmd) (s : State) : Host.Outcome State Fault Refusal :=
  .next (s.linked (fun s => s.dean (State.cmdModelLoad d)))

/-- MODEL_UNLOAD (R392): unloads a model (R239). -/
def execModelUnload (d : DeanCmd) (s : State) : Host.Outcome State Fault Refusal :=
  .next (s.linked (fun s => s.dean (State.cmdModelUnload d)))

/-- ROUTE_SET (R339): stages a pipeline's source (R395). -/
def execRouteSet (d : DeanCmd) (s : State) : Host.Outcome State Fault Refusal :=
  .next (s.linked (fun s => s.dean (State.cmdRouteSet d)))

/-- MODE_SET (R395): stages a raster's mode (R395). -/
def execModeSet (d : DeanCmd) (s : State) : Host.Outcome State Fault Refusal :=
  .next (s.linked (fun s => s.dean (State.cmdModeSet d)))

/-- PORT_SET (R395): stages a port's block (R395). -/
def execPortSet (d : DeanCmd) (s : State) : Host.Outcome State Fault Refusal :=
  .next (s.linked (fun s => s.dean (State.cmdPortSet d)))

/-- CANVAS_SET (R395): stages a canvas's block (R395). -/
def execCanvasSet (d : DeanCmd) (s : State) : Host.Outcome State Fault Refusal :=
  .next (s.linked (fun s => s.dean (State.cmdCanvasSet d)))

/-- VLAYER_SET (R395): stages a video layer's block (R395). -/
def execVlayerSet (d : DeanCmd) (s : State) : Host.Outcome State Fault Refusal :=
  .next (s.linked (fun s => s.dean (State.cmdVlayerSet d)))

/-- PROTECT_SET (R343): stages a signed protected template (R343). -/
def execProtectSet (d : DeanCmd) (s : State) : Host.Outcome State Fault Refusal :=
  .next (s.linked (fun s => s.dean (State.cmdProtectSet d)))

/-- FW_STAGE (R468): writes a verified image in the inactive area (R468). -/
def execFwStage (d : DeanCmd) (s : State) : Host.Outcome State Fault Refusal :=
  .next (s.linked (fun s => s.dean (State.cmdFwStage d)))

/-- FW_SWAP (R468): requests the firmware swap (R468). -/
def execFwSwap (d : DeanCmd) (s : State) : Host.Outcome State Fault Refusal :=
  .next (s.linked (fun s => s.dean (State.cmdFwSwap d)))

/-- DEBUG_SET (R438): sets the debug state of a House (R438). -/
def execDebugSet (d : DeanCmd) (s : State) : Host.Outcome State Fault Refusal :=
  .next (s.linked (fun s => s.dean (State.cmdDebugSet d)))

/-- ADAPT_POLICY (R317): sets the homework policy of a model (R317). -/
def execAdaptPolicy (d : DeanCmd) (s : State) : Host.Outcome State Fault Refusal :=
  .next (s.linked (fun s => s.dean (State.cmdAdaptPolicy d)))

/-- HW_STATUS (R318): writes the homework record of a model (R318). -/
def execHwStatus (d : DeanCmd) (s : State) : Host.Outcome State Fault Refusal :=
  .next (s.linked (fun s => s.dean (State.cmdHwStatus d)))

/-- COMMIT (R396): checks a staged set and accepts it (R335, R396). -/
def execCommit (d : DeanCmd) (s : State) : Host.Outcome State Fault Refusal :=
  .next (s.linked (fun s => s.dean (State.cmdCommit (d.commitFlags (some false) (some false) (some false)))))

/-- COMMIT_BELL (R396): arms a staged set for its COMMIT bell (R396). -/
def execCommitBell (d : DeanCmd) (s : State) : Host.Outcome State Fault Refusal :=
  .next (s.linked (fun s => s.dean (State.cmdCommit (d.commitFlags (some true) none (some false)))))

/-- COMMIT_CUT (R341): accepts both sets of a cut (R340, R396). -/
def execCommitCut (d : DeanCmd) (s : State) : Host.Outcome State Fault Refusal :=
  .next (s.linked (fun s => s.dean (State.cmdCommit (d.commitFlags (some false) (some true) (some false)))))

/-- COMMIT_CLEAR (R396): empties a slot (R396). -/
def execCommitClear (d : DeanCmd) (s : State) : Host.Outcome State Fault Refusal :=
  .next (s.linked (fun s => s.dean (State.cmdCommit (d.commitFlags none none (some true)))))

/-- MARCH_COMPLETE (R184): a march run ends; `fail`: its cells have failed (R184). -/
def execMarchComplete (fail : Bool) (s : State) : Host.Outcome State Fault Refusal :=
  .next (s.powered (fun s => s.marchComplete fail))

/-- DEAN_SLOT (R385): the slot of House h, in which the Dean has time for n commands (R385, R386). -/
def execDeanSlot (h : Fin 8) (n : Nat) (s : State) : Host.Outcome State Fault Refusal :=
  .next (s.linked (fun s => s.deanSlot h n))

end Sys2Proof.Machine
end

