-- ==== Sys2Proof/Machine/DebugRows.lean ====
section
/-! DEFINITION. The rows of function level reset, JTAG, the lifecycle and GPIO (chapters "External interfaces" and "Houses, the Proctor and debug"). -/
namespace Sys2Proof.Machine

/-- FLR (R373): a function level reset (R373). -/
def execFlr (fn : Fin 8) (s : State) : Host.Outcome State Fault Refusal :=
  .next (s.linked (fun s => s.flr fn))

/-- PERST (R477): PERST_N low: every function acts as after its FLR (R477). -/
def execPerst (s : State) : Host.Outcome State Fault Refusal :=
  .next (s.linked (fun s => s.perst))

/-- LC_REQ (R436): a lifecycle transition is requested over JTAG with its token; `slots`: the owner key slots that stand ready to be fused (R436). -/
def execLcReq (dst : Fin 8) (slots : Fin 16) (token : List Byte) (s : State) : Host.Outcome State Fault Refusal :=
  .next (s.lcRequest dst slots token)

/-- HDCP_PROVISION (R435): the Proctor's provisioning instructions store HDCP keys (R435). -/
def execHdcpProvision (s : State) : Host.Outcome State Fault Refusal :=
  .next (s.hdcpProvision)

/-- IDCODE (R440): JTAG IDCODE (R440). -/
def execIdcode (s : State) : Host.Outcome State Fault Refusal :=
  .next (s.jtagIdcode)

/-- BYPASS (R440): JTAG BYPASS, and one bit shifted (R440). -/
def execBypass (tdi : Bool) (s : State) : Host.Outcome State Fault Refusal :=
  .next (s.jtagBypass tdi)

/-- SAMPLE_PRELOAD (R440): JTAG SAMPLE/PRELOAD: the balls as they stand, and what is preloaded (R440). -/
def execSamplePreload (pins content : Nat) (s : State) : Host.Outcome State Fault Refusal :=
  .next (s.jtagSample pins content)

/-- EXTEST (R441): JTAG EXTEST (Table 15.9). -/
def execExtest (pins content : Nat) (s : State) : Host.Outcome State Fault Refusal :=
  .next (s.jtagExtest pins content)

/-- INTEST (R441): JTAG INTEST (Table 15.9). -/
def execIntest (content : Nat) (s : State) : Host.Outcome State Fault Refusal :=
  .next (s.jtagIntest content)

/-- TCD_ACCESS (R441): the JTAG TCD access instruction: a read or a write of a TCD register (Table 15.9). -/
def execTcdAccess (write : Bool) (off : Fin 16777216) (value : Word) (s : State) : Host.Outcome State Fault Refusal :=
  .next (s.jtagTcd write off value)

/-- GPIO_INTERRUPT (R382): a GPIO pin, configured as given, takes a level after its filter (R382). -/
def execGpioInterrupt (pin : Fin 32) (mode : Fin 3) (irq : Fin 6) (level : Bool) (s : State) : Host.Outcome State Fault Refusal :=
  .next (s.linked (fun s => s.gpioLevel pin mode irq level))

end Sys2Proof.Machine
end

