-- ==== Sys2Proof/Machine/DmaRows.lean ====
section
/-! DEFINITION. The rows of the DMA engines (chapter "DMA, corridor and mesh") and of address translation for host memory (R372). -/
namespace Sys2Proof.Machine

/-- DMA_CHAIN_START (R191): window e with no chain takes the oldest start and reads its first descriptor. -/
def execDmaChainStart (e : Fin 96) (s : State) : Host.Outcome State Fault Refusal :=
  .next (s.powered (fun s => s.chainStart e))

/-- DESC_NOP (R192): a NOP descriptor is checked and moves nothing. -/
def execDescNop (e : Fin 96) (bus : Option (Fin 65536 × Fin 65536)) (s : State) : Host.Outcome State Fault Refusal :=
  .next (s.powered (fun s => s.runDesc e 0 (bus.map (fun b => (b.1.val, b.2.val)))))

/-- COPY (R195): a COPY descriptor is checked and moves its grid; `bus` is the (row, byte) whose access has a bus error. -/
def execCopy (e : Fin 96) (bus : Option (Fin 65536 × Fin 65536)) (s : State) : Host.Outcome State Fault Refusal :=
  .next (s.powered (fun s => s.runDesc e 1 (bus.map (fun b => (b.1.val, b.2.val)))))

/-- SKEW (R198): a SKEW descriptor moves rows into an input Desk on the diagonal. -/
def execSkew (e : Fin 96) (bus : Option (Fin 65536 × Fin 65536)) (s : State) : Host.Outcome State Fault Refusal :=
  .next (s.powered (fun s => s.runDesc e 2 (bus.map (fun b => (b.1.val, b.2.val)))))

/-- FILL (R199): a FILL descriptor writes its pattern. -/
def execFill (e : Fin 96) (bus : Option (Fin 65536 × Fin 65536)) (s : State) : Host.Outcome State Fault Refusal :=
  .next (s.powered (fun s => s.runDesc e 3 (bus.map (fun b => (b.1.val, b.2.val)))))

/-- DESC_PREF (R199): a PREF descriptor brings lines into the shelf. -/
def execDescPref (e : Fin 96) (bus : Option (Fin 65536 × Fin 65536)) (s : State) : Host.Outcome State Fault Refusal :=
  .next (s.powered (fun s => s.runDesc e 4 (bus.map (fun b => (b.1.val, b.2.val)))))

/-- DESCRIPTOR_COMPLETE (R201): hall pass, event, next descriptor, in this order. -/
def execDescriptorComplete (e : Fin 96) (s : State) : Host.Outcome State Fault Refusal :=
  .next (s.powered (fun s => s.descDone e))

/-- PRI_RESPONSE (R203): the host answers a page request of function fn for the page of an address. -/
def execPriResponse (fn : Fin 8) (page : Nat) (ok : Bool) (s : State) : Host.Outcome State Fault Refusal :=
  .next (s.powered (fun s => s.priResponse fn page ok))

/-- ABORT (R204): a write of 1 to DMA_En_CTRL.ABORT by function fn, or by Dvorzar (none): from the function of the House whose chain or context the window holds. -/
def execAbort (fn : Option (Fin 8)) (e : Fin 96) (s : State) : Host.Outcome State Fault Refusal :=
  .next (s.powered (fun s => s.abortWindow (fn.map (·.val)) e))

/-- ATS_INVALIDATION (R372): the host's tables now say `status` of the page (0 present, 1 not present, 2 refused), for requests issued from now on; those before have completed. -/
def execAtsInvalidation (fn : Fin 8) (page : Nat) (status : Fin 3) (s : State) : Host.Outcome State Fault Refusal :=
  .next (s.powered (fun s => s.setPage fn page status))

end Sys2Proof.Machine
end

