-- ==== Sys2Proof/Machine/FixedFn.lean ====
section
/-! DEFINITION. Fixed-function jobs (R251 to R261): slots, walks, gates, the edge-layer engine, the crop-and-resize unit; and the form's
address generator (R249, R250). -/
namespace Sys2Proof.Machine

/-! ### Job descriptors (Table 9.4) -/

/-- A job. Channel counts are the counts themselves; PAD, X0 and Y0 as their fields say. -/
structure FfJob where
  words : List Nat
  deriving DecidableEq, Repr

/-- Word i. -/
def FfJob.w (j : FfJob) (i : Nat) : Nat := j.words.getD i 0
/-- Field [hi:lo] of word i. -/
def FfJob.f (j : FfJob) (i hi lo : Nat) : Nat := j.w i / 2 ^ lo % 2 ^ (hi + 1 - lo)
/-- KIND. -/
def FfJob.kind (j : FfJob) : Nat := j.f 0 3 0
/-- K. -/
def FfJob.k (j : FfJob) : Nat := j.f 0 6 4
/-- Input channels. -/
def FfJob.cin (j : FfJob) : Nat := j.f 0 12 7 + 1
/-- Output channels. -/
def FfJob.cout (j : FfJob) : Nat := j.f 0 18 13 + 1
/-- GATE. -/
def FfJob.gate (j : FfJob) : Nat := j.f 0 22 21
/-- DONE_EN. -/
def FfJob.done (j : FfJob) : Bool := decide (j.f 0 23 23 = 1)
/-- IFMT. -/
def FfJob.ifmt (j : FfJob) : Nat := j.f 0 25 24
/-- OFMT. -/
def FfJob.ofmt (j : FfJob) : Nat := j.f 0 27 26
/-- CODEC. -/
def FfJob.codec (j : FfJob) : Nat := j.f 0 29 28
/-- SUB. -/
def FfJob.sub (j : FfJob) : Nat := j.f 0 31 30
/-- WIDTH. -/
def FfJob.width (j : FfJob) : Nat := j.f 8 15 0
/-- ROWS. -/
def FfJob.rows (j : FfJob) : Nat := j.f 8 31 16
/-- X0. -/
def FfJob.x0 (j : FfJob) : Int := sgn 16 (j.f 9 15 0)
/-- Y0. -/
def FfJob.y0 (j : FfJob) : Int := sgn 16 (j.f 9 31 16)
/-- ZP_IN: signed for INT8. -/
def FfJob.zp (j : FfJob) : Int := if j.ifmt = 2 then sgn 16 (j.w 14) else (j.w 14 : Nat)

/-- The unit of a kind: 0 edge-layer engine, 1 crop-and-resize unit, 2 neither. -/
def ffUnit (kind : Nat) : Nat := if kind = 1 ∨ kind = 2 then 0 else if kind = 3 then 1 else 2

/-- The rules of Table 9.4 and Table 9.5 for a descriptor's fields. -/
def FfJob.ok (j : FfJob) : Bool :=
  let z := fun (is : List Nat) => is.all (fun i => decide (j.w i = 0))
  let gate : Bool := match j.gate with
    | 0 => decide (j.w 11 = 0)
    | 1 => decide (j.f 11 15 13 = 0)
    | 2 => decide (j.f 11 15 2 = 0)
    | _ => false
  let done : Bool := if j.done then decide (j.f 12 15 13 = 0) else decide (j.w 12 = 0)
  let size : Bool := decide (1 ≤ j.width) && decide (j.width ≤ 16384) && decide (1 ≤ j.rows) && decide (j.rows ≤ 16384)
  let addrs : Bool := decide (j.w 2 < 2 ^ 27) && decide (j.w 3 < 2 ^ 27) && decide (j.w 4 < 2 ^ 24) && decide (j.w 4 % 64 = 0) &&
    decide (j.w 5 < 2 ^ 27) && decide (j.w 6 < 2 ^ 27) && decide (j.w 7 < 2 ^ 24) && decide (j.w 7 % 64 = 0) && decide (j.w 10 < 2 ^ 27) &&
    decide (j.w 13 < 2 ^ 27) && decide (j.w 14 < 2 ^ 16) && decide (j.w 15 = 0)
  let kEdge : Bool := decide (j.k = 1) || decide (j.k = 3) || decide (j.k = 5)
  let codec : Bool := decide (j.ifmt = 0) || decide (j.codec ≤ 1)
  gate && done && addrs &&
  match j.kind with
  | 0 => decide (j.f 0 20 4 = 0) && decide (j.f 0 31 24 = 0) && z [1, 2, 3, 4, 5, 6, 7, 8, 9, 10, 13, 14]
  | 1 => kEdge && decide (j.cin ≤ 4) && decide (j.f 0 20 19 ≤ 1) && decide (j.ifmt ≤ 1) && decide (j.ofmt ≤ 1) && codec &&
      decide (j.sub ≠ 3) && size
  | 2 => kEdge && decide (j.cout ≤ 4) && decide (j.f 0 20 19 ≤ 1) && decide (j.ifmt = 2) && decide (j.ofmt ≠ 0) &&
      (decide (j.ofmt ≠ 2) || decide (j.cout = 3)) && decide (j.codec = 0) && decide (j.sub = 0) && decide (j.w 13 = 0) && size
  | 3 => decide (j.k ≤ 2) && decide (j.f 0 20 13 = 0) && decide (j.ifmt ≤ 1) && decide (j.ofmt ≤ 1) && codec && decide (j.sub ≠ 3) &&
      z [1, 6, 7, 9, 14] && decide (j.w 13 % 4 = 0) && size
  | _ => false

/-! ### Reading a source -/

/-- Bits per value of a CODEC. -/
def FfJob.bits (j : FfJob) : Nat := if j.ifmt = 1 then 4 else golBits j.codec

/-- The Library bytes that hold element (x, y) of channel c of the source; none left of or above address 0. -/
def FfJob.range (j : FfJob) (c : Nat) (x y : Int) : Option (Nat × Nat) :=
  let a : Int × Nat :=
    if j.ifmt = 2 then (((j.w 2 + c / 32 * j.w 3 : Nat) : Int) + y * j.w 4 + x * 64 + (c % 32 : Nat), 1)
    else if j.codec = 0 then
      let e := if j.ifmt = 1 then 2 else 1
      (((j.w 2 + c * j.w 3 : Nat) : Int) + y * j.w 4 + x * (e : Nat), e)
    else
      let n := golSize j.bits
      (((j.w 2 + c * j.w 3 : Nat) : Int) + y / 2 * j.w 4 + x / 8 * (n : Nat), n)
  if 0 ≤ a.1 then some (a.1.toNat, a.2) else none

/-- Element (x, y) of channel c, as R255 and R259 take it. -/
def State.ffSample (s : State) (j : FfJob) (c : Nat) (x y : Int) : Int :=
  match j.range c x y with
  | none => 0
  | some (a, n) =>
    if j.ifmt = 2 then sgn 8 (memLe s.lib a 1)
    else if j.codec = 0 then (if j.ifmt = 1 then (memLe s.lib a n % 1024 : Nat) else (memLe s.lib a n : Nat))
    else (((golDecode (if j.ifmt = 1 then 10 else 8) j.bits (memReadN s.lib a n)).getD ((8 * (y % 2) + x % 8).toNat) 0 : Nat) : Int)

/-- Source coordinates of a full-resolution position for plane c (R254). -/
def FfJob.planePos (j : FfJob) (c : Nat) (x y : Int) : Int × Int :=
  if c = 0 ∨ j.sub = 0 then (x, y) else (x / 2, if j.sub = 2 then y / 2 else y)

/-- Ranges may be read by the House: in its reserved banks and without uncorrectable errors. The second Bool is false for an
uncorrectable error, whose address is the Nat. -/
def State.ffReadable (s : State) (h : Nat) (rs : List (Option (Nat × Nat))) : Bool × Option Nat :=
  (rs.all (fun r => match r with | some (a, n) => s.banksOk h a n | none => false),
    rs.findSome? (fun r => match r with | some (a, n) => s.firstBad .lib a n | none => none))

/-- The words of the ranges that hold a correctable error, each counted once (R162). -/
def State.ffCorrected (s : State) (rs : List (Option (Nat × Nat))) : State :=
  ((rs.flatMap (fun r => match r with
    | some (a, n) => (wordsTouched a n).filter (fun k => decide (s.eccOf .lib k = 1))
    | none => [])).eraseDups).foldl (fun s k => s.libError false k) s

/-! ### The edge-layer engine (R254 to R257) -/

/-- Column t or row u of the source window lies in the padding. -/
def FfJob.padded (j : FfJob) (t u : Nat) : Bool :=
  decide (t < j.f 1 7 0) || decide (j.width + j.k - 1 < t + 1 + j.f 1 15 8) || decide (u < j.f 1 23 16) ||
  decide (j.rows + j.k - 1 < u + 1 + j.f 1 31 24)

/-- The source position of a tap. -/
def FfJob.tapPos (j : FfJob) (px py kx ky c : Nat) : Int × Int :=
  let r : Int := (((j.k - 1) / 2 : Nat) : Int)
  j.planePos c (j.x0 + px + kx - r) (j.y0 + py + ky - r)

/-- Every tap of an output position: channel, ky, kx. -/
def FfJob.taps (j : FfJob) : List (Nat × Nat × Nat) :=
  (List.range j.cin).flatMap (fun c => (List.range j.k).flatMap (fun ky => (List.range j.k).map (fun kx => (c, ky, kx))))

/-- Every output position. -/
def FfJob.positions (j : FfJob) : List (Nat × Nat) :=
  (List.range j.rows).flatMap (fun py => (List.range j.width).map (fun px => (px, py)))

/-- The source ranges that the job reads. -/
def FfJob.edgeReads (j : FfJob) : List (Option (Nat × Nat)) :=
  j.positions.flatMap (fun q => j.taps.filterMap (fun (c, ky, kx) =>
    if j.padded (q.1 + kx) (q.2 + ky) then none
    else
      let (x, y) := j.tapPos q.1 q.2 kx ky c
      some (j.range c x y)))

/-- Bytes of the weight block (R256). -/
def FfJob.weightBytes (j : FfJob) : Nat := ceilDiv (j.cout * j.cin * j.k * j.k) 64 * 64 + 8 * j.cout

/-- A bank of the edge-layer engine. -/
def State.edgeBank (s : State) (b : Nat) : Bool := decide (b < 512) && decide (s.bankOwner b = 9) && decide (fld (s.bankReg b) 6 4 = 0)

/-- The value of an output channel before rounding, as FP32 bits (R255). -/
def State.edgeValue (s : State) (j : FfJob) (px py o : Nat) : Nat :=
  let wa := j.w 10
  let acc : Int := (j.taps.map (fun (c, ky, kx) =>
    if j.padded (px + kx) (py + ky) then 0
    else
      let (x, y) := j.tapPos px py kx ky c
      sgn 8 (memLe s.lib (wa + ((o * j.cin + c) * j.k + ky) * j.k + kx) 1) * (s.ffSample j c x y - j.zp))).foldl (· + ·) 0
  let tail := wa + ceilDiv (j.cout * j.cin * j.k * j.k) 64 * 64
  let x := f32Mul (f32OfInt acc) (memLe s.lib (tail + 4 * o) 4)
  let x := f32Add x (memLe s.lib (tail + 4 * j.cout + 4 * o) 4)
  if j.f 0 20 19 = 1 ∧ fvLt (f32 x) (fvOfInt 0) then 0 else x

/-- The output range of a job. -/
def FfJob.limits (j : FfJob) : Int × Int := match j.ofmt with
  | 0 => (-128, 127)
  | 1 => (0, 255)
  | _ => (0, 1023)

/-- An output channel: its integer and whether it was clamped; NaN gives 0. -/
def FfJob.finish (j : FfJob) (x : Nat) : Int × Bool :=
  if (f32 x).isNan then (0, false)
  else
    let (lo, hi) := j.limits
    let r := fvToInt lo hi (f32 x)
    (r.1, decide (r.2 &&& flSAT ≠ 0))

/-- The writes of an output position: address and bytes. -/
def FfJob.edgeWrites (j : FfJob) (px py : Nat) (vs : List Int) : List (Nat × List Byte) :=
  let v : Nat → Nat := fun o => ((vs.getD o 0) % 1024).toNat
  let b : Nat → Nat → Nat := fun o m => ((vs.getD o 0) % (m : Int)).toNat
  if j.kind = 1 then
    (List.range j.cout).map (fun o => (j.w 5 + o / 32 * j.w 6 + py * j.w 7 + px * 64 + o % 32, leBytes 1 (b o 256)))
  else match j.ofmt with
    | 2 => [(j.w 5 + py * j.w 7 + px * 4, leBytes 4 (v 0 + 2 ^ 10 * v 1 + 2 ^ 20 * v 2))]
    | 3 => (List.range j.cout).map (fun o => (j.w 5 + o * j.w 6 + py * j.w 7 + px * 2, leBytes 2 (b o 65536)))
    | _ => (List.range j.cout).map (fun o => (j.w 5 + o * j.w 6 + py * j.w 7 + px, leBytes 1 (b o 256)))

/-- Writes of a unit into the House's banks. -/
def State.ffWrite (s : State) (req h : Nat) (ws : List (Nat × List Byte)) : State :=
  ws.foldl (fun s w => s.bankWriteFor req h w.1 w.2) s

/-- SAT counts. -/
def State.ffSat (s : State) (p n : Nat) : State := s.wrF (Reg.FFJ_Pp_ERR p) 7 0 (min 255 (s.rdF (Reg.FFJ_Pp_ERR p) 7 0 + n))

/-- Width and height of plane c of a pipeline's input under a job's subsampling. -/
def FfJob.planeSize (j : FfJob) (x : Pipe) (c : Nat) : Nat × Nat :=
  if c = 0 ∨ j.sub = 0 then (x.inW, x.inH) else ((x.inW + 1) / 2, if j.sub = 2 then (x.inH + 1) / 2 else x.inH)

/-- The blocks of the Golile copy that an EDGE_IN job writes (R257, R261): plane, line pair, block. -/
def FfJob.copyBlocks (j : FfJob) (x : Pipe) : List (Nat × Nat × Nat) :=
  (List.range j.cin).flatMap (fun c =>
    let (w, h) := j.planeSize x c
    let sub : Int → Int := fun y => if c = 0 ∨ j.sub ≠ 2 then y else y / 2
    let lo := (clampI 0 h (sub j.y0)).toNat
    let hi := (clampI 0 h (sub (j.y0 + j.rows - 1) + 1)).toNat
    let pairs := (List.range (ceilDiv hi 2)).filter (fun k => decide (lo / 2 ≤ k) && decide (lo < hi))
    pairs.flatMap (fun k => (List.range (ceilDiv w 8)).map (fun n => (c, k, n))))

/-- The address of a block of the copy. -/
def copyAddr (base p c k n : Nat) : Nat :=
  let (lp, pp) := Config.copyPitch p
  base + c * pp + k * lp + 10 * n

/-- The values of a block of the copy: an odd last line is its own copy, positions beyond the width repeat the last. -/
def State.copyValues (s : State) (j : FfJob) (x : Pipe) (c k n : Nat) : List Nat :=
  let (w, h) := j.planeSize x c
  (List.range 16).map (fun i =>
    let y := min (2 * k + i / 8) (h - 1)
    (s.ffSample j c ((min (8 * n + i % 8) (w - 1) : Nat) : Int) (y : Nat)).toNat)

/-- The copy is written. -/
def State.writeCopy (s : State) (p : Nat) (j : FfJob) : State :=
  let x := s.pipe p
  if j.kind ≠ 1 ∨ j.w 13 = 0 ∨ x.repeats.isSome then s
  else
    let ws := (j.copyBlocks x).map (fun (c, k, n) => (copyAddr (j.w 13) p c k n, golEncode 10 4 (s.copyValues j x c k n)))
    (s.ffWrite 1093 x.house ws).setPipe p { x with copyBase := j.w 13 }

/-- The ranges that an EDGE job writes lie in the House's reserved banks. -/
def State.edgeWritable (s : State) (p : Nat) (j : FfJob) : Bool :=
  let x := s.pipe p
  (j.positions.all (fun q => (j.edgeWrites q.1 q.2 []).all (fun w => s.banksOk x.house w.1 w.2.length))) &&
  (decide (j.kind ≠ 1) || decide (j.w 13 = 0) ||
    (j.copyBlocks x).all (fun (c, k, n) => s.banksOk x.house (copyAddr (j.w 13) p c k n) 10))

/-- The data of an EDGE job. -/
def State.edgeRun (s : State) (p : Nat) (j : FfJob) : State :=
  let h := (s.pipe p).house
  let outs := j.positions.map (fun q => (q, (List.range j.cout).map (fun o => j.finish (s.edgeValue j q.1 q.2 o))))
  let s' := outs.foldl (fun t x => t.ffWrite 1093 h (j.edgeWrites x.1.1 x.1.2 (x.2.map (·.1)))) (s.writeCopy p j)
  s'.ffSat p ((outs.map (fun x => (x.2.filter (·.2)).length)).sum)

/-! ### The crop-and-resize unit (R258, R259) -/

/-- A box list entry. -/
structure Box where
  x0 : Int
  y0 : Int
  w : Nat
  h : Nat
  bytes : List Byte
  deriving DecidableEq, Repr

/-- NBOX and the entries that the unit reads. -/
def State.boxes (s : State) (a : Nat) : Nat × List Box :=
  let n := memLe s.lib a 4 % 512
  (n, (List.range (min n 256)).map (fun i =>
    let b := memReadN s.lib (a + 4 + 16 * i) 16
    { x0 := sgn 16 (num b 0 2), y0 := sgn 16 (num b 2 2), w := num b 4 2, h := num b 6 2, bytes := b.take 12 }))

/-- A box that is accepted. -/
def Box.ok (b : Box) : Bool := decide (1 ≤ b.w) && decide (b.w ≤ 4096) && decide (1 ≤ b.h) && decide (b.h ≤ 4096)

/-- Crop size S. -/
def FfJob.s (j : FfJob) : Nat := 16 * 2 ^ j.k

/-- Sample index and fraction along one axis; `half`: the plane is subsampled along it. -/
def cropPos (org : Int) (len sz u : Nat) (half : Bool) : Int × Nat :=
  let step := len * 65536 / sz
  let x : Int := org * 65536 + (u * step + step / 2 : Nat) - 32768
  let x := if half then x / 2 else x
  (x / 65536, (x / 256 % 256).toNat)

/-- Plane size of a CROP job: WIDTH and ROWS give plane 0. -/
def FfJob.cropPlane (j : FfJob) (c : Nat) : Nat × Nat :=
  if c = 0 ∨ j.sub = 0 then (j.width, j.rows) else ((j.width + 1) / 2, if j.sub = 2 then (j.rows + 1) / 2 else j.rows)

/-- The four samples that an output position of a box takes from plane c, with the fractions. -/
def FfJob.cropTaps (j : FfJob) (b : Box) (c u v : Nat) : (Int × Int) × (Int × Int) × Nat × Nat :=
  let (w, h) := j.cropPlane c
  let sub := c ≠ 0
  let (i, fx) := cropPos b.x0 b.w j.s u (sub && decide (j.sub ≠ 0))
  let (k, fy) := cropPos b.y0 b.h j.s v (sub && decide (j.sub = 2))
  let cl : Nat → Int → Int := fun n t => clampI 0 ((n : Int) - 1) t
  ((cl w i, cl w (i + 1)), (cl h k, cl h (k + 1)), fx, fy)

/-- One value of a box (R259). -/
def State.cropValue (s : State) (j : FfJob) (b : Box) (c u v : Nat) : Nat :=
  let (xs, ys, fx, fy) := j.cropTaps b c u v
  let smp := fun x y => (s.ffSample j c x y).toNat
  let top := smp xs.1 ys.1 * (256 - fx) + smp xs.2 ys.1 * fx
  let bot := smp xs.1 ys.2 * (256 - fx) + smp xs.2 ys.2 * fx
  let val := (top * (256 - fy) + bot * fy + 32768) / 65536
  if j.ifmt = 1 then min 255 ((val + 2) / 4) else val

/-- Every (u, v) of a box. -/
def FfJob.cropPositions (j : FfJob) : List (Nat × Nat) :=
  (List.range j.s).flatMap (fun v => (List.range j.s).map (fun u => (u, v)))

/-- The source ranges that the accepted boxes read. -/
def FfJob.cropReads (j : FfJob) (bs : List Box) : List (Option (Nat × Nat)) :=
  bs.flatMap (fun b => (List.range j.cin).flatMap (fun c => j.cropPositions.flatMap (fun q =>
    let (xs, ys, _, _) := j.cropTaps b c q.1 q.2
    [j.range c xs.1 ys.1, j.range c xs.2 ys.1, j.range c xs.1 ys.2, j.range c xs.2 ys.2])))

/-- Bytes of an output box. -/
def FfJob.boxBytes (j : FfJob) : Nat := 64 + j.s * j.s * 64

/-- An output box: its header and its positions. -/
def State.cropBox (s : State) (j : FfJob) (n : Nat) (b : Box) : List Byte :=
  (b.bytes ++ leBytes 2 n ++ leBytes 50 0) ++ j.cropPositions.flatMap (fun q =>
    (List.range 64).map (fun c => if c < j.cin then BitVec.ofNat 8 (s.cropValue j b c q.1 q.2) else 0))

/-- The data of a CROP job: boxes, BOXERR, the shape word. -/
def State.cropRun (s : State) (p : Nat) (j : FfJob) : State :=
  let h := (s.pipe p).house
  let (n, all) := s.boxes (j.w 10)
  let good := all.filter Box.ok
  let bad := (all.length - good.length) + (n - 256)
  let ws := (good.zip (List.range good.length)).map (fun (b, i) => (j.w 5 + i * j.boxBytes, s.cropBox j i b))
  let s := s.ffWrite 1094 h ws
  let s := s.ffWrite 1094 h [(j.w 13, leBytes 4 (ceilDiv (good.length * j.s * j.s) 1024))]
  s.wrF (Reg.FFJ_Pp_ERR p) 15 8 (min 255 (s.rdF (Reg.FFJ_Pp_ERR p) 15 8 + bad))

/-! ### Walks (R251 to R253) -/

/-- A pipeline's walk. -/
def State.walk (s : State) (p : Nat) : Walk := mapGet (fun _ => {}) s.walks p
/-- A pipeline's walk replaced. -/
def State.setWalk (s : State) (p : Nat) (w : Walk) : State := { s with walks := mapSet (fun _ => {}) s.walks p w }

/-- The present slot belongs to the pipeline (R251). -/
def State.inSlot (s : State) (p : Nat) : Bool :=
  let i := s.service.ffSlot
  bit (s.rd Reg.FFJ_SLOTEN) i && decide (fld (s.rd Reg.FFJ_SLOTS) (2 * i + 1) (2 * i) = p)

/-- FF_SLOT_START: the next slot; at a round's start a change of the slots that a commit has carried takes effect. -/
def State.slotStart (s : State) : State :=
  let i := (s.service.ffSlot + 1) % 16
  let s := { s with service := { s.service with ffSlot := i } }
  if i = 0 then
    match s.service.slotDue with
    | some (a, b) => { (s.wr Reg.FFJ_SLOTS a).wr Reg.FFJ_SLOTEN b with service := { s.service with slotDue := none } }
    | none => s
  else s

/-- BADJOB counts. -/
def State.badJob (s : State) (p : Nat) : State := s.countFld (Reg.FFJ_Pp_ERR p) 23 16

/-- The Library address of job i of a walk (R252). -/
def State.ffJobAt (s : State) (p i : Nat) : Nat := (s.walk p).base + 16 + 64 * i

/-- Job i of a walk. -/
def State.ffJob (s : State) (p i : Nat) : FfJob :=
  let b := memReadN s.lib (s.ffJobAt p i) 64
  { words := (List.range 16).map (fun k => num b (4 * k) 4) }

/-- The job has been taken. -/
def Walk.has (w : Walk) (i : Nat) : Bool := Nat.testBit w.taken i

/-- A job is taken. -/
def State.takeJob (s : State) (p i : Nat) : State := s.setWalk p { s.walk p with taken := (s.walk p).taken ||| 2 ^ i }

/-- Jobs of reserved kinds fail when every job before them has been taken. -/
def State.settleWalk (s : State) (p : Nat) : State :=
  (List.range (s.walk p).njobs).foldl (fun s i =>
    let w := s.walk p
    if !w.has i && (List.range i).all w.has && decide (4 ≤ (s.ffJob p i).kind) then (s.badJob p).takeJob p i else s) s

/-- Jobs of a walk that are not complete. -/
def Walk.unfinished (w : Walk) : Nat :=
  ((List.range w.njobs).filter (fun i => !w.has i || w.edge = some i || w.crop = some i)).length

/-- JOB_WALK_START (R252): at the start of line START_LINE of frame N − FOFS the walk for frame N begins; unfinished jobs are
abandoned. -/
def State.walkStart (s : State) (p : Nat) : State :=
  let x := s.pipe p
  let a := (s.rd (Reg.FFJ_Pp_LIST p)).toNat
  let q := s.raster x.raster
  let w1 := memLe s.lib (a + 4) 4
  if !x.valid || decide (a = 0) || !s.rasterOn x.raster || !s.banksOk x.house a 16 || decide (q.line ≠ w1 % 65536) then s
  else match s.firstBad .lib a 16 with
  | some b => s.libError true b
  | none =>
    let s := s.libCorrected a 16
    let old := s.walk p
    let n := q.frame.toNat + w1 / 65536 % 4
    let s := [0, 1, 2].foldl (fun s u => s.unwait (.gate (4 * p + u))) s
    let s := s.wrF (Reg.FFJ_Pp_ERR p) 31 24 (min 255 (s.rdF (Reg.FFJ_Pp_ERR p) 31 24 + old.unfinished))
    let s := s.setWalk p { target := n, base := a, njobs := memLe s.lib a 4 % 256 }
    (s.wr (Reg.FFJ_Pp_WALK p) (BitVec.ofNat 32 (n % 65536 * 65536))).settleWalk p

/-- The next job of a unit: the first not taken of its kinds, with nothing running there; a NOP waits for the jobs before it to be
taken. -/
def State.nextJob (s : State) (p unit : Nat) : Option Nat :=
  let w := s.walk p
  let busy : Bool := if unit = 0 then w.edge.isSome else if unit = 1 then w.crop.isSome else false
  if busy then none
  else (List.range w.njobs).find? (fun i => !w.has i && decide (ffUnit (s.ffJob p i).kind = unit) && decide ((s.ffJob p i).kind < 4) &&
    (decide (unit ≠ 2) || (List.range i).all w.has))

/-- The completion action of a job (R253): its signal, or BADJOB. -/
def State.jobSignal (s : State) (p unit : Nat) (j : FfJob) : State :=
  if !j.done then s
  else
    let hp := j.f 12 12 0
    if s.passHouse hp = some (s.pipe p).house then
      let (s, sat) := s.signal hp (j.f 12 31 16) (if unit = 1 then 1094 else 1093)
      if sat then s.badJob p else s
    else s.badJob p

/-- A job starts: its data is moved, its unit is busy until JOB_COMPLETE; a NOP is complete at once. A job that reads a word with an
uncorrectable error fails before it moves data (R163; log 29). -/
def State.runJob (s : State) (p unit i : Nat) (j : FfJob) : State :=
  let h := (s.pipe p).house
  let s := s.takeJob p i
  let s := s.wrF (Reg.FFJ_Pp_WALK p) 7 0 i
  let fail := fun (t : State) => (t.badJob p).settleWalk p
  let start := fun (reads own : List (Option (Nat × Nat))) (ok : Bool) (run : State → State) =>
    match s.ffReadable h reads, (s.ffReadable h own).2, ok with
    | (true, none), none, true =>
      let s := s.ffCorrected (some (s.ffJobAt p i, 64) :: own ++ reads)
      let w := s.walk p
      (run (s.setWalk p (if unit = 0 then { w with edge := some i } else { w with crop := some i }))).settleWalk p
    | (true, some a), _, _ => fail (s.libError true a)
    | (true, none), some a, _ => fail (s.libError true a)
    | _, _, _ => fail s
  if unit = 2 then (s.jobSignal p unit j).settleWalk p
  else if unit = 0 then
    if (banksOf (j.w 10) j.weightBytes).all s.edgeBank then
      start j.edgeReads [some (j.w 10, j.weightBytes)] (s.edgeWritable p j) (fun t => t.edgeRun p j) else fail s
  else
    let (n, all) := s.boxes (j.w 10)
    let good := all.filter Box.ok
    start (some (j.w 10, 4 + 16 * min n 256) :: j.cropReads good) []
      (s.banksOk h (j.w 5) (good.length * j.boxBytes) && s.banksOk h (j.w 13) 4) (fun t => t.cropRun p j)

/-- JOB_NOP, EDGE_IN, EDGE_OUT, CROP: the next job of the unit, if it is of this kind, starts in its pipeline's slot once its gate is
open. A gate of kind 1 joins the waiters of its hall pass. -/
def State.startFf (s : State) (p kind : Nat) : State :=
  let unit := ffUnit kind
  match s.nextJob p unit with
  | none => s
  | some i =>
    let j := s.ffJob p i
    let w := s.walk p
    if !s.inSlot p || decide (j.kind ≠ kind) then s
    else if !j.ok || !s.banksOk (s.pipe p).house (s.ffJobAt p i) 64 then ((s.takeJob p i).badJob p).settleWalk p
    else if (s.firstBad .lib (s.ffJobAt p i) 64).isSome then (((s.libError true (s.ffJobAt p i)).takeJob p i).badJob p).settleWalk p
    else match j.gate with
      | 1 =>
        let hp := j.f 11 12 0
        if mapGet (fun _ => none) w.joined unit = some i then
          (if s.waits (.gate (4 * p + unit)) then s else s.runJob p unit i j)
        else if s.passHouse hp = some (s.pipe p).house then
          let s := s.setWalk p { w with joined := mapSet (fun _ => none) w.joined unit (some i) }
          let s := s.join hp (j.f 11 31 16) (.gate (4 * p + unit))
          if s.waits (.gate (4 * p + unit)) then s else s.runJob p unit i j
        else ((s.takeJob p i).badJob p).settleWalk p
      | 2 =>
        let t := j.f 11 1 0
        let (_, f, _, _) := s.retimeRec p w.target
        if s.gateOpen t f (j.f 11 31 16) then s.runJob p unit i j else s
      | _ => s.runJob p unit i j

/-- JOB_COMPLETE on a unit (0 edge, 1 crop), in a slot of its pipeline: every write is visible, the hall pass is signalled. -/
def State.jobComplete (s : State) (p unit : Nat) : State :=
  let w := s.walk p
  match if unit = 0 then w.edge else w.crop with
  | none => s
  | some i =>
    if !s.inSlot p then s
    else
      let j := s.ffJob p i
      let s := s.setWalk p (if unit = 0 then { w with edge := none } else { w with crop := none })
      (s.jobSignal p unit j).settleWalk p

/-! ### The address generator (R249, R250) -/

/-- The ranges of R249. -/
def agOk (a : AgRun) : Bool :=
  let r := fun (lo hi x : Nat) => decide (lo ≤ x) && decide (x ≤ hi)
  r 1 15 a.kw && r 1 15 a.kh && r 1 15 a.sx && r 1 15 a.sy && r 1 15 a.dx && r 1 15 a.dy && r 0 15 a.padL && r 0 15 a.padT &&
  r 0 15 a.padR && r 0 15 a.padB && decide (a.lane < 32) && decide (a.array < 2) && decide (a.irow < 128)

/-- The streamed row for tap (ky, kx) of output position x: the source row of its position, or ZCODE in the padding (R249). -/
def State.agRow (s : State) (f : Nat) (a : AgRun) (ky kx x : Nat) : List Byte :=
  let sx : Int := ((x * a.sx + kx * a.dx : Nat) : Int) - a.padL
  let sy : Int := ((a.line * a.sy + ky * a.dy : Nat) : Int) - a.padT
  if sx < 0 ∨ sy < 0 ∨ (a.width : Int) ≤ sx ∨ (a.height : Int) ≤ sy then List.replicate 64 (BitVec.ofNat 8 a.zcode)
  else
    let o := a.src + sy.toNat * a.linePitch + sx.toNat * 64
    match a.locker with
    | some l => memReadN s.locker ((32 * f + l) * 2 ^ 16 + o) 64
    | none => memReadN s.lib o 64

/-- ADDRESS_GENERATOR_RUN of form f: the rows go into the input Desk on the diagonal, tap by tap in the order (ky, kx), and the hall pass is
signalled. -/
def State.agRun (s : State) (f : Nat) (a : AgRun) : State :=
  if !agOk a then s
  else
    let rows := (List.range a.kh).flatMap (fun ky => (List.range a.kw).flatMap (fun kx =>
      (List.range a.count).map (fun i => some (s.agRow f a ky kx (a.first + i)))))
    let s := s.intoDesk (32 * f + a.lane) a.array 0 true a.irow rows
    match a.pass with
    | some (p, n) => (s.signal p n 1092).1
    | none => s

end Sys2Proof.Machine
end

