-- ==== Sys2Proof/Machine/SubPrep.lean ====
section
/-! DEFINITION. The Substitute's preparation jobs at work (R269, R270, R341): frames, sources, combination, conversion, direction codes. -/
namespace Sys2Proof.Machine

/-- The geometry that a job reads: its pipeline's, or for a job of a cut the new source's. -/
def State.jobPipe (s : State) (j : SubJob) : Pipe := if j.cut then (s.pipe j.pipe).forCut else s.pipe j.pipe

/-- The source of a job. -/
def State.jobSource (s : State) (j : SubJob) : Nat :=
  match j.cut, (s.pipe j.pipe).cut with
  | true, some (src, _) => src
  | _, _ => (s.pipe j.pipe).source

/-- The pipeline whose capture ring and Golile copy the job reads: its own, or for a cut the first that takes the new source. -/
def State.jobRing (s : State) (j : SubJob) : Option Nat :=
  if j.cut then (s.sourcePipes (s.jobSource j)).head? else some j.pipe

/-- The frame that a job of a cut takes when it starts (R341): the frame in capture if it covers the extent, else the newest earlier
frame that is complete, else the frame in capture. -/
def State.cutFrame (s : State) (j : SubJob) (e : BandEnt) : Option Nat :=
  let x := s.jobPipe j
  let src := s.jobSource j
  let stop := (extent e.row0 e.rows x.inH x.outH).2
  match s.jobRing j with
  | none => none
  | some q =>
    match (s.pipe q).recs with
    | [] => none
    | r :: rest =>
      if r.frame = s.inFrame src ∧ stop ≤ s.captured src then some r.frame
      else some (((r :: rest).find? (fun t => t.complete)).getD r).frame

/-- A running job of a cut takes its frame. -/
def State.takeCutFrame (s : State) (p b : Nat) : State :=
  match s.subJobs.find? (fun j => decide (j.pipe = p) && decide (j.band = b) && decide (j.phase = 1) && j.cut && j.frame.isNone), s.anyEnt p b with
  | some j, some e =>
    match s.cutFrame j e with
    | some f => { s with subJobs := s.subJobs.map (fun k => if k = j then { k with frame := some f } else k) }
    | none => s
  | _, _ => s

/-- SUB_JOB_START with the frame choice of R341. -/
def State.subStart (s : State) (p b : Nat) : State := (s.startJob p b).takeCutFrame p b

/-! ### Reading (Table 10.1) -/

/-- A stored sample as a 10-bit value. -/
def to10 (d10 : Bool) (v : Nat) : Nat := if d10 then v % 1024 else widen10 (min 255 v)

/-- The sample of plane c that covers a position, from the capture ring of pipeline q. -/
def State.ringSample (s : State) (q c y x : Nat) : Nat :=
  let r := s.pipe q
  to10 r.fmt.d10 (s.ringRead q c y (if c ≠ 0 ∧ r.fmt.sub ≠ 0 then x / 2 else x))

/-- The same from the Golile copy; free where no copy has been written (log 3). -/
def State.copySample (s : State) (q c y x : Nat) : Nat :=
  let r := s.pipe q
  let x := if c ≠ 0 ∧ r.fmt.sub ≠ 0 then x / 2 else x
  let y := if c ≠ 0 ∧ r.fmt.sub = 2 then y / 2 else y
  if r.copyBase = 0 then (Config.freeWord (s.freeCtr + (3 * y + c) * 65536 + x)).toNat % 1024
  else
    let block := golDecode 10 4 (memReadN s.lib (copyAddr r.copyBase q c (y / 2) (x / 8)) 10)
    to10 r.fmt.d10 (block.getD (y % 2 * 8 + x % 8) 0)

/-- Row y of frame f lies in the capture ring of pipeline q: captured, and for the frame before the current one not yet overwritten. -/
def State.rowInRing (s : State) (q src f y : Nat) : Bool :=
  let x := s.pipe q
  let cur := s.inFrame src
  if f = cur then decide (y < s.captured src)
  else decide ((f + 1) % 2 ^ 32 = cur) && decide (x.inH - y + s.captured src ≤ x.ringLines)

/-- What a job reads: the ring, the source, F, whether F comes from the copy, and the weight of F + 1. -/
structure PrepRead where
  q : Nat
  src : Nat
  f : Nat
  copy : Bool
  weight : Nat
  deriving DecidableEq, Repr

/-- The frame, the place and the weight of a job; none while it waits (Table 10.1). -/
def State.prepRead (s : State) (j : SubJob) (e : BandEnt) : Option PrepRead :=
  let x := s.jobPipe j
  let src := s.jobSource j
  let stop := (extent e.row0 e.rows x.inH x.outH).2
  let (_, rf, rw, rr) := s.retimeRec j.pipe j.target.toNat
  let pick : Option (Nat × Nat) :=
    if j.cut then j.frame.map (fun f => (f, 0))
    else match x.repeats with
      | some (f, _) => some (f, 0)
      | none => some (rf, if x.blend && !rr then rw else 0)
  match s.jobRing j, pick with
  | some q, some (f, w) =>
    let cur := s.inFrame src
    if f = cur then (if stop ≤ s.captured src then some ⟨q, src, f, false, w⟩ else none)
    else if later32 f cur then none
    else some ⟨q, src, f, true, w⟩
  | _, _ => none

/-- A combined sample: F alone, or F and F + 1 where the row of F + 1 is there (R269). -/
def State.combined (s : State) (r : PrepRead) (c y x : Nat) : Nat :=
  let a := if r.copy then s.copySample r.q c y x else s.ringSample r.q c y x
  if r.weight ≠ 0 ∧ s.rowInRing r.q r.src ((r.f + 1) % 2 ^ 32) y then
    (a * (256 - r.weight) + s.ringSample r.q c y x * r.weight + 128) / 256
  else a

/-- The matrix and range of a source, as the rows of Table 12.2 number them. -/
def State.sourceMatrix (s : State) (src : Nat) : Nat :=
  if src < 2 then s.rdF (Reg.VIN_Ss_FMT src) 1 0 else (s.tracker src).yuv

/-- The direction code of a position from channel 0 of its neighbours (R270). -/
def dirCode (edgeT nw ne sw se : Nat) : Nat :=
  let diff : Nat → Nat → Nat := fun a b => (a - b) + (b - a)
  let d45 := diff sw ne
  let d135 := diff nw se
  if 2 * d45 + edgeT < d135 then 1 else if 2 * d135 + edgeT < d45 then 2 else 0

/-- The words of a job's extent, row by row (R270). -/
def State.prepWords (s : State) (j : SubJob) (e : BandEnt) (r : PrepRead) : Prepared :=
  let x := s.jobPipe j
  let (lo, hi) := extent e.row0 e.rows x.inH x.outH
  let rows : List (List Pix) := (List.range (hi - lo)).map (fun i => (List.range x.inW).map (fun k =>
    (⟨s.combined r 0 (lo + i) k, s.combined r 1 (lo + i) k, s.combined r 2 (lo + i) k⟩ : Pix)))
  let ch0 : Nat → Nat → Nat := fun i k => ((rows.getD (min i (hi - lo - 1)) []).getD (min k (x.inW - 1)) {}).r
  let convert := (s.pipe r.q).fmt.ycc && !bit (s.rd (Reg.CMP_VLv_CTRL j.pipe)) 9
  let word : Nat → Nat → Pix → Nat := fun i k p =>
    let p := if convert then yccToRgb (s.sourceMatrix r.src) p else p
    let code := dirCode x.edgeT (ch0 (i - 1) (k - 1)) (ch0 (i - 1) (k + 1)) (ch0 (i + 1) (k - 1)) (ch0 (i + 1) (k + 1))
    p.r + p.g * 2 ^ 10 + p.b * 2 ^ 20 + code * 2 ^ 30
  { row0 := lo, inW := x.inW, inH := x.inH
    words := (rows.zip (List.range rows.length)).map (fun (row, i) => (row.zip (List.range row.length)).map (fun (p, k) => word i k p)) }

/-- SUB_JOB_READY: a running job whose rows are there writes its last word (R271). -/
def State.subReady (s : State) (p b : Nat) : State :=
  match s.subJobs.find? (fun j => decide (j.pipe = p) && decide (j.band = b) && decide (j.phase = 1)), s.anyEnt p b with
  | some j, some e =>
    match s.prepRead j e with
    | none => s
    | some r =>
      let w := s.prepWords j e r
      let free := r.copy && decide ((s.pipe r.q).copyBase = 0)
      let s := if free then { s with freeCtr := s.freeCtr + 3 * 65536 * (w.row0 + w.words.length + 1) } else s
      let s := { s with prepared := mapSet (fun _ => {}) s.prepared ((p * 2048 + b) * 4 + j.target.toNat % 4) w
                        subJobs := s.subJobs.map (fun k => if k = j then { k with phase := 2 } else k) }
      s.subStat.setSState p b j.target .ready
  | _, _ => s

end Sys2Proof.Machine
end

