-- ==== Sys2Proof/Machine/FixedRows.lean ====
section
/-! DEFINITION. The rows of the fixed-function jobs and of the Substitute (chapters "Picture operators" and "Deadlines"). -/
namespace Sys2Proof.Machine

/-- FF_SLOT_START (R251): the next slot of the round begins. -/
def execFfSlotStart (s : State) : Host.Outcome State Fault Refusal :=
  .next (s.powered (fun s => s.slotStart))

/-- JOB_WALK_START (R252): the walk of pipeline p for a target frame begins. -/
def execJobWalkStart (p : Fin 4) (s : State) : Host.Outcome State Fault Refusal :=
  .next (s.powered (fun s => s.walkStart p))

/-- JOB_NOP (R253): the NOP job that is next in the list of pipeline p is taken. -/
def execJobNop (p : Fin 4) (s : State) : Host.Outcome State Fault Refusal :=
  .next (s.powered (fun s => s.startFf p 0))

/-- EDGE_IN (R254): the next edge-layer job of pipeline p, an EDGE_IN, starts. -/
def execEdgeIn (p : Fin 4) (s : State) : Host.Outcome State Fault Refusal :=
  .next (s.powered (fun s => s.startFf p 1))

/-- EDGE_OUT (R254): the next edge-layer job of pipeline p, an EDGE_OUT, starts. -/
def execEdgeOut (p : Fin 4) (s : State) : Host.Outcome State Fault Refusal :=
  .next (s.powered (fun s => s.startFf p 2))

/-- CROP (R258): the next crop-and-resize job of pipeline p starts. -/
def execCrop (p : Fin 4) (s : State) : Host.Outcome State Fault Refusal :=
  .next (s.powered (fun s => s.startFf p 3))

/-- JOB_COMPLETE (R253): the job of pipeline p on a unit (0 edge-layer engine, 1 crop-and-resize unit) is complete. -/
def execJobComplete (p : Fin 4) (unit : Fin 2) (s : State) : Host.Outcome State Fault Refusal :=
  .next (s.powered (fun s => s.jobComplete p unit))

/-- ADDRESS_GENERATOR_RUN (R249): the address generator of form f makes the streamed rows of a run. -/
def execAddressGeneratorRun (f : Fin 32) (a : AgRun) (s : State) : Host.Outcome State Fault Refusal :=
  .next (s.powered (fun s => s.agRun f a))

/-- SUB_JOB_START (R271): the waiting preparation job of a band starts if it is the first of its pool and fits. -/
def execSubJobStart (p : Fin 4) (b : Fin 2048) (s : State) : Host.Outcome State Fault Refusal :=
  .next (s.powered (fun s => s.subStart p b))

/-- SUB_JOB_READY (R271): the running preparation job of a band writes its last word once its rows are there. -/
def execSubJobReady (p : Fin 4) (b : Fin 2048) (s : State) : Host.Outcome State Fault Refusal :=
  .next (s.powered (fun s => s.subReady p b))

end Sys2Proof.Machine
end

