-- ==== Sys2Proof/Machine/HomeworkRows.lean ====
section
/-! DEFINITION. The rows of homework (chapter "In-service adaptation"). -/
namespace Sys2Proof.Machine

/-- HOMEWORK_SAMPLE (R304): the chains copy the next line of a sample of model m; `motion` is its motion patch (R304). -/
def execHomeworkSample (m : Word) (motion : List Byte) (s : State) : Host.Outcome State Fault Refusal :=
  .next (s.powered (fun s => s.hwSampleRun m.toNat motion))

/-- HOMEWORK_DEAL (R301): Dvorzar deals the next unit of model m to form f (R301, R303). -/
def execHomeworkDeal (m : Word) (f : Fin 32) (s : State) : Host.Outcome State Fault Refusal :=
  .next (s.powered (fun s => s.hwDeal m.toNat f))

/-- GRAD (R307): form f ends its GRAD unit of model m (R305). -/
def execGrad (m : Word) (f : Fin 32) (s : State) : Host.Outcome State Fault Refusal :=
  .next (s.powered (fun s => s.hwGrad m.toNat f))

/-- UPDATE (R307): form f ends its UPDATE unit (R306). -/
def execUpdate (m : Word) (f : Fin 32) (s : State) : Host.Outcome State Fault Refusal :=
  .next (s.powered (fun s => s.hwUpdate m.toNat f))

/-- HOMEWORK_COPY (R307): form f ends its COPY unit (R308). -/
def execHomeworkCopy (m : Word) (f : Fin 32) (s : State) : Host.Outcome State Fault Refusal :=
  .next (s.powered (fun s => s.hwCopyUnit m.toNat f))

/-- EVAL (R305): form f ends its EVAL unit (R308). -/
def execEval (m : Word) (f : Fin 32) (s : State) : Host.Outcome State Fault Refusal :=
  .next (s.powered (fun s => s.hwEval m.toNat f))

/-- DEPLOY (R298): form f ends its DEPLOY unit (R298). -/
def execDeploy (m : Word) (f : Fin 32) (s : State) : Host.Outcome State Fault Refusal :=
  .next (s.powered (fun s => s.hwDeploy m.toNat f))

/-- ROUND_EVALUATE (R308): Dvorzar compares the sums of an evaluation: the candidate is accepted or rejected (R309). -/
def execRoundEvaluate (m : Word) (s : State) : Host.Outcome State Fault Refusal :=
  .next (s.powered (fun s => s.hwRound m.toNat))

/-- CHECKPOINT_PERIOD (R312): a checkpoint period of model m ends and its records are sealed (R312). -/
def execCheckpointPeriod (m : Word) (s : State) : Host.Outcome State Fault Refusal :=
  .next (s.powered (fun s => s.ckptPeriod m.toNat))

end Sys2Proof.Machine
end

