-- ==== Sys2Proof/Machine/InputRows.lean ====
section
/-! DEFINITION. The rows of the inputs: trackers, sinks and host frames (chapters "Raster time base and bells" and "External interfaces"). -/
namespace Sys2Proof.Machine

/-- INPUT_FRAME_START (R34): the first active line of a frame starts at sink k; `frac` is the fraction of the raster line, `enc` 0 in the clear, 1 Type 0, 2 Type 1 content. -/
def execInputFrameStart (k : Fin 2) (frac : Fin 65536) (enc : Fin 3) (s : State) : Host.Outcome State Fault Refusal :=
  .next (s.powered (fun s => s.sinkFrame k frac enc))

/-- INPUT_WRAP (R35): a frame starts at sink k while its input frame counter stands at its maximum. -/
def execInputWrap (k : Fin 2) (frac : Fin 65536) (enc : Fin 3) (s : State) : Host.Outcome State Fault Refusal :=
  .next (s.powered (fun s => if s.inFrame k = 0xFFFFFFFF then s.sinkFrame k frac enc else s))

/-- SOURCE_TIMEOUT (R36): no frame has started at sink k within two expected periods. -/
def execSourceTimeout (k : Fin 2) (s : State) : Host.Outcome State Fault Refusal :=
  .next (s.powered (fun s => s.sourceTimeout k))

/-- REPEAT_END (R37): pipeline p stops repeating at a frame boundary. -/
def execRepeatEnd (p : Fin 4) (s : State) : Host.Outcome State Fault Refusal :=
  .next (s.powered (fun s => s.repeatEnd p))

/-- INPUT_LINE_CAPTURED (R358): an active line of sink k has arrived: its luma samples, and the chroma samples that arrive with it. -/
def execInputLineCaptured (k : Fin 2) (planes : List (List Nat)) (s : State) : Host.Outcome State Fault Refusal :=
  .next (s.powered (fun s => s.captureLine k (s.rdF (Reg.VIN_Ss_VTIM k) 15 0) (s.sinkFmt k) planes))

/-- STREAM_FORMAT (R355): sink k receives a stream's attributes. -/
def execStreamFormat (k : Fin 2) (hactive htotal vactive vtotal : Fin 65536) (fmt : Fin 1024) (kpix : Nat) (dsc enc : Bool) (s : State) : Host.Outcome State Fault Refusal :=
  .next (s.powered (fun s => s.streamFormat k { hactive := hactive, htotal := htotal, vactive := vactive, vtotal := vtotal, fmt := fmt, kpix := kpix, dsc := dsc, enc := enc }))

/-- MSA_CHANGE (R360): the attributes of sink k's stream change. -/
def execMsaChange (k : Fin 2) (hactive htotal vactive vtotal : Fin 65536) (fmt : Fin 1024) (kpix : Nat) (dsc enc : Bool) (s : State) : Host.Outcome State Fault Refusal :=
  .next (s.powered (fun s => s.msaChange k { hactive := hactive, htotal := htotal, vactive := vactive, vtotal := vtotal, fmt := fmt, kpix := kpix, dsc := dsc, enc := enc }))

/-- SINK_LINK_LOST (R360): HPD is deasserted, the link is lost or the source stops sending. -/
def execSinkLinkLost (k : Fin 2) (s : State) : Host.Outcome State Fault Refusal :=
  .next (s.powered (fun s => s.sinkLost k))

/-- SINK_RETRAIN (R360): the link of sink k retrains. -/
def execSinkRetrain (k : Fin 2) (s : State) : Host.Outcome State Fault Refusal :=
  .next (s.powered (fun s => s.sinkRetrain k))

/-- SINK_LINK_TRAINED (R356): the source has trained the link: the codes of VIN_Ss_STATUS. -/
def execSinkLinkTrained (k : Fin 2) (rate lanes : Fin 16) (s : State) : Host.Outcome State Fault Refusal :=
  .next (s.powered (fun s => s.sinkTrained k rate lanes))

/-- DSC_DECODE_ERROR (R360): a DSC slice fails to decode; its lines from the next one on. -/
def execDscDecodeError (k : Fin 2) (lines : Fin 65536) (s : State) : Host.Outcome State Fault Refusal :=
  .next (s.powered (fun s => s.dscError k lines))

/-- SINK_HDCP_FAIL (R361): the encrypted stream of sink k is not authenticated or fails an integrity check. -/
def execSinkHdcpFail (k : Fin 2) (s : State) : Host.Outcome State Fault Refusal :=
  .next (s.powered (fun s => s.sinkHdcpFail k))

/-- SINK_HDCP_AUTHENTICATED (R361): the HDCP session of sink k is authenticated. -/
def execSinkHdcpAuthenticated (k : Fin 2) (s : State) : Host.Outcome State Fault Refusal :=
  .next (s.powered (fun s => s.sinkHdcpOk k))

/-- VIN_HF_TAIL (R377): a write of VIN_HF_TAIL by function fn. -/
def execVinHfTail (fn : Fin 8) (value : Fin 256) (s : State) : Host.Outcome State Fault Refusal :=
  .next (s.powered (fun s => if s.hfHouse = some fn.val then s.hfTailWrite value else s))

/-- HF_RING_ENABLE (R378): a write of 1 to VIN_HF_CTRL.EN by function fn. -/
def execHfRingEnable (fn : Fin 8) (s : State) : Host.Outcome State Fault Refusal :=
  .next (s.powered (fun s => if s.hfHouse = some fn.val then s.hfCtrlWrite fn true else s))

/-- HF_RING_DISABLE (R378): a write of 0 to VIN_HF_CTRL.EN by function fn. -/
def execHfRingDisable (fn : Fin 8) (s : State) : Host.Outcome State Fault Refusal :=
  .next (s.powered (fun s => if s.hfHouse = some fn.val then s.hfCtrlWrite fn false else s))

/-- HOST_FRAME_DESCRIPTOR (R375): the device reads and checks the descriptor at HEAD. -/
def execHostFrameDescriptor (s : State) : Host.Outcome State Fault Refusal :=
  .next (s.powered (fun s => s.hfDescriptor))

/-- HOST_FRAME_GROUP (R376): the next line group of the host frame is fetched; `fault`: a DMA fault other than PAGE. -/
def execHostFrameGroup (fault : Bool) (s : State) : Host.Outcome State Fault Refusal :=
  .next (s.powered (fun s => s.hfGroup fault))

end Sys2Proof.Machine
end

