-- ==== Sys2Proof/Machine/LockerRows.lean ====
section
/-! DEFINITION. The Locker-slot instructions (R82, Table 3.7) and what ends their accesses (R74, R181). -/
namespace Sys2Proof.Machine

/-- LD (R82): loads SIZE zero-extended, or a vector. -/
def execLd (x : At) (body : BitVec 54) (s : State) : Host.Outcome State Fault Refusal :=
  .next (s.issue1 x.core 2 0x01 x.pg x.pn body)

/-- LDS (R82): loads 8 or 16 bits sign-extended. -/
def execLds (x : At) (body : BitVec 54) (s : State) : Host.Outcome State Fault Refusal :=
  .next (s.issue1 x.core 2 0x02 x.pg x.pn body)

/-- ST (R82): stores SIZE bits, or a vector. -/
def execSt (x : At) (body : BitVec 54) (s : State) : Host.Outcome State Fault Refusal :=
  .next (s.issue1 x.core 2 0x03 x.pg x.pn body)

/-- LDBC (R82): loads one element into every lane. -/
def execLdbc (x : At) (body : BitVec 54) (s : State) : Host.Outcome State Fault Refusal :=
  .next (s.issue1 x.core 2 0x04 x.pg x.pn body)

/-- PREF (R82): brings the line of byte a into the open shelf. -/
def execPref (x : At) (body : BitVec 54) (s : State) : Host.Outcome State Fault Refusal :=
  .next (s.issue1 x.core 2 0x05 x.pg x.pn body)

/-- LOAD_RETURN (R73): the i-th load in flight of core c, oldest first, returns its data; a load from a busy bank waits. -/
def execLoadReturn (c : Fin 1024) (i : Nat) (s : State) : Host.Outcome State Fault Refusal :=
  .next ((s.loadReturn c i).progress c)

/-- GATHER_FLUSH_TIMEOUT (R181): 16 cycles have passed without a store to the i-th open store entry of core c, and it goes out. -/
def execGatherFlushTimeout (c : Fin 1024) (i : Nat) (s : State) : Host.Outcome State Fault Refusal :=
  .next (match (s.core c).gather[i]? with
    | some e => (s.flushEntry c e.shelf e.line).progress c
    | none => s)

end Sys2Proof.Machine
end

