-- ==== Sys2Proof/Machine/MatrixRows.lean ====
section
/-! DEFINITION. The matrix-slot commands (R86, Table 3.10) and the life of an array command (R102 to R111, R126, R127). -/
namespace Sys2Proof.Machine

/-- The governor's grant or release of an array (R127), counted in PWR_GRANT (R463). -/
def State.governorGrant (s : State) (c a : Nat) : State :=
  match ((s.core c).arr a).warmth with
  | .cold => if s.powerHigh then s else (s.onArr c a (fun x => { x with warmth := .granted })).count48 Reg.PWR_GRANT_LO Reg.PWR_GRANT_HI 1 none
  | .releasing => (s.onArr c a (fun x => { x with warmth := .cold })).count48 Reg.PWR_GRANT_LO Reg.PWR_GRANT_HI 1 none
  | _ => s

/-- WLD (R102): queues a load of a weight image. -/
def execWld (x : At) (arr : Fin 2) (body : BitVec 54) (s : State) : Host.Outcome State Fault Refusal :=
  .next (s.issue1 x.core (4 + arr.val) 0x01 x.pg x.pn body)

/-- MSTREAM (R106): queues a stream of input rows. -/
def execMstream (x : At) (arr : Fin 2) (body : BitVec 54) (s : State) : Host.Outcome State Fault Refusal :=
  .next (s.issue1 x.core (4 + arr.val) 0x02 x.pg x.pn body)

/-- MDST (R86): queues the drain destination. -/
def execMdst (x : At) (arr : Fin 2) (body : BitVec 54) (s : State) : Host.Outcome State Fault Refusal :=
  .next (s.issue1 x.core (4 + arr.val) 0x03 x.pg x.pn body)

/-- MDRAIN (R86): queues a drain of accumulator rows. -/
def execMdrain (x : At) (arr : Fin 2) (body : BitVec 54) (s : State) : Host.Outcome State Fault Refusal :=
  .next (s.issue1 x.core (4 + arr.val) 0x04 x.pg x.pn body)

/-- MZERO (R86): queues the zeroing of accumulator rows. -/
def execMzero (x : At) (arr : Fin 2) (body : BitVec 54) (s : State) : Host.Outcome State Fault Refusal :=
  .next (s.issue1 x.core (4 + arr.val) 0x05 x.pg x.pn body)

/-- MSR (R87): queues the write of a state register. -/
def execMsr (x : At) (arr : Fin 2) (body : BitVec 54) (s : State) : Host.Outcome State Fault Refusal :=
  .next (s.issue1 x.core (4 + arr.val) 0x06 x.pg x.pn body)

/-- MRS (R87): queues the read of a state register. -/
def execMrs (x : At) (arr : Fin 2) (body : BitVec 54) (s : State) : Host.Outcome State Fault Refusal :=
  .next (s.issue1 x.core (4 + arr.val) 0x07 x.pg x.pn body)

/-- MSCL (R86): queues the write of a table of 32 columns. -/
def execMscl (x : At) (arr : Fin 2) (body : BitVec 54) (s : State) : Host.Outcome State Fault Refusal :=
  .next (s.issue1 x.core (4 + arr.val) 0x08 x.pg x.pn body)

/-- ARRAY_COMMAND_START (R107): the head of the queue starts when its conditions hold; `residueBad`: a residue check of it fails (R128). -/
def execArrayCommandStart (c : Fin 1024) (arr : Fin 2) (residueBad : Bool) (s : State) : Host.Outcome State Fault Refusal :=
  .next (if s.coresOn then (s.arrayStart c arr.val residueBad).progress c else s)

/-- ARRAY_COMMAND_COMPLETE (R111): the oldest running command completes, and its drain writes are visible. -/
def execArrayCommandComplete (c : Fin 1024) (arr : Fin 2) (s : State) : Host.Outcome State Fault Refusal :=
  .next (if s.coresOn then (s.arrayComplete c arr.val).progress c else s)

/-- KEEPER_TIMEOUT (R126): 64 cycles of dummy passes without a stream: the array asks the governor for its release (R127); `residueBad`: a dummy pass failed its check (R128). -/
def execKeeperTimeout (c : Fin 1024) (arr : Fin 2) (residueBad : Bool) (s : State) : Host.Outcome State Fault Refusal :=
  .next (
    let x := (s.core c).arr arr.val
    let s := if x.warmth = .warm ∧ !x.running.any (fun r => match r.op with
        | .mstream _ _ _ _ n => n ≠ 0
        | _ => false) then s.onArr c arr.val (fun x => { x with warmth := .releasing }) else s
    if residueBad ∧ x.warmth = .warm then s.arrayFault c arr.val 0x0B arr.val 0 else s)

/-- GOVERNOR_GRANT (R127): a cold array may start a stream, a warm one past its keeper may go idle; PWR_GRANT counts each. -/
def execGovernorGrant (c : Fin 1024) (arr : Fin 2) (s : State) : Host.Outcome State Fault Refusal :=
  .next (s.governorGrant c arr.val)

end Sys2Proof.Machine
end

