-- ==== Sys2Proof/Machine/PowerRows.lean ====
section
/-! DEFINITION. The rows of reset, power, heat and service (chapter "Power, clocks, heat and life in service"). -/
namespace Sys2Proof.Machine

/-- RESET_ASSERT (R477): RESET_N has been low for 1 µs after its filter (R477). -/
def execResetAssert (s : State) : Host.Outcome State Fault Refusal :=
  .next (s.resetAssert)

/-- RESET_RELEASE (R451): RESET_N is released with supplies in range; `sag`: PWRSAG_N is low (R451, R477). -/
def execResetRelease (u : StartUp) (sag : Bool) (s : State) : Host.Outcome State Fault Refusal :=
  .next (s.resetRelease u sag)

/-- PWRSAG_N_HIGH (R477): PWRSAG_N has been high for 1 ms (R477). -/
def execPwrsagNHigh (u : StartUp) (s : State) : Host.Outcome State Fault Refusal :=
  .next (s.powered (fun s => s.sagHigh u))

/-- PWR_REQ_FULL (R448): PF0 writes 0 to PWR_REQ (Table 16.3). -/
def execPwrReqFull (s : State) : Host.Outcome State Fault Refusal :=
  .next (s.linked (fun s => s.pwrReq 0))

/-- PWR_REQ_ECO (R450): PF0 writes 1 to PWR_REQ (R450). -/
def execPwrReqEco (s : State) : Host.Outcome State Fault Refusal :=
  .next (s.linked (fun s => s.pwrReq 1))

/-- PWR_REQ_STANDBY (R449): PF0 writes 2 to PWR_REQ (R449). -/
def execPwrReqStandby (s : State) : Host.Outcome State Fault Refusal :=
  .next (s.linked (fun s => s.pwrReq 2))

/-- PF0_D3HOT (R448): PF0 enters D3hot (Table 16.3). -/
def execPf0D3hot (s : State) : Host.Outcome State Fault Refusal :=
  .next (s.linked (fun s => s.powerAsk 2))

/-- PF0_D0 (R448): PF0 enters D0 (Table 16.3). -/
def execPf0D0 (s : State) : Host.Outcome State Fault Refusal :=
  .next (s.linked (fun s => s.powerAsk 3))

/-- STANDBY_ENTRY (R449): rasters have stopped for Standby; `timeout`: 2 frames of every running raster have passed (R449). -/
def execStandbyEntry (timeout : Bool) (s : State) : Host.Outcome State Fault Refusal :=
  .next (s.linked (fun s => s.standbyEntry timeout))

/-- POWER_TRANSITION_COMPLETE (R448): a transition of the power state ends; `u`: what a wake from Standby meets (R448, R453). -/
def execPowerTransitionComplete (u : StartUp) (s : State) : Host.Outcome State Fault Refusal :=
  .next (s.linked (fun s => s.transDone u))

/-- GOVERNOR_TICK (R456): 100 ns have passed: P1 and the 100 ms average in 0.1 W, and the calibrated full-stream power of one array in µW (R456). -/
def execGovernorTick (p1 p100 : Fin 65536) (pa : Nat) (s : State) : Host.Outcome State Fault Refusal :=
  .next (s.powered (fun s => s.governorTick p1 p100 pa (s.dlnLive.toNat % 4096)))

/-- VCORE_ADJUST (R446): the monitors ask for a set point, and VCORE measures `meas`, in mV (R446). -/
def execVcoreAdjust (want meas : Fin 1024) (s : State) : Host.Outcome State Fault Refusal :=
  .next (s.powered (fun s => s.vcoreAdjust want meas))

/-- VCORE_REGULATOR_TIMEOUT (R446): the regulator does not acknowledge within 1 ms; VCORE stays at its set point (R446). -/
def execVcoreRegulatorTimeout (s : State) : Host.Outcome State Fault Refusal :=
  .next (s.powered (fun s => s.powerEvent 9))

/-- THERMAL_SAMPLE (R283): the sensor of form f reads t °C (R283, R457). -/
def execThermalSample (f : Fin 32) (t : Fin 256) (s : State) : Host.Outcome State Fault Refusal :=
  .next (s.powered (fun s => s.thermalSample f t))

/-- HEAT_TIER_DECAY (R283): a second has passed below the lower threshold of form f (Table 10.4). -/
def execHeatTierDecay (f : Fin 32) (s : State) : Host.Outcome State Fault Refusal :=
  .next (s.powered (fun s => s.heatDecay f))

/-- THERMAL_RESTART (R457): every sensor has read below 100 °C for 10 s after a thermal trip (R457). -/
def execThermalRestart (u : StartUp) (s : State) : Host.Outcome State Fault Refusal :=
  .next (s.thermalRestart u)

/-- HOLDUP_WARNING (R458): a supply warning: PWRSAG_N, or the internal monitor (R458). -/
def execHoldupWarning (internal : Bool) (s : State) : Host.Outcome State Fault Refusal :=
  .next (s.holdupWarning (if internal then 2 else 1))

/-- PWRSAG_GLITCH (R458): a low pulse of PWRSAG_N shorter than 1 µs (R458). -/
def execPwrsagGlitch (s : State) : Host.Outcome State Fault Refusal :=
  .next (s.linked (fun s => s.countErr Reg.PWR_SAGGLITCH))

/-- SAVE_SEALED (R458): page 0 of the save record is written; VHOLD before it, in 2 mV (R458). -/
def execSaveSealed (vhold : Fin 4096) (s : State) : Host.Outcome State Fault Refusal :=
  .next (s.saveSealed vhold)

/-- HOLDUP_RESUME (R448): the supplies are in range again (Table 16.3). -/
def execHoldupResume (u : StartUp) (s : State) : Host.Outcome State Fault Refusal :=
  .next (s.holdupResume u)

/-- POWER_OFF (R448): VHOLD falls below 3.0 V in Hold-up (Table 16.3). -/
def execPowerOff (s : State) : Host.Outcome State Fault Refusal :=
  .next (s.powerOff)

/-- FW_SWAP_HANDOVER (R468): the boundary at which a requested firmware swap acts (R468). -/
def execFwSwapHandover (s : State) : Host.Outcome State Fault Refusal :=
  .next (s.linked (fun s => s.fwHandover))

/-- FW_WATCHDOG (R469): the new image has not reached STATE 0x2 within 100 ms (R469). -/
def execFwWatchdog (s : State) : Host.Outcome State Fault Refusal :=
  .next (s.linked (fun s => s.fwWatchdog))

/-- FW_BOOT_CONFIRM (R469): the running image has run for 60 s (R469). -/
def execFwBootConfirm (s : State) : Host.Outcome State Fault Refusal :=
  .next (s.linked (fun s => s.fwConfirm))

/-- ROLLBACK_RAISE (R433): 24 hours of Full or Eco power without a RESET_N: the Dvorzar image that runs (none), or model m (R433). -/
def execRollbackRaise (m : Option Word) (s : State) : Host.Outcome State Fault Refusal :=
  .next (s.powered (fun s => s.rollbackRaise (m.map BitVec.toNat)))

/-- PLL_RECALIBRATE (R470): the idle PLL of each pair recalibrates and takes over; false: it fails (R470). -/
def execPllRecalibrate (cclk sclk : Bool) (s : State) : Host.Outcome State Fault Refusal :=
  .next (s.powered (fun s => ((s.pllCal 8 cclk).pllCal 9 sclk)))

/-- SENSOR_CALIBRATE (R470): the sensor of form f is calibrated against the reference sensor (R470). -/
def execSensorCalibrate (f : Fin 32) (ok : Bool) (s : State) : Host.Outcome State Fault Refusal :=
  .next (s.powered (fun s => s.sensorCal f ok))

/-- DRAM_RETRAIN (R379): the next LPDDR5X channel is retrained (R379, R470). -/
def execDramRetrain (ok : Bool) (s : State) : Host.Outcome State Fault Refusal :=
  .next (s.powered (fun s => s.dramRetrain ok))

end Sys2Proof.Machine
end

