-- ==== Sys2Proof/Machine/RasterRows.lean ====
section
/-! DEFINITION. The rows of the rasters, the protected layer, scan-out and the commits (chapters "Raster time base and bells" and "Composition and scan-out"). -/
namespace Sys2Proof.Machine

/-- LINE_START (R25): a line period of raster r ends: the next line starts, or a hold goes on. -/
def execLineStart (r : Fin 8) (s : State) : Host.Outcome State Fault Refusal :=
  .next (s.powered (fun s => s.lineStart r))

/-- FRAME_DONE (R56): the last active pixel has left the group; `upsets` are the differences that faults made in the region CRCs of ports. -/
def execFrameDone (r : Fin 8) (upsets : List (Fin 8 × Nat)) (s : State) : Host.Outcome State Fault Refusal :=
  .next (s.powered (fun s => s.frameDone r (upsets.map (fun u => (u.1.val, u.2)))))

/-- PROTECT_REWRITE (R346): the Proctor acts on a mismatch of canvas r. -/
def execProtectRewrite (r : Fin 8) (s : State) : Host.Outcome State Fault Refusal :=
  .next (s.powered (fun s => s.protectRewrite r))

/-- REFERENCE_INSTANT (R31): an instant of raster r's reference, `delta` pixel clocks after the predicted one. -/
def execReferenceInstant (r : Fin 8) (delta : Int) (s : State) : Host.Outcome State Fault Refusal :=
  .next (s.powered (fun s => s.refInstant r delta))

/-- HOLDOVER (R32): two reference frames have passed without an instant. -/
def execHoldover (r : Fin 8) (s : State) : Host.Outcome State Fault Refusal :=
  .next (s.powered (fun s => s.holdover r))

/-- SLIP_HOLD_LIMIT (R39): a slip hold has reached VTOTAL_MAX lines. -/
def execSlipHoldLimit (r : Fin 8) (s : State) : Host.Outcome State Fault Refusal :=
  .next (s.powered (fun s => s.limitRow r (fun h => match h with | .slip _ => true | _ => false)))

/-- TE_EDGE (R51): an edge of TE0 or TE1. -/
def execTeEdge (pin : Fin 2) (falling : Bool) (s : State) : Host.Outcome State Fault Refusal :=
  .next (s.powered (fun s => s.teEdge pin falling))

/-- TE_MISS (R51): a TE hold has reached VTOTAL_MAX lines. -/
def execTeMiss (r : Fin 8) (s : State) : Host.Outcome State Fault Refusal :=
  .next (s.powered (fun s => s.limitRow r (fun h => decide (h = Hold.te))))

/-- VRR_TIMEOUT (R52): an Adaptive-Sync hold has reached VTOTAL_MAX lines. -/
def execVrrTimeout (r : Fin 8) (s : State) : Host.Outcome State Fault Refusal :=
  .next (s.powered (fun s => s.limitRow r (fun h => decide (h = Hold.vrr))))

/-- RELOCK_COMPLETE (R54): the pixel PLL of raster r locks. -/
def execRelockComplete (r : Fin 8) (s : State) : Host.Outcome State Fault Refusal :=
  .next (s.powered (fun s => s.relocked r))

/-- COMMIT_APPLY (R336): the parts of accepted commits whose boundary raster r has reached apply. -/
def execCommitApply (r : Fin 8) (s : State) : Host.Outcome State Fault Refusal :=
  .next (s.powered (fun s => (s.applyDue r).quietSinks))

/-- SCANOUT_UNDERRUN (R350): port n finds its FIFO empty at a pixel of its stripe. -/
def execScanoutUnderrun (n : Fin 8) (pixel : Fin 65536) (s : State) : Host.Outcome State Fault Refusal :=
  .next (s.powered (fun s => s.underrun n pixel))

/-- PORT_HPD_LOSS (R367): the sink of port n deasserts HPD, or its link fails. -/
def execPortHpdLoss (n : Fin 8) (s : State) : Host.Outcome State Fault Refusal :=
  .next (s.powered (fun s => s.portLoss n))

/-- PORT_HPD_RETURN (R367): the sink of port n reasserts HPD. -/
def execPortHpdReturn (n : Fin 8) (s : State) : Host.Outcome State Fault Refusal :=
  .next (s.powered (fun s => s.portReturn n))

/-- PORT_LINK_TRAINED (R367): training of port n ends; `lines` is the longest frame that its sink reports to accept. -/
def execPortLinkTrained (n : Fin 8) (lines : Option Nat) (s : State) : Host.Outcome State Fault Refusal :=
  .next (s.powered (fun s => s.portTrained n lines))

/-- PORT_HDCP_LOSS (R366): port n loses authentication. -/
def execPortHdcpLoss (n : Fin 8) (s : State) : Host.Outcome State Fault Refusal :=
  .next (s.powered (fun s => s.portHdcpLoss n))

/-- PORT_HDCP_AUTHENTICATED (R366): port n is authenticated with encryption on; `type1`: its topology permits Type 1 content. -/
def execPortHdcpAuthenticated (n : Fin 8) (type1 : Bool) (s : State) : Host.Outcome State Fault Refusal :=
  .next (s.powered (fun s => s.portHdcpOk n type1))

/-- PSR_ENTER (R368): port n enters self refresh. -/
def execPsrEnter (n : Fin 8) (s : State) : Host.Outcome State Fault Refusal :=
  .next (s.powered (fun s => s.psrEnter n))

/-- PSR_SELECTIVE_UPDATE (R368): port n is to send the changed blocks; `gran` is the panel's Y granularity. -/
def execPsrSelectiveUpdate (n : Fin 8) (gran : Fin 65536) (s : State) : Host.Outcome State Fault Refusal :=
  .next (s.powered (fun s => s.psrUpdate n gran))

/-- PSR_EXIT (R368): port n leaves self refresh. -/
def execPsrExit (n : Fin 8) (s : State) : Host.Outcome State Fault Refusal :=
  .next (s.powered (fun s => s.psrExit n))

end Sys2Proof.Machine
end

