-- ==== Sys2Proof/Machine/ScalarRows.lean ====
section
/-! DEFINITION. The scalar instructions (R66, R79, R81, Table 3.6), each as a one-slot bundle. -/
namespace Sys2Proof.Machine

/-- ADD (R81): g[GD] := g[GA] + g[GB] modulo 2^32. -/
def execAdd (x : At) (slot : Fin 2) (body : BitVec 54) (s : State) : Host.Outcome State Fault Refusal :=
  .next (s.issue1 x.core slot.val 0x01 x.pg x.pn body)

/-- SUB (R81): g[GD] := g[GA] − g[GB]. -/
def execSub (x : At) (slot : Fin 2) (body : BitVec 54) (s : State) : Host.Outcome State Fault Refusal :=
  .next (s.issue1 x.core slot.val 0x02 x.pg x.pn body)

/-- AND (R81): bitwise AND. -/
def execAnd (x : At) (slot : Fin 2) (body : BitVec 54) (s : State) : Host.Outcome State Fault Refusal :=
  .next (s.issue1 x.core slot.val 0x03 x.pg x.pn body)

/-- OR (R81): bitwise OR. -/
def execOr (x : At) (slot : Fin 2) (body : BitVec 54) (s : State) : Host.Outcome State Fault Refusal :=
  .next (s.issue1 x.core slot.val 0x04 x.pg x.pn body)

/-- XOR (R81): bitwise exclusive OR. -/
def execXor (x : At) (slot : Fin 2) (body : BitVec 54) (s : State) : Host.Outcome State Fault Refusal :=
  .next (s.issue1 x.core slot.val 0x05 x.pg x.pn body)

/-- SLL (R81): left shift by g[GB][4:0]. -/
def execSll (x : At) (slot : Fin 2) (body : BitVec 54) (s : State) : Host.Outcome State Fault Refusal :=
  .next (s.issue1 x.core slot.val 0x06 x.pg x.pn body)

/-- SRL (R81): logical right shift by g[GB][4:0]. -/
def execSrl (x : At) (slot : Fin 2) (body : BitVec 54) (s : State) : Host.Outcome State Fault Refusal :=
  .next (s.issue1 x.core slot.val 0x07 x.pg x.pn body)

/-- SRA (R81): arithmetic right shift by g[GB][4:0]. -/
def execSra (x : At) (slot : Fin 2) (body : BitVec 54) (s : State) : Host.Outcome State Fault Refusal :=
  .next (s.issue1 x.core slot.val 0x08 x.pg x.pn body)

/-- MUL (R81): bits [31:0] of the product. -/
def execMul (x : At) (slot : Fin 2) (body : BitVec 54) (s : State) : Host.Outcome State Fault Refusal :=
  .next (s.issue1 x.core slot.val 0x09 x.pg x.pn body)

/-- MULH (R81): bits [63:32] of the signed product. -/
def execMulh (x : At) (slot : Fin 2) (body : BitVec 54) (s : State) : Host.Outcome State Fault Refusal :=
  .next (s.issue1 x.core slot.val 0x0A x.pg x.pn body)

/-- MULHU (R81): bits [63:32] of the unsigned product. -/
def execMulhu (x : At) (slot : Fin 2) (body : BitVec 54) (s : State) : Host.Outcome State Fault Refusal :=
  .next (s.issue1 x.core slot.val 0x0B x.pg x.pn body)

/-- MIN (R81): signed minimum. -/
def execMin (x : At) (slot : Fin 2) (body : BitVec 54) (s : State) : Host.Outcome State Fault Refusal :=
  .next (s.issue1 x.core slot.val 0x0C x.pg x.pn body)

/-- MAX (R81): signed maximum. -/
def execMax (x : At) (slot : Fin 2) (body : BitVec 54) (s : State) : Host.Outcome State Fault Refusal :=
  .next (s.issue1 x.core slot.val 0x0D x.pg x.pn body)

/-- MINU (R81): unsigned minimum. -/
def execMinu (x : At) (slot : Fin 2) (body : BitVec 54) (s : State) : Host.Outcome State Fault Refusal :=
  .next (s.issue1 x.core slot.val 0x0E x.pg x.pn body)

/-- MAXU (R81): unsigned maximum. -/
def execMaxu (x : At) (slot : Fin 2) (body : BitVec 54) (s : State) : Host.Outcome State Fault Refusal :=
  .next (s.issue1 x.core slot.val 0x0F x.pg x.pn body)

/-- ADDI (R81): g[GA] + IMM. -/
def execAddi (x : At) (slot : Fin 2) (body : BitVec 54) (s : State) : Host.Outcome State Fault Refusal :=
  .next (s.issue1 x.core slot.val 0x10 x.pg x.pn body)

/-- ANDI (R81): g[GA] AND IMM. -/
def execAndi (x : At) (slot : Fin 2) (body : BitVec 54) (s : State) : Host.Outcome State Fault Refusal :=
  .next (s.issue1 x.core slot.val 0x11 x.pg x.pn body)

/-- ORI (R81): g[GA] OR IMM. -/
def execOri (x : At) (slot : Fin 2) (body : BitVec 54) (s : State) : Host.Outcome State Fault Refusal :=
  .next (s.issue1 x.core slot.val 0x12 x.pg x.pn body)

/-- XORI (R81): g[GA] XOR IMM. -/
def execXori (x : At) (slot : Fin 2) (body : BitVec 54) (s : State) : Host.Outcome State Fault Refusal :=
  .next (s.issue1 x.core slot.val 0x13 x.pg x.pn body)

/-- SLLI (R81): left shift by IMM[4:0]. -/
def execSlli (x : At) (slot : Fin 2) (body : BitVec 54) (s : State) : Host.Outcome State Fault Refusal :=
  .next (s.issue1 x.core slot.val 0x14 x.pg x.pn body)

/-- SRLI (R81): logical right shift by IMM[4:0]. -/
def execSrli (x : At) (slot : Fin 2) (body : BitVec 54) (s : State) : Host.Outcome State Fault Refusal :=
  .next (s.issue1 x.core slot.val 0x15 x.pg x.pn body)

/-- SRAI (R81): arithmetic right shift by IMM[4:0]. -/
def execSrai (x : At) (slot : Fin 2) (body : BitVec 54) (s : State) : Host.Outcome State Fault Refusal :=
  .next (s.issue1 x.core slot.val 0x16 x.pg x.pn body)

/-- LI (R81): g[GD] := IMM. -/
def execLi (x : At) (slot : Fin 2) (body : BitVec 54) (s : State) : Host.Outcome State Fault Refusal :=
  .next (s.issue1 x.core slot.val 0x17 x.pg x.pn body)

/-- MULI (R81): bits [31:0] of g[GA] × IMM. -/
def execMuli (x : At) (slot : Fin 2) (body : BitVec 54) (s : State) : Host.Outcome State Fault Refusal :=
  .next (s.issue1 x.core slot.val 0x18 x.pg x.pn body)

/-- ADDS (R81): signed sum clamped to INT32; FFLAGS.SAT when it clamps. -/
def execAdds (x : At) (slot : Fin 2) (body : BitVec 54) (s : State) : Host.Outcome State Fault Refusal :=
  .next (s.issue1 x.core slot.val 0x19 x.pg x.pn body)

/-- CLZ (R81): leading zeros, 32 for 0. -/
def execClz (x : At) (slot : Fin 2) (body : BitVec 54) (s : State) : Host.Outcome State Fault Refusal :=
  .next (s.issue1 x.core slot.val 0x1A x.pg x.pn body)

/-- POPC (R81): set bits. -/
def execPopc (x : At) (slot : Fin 2) (body : BitVec 54) (s : State) : Host.Outcome State Fault Refusal :=
  .next (s.issue1 x.core slot.val 0x1B x.pg x.pn body)

/-- CMP (R81): p[PD] := g[GA] COND (IMM or g[GB]). -/
def execCmp (x : At) (slot : Fin 2) (body : BitVec 54) (s : State) : Host.Outcome State Fault Refusal :=
  .next (s.issue1 x.core slot.val 0x20 x.pg x.pn body)

/-- CSRR (R66): g[GD] := CSR. -/
def execCsrr (x : At) (slot : Fin 2) (body : BitVec 54) (s : State) : Host.Outcome State Fault Refusal :=
  .next (s.issue1 x.core slot.val 0x28 x.pg x.pn body)

/-- CSRW (R66): CSR := g[GA]. -/
def execCsrw (x : At) (slot : Fin 2) (body : BitVec 54) (s : State) : Host.Outcome State Fault Refusal :=
  .next (s.issue1 x.core slot.val 0x29 x.pg x.pn body)

/-- BR (R79): the next bundle is TARGET; S0 only. -/
def execBr (x : At) (slot : Fin 2) (body : BitVec 54) (s : State) : Host.Outcome State Fault Refusal :=
  .next (s.issue1 x.core slot.val 0x30 x.pg x.pn body)

/-- BRL (R79): link register, then as BR. -/
def execBrl (x : At) (slot : Fin 2) (body : BitVec 54) (s : State) : Host.Outcome State Fault Refusal :=
  .next (s.issue1 x.core slot.val 0x31 x.pg x.pn body)

/-- JR (R79): the next bundle is g[GA][12:0]. -/
def execJr (x : At) (slot : Fin 2) (body : BitVec 54) (s : State) : Host.Outcome State Fault Refusal :=
  .next (s.issue1 x.core slot.val 0x32 x.pg x.pn body)

end Sys2Proof.Machine
end

