-- ==== Sys2Proof/Machine/TransferRows.lean ====
section
/-! DEFINITION. The transfer-slot commands (R89, Table 3.12) and what completes them (R125, R206). -/
namespace Sys2Proof.Machine

/-- DMV (R89): queues a copy of Locker rows into a Desk part. -/
def execDmv (x : At) (body : BitVec 54) (s : State) : Host.Outcome State Fault Refusal :=
  .next (s.issue1 x.core 6 0x01 x.pg x.pn body)

/-- DMVR (R89): queues a copy of Desk rows into the Locker. -/
def execDmvr (x : At) (body : BitVec 54) (s : State) : Host.Outcome State Fault Refusal :=
  .next (s.issue1 x.core 6 0x02 x.pg x.pn body)

/-- CSEND (R89): queues a send over the corridor. -/
def execCsend (x : At) (body : BitVec 54) (s : State) : Host.Outcome State Fault Refusal :=
  .next (s.issue1 x.core 6 0x03 x.pg x.pn body)

/-- MVL (R124): runs input vectors through the matrix-vector lane. -/
def execMvl (x : At) (body : BitVec 54) (s : State) : Host.Outcome State Fault Refusal :=
  .next (s.issue1 x.core 6 0x04 x.pg x.pn body)

/-- MVL_RESULT (R125): the lane writes the results of its oldest command. -/
def execMvlResult (c : Fin 1024) (s : State) : Host.Outcome State Fault Refusal :=
  .next (if s.coresOn then (s.mvlResult c).progress c else s)

/-- DMAK (R89): starts a descriptor chain on a form engine, after a full fence (R406). -/
def execDmak (x : At) (body : BitVec 54) (s : State) : Host.Outcome State Fault Refusal :=
  .next (s.issue1 x.core 6 0x05 x.pg x.pn body)

/-- TRANSFER_COMMAND_COMPLETE (R75): the head of the transfer queue completes its moves; a DMAK starts its chain. -/
def execTransferCommandComplete (c : Fin 1024) (s : State) : Host.Outcome State Fault Refusal :=
  .next (if s.coresOn then (s.transferComplete c).progress c else s)

/-- CORRIDOR_LANDING (R206): the oldest unit bound for core c lands: `up` is DIR of its sender. -/
def execCorridorLanding (c : Fin 1024) (up : Bool) (s : State) : Host.Outcome State Fault Refusal :=
  .next (
    let s := s.corrLand c up
    let l := neighbour c (!up)
    (s.progress c).progress l)

end Sys2Proof.Machine
end

