-- ==== Sys2Proof/Machine/VectorRows.lean ====
section
/-! DEFINITION. The vector instructions (R83 to R85, Table 3.9). -/
namespace Sys2Proof.Machine

/-- VADD (R83): lane sums. -/
def execVadd (x : At) (body : BitVec 54) (s : State) : Host.Outcome State Fault Refusal :=
  .next (s.issue1 x.core 3 0x1 x.pg x.pn body)

/-- VSUB (R83): lane differences. -/
def execVsub (x : At) (body : BitVec 54) (s : State) : Host.Outcome State Fault Refusal :=
  .next (s.issue1 x.core 3 0x2 x.pg x.pn body)

/-- VMUL (R83): lane products, low half for integers. -/
def execVmul (x : At) (body : BitVec 54) (s : State) : Host.Outcome State Fault Refusal :=
  .next (s.issue1 x.core 3 0x3 x.pg x.pn body)

/-- VFMA (R83): va × vb + vc, rounded or clamped once. -/
def execVfma (x : At) (body : BitVec 54) (s : State) : Host.Outcome State Fault Refusal :=
  .next (s.issue1 x.core 3 0x4 x.pg x.pn body)

/-- VMIN (R83): lane minima. -/
def execVmin (x : At) (body : BitVec 54) (s : State) : Host.Outcome State Fault Refusal :=
  .next (s.issue1 x.core 3 0x5 x.pg x.pn body)

/-- VMAX (R83): lane maxima. -/
def execVmax (x : At) (body : BitVec 54) (s : State) : Host.Outcome State Fault Refusal :=
  .next (s.issue1 x.core 3 0x6 x.pg x.pn body)

/-- VAND (R83): bitwise AND. -/
def execVand (x : At) (body : BitVec 54) (s : State) : Host.Outcome State Fault Refusal :=
  .next (s.issue1 x.core 3 0x7 x.pg x.pn body)

/-- VOR (R83): bitwise OR. -/
def execVor (x : At) (body : BitVec 54) (s : State) : Host.Outcome State Fault Refusal :=
  .next (s.issue1 x.core 3 0x8 x.pg x.pn body)

/-- VXOR (R83): bitwise exclusive OR. -/
def execVxor (x : At) (body : BitVec 54) (s : State) : Host.Outcome State Fault Refusal :=
  .next (s.issue1 x.core 3 0x9 x.pg x.pn body)

/-- VSHL (R83): left shifts by vb[i] mod w. -/
def execVshl (x : At) (body : BitVec 54) (s : State) : Host.Outcome State Fault Refusal :=
  .next (s.issue1 x.core 3 0xa x.pg x.pn body)

/-- VSHR (R83): right shifts by vb[i] mod w. -/
def execVshr (x : At) (body : BitVec 54) (s : State) : Host.Outcome State Fault Refusal :=
  .next (s.issue1 x.core 3 0xb x.pg x.pn body)

/-- VSHLI (R83): left shifts by IMM mod w. -/
def execVshli (x : At) (body : BitVec 54) (s : State) : Host.Outcome State Fault Refusal :=
  .next (s.issue1 x.core 3 0xc x.pg x.pn body)

/-- VSHRI (R83): right shifts by IMM mod w. -/
def execVshri (x : At) (body : BitVec 54) (s : State) : Host.Outcome State Fault Refusal :=
  .next (s.issue1 x.core 3 0xd x.pg x.pn body)

/-- VCMP (R83): all ones where va[i] COND vb[i]. -/
def execVcmp (x : At) (body : BitVec 54) (s : State) : Host.Outcome State Fault Refusal :=
  .next (s.issue1 x.core 3 0xe x.pg x.pn body)

/-- VSEL (R83): va[i] where vc[i] is not 0, else vb[i]. -/
def execVsel (x : At) (body : BitVec 54) (s : State) : Host.Outcome State Fault Refusal :=
  .next (s.issue1 x.core 3 0xf x.pg x.pn body)

/-- VCVT (R84): conversion under R84. -/
def execVcvt (x : At) (body : BitVec 54) (s : State) : Host.Outcome State Fault Refusal :=
  .next (s.issue1 x.core 3 0x10 x.pg x.pn body)

/-- VREDADD (R85): sum of all lanes under R85. -/
def execVredadd (x : At) (body : BitVec 54) (s : State) : Host.Outcome State Fault Refusal :=
  .next (s.issue1 x.core 3 0x11 x.pg x.pn body)

/-- VREDMAX (R85): maximum of all lanes under R85. -/
def execVredmax (x : At) (body : BitVec 54) (s : State) : Host.Outcome State Fault Refusal :=
  .next (s.issue1 x.core 3 0x12 x.pg x.pn body)

/-- VPERM (R83): va[vb[i] mod n]. -/
def execVperm (x : At) (body : BitVec 54) (s : State) : Host.Outcome State Fault Refusal :=
  .next (s.issue1 x.core 3 0x13 x.pg x.pn body)

/-- VSLIDE (R83): the lanes of va and vb from s on. -/
def execVslide (x : At) (body : BitVec 54) (s : State) : Host.Outcome State Fault Refusal :=
  .next (s.issue1 x.core 3 0x14 x.pg x.pn body)

/-- VBCAST (R83): the low bits of g[VC] in every lane. -/
def execVbcast (x : At) (body : BitVec 54) (s : State) : Host.Outcome State Fault Refusal :=
  .next (s.issue1 x.core 3 0x15 x.pg x.pn body)

/-- VEXT (R83): g[VD] := one lane of va. -/
def execVext (x : At) (body : BitVec 54) (s : State) : Host.Outcome State Fault Refusal :=
  .next (s.issue1 x.core 3 0x16 x.pg x.pn body)

/-- VINS (R83): va with one lane replaced. -/
def execVins (x : At) (body : BitVec 54) (s : State) : Host.Outcome State Fault Refusal :=
  .next (s.issue1 x.core 3 0x17 x.pg x.pn body)

/-- VMOV (R83): vd := va. -/
def execVmov (x : At) (body : BitVec 54) (s : State) : Host.Outcome State Fault Refusal :=
  .next (s.issue1 x.core 3 0x18 x.pg x.pn body)

/-- VABS (R83): absolute values. -/
def execVabs (x : At) (body : BitVec 54) (s : State) : Host.Outcome State Fault Refusal :=
  .next (s.issue1 x.core 3 0x19 x.pg x.pn body)

/-- VANY (R83): p[VD] := some lane is not 0. -/
def execVany (x : At) (body : BitVec 54) (s : State) : Host.Outcome State Fault Refusal :=
  .next (s.issue1 x.core 3 0x1a x.pg x.pn body)

/-- VALL (R83): p[VD] := every lane is not 0. -/
def execVall (x : At) (body : BitVec 54) (s : State) : Host.Outcome State Fault Refusal :=
  .next (s.issue1 x.core 3 0x1b x.pg x.pn body)

/-- VMULH (R83): high half of the integer product. -/
def execVmulh (x : At) (body : BitVec 54) (s : State) : Host.Outcome State Fault Refusal :=
  .next (s.issue1 x.core 3 0x1c x.pg x.pn body)

end Sys2Proof.Machine
end

