-- ==== Sys2Proof/Machine/Dispatch.lean ====
section
/-! DEFINITION. One arm for each command. -/
namespace Sys2Proof.Machine

/-- The effect of a command on everything but the queue. -/
def exec (i : Instr) (s : State) : Host.Outcome State Fault Refusal :=
  match i with
  | .resetAssert => Sys2Proof.Machine.execResetAssert s
  | .resetRelease u sag => Sys2Proof.Machine.execResetRelease u sag s
  | .perst => Sys2Proof.Machine.execPerst s
  | .registerWrite fn off size value => Sys2Proof.Machine.execRegisterWrite fn off size value s
  | .pairSnapshotRead fn off size => Sys2Proof.Machine.execPairSnapshotRead fn off size s
  | .apertureAccess fn off size write => Sys2Proof.Machine.execApertureAccess fn off size write s
  | .lineStart r => Sys2Proof.Machine.execLineStart r s
  | .frameDone r upsets => Sys2Proof.Machine.execFrameDone r upsets s
  | .protectRewrite r => Sys2Proof.Machine.execProtectRewrite r s
  | .referenceInstant r delta => Sys2Proof.Machine.execReferenceInstant r delta s
  | .holdover r => Sys2Proof.Machine.execHoldover r s
  | .slipHoldLimit r => Sys2Proof.Machine.execSlipHoldLimit r s
  | .teEdge pin falling => Sys2Proof.Machine.execTeEdge pin falling s
  | .teMiss r => Sys2Proof.Machine.execTeMiss r s
  | .vrrTimeout r => Sys2Proof.Machine.execVrrTimeout r s
  | .relockComplete r => Sys2Proof.Machine.execRelockComplete r s
  | .bellSwapComplete => Sys2Proof.Machine.execBellSwapComplete s
  | .bellNop r entry => Sys2Proof.Machine.execBellNop r entry s
  | .progStart r entry => Sys2Proof.Machine.execProgStart r entry s
  | .dmaStart r entry => Sys2Proof.Machine.execDmaStart r entry s
  | .bellCommit r entry => Sys2Proof.Machine.execBellCommit r entry s
  | .warn r entry => Sys2Proof.Machine.execWarn r entry s
  | .late r entry => Sys2Proof.Machine.execLate r entry s
  | .hostEvt r entry => Sys2Proof.Machine.execHostEvt r entry s
  | .wake r entry => Sys2Proof.Machine.execWake r entry s
  | .handoff n => Sys2Proof.Machine.execHandoff n s
  | .inputFrameStart k frac enc => Sys2Proof.Machine.execInputFrameStart k frac enc s
  | .inputWrap k frac enc => Sys2Proof.Machine.execInputWrap k frac enc s
  | .sourceTimeout k => Sys2Proof.Machine.execSourceTimeout k s
  | .repeatEnd p => Sys2Proof.Machine.execRepeatEnd p s
  | .inputLineCaptured k planes => Sys2Proof.Machine.execInputLineCaptured k planes s
  | .streamFormat k hactive htotal vactive vtotal fmt kpix dsc enc => Sys2Proof.Machine.execStreamFormat k hactive htotal vactive vtotal fmt kpix dsc enc s
  | .msaChange k hactive htotal vactive vtotal fmt kpix dsc enc => Sys2Proof.Machine.execMsaChange k hactive htotal vactive vtotal fmt kpix dsc enc s
  | .sinkLinkLost k => Sys2Proof.Machine.execSinkLinkLost k s
  | .sinkRetrain k => Sys2Proof.Machine.execSinkRetrain k s
  | .sinkLinkTrained k rate lanes => Sys2Proof.Machine.execSinkLinkTrained k rate lanes s
  | .dscDecodeError k lines => Sys2Proof.Machine.execDscDecodeError k lines s
  | .sinkHdcpFail k => Sys2Proof.Machine.execSinkHdcpFail k s
  | .portHpdLoss n => Sys2Proof.Machine.execPortHpdLoss n s
  | .portLinkTrained n lines => Sys2Proof.Machine.execPortLinkTrained n lines s
  | .portHdcpLoss n => Sys2Proof.Machine.execPortHdcpLoss n s
  | .scanoutUnderrun n pixel => Sys2Proof.Machine.execScanoutUnderrun n pixel s
  | .psrEnter n => Sys2Proof.Machine.execPsrEnter n s
  | .psrSelectiveUpdate n gran => Sys2Proof.Machine.execPsrSelectiveUpdate n gran s
  | .psrExit n => Sys2Proof.Machine.execPsrExit n s
  | .add x slot body => Sys2Proof.Machine.execAdd x slot body s
  | .sub_ x slot body => Sys2Proof.Machine.execSub x slot body s
  | .and_ x slot body => Sys2Proof.Machine.execAnd x slot body s
  | .or_ x slot body => Sys2Proof.Machine.execOr x slot body s
  | .xor_ x slot body => Sys2Proof.Machine.execXor x slot body s
  | .sll x slot body => Sys2Proof.Machine.execSll x slot body s
  | .srl x slot body => Sys2Proof.Machine.execSrl x slot body s
  | .sra x slot body => Sys2Proof.Machine.execSra x slot body s
  | .mul_ x slot body => Sys2Proof.Machine.execMul x slot body s
  | .mulh x slot body => Sys2Proof.Machine.execMulh x slot body s
  | .mulhu x slot body => Sys2Proof.Machine.execMulhu x slot body s
  | .min_ x slot body => Sys2Proof.Machine.execMin x slot body s
  | .max_ x slot body => Sys2Proof.Machine.execMax x slot body s
  | .minu x slot body => Sys2Proof.Machine.execMinu x slot body s
  | .maxu x slot body => Sys2Proof.Machine.execMaxu x slot body s
  | .addi x slot body => Sys2Proof.Machine.execAddi x slot body s
  | .andi x slot body => Sys2Proof.Machine.execAndi x slot body s
  | .ori x slot body => Sys2Proof.Machine.execOri x slot body s
  | .xori x slot body => Sys2Proof.Machine.execXori x slot body s
  | .slli x slot body => Sys2Proof.Machine.execSlli x slot body s
  | .srli x slot body => Sys2Proof.Machine.execSrli x slot body s
  | .srai x slot body => Sys2Proof.Machine.execSrai x slot body s
  | .li x slot body => Sys2Proof.Machine.execLi x slot body s
  | .muli x slot body => Sys2Proof.Machine.execMuli x slot body s
  | .adds x slot body => Sys2Proof.Machine.execAdds x slot body s
  | .clz x slot body => Sys2Proof.Machine.execClz x slot body s
  | .popc x slot body => Sys2Proof.Machine.execPopc x slot body s
  | .cmp x slot body => Sys2Proof.Machine.execCmp x slot body s
  | .csrr x slot body => Sys2Proof.Machine.execCsrr x slot body s
  | .csrw x slot body => Sys2Proof.Machine.execCsrw x slot body s
  | .br x slot body => Sys2Proof.Machine.execBr x slot body s
  | .brl x slot body => Sys2Proof.Machine.execBrl x slot body s
  | .jr x slot body => Sys2Proof.Machine.execJr x slot body s
  | .ld x body => Sys2Proof.Machine.execLd x body s
  | .lds x body => Sys2Proof.Machine.execLds x body s
  | .st x body => Sys2Proof.Machine.execSt x body s
  | .ldbc x body => Sys2Proof.Machine.execLdbc x body s
  | .pref x body => Sys2Proof.Machine.execPref x body s
  | .loadReturn c n => Sys2Proof.Machine.execLoadReturn c n s
  | .gatherFlushTimeout c n => Sys2Proof.Machine.execGatherFlushTimeout c n s
  | .vadd x body => Sys2Proof.Machine.execVadd x body s
  | .vsub x body => Sys2Proof.Machine.execVsub x body s
  | .vmul x body => Sys2Proof.Machine.execVmul x body s
  | .vfma x body => Sys2Proof.Machine.execVfma x body s
  | .vmin x body => Sys2Proof.Machine.execVmin x body s
  | .vmax x body => Sys2Proof.Machine.execVmax x body s
  | .vand x body => Sys2Proof.Machine.execVand x body s
  | .vor x body => Sys2Proof.Machine.execVor x body s
  | .vxor x body => Sys2Proof.Machine.execVxor x body s
  | .vshl x body => Sys2Proof.Machine.execVshl x body s
  | .vshr x body => Sys2Proof.Machine.execVshr x body s
  | .vshli x body => Sys2Proof.Machine.execVshli x body s
  | .vshri x body => Sys2Proof.Machine.execVshri x body s
  | .vcmp x body => Sys2Proof.Machine.execVcmp x body s
  | .vsel x body => Sys2Proof.Machine.execVsel x body s
  | .vcvt x body => Sys2Proof.Machine.execVcvt x body s
  | .vredadd x body => Sys2Proof.Machine.execVredadd x body s
  | .vredmax x body => Sys2Proof.Machine.execVredmax x body s
  | .vperm x body => Sys2Proof.Machine.execVperm x body s
  | .vslide x body => Sys2Proof.Machine.execVslide x body s
  | .vbcast x body => Sys2Proof.Machine.execVbcast x body s
  | .vext x body => Sys2Proof.Machine.execVext x body s
  | .vins x body => Sys2Proof.Machine.execVins x body s
  | .vmov x body => Sys2Proof.Machine.execVmov x body s
  | .vabs x body => Sys2Proof.Machine.execVabs x body s
  | .vany x body => Sys2Proof.Machine.execVany x body s
  | .vall x body => Sys2Proof.Machine.execVall x body s
  | .vmulh x body => Sys2Proof.Machine.execVmulh x body s
  | .wld x arr body => Sys2Proof.Machine.execWld x arr body s
  | .mstream x arr body => Sys2Proof.Machine.execMstream x arr body s
  | .mdst x arr body => Sys2Proof.Machine.execMdst x arr body s
  | .mdrain x arr body => Sys2Proof.Machine.execMdrain x arr body s
  | .mzero x arr body => Sys2Proof.Machine.execMzero x arr body s
  | .msr x arr body => Sys2Proof.Machine.execMsr x arr body s
  | .mrs x arr body => Sys2Proof.Machine.execMrs x arr body s
  | .mscl x arr body => Sys2Proof.Machine.execMscl x arr body s
  | .arrayCommandStart c arr residueBad => Sys2Proof.Machine.execArrayCommandStart c arr residueBad s
  | .arrayCommandComplete c arr => Sys2Proof.Machine.execArrayCommandComplete c arr s
  | .keeperTimeout c arr residueBad => Sys2Proof.Machine.execKeeperTimeout c arr residueBad s
  | .governorGrant c arr => Sys2Proof.Machine.execGovernorGrant c arr s
  | .dmv x body => Sys2Proof.Machine.execDmv x body s
  | .dmvr x body => Sys2Proof.Machine.execDmvr x body s
  | .csend x body => Sys2Proof.Machine.execCsend x body s
  | .mvl x body => Sys2Proof.Machine.execMvl x body s
  | .mvlResult c => Sys2Proof.Machine.execMvlResult c s
  | .dmak x body => Sys2Proof.Machine.execDmak x body s
  | .transferCommandComplete c => Sys2Proof.Machine.execTransferCommandComplete c s
  | .corridorLanding c up => Sys2Proof.Machine.execCorridorLanding c up s
  | .bwait x body => Sys2Proof.Machine.execBwait x body s
  | .iwait x body => Sys2Proof.Machine.execIwait x body s
  | .hsig x body => Sys2Proof.Machine.execHsig x body s
  | .hwait x body => Sys2Proof.Machine.execHwait x body s
  | .fenceSl x rsv => Sys2Proof.Machine.execFenceSl x rsv s
  | .fenceSs x rsv => Sys2Proof.Machine.execFenceSs x rsv s
  | .fenceAll x rsv => Sys2Proof.Machine.execFenceAll x rsv s
  | .fenceM0 x rsv => Sys2Proof.Machine.execFenceM0 x rsv s
  | .fenceM1 x rsv => Sys2Proof.Machine.execFenceM1 x rsv s
  | .fenceM x rsv => Sys2Proof.Machine.execFenceM x rsv s
  | .fenceX x rsv => Sys2Proof.Machine.execFenceX x rsv s
  | .roll x body => Sys2Proof.Machine.execRoll x body s
  | .tdone x body => Sys2Proof.Machine.execTdone x body s
  | .done_ x body => Sys2Proof.Machine.execDone x body s
  | .pset x body => Sys2Proof.Machine.execPset x body s
  | .pand x body => Sys2Proof.Machine.execPand x body s
  | .por x body => Sys2Proof.Machine.execPor x body s
  | .pxor x body => Sys2Proof.Machine.execPxor x body s
  | .pnot x body => Sys2Proof.Machine.execPnot x body s
  | .loop_ x body => Sys2Proof.Machine.execLoop x body s
  | .cwait x body => Sys2Proof.Machine.execCwait x body s
  | .trap x body => Sys2Proof.Machine.execTrap x body s
  | .deanFaultNotice c => Sys2Proof.Machine.execDeanFaultNotice c s
  | .tileFaultResponse c => Sys2Proof.Machine.execTileFaultResponse c s
  | .breakpoint c => Sys2Proof.Machine.execBreakpoint c s
  | .shapeWordRead f => Sys2Proof.Machine.execShapeWordRead f s
  | .handoverComplete b => Sys2Proof.Machine.execHandoverComplete b s
  | .shelfFill h line => Sys2Proof.Machine.execShelfFill h line s
  | .libraryScrub b => Sys2Proof.Machine.execLibraryScrub b s
  | .libraryUncResponse b => Sys2Proof.Machine.execLibraryUncResponse b s
  | .marchComplete fail => Sys2Proof.Machine.execMarchComplete fail s
  | .dmaChainStart e => Sys2Proof.Machine.execDmaChainStart e s
  | .descNop e bus => Sys2Proof.Machine.execDescNop e bus s
  | .copy e bus => Sys2Proof.Machine.execCopy e bus s
  | .skew e bus => Sys2Proof.Machine.execSkew e bus s
  | .fill e bus => Sys2Proof.Machine.execFill e bus s
  | .descPref e bus => Sys2Proof.Machine.execDescPref e bus s
  | .descriptorComplete e => Sys2Proof.Machine.execDescriptorComplete e s
  | .priResponse fn page ok => Sys2Proof.Machine.execPriResponse fn page ok s
  | .abort_ fn e => Sys2Proof.Machine.execAbort fn e s
  | .atsInvalidation fn page status => Sys2Proof.Machine.execAtsInvalidation fn page status s
  | .ffSlotStart => Sys2Proof.Machine.execFfSlotStart s
  | .jobWalkStart p => Sys2Proof.Machine.execJobWalkStart p s
  | .jobNop p => Sys2Proof.Machine.execJobNop p s
  | .edgeIn p => Sys2Proof.Machine.execEdgeIn p s
  | .edgeOut p => Sys2Proof.Machine.execEdgeOut p s
  | .crop p => Sys2Proof.Machine.execCrop p s
  | .jobComplete p unit => Sys2Proof.Machine.execJobComplete p unit s
  | .addressGeneratorRun f a => Sys2Proof.Machine.execAddressGeneratorRun f a s
  | .subJobStart p b => Sys2Proof.Machine.execSubJobStart p b s
  | .subJobReady p b => Sys2Proof.Machine.execSubJobReady p b s
  | .thermalSample f t => Sys2Proof.Machine.execThermalSample f t s
  | .heatTierDecay f => Sys2Proof.Machine.execHeatTierDecay f s
  | .homeworkSample m motion => Sys2Proof.Machine.execHomeworkSample m motion s
  | .homeworkDeal m f => Sys2Proof.Machine.execHomeworkDeal m f s
  | .grad m f => Sys2Proof.Machine.execGrad m f s
  | .update m f => Sys2Proof.Machine.execUpdate m f s
  | .homeworkCopy m f => Sys2Proof.Machine.execHomeworkCopy m f s
  | .eval m f => Sys2Proof.Machine.execEval m f s
  | .deploy m f => Sys2Proof.Machine.execDeploy m f s
  | .roundEvaluate m => Sys2Proof.Machine.execRoundEvaluate m s
  | .checkpointPeriod m => Sys2Proof.Machine.execCheckpointPeriod m s
  | .commitApply r => Sys2Proof.Machine.execCommitApply r s
  | .dirty fn g => Sys2Proof.Machine.execDirty fn g s
  | .mbxDoorbell fn go => Sys2Proof.Machine.execMbxDoorbell fn go s
  | .queTail fn q value => Sys2Proof.Machine.execQueTail fn q value s
  | .queHead fn q value => Sys2Proof.Machine.execQueHead fn q value s
  | .hpsSignal fn p count => Sys2Proof.Machine.execHpsSignal fn p count s
  | .evtCMask fn value => Sys2Proof.Machine.execEvtCMask fn value s
  | .perfWrap off => Sys2Proof.Machine.execPerfWrap off s
  | .deanSlot h n => Sys2Proof.Machine.execDeanSlot h n s
  | .nop d => Sys2Proof.Machine.execNop d s
  | .queueCreate d => Sys2Proof.Machine.execQueueCreate d s
  | .queueDestroy d => Sys2Proof.Machine.execQueueDestroy d s
  | .houseGrant d => Sys2Proof.Machine.execHouseGrant d s
  | .bankHandover d => Sys2Proof.Machine.execBankHandover d s
  | .pipeCreate d => Sys2Proof.Machine.execPipeCreate d s
  | .pipeDestroy d => Sys2Proof.Machine.execPipeDestroy d s
  | .modelLoad d => Sys2Proof.Machine.execModelLoad d s
  | .modelUnload d => Sys2Proof.Machine.execModelUnload d s
  | .routeSet d => Sys2Proof.Machine.execRouteSet d s
  | .commit d => Sys2Proof.Machine.execCommit d s
  | .commitBell d => Sys2Proof.Machine.execCommitBell d s
  | .commitCut d => Sys2Proof.Machine.execCommitCut d s
  | .commitClear d => Sys2Proof.Machine.execCommitClear d s
  | .modeSet d => Sys2Proof.Machine.execModeSet d s
  | .portSet d => Sys2Proof.Machine.execPortSet d s
  | .canvasSet d => Sys2Proof.Machine.execCanvasSet d s
  | .vlayerSet d => Sys2Proof.Machine.execVlayerSet d s
  | .protectSet d => Sys2Proof.Machine.execProtectSet d s
  | .tierFloor d => Sys2Proof.Machine.execTierFloor d s
  | .coreRetire d => Sys2Proof.Machine.execCoreRetire d s
  | .coreRejoin d => Sys2Proof.Machine.execCoreRejoin d s
  | .marchRun d => Sys2Proof.Machine.execMarchRun d s
  | .fwStage d => Sys2Proof.Machine.execFwStage d s
  | .fwSwap d => Sys2Proof.Machine.execFwSwap d s
  | .debugSet d => Sys2Proof.Machine.execDebugSet d s
  | .adaptPolicy d => Sys2Proof.Machine.execAdaptPolicy d s
  | .bandStatus d => Sys2Proof.Machine.execBandStatus d s
  | .pipeStatus d => Sys2Proof.Machine.execPipeStatus d s
  | .hwStatus d => Sys2Proof.Machine.execHwStatus d s
  | .hpassSet d => Sys2Proof.Machine.execHpassSet d s
  | .hpassWait d => Sys2Proof.Machine.execHpassWait d s
  | .dmaRun d => Sys2Proof.Machine.execDmaRun d s
  | .shelfFlush d => Sys2Proof.Machine.execShelfFlush d s
  | .flr fn => Sys2Proof.Machine.execFlr fn s
  | .vinHfTail fn value => Sys2Proof.Machine.execVinHfTail fn value s
  | .hfRingEnable fn => Sys2Proof.Machine.execHfRingEnable fn s
  | .hfRingDisable fn => Sys2Proof.Machine.execHfRingDisable fn s
  | .hostFrameDescriptor => Sys2Proof.Machine.execHostFrameDescriptor s
  | .hostFrameGroup fault => Sys2Proof.Machine.execHostFrameGroup fault s
  | .dramRetrain ok => Sys2Proof.Machine.execDramRetrain ok s
  | .halt fn c => Sys2Proof.Machine.execHalt fn c s
  | .step_ fn c => Sys2Proof.Machine.execStep fn c s
  | .resume fn c => Sys2Proof.Machine.execResume fn c s
  | .lcReq dst slots token => Sys2Proof.Machine.execLcReq dst slots token s
  | .hdcpProvision => Sys2Proof.Machine.execHdcpProvision s
  | .idcode => Sys2Proof.Machine.execIdcode s
  | .bypass tdi => Sys2Proof.Machine.execBypass tdi s
  | .samplePreload pins content => Sys2Proof.Machine.execSamplePreload pins content s
  | .extest pins content => Sys2Proof.Machine.execExtest pins content s
  | .intest content => Sys2Proof.Machine.execIntest content s
  | .tcdAccess write off value => Sys2Proof.Machine.execTcdAccess write off value s
  | .rollbackRaise m => Sys2Proof.Machine.execRollbackRaise m s
  | .pwrReqFull => Sys2Proof.Machine.execPwrReqFull s
  | .pwrReqEco => Sys2Proof.Machine.execPwrReqEco s
  | .pwrReqStandby => Sys2Proof.Machine.execPwrReqStandby s
  | .pf0D3hot => Sys2Proof.Machine.execPf0D3hot s
  | .pf0D0 => Sys2Proof.Machine.execPf0D0 s
  | .standbyEntry timeout => Sys2Proof.Machine.execStandbyEntry timeout s
  | .powerTransitionComplete u => Sys2Proof.Machine.execPowerTransitionComplete u s
  | .governorTick p1 p100 pa => Sys2Proof.Machine.execGovernorTick p1 p100 pa s
  | .vcoreAdjust want meas => Sys2Proof.Machine.execVcoreAdjust want meas s
  | .vcoreRegulatorTimeout => Sys2Proof.Machine.execVcoreRegulatorTimeout s
  | .thermalRestart u => Sys2Proof.Machine.execThermalRestart u s
  | .holdupWarning internal => Sys2Proof.Machine.execHoldupWarning internal s
  | .pwrsagGlitch => Sys2Proof.Machine.execPwrsagGlitch s
  | .saveSealed vhold => Sys2Proof.Machine.execSaveSealed vhold s
  | .holdupResume u => Sys2Proof.Machine.execHoldupResume u s
  | .powerOff => Sys2Proof.Machine.execPowerOff s
  | .fwSwapHandover => Sys2Proof.Machine.execFwSwapHandover s
  | .fwWatchdog => Sys2Proof.Machine.execFwWatchdog s
  | .fwBootConfirm => Sys2Proof.Machine.execFwBootConfirm s
  | .pllRecalibrate cclk sclk => Sys2Proof.Machine.execPllRecalibrate cclk sclk s
  | .sensorCalibrate f ok => Sys2Proof.Machine.execSensorCalibrate f ok s
  | .sinkHdcpAuthenticated k => Sys2Proof.Machine.execSinkHdcpAuthenticated k s
  | .portHdcpAuthenticated n type1 => Sys2Proof.Machine.execPortHdcpAuthenticated n type1 s
  | .portHpdReturn n => Sys2Proof.Machine.execPortHpdReturn n s
  | .pwrsagNHigh u => Sys2Proof.Machine.execPwrsagNHigh u s
  | .gpioInterrupt pin mode irq level => Sys2Proof.Machine.execGpioInterrupt pin mode irq level s

end Sys2Proof.Machine
end

