-- ==== Sys2Proof/Safety.lean ====
section
/-! DEFINITION. What counts as safe, in the terms of the statements: the canonical form of every memory, the legal range of what the fuses hold; and the
words that the statements share. -/
namespace Sys2Proof.Machine

/-- The canonical form of the state: every memory and the registers in theirs, and the tables of cores, rasters, forms and DMA engines with
rising keys. -/
def State.wf (s : State) : Prop :=
  Memory.wf s.lib ∧ Memory.wf s.locker ∧ Memory.wf s.desk ∧ Memory.wf s.istore ∧ Memory.wf s.dram ∧ Memory.wf s.host ∧ Memory.wf s.flash ∧
  mapWf regReset s.regs ∧ mapSorted s.cores ∧ mapSorted s.rasters ∧ mapSorted s.forms ∧ mapSorted s.engines

/-- The value of a rollback counter (R433): 0 Dvorzar, 1 + slot for the model packages of a key slot. -/
def State.counter (s : State) (i : Nat) : Nat := mapGet (fun _ => 0) s.fuses.rollback i

/-- What the fuses may hold (R433, R435, R436), and a lifecycle request that waits leads to a later state that exists. -/
def State.fusesLegal (s : State) : Prop :=
  s.fuses.life ≤ 4 ∧ s.fuses.keygen ≤ 15 ∧ (∀ i, s.counter i ≤ 63) ∧
  (∀ dst slots, s.service.lcReq = some (dst, slots) → s.fuses.life < dst ∧ dst ≤ 4)

/-- A step takes no fuse back (R433, R435, R436): counters do not decrease, and no transition returns to an earlier lifecycle state. -/
def fusesKept (s t : State) : Prop :=
  s.fuses.life ≤ t.fuses.life ∧ s.fuses.keygen ≤ t.fuses.keygen ∧ ∀ i, s.counter i ≤ t.counter i

end Sys2Proof.Machine

namespace Sys2Proof.Machine.Claim

/-! ### Words of the tile-core statements -/

/-- The bundle that holds slot word `w` alone in slot `i` issues on core `c`, without a halt at a breakpoint and outside a single step: the core
is powered, in service, runs a program (R61 to R63, R94, R444), waits for nothing (R71), raises no fault (R69, R70, R94). All of it after what the
core does by itself first. -/
structure Ready (s : State) (c i : Nat) (w : SlotW) : Prop where
  runs : (s.progress c).canIssue c = true
  noBreak : ((s.progress c).core c).atBreak = false
  noStep : ((s.progress c).core c).stepping = false
  ready : (s.progress c).depStall ((s.progress c).core c) c (bundle1 i w) = false
  room : (s.progress c).queueStall ((s.progress c).core c) c (bundle1 i w) = false
  legal : (s.progress c).bundleFault ((s.progress c).core c) c (bundle1 i w) = none

/-- Such a bundle issues and its slot executes: its guard reads 1 (R69). -/
structure Issues (s : State) (c i : Nat) (w : SlotW) : Prop extends Ready s c i w where
  guard : ((s.progress c).core c).guard w = true

/-- Nothing waits in the core to complete: no HSIG behind its fence, no TDONE to record; and its counters are below their ends. -/
structure Quiet (s : State) (c : Nat) : Prop where
  signals : (s.core c).signals = []
  tdones : (s.core c).tdones = []
  count : ((s.core c).C 0x18).toNat + 2 ^ 32 * ((s.core c).C 0x19).toNat < 2 ^ 48 - 1

/-- The state after such a bundle: it issues (the pc, the loops and CNT_ISSUE move, R71, R80), then `f` acts, which knows the core as it was
before the bundle (R72). -/
def issued (s : State) (c i : Nat) (w : SlotW) (f : Core → State → State) : State :=
  (f ((s.progress c).core c) ((s.progress c).beginBundle ((s.progress c).core c) c (bundle1 i w))).progress c

/-- The row `j`, which stands for the slot word of OP `op` with body `body` in slot `i`, completes with effect `f`. -/
def Row (s : State) (x : At) (i op : Nat) (body : BitVec 54) (j : Instr) (f : SlotW → Core → State → State) : Prop :=
  Issues s x.core i (slotWord op x.pg x.pn body) →
    exec j s = .next (issued s x.core i (slotWord op x.pg x.pn body) (f (slotWord op x.pg x.pn body)))

/-- A function of the core applied. -/
def onC (c : Nat) (f : SlotW → Core → Core → Core) : SlotW → Core → State → State := fun w k t => t.onCore c (f w k)

/-- g[GD] takes a value made of the first source and of the register or immediate that is the second. -/
def gd (f : Word → Word → Word) (b : SlotW → Core → Word) : SlotW → Core → Core → Core :=
  fun w k y => y.setG (sA w) (f (k.G (sB w)) (b w k))
/-- The second source in format R. -/
def rB (w : SlotW) (k : Core) : Word := k.G (sC w)
/-- The immediate of format I. -/
def iB (w : SlotW) (_ : Core) : Word := BitVec.ofNat 32 (sImm w)

/-- The device is out of reset with its parts powered: Full or Eco (Table 16.2). -/
def Up (s : State) : Prop := s.resetN = true ∧ s.power = .on
/-- The host link reaches the device: out of reset, in Full, Eco or Standby (Table 16.2). -/
def Link (s : State) : Prop := s.resetN = true ∧ (s.power = .on ∨ s.power = .standby)
/-- The command completes and only registers change: those of the list take the values given, every other one keeps its own. -/
def SetsRegs (j : Instr) (s : State) (vs : List (Nat × Word)) : Prop :=
  ∃ t, exec j s = .next t ∧ { t with regs := s.regs } = s ∧ (∀ x ∈ vs, t.rd x.1 = x.2) ∧ ∀ q, (∀ x ∈ vs, x.1 ≠ q) → t.rd q = s.rd q

/-- What a tile-core row stands for (log 8): its place, the slot of its slot word, OP and body; none for every other row. -/
def slotRow : Instr → Option (At × Nat × Nat × BitVec 54)
  | .add x slot body => some (x, slot.val, 0x01, body)
  | .sub_ x slot body => some (x, slot.val, 0x02, body)
  | .and_ x slot body => some (x, slot.val, 0x03, body)
  | .or_ x slot body => some (x, slot.val, 0x04, body)
  | .xor_ x slot body => some (x, slot.val, 0x05, body)
  | .sll x slot body => some (x, slot.val, 0x06, body)
  | .srl x slot body => some (x, slot.val, 0x07, body)
  | .sra x slot body => some (x, slot.val, 0x08, body)
  | .mul_ x slot body => some (x, slot.val, 0x09, body)
  | .mulh x slot body => some (x, slot.val, 0x0A, body)
  | .mulhu x slot body => some (x, slot.val, 0x0B, body)
  | .min_ x slot body => some (x, slot.val, 0x0C, body)
  | .max_ x slot body => some (x, slot.val, 0x0D, body)
  | .minu x slot body => some (x, slot.val, 0x0E, body)
  | .maxu x slot body => some (x, slot.val, 0x0F, body)
  | .addi x slot body => some (x, slot.val, 0x10, body)
  | .andi x slot body => some (x, slot.val, 0x11, body)
  | .ori x slot body => some (x, slot.val, 0x12, body)
  | .xori x slot body => some (x, slot.val, 0x13, body)
  | .slli x slot body => some (x, slot.val, 0x14, body)
  | .srli x slot body => some (x, slot.val, 0x15, body)
  | .srai x slot body => some (x, slot.val, 0x16, body)
  | .li x slot body => some (x, slot.val, 0x17, body)
  | .muli x slot body => some (x, slot.val, 0x18, body)
  | .adds x slot body => some (x, slot.val, 0x19, body)
  | .clz x slot body => some (x, slot.val, 0x1A, body)
  | .popc x slot body => some (x, slot.val, 0x1B, body)
  | .cmp x slot body => some (x, slot.val, 0x20, body)
  | .csrr x slot body => some (x, slot.val, 0x28, body)
  | .csrw x slot body => some (x, slot.val, 0x29, body)
  | .br x slot body => some (x, slot.val, 0x30, body)
  | .brl x slot body => some (x, slot.val, 0x31, body)
  | .jr x slot body => some (x, slot.val, 0x32, body)
  | .ld x body => some (x, 2, 0x01, body)
  | .lds x body => some (x, 2, 0x02, body)
  | .st x body => some (x, 2, 0x03, body)
  | .ldbc x body => some (x, 2, 0x04, body)
  | .pref x body => some (x, 2, 0x05, body)
  | .vadd x body => some (x, 3, 0x1, body)
  | .vsub x body => some (x, 3, 0x2, body)
  | .vmul x body => some (x, 3, 0x3, body)
  | .vfma x body => some (x, 3, 0x4, body)
  | .vmin x body => some (x, 3, 0x5, body)
  | .vmax x body => some (x, 3, 0x6, body)
  | .vand x body => some (x, 3, 0x7, body)
  | .vor x body => some (x, 3, 0x8, body)
  | .vxor x body => some (x, 3, 0x9, body)
  | .vshl x body => some (x, 3, 0xa, body)
  | .vshr x body => some (x, 3, 0xb, body)
  | .vshli x body => some (x, 3, 0xc, body)
  | .vshri x body => some (x, 3, 0xd, body)
  | .vcmp x body => some (x, 3, 0xe, body)
  | .vsel x body => some (x, 3, 0xf, body)
  | .vcvt x body => some (x, 3, 0x10, body)
  | .vredadd x body => some (x, 3, 0x11, body)
  | .vredmax x body => some (x, 3, 0x12, body)
  | .vperm x body => some (x, 3, 0x13, body)
  | .vslide x body => some (x, 3, 0x14, body)
  | .vbcast x body => some (x, 3, 0x15, body)
  | .vext x body => some (x, 3, 0x16, body)
  | .vins x body => some (x, 3, 0x17, body)
  | .vmov x body => some (x, 3, 0x18, body)
  | .vabs x body => some (x, 3, 0x19, body)
  | .vany x body => some (x, 3, 0x1a, body)
  | .vall x body => some (x, 3, 0x1b, body)
  | .vmulh x body => some (x, 3, 0x1c, body)
  | .wld x arr body => some (x, 4 + arr.val, 0x01, body)
  | .mstream x arr body => some (x, 4 + arr.val, 0x02, body)
  | .mdst x arr body => some (x, 4 + arr.val, 0x03, body)
  | .mdrain x arr body => some (x, 4 + arr.val, 0x04, body)
  | .mzero x arr body => some (x, 4 + arr.val, 0x05, body)
  | .msr x arr body => some (x, 4 + arr.val, 0x06, body)
  | .mrs x arr body => some (x, 4 + arr.val, 0x07, body)
  | .mscl x arr body => some (x, 4 + arr.val, 0x08, body)
  | .dmv x body => some (x, 6, 0x01, body)
  | .dmvr x body => some (x, 6, 0x02, body)
  | .csend x body => some (x, 6, 0x03, body)
  | .mvl x body => some (x, 6, 0x04, body)
  | .dmak x body => some (x, 6, 0x05, body)
  | .bwait x body => some (x, 7, 0x01, body)
  | .iwait x body => some (x, 7, 0x02, body)
  | .hsig x body => some (x, 7, 0x03, body)
  | .hwait x body => some (x, 7, 0x04, body)
  | .fenceSl x rsv => some (x, 7, 0x05, rsv ++ 1#4)
  | .fenceSs x rsv => some (x, 7, 0x05, rsv ++ 2#4)
  | .fenceAll x rsv => some (x, 7, 0x05, rsv ++ 3#4)
  | .fenceM0 x rsv => some (x, 7, 0x05, rsv ++ 4#4)
  | .fenceM1 x rsv => some (x, 7, 0x05, rsv ++ 5#4)
  | .fenceM x rsv => some (x, 7, 0x05, rsv ++ 6#4)
  | .fenceX x rsv => some (x, 7, 0x05, rsv ++ 7#4)
  | .roll x body => some (x, 7, 0x06, body)
  | .tdone x body => some (x, 7, 0x07, body)
  | .done_ x body => some (x, 7, 0x08, body)
  | .pset x body => some (x, 7, 0x09, body)
  | .pand x body => some (x, 7, 0x0A, body)
  | .por x body => some (x, 7, 0x0B, body)
  | .pxor x body => some (x, 7, 0x0C, body)
  | .pnot x body => some (x, 7, 0x0D, body)
  | .loop_ x body => some (x, 7, 0x0E, body)
  | .cwait x body => some (x, 7, 0x0F, body)
  | .trap x body => some (x, 7, 0x10, body)
  | _ => none

/-- A row of the Dean: its record, opcode, whether House 0 alone may issue it, and whether Standby takes it (Table 14.4). -/
def deanRow : Instr → Option (DeanCmd × Nat × Bool × Bool)
  | .nop d => some (d, 0x01, false, true)
  | .queueCreate d => some (d, 0x02, false, true)
  | .queueDestroy d => some (d, 0x03, false, true)
  | .houseGrant d => some (d, 0x04, true, true)
  | .bankHandover d => some (d, 0x05, true, true)
  | .pipeCreate d => some (d, 0x06, true, false)
  | .pipeDestroy d => some (d, 0x07, true, true)
  | .modelLoad d => some (d, 0x08, false, true)
  | .modelUnload d => some (d, 0x09, false, true)
  | .routeSet d => some (d, 0x0A, false, true)
  | .commit d => some (d.commitFlags (some false) (some false) (some false), 0x0B, false, false)
  | .commitBell d => some (d.commitFlags (some true) none (some false), 0x0B, false, false)
  | .commitCut d => some (d.commitFlags (some false) (some true) (some false), 0x0B, false, false)
  | .commitClear d => some (d.commitFlags none none (some true), 0x0B, false, false)
  | .modeSet d => some (d, 0x0C, true, false)
  | .portSet d => some (d, 0x0D, true, false)
  | .canvasSet d => some (d, 0x0E, true, false)
  | .vlayerSet d => some (d, 0x0F, true, false)
  | .protectSet d => some (d, 0x10, true, true)
  | .tierFloor d => some (d, 0x11, false, true)
  | .coreRetire d => some (d, 0x12, true, true)
  | .coreRejoin d => some (d, 0x13, true, true)
  | .marchRun d => some (d, 0x14, true, true)
  | .fwStage d => some (d, 0x15, true, true)
  | .fwSwap d => some (d, 0x16, true, true)
  | .debugSet d => some (d, 0x17, false, true)
  | .adaptPolicy d => some (d, 0x18, false, true)
  | .bandStatus d => some (d, 0x19, false, true)
  | .pipeStatus d => some (d, 0x1A, false, true)
  | .hwStatus d => some (d, 0x1B, false, true)
  | .hpassSet d => some (d, 0x1C, false, true)
  | .hpassWait d => some (d, 0x1D, false, true)
  | .dmaRun d => some (d, 0x1E, false, false)
  | .shelfFlush d => some (d, 0x1F, false, true)
  | _ => none

/-- The Dean runs, and takes commands of House h from the source (R371, R385, R398); the device is in Full or Eco. -/
def Takes (s : State) (h : Fin 8) (src : Option (Fin 16384)) : Prop :=
  s.resetN = true ∧ s.power = .on ∧ s.rdF Reg.MBX_DEAN 3 0 = 2 ∧ s.takesFrom h (src.map Fin.val) = true

/-- A command record with the words from word 2 on; the rest is 0. -/
def cmd (h : Fin 8) (src : Option (Fin 16384)) (tag : Fin 65536) (ws : List Word) : DeanCmd :=
  { house := h, src := src, tag := tag, res0 := 0, word1 := 0, args := ws }

/-- The completion of a command joins those to be written, after its effect `t` (R391). -/
def done (s : State) (h : Fin 8) (src : Option (Fin 16384)) (tag : Fin 65536) (op status detail : Nat) (res : List Nat) (t : State) : State :=
  { t with completions := t.completions ++ [{ house := h, src := src.map Fin.val, opcode := op, tag := tag, status := status, detail := detail,
                                              res := res, dest := src.map (fun q => (s.qaux q.val).pair) }] }

/-- Form f has the unit `u` of a kind in hand for model m (R301, R305): its control block at `a` names it and asks for no stop, and every lane that shares it
is in service in the House's slice. -/
structure UnitHere (s : State) (m f kind : Nat) (md : Model) (p : Config.HwPlan) (u : HwUnit) (a hp : Nat) : Prop where
  plan : s.hwPlan? m = some (md, p)
  unit : (s.hwOf m).units.find? (fun u => decide (u.form = f) && decide (u.kind = kind) && !u.ended) = some u
  ctrl : p.ctrl.find? (fun c => decide (c.1 = f)) = some (f, a, hp)
  seq : memLe s.lib a 4 = u.seq
  undone : memLe s.lib (a + 20) 4 ≠ u.seq
  noStop : memLe s.lib (a + 28) 4 = 0
  lanes : memLe s.lib (a + 32) 4 ≠ 0
  live : ∀ l, l < 32 → Nat.testBit (memLe s.lib (a + 32) 4) l = true → s.coreLive (32 * f + l) = true ∧ (s.core (32 * f + l)).house = md.house

end Sys2Proof.Machine.Claim
end

