-- ==== Sys2Proof/Certificates/Slice0/Obligations.lean ====
section
/-! DEFINITION. The statements: what the commands do, one definition Obligations.<Name> each. -/
open Sys2Proof Sys2Proof.Machine Sys2Proof.Machine.Claim

/-- R81, Table 3.6: the arithmetic, logic and shift rows of S0 and S1, each in either slot, with any guard and any operands. -/
def Obligations.ScalarResultsReachGD : Prop :=
  ∀ (s : State) (x : At) (l : Fin 2) (b : BitVec 54),
    Row s x l 0x01 b (.add x l b) (onC x.core (gd (fun p q => p + q) rB)) ∧
    Row s x l 0x02 b (.sub_ x l b) (onC x.core (gd (fun p q => p - q) rB)) ∧
    Row s x l 0x03 b (.and_ x l b) (onC x.core (gd (fun p q => p &&& q) rB)) ∧
    Row s x l 0x04 b (.or_ x l b) (onC x.core (gd (fun p q => p ||| q) rB)) ∧
    Row s x l 0x05 b (.xor_ x l b) (onC x.core (gd (fun p q => p ^^^ q) rB)) ∧
    Row s x l 0x06 b (.sll x l b) (onC x.core (gd (fun p q => p <<< (q.toNat % 32)) rB)) ∧
    Row s x l 0x07 b (.srl x l b) (onC x.core (gd (fun p q => p >>> (q.toNat % 32)) rB)) ∧
    Row s x l 0x08 b (.sra x l b) (onC x.core (gd (fun p q => p.sshiftRight (q.toNat % 32)) rB)) ∧
    Row s x l 0x09 b (.mul_ x l b) (onC x.core (gd (fun p q => p * q) rB)) ∧
    Row s x l 0x0A b (.mulh x l b) (onC x.core (gd (fun p q => BitVec.ofInt 32 (p.toInt * q.toInt / 2 ^ 32)) rB)) ∧
    Row s x l 0x0B b (.mulhu x l b) (onC x.core (gd (fun p q => BitVec.ofNat 32 (p.toNat * q.toNat / 2 ^ 32)) rB)) ∧
    Row s x l 0x0C b (.min_ x l b) (onC x.core (gd (fun p q => if p.toInt ≤ q.toInt then p else q) rB)) ∧
    Row s x l 0x0D b (.max_ x l b) (onC x.core (gd (fun p q => if p.toInt ≤ q.toInt then q else p) rB)) ∧
    Row s x l 0x0E b (.minu x l b) (onC x.core (gd (fun p q => if p ≤ q then p else q) rB)) ∧
    Row s x l 0x0F b (.maxu x l b) (onC x.core (gd (fun p q => if p ≤ q then q else p) rB)) ∧
    Row s x l 0x10 b (.addi x l b) (onC x.core (gd (fun p q => p + q) iB)) ∧
    Row s x l 0x11 b (.andi x l b) (onC x.core (gd (fun p q => p &&& q) iB)) ∧
    Row s x l 0x12 b (.ori x l b) (onC x.core (gd (fun p q => p ||| q) iB)) ∧
    Row s x l 0x13 b (.xori x l b) (onC x.core (gd (fun p q => p ^^^ q) iB)) ∧
    Row s x l 0x14 b (.slli x l b) (onC x.core (gd (fun p q => p <<< (q.toNat % 32)) iB)) ∧
    Row s x l 0x15 b (.srli x l b) (onC x.core (gd (fun p q => p >>> (q.toNat % 32)) iB)) ∧
    Row s x l 0x16 b (.srai x l b) (onC x.core (gd (fun p q => p.sshiftRight (q.toNat % 32)) iB)) ∧
    Row s x l 0x17 b (.li x l b) (onC x.core (gd (fun _ q => q) iB)) ∧
    Row s x l 0x18 b (.muli x l b) (onC x.core (gd (fun p q => p * q) iB)) ∧
    Row s x l 0x1A b (.clz x l b) (onC x.core (gd (fun p _ => if p = 0 then 32 else BitVec.ofNat 32 (31 - Nat.log2 p.toNat)) rB)) ∧
    Row s x l 0x1B b (.popc x l b) (onC x.core (gd (fun p _ => BitVec.ofNat 32 ((List.range 32).filter (fun i => p.getLsbD i)).length) rB))

/-- R66, R79, R81, Tables 3.5 and 3.6: ADDS with its flag, CMP into a predicate, the CSR rows and the branches. CSRW and the branches write no
other register; BRL writes the address after the bundle. The pc itself moves when the bundle issues: see the statement ProgramCounterMoves. -/
def Obligations.ScalarFlagCompareCsrBranchRows : Prop :=
  ∀ (s : State) (x : At) (l : Fin 2) (b : BitVec 54),
    Row s x l 0x19 b (.adds x l b) (onC x.core (fun w k y =>
      let sum := (k.G (sB w)).toInt + (k.G (sC w)).toInt
      if sum < -2 ^ 31 then (y.setG (sA w) (BitVec.ofInt 32 (-2 ^ 31))).orFlags flSAT
      else if 2 ^ 31 - 1 < sum then (y.setG (sA w) (BitVec.ofInt 32 (2 ^ 31 - 1))).orFlags flSAT
      else y.setG (sA w) (BitVec.ofInt 32 sum))) ∧
    Row s x l 0x20 b (.cmp x l b) (onC x.core (fun w k y =>
      let p := k.G (sB w)
      let q := if bit w 35 then iB w k else rB w k
      y.setP (fld w 53 51) (match fld w 38 36 with
        | 0 => decide (p = q)
        | 1 => decide (p ≠ q)
        | 2 => decide (p.toInt < q.toInt)
        | 3 => decide (q.toInt ≤ p.toInt)
        | 4 => decide (p < q)
        | _ => decide (q ≤ p)))) ∧
    Row s x l 0x28 b (.csrr x l b) (fun w _ t => (t.csrRead x.core (fld w 11 0)).2.onCore x.core (fun y =>
      y.setG (sA w) (t.csrRead x.core (fld w 11 0)).1)) ∧
    Row s x l 0x29 b (.csrw x l b) (onC x.core (fun w k y => y.setC 8 (k.G (sB w) &&& 0x1F))) ∧
    Row s x l 0x30 b (.br x l b) (fun _ _ t => t) ∧
    Row s x l 0x31 b (.brl x l b) (onC x.core (fun w k y => y.setG (sA w) (BitVec.ofNat 32 (k.pc + 1)))) ∧
    Row s x l 0x32 b (.jr x l b) (fun _ _ t => t)

/-- R82, R178, R181, Table 3.7: the rows of S2. A load from the core's Locker reads its bytes at once; one from a Library or Shelf buffer goes out
and returns with LOAD_RETURN. A store to the Locker is done at once; one of 128 bytes elsewhere flushes the gather entries of its lines and goes
out in halves; a narrow one waits in the gather buffer. PREF asks for a line that the shelf does not hold. -/
def Obligations.LockerSlotRows : Prop :=
  ∀ (s : State) (x : At) (b : BitVec 54),
    let e := fun (w : SlotW) (k : Core) => k.handle (s2H w)
    let a := fun (w : SlotW) (k : Core) => (e w k).base + s2Ofs k w
    let load := fun (d : SlotW → LoadDest) (w : SlotW) (k : Core) (t : State) =>
      if (e w k).kind = 0 then
        (t.coreEcc x.core (t.corrected .locker (lockerKey x.core (a w k)) (sSize w))).onCore x.core (fun y =>
          y.loadTo (d w) (memReadN t.locker (lockerKey x.core (a w k)) (sSize w)))
      else t.loadOut k x.core w
    Row s x 2 0x01 b (.ld x b) (load (fun w => if sSize w = 128 then .vector (sA w) else .scalar (sA w) false)) ∧
    Row s x 2 0x02 b (.lds x b) (load (fun w => if sSize w = 128 then .vector (sA w) else .scalar (sA w) true)) ∧
    Row s x 2 0x04 b (.ldbc x b) (load (fun w => .splat (sA w))) ∧
    Row s x 2 0x03 b (.st x b) (fun w k t =>
      let bs := if sSize w = 128 then vBytes (k.V (sA w)) else leBytes (sSize w) (k.G (sA w)).toNat
      if (e w k).kind = 0 then t.store .locker (lockerKey x.core (a w k)) bs
      else if sSize w = 128 then
        let t := (linesOf (a w k) 128).foldl (fun t l => t.flushEntry x.core (decide ((e w k).kind = 2)) l) t
        (t.coreWrite x.core (decide ((e w k).kind = 2)) k.house (a w k) (bs.take 64)).coreWrite x.core (decide ((e w k).kind = 2)) k.house
          (a w k + 64) (bs.drop 64)
      else t.gatherStore x.core (decide ((e w k).kind = 2)) k.house (a w k) bs) ∧
    Row s x 2 0x05 b (.pref x b) (fun w k t =>
      if (e w k).v && (e w k).kind = 2 && (e w k).house = k.house && decide (s2Ofs k w < (e w k).size) &&
          (t.firstUnmapped k.house (a w k) 1).isNone && decide (t.slotBank k.house (a w k / 64 % 64) < 512) &&
          !t.hasLine k.house (a w k / 64 * 64) then t.askFill k.house (a w k / 64 * 64)
      else t)

/-- R83, R84, Table 3.9: the rows of S3. The rows that write v[VD] apply one lane function to every lane of the operation's TYPE and OR the flags
of all lanes into FFLAGS (R134); VEXT writes g[GD], VANY and VALL a predicate. -/
def Obligations.VectorSlotRows : Prop :=
  ∀ (s : State) (x : At) (b : BitVec 54),
    let bits := fun w => tyBits (vType w)
    let dst := fun (f : SlotW → Core → VWord × Flags) => onC x.core (fun w k y => (y.setV (sA w) (f w k).1).orFlags (f w k).2)
    let two := fun (f : SlotW → Nat → Nat → Nat × Flags) => dst (fun w k => vMap2 (bits w) (f w) (k.V (sB w)) (k.V (sC w)))
    let three := fun (f : SlotW → Nat → Nat → Nat → Nat × Flags) =>
      dst (fun w k => vMap3 (bits w) (f w) (k.V (sB w)) (k.V (sC w)) (k.V (vC w)))
    let lane := fun (w : SlotW) (v : VWord) => vLanes (bits w) v
    Row s x 3 0x01 b (.vadd x b) (two (fun w => laneAdd (vType w) (vSat w))) ∧
    Row s x 3 0x02 b (.vsub x b) (two (fun w => laneSub (vType w) (vSat w))) ∧
    Row s x 3 0x03 b (.vmul x b) (two (fun w => laneMul (vType w))) ∧
    Row s x 3 0x04 b (.vfma x b) (three (fun w => laneFma (vType w) (vSat w))) ∧
    Row s x 3 0x05 b (.vmin x b) (two (fun w => laneMin (vType w))) ∧
    Row s x 3 0x06 b (.vmax x b) (two (fun w => laneMax (vType w))) ∧
    Row s x 3 0x07 b (.vand x b) (dst (fun w k => (k.V (sB w) &&& k.V (sC w), 0))) ∧
    Row s x 3 0x08 b (.vor x b) (dst (fun w k => (k.V (sB w) ||| k.V (sC w), 0))) ∧
    Row s x 3 0x09 b (.vxor x b) (dst (fun w k => (k.V (sB w) ^^^ k.V (sC w), 0))) ∧
    Row s x 3 0x0A b (.vshl x b) (two (fun w p q => (laneShl (vType w) p q, 0))) ∧
    Row s x 3 0x0B b (.vshr x b) (two (fun w p q => (laneShr (vType w) p q, 0))) ∧
    Row s x 3 0x0C b (.vshli x b) (dst (fun w k => (vPack (bits w) ((lane w (k.V (sB w))).map (fun p => laneShl (vType w) p (vImm w))), 0))) ∧
    Row s x 3 0x0D b (.vshri x b) (dst (fun w k => (vPack (bits w) ((lane w (k.V (sB w))).map (fun p => laneShr (vType w) p (vImm w))), 0))) ∧
    Row s x 3 0x0E b (.vcmp x b) (two (fun w p q => (if laneCmp (vType w) (vImm w % 8) p q then 2 ^ bits w - 1 else 0, 0))) ∧
    Row s x 3 0x0F b (.vsel x b) (three (fun _ p q r => (if r ≠ 0 then p else q, 0))) ∧
    Row s x 3 0x10 b (.vcvt x b) (dst (fun w k =>
      vConvert (vImm w % 16) (vType w) (vImm w / 32 % 8) (decide (vImm w / 16 % 2 = 1)) (k.V (sB w)) (k.V (sA w)))) ∧
    Row s x 3 0x11 b (.vredadd x b) (dst (fun w k => vReduceTy (vType w) (laneAdd (vType w) (vSat w)) (k.V (sB w)))) ∧
    Row s x 3 0x12 b (.vredmax x b) (dst (fun w k => vReduceTy (vType w) (laneMax (vType w)) (k.V (sB w)))) ∧
    Row s x 3 0x13 b (.vperm x b) (dst (fun w k => (vPerm (bits w) (k.V (sB w)) (k.V (sC w)), 0))) ∧
    Row s x 3 0x14 b (.vslide x b) (dst (fun w k => (vSlide (bits w) (vImm w) (k.V (sB w)) (k.V (sC w)), 0))) ∧
    Row s x 3 0x15 b (.vbcast x b) (dst (fun w k => (vSplat (bits w) (k.G (vC w)).toNat, 0))) ∧
    Row s x 3 0x16 b (.vext x b) (onC x.core (fun w k y =>
      let p := (lane w (k.V (sB w))).getD (vImm w % (1024 / bits w)) 0
      y.setG (sA w) (if tySigned (vType w) then ofI 32 (sgn (bits w) p) else BitVec.ofNat 32 p))) ∧
    Row s x 3 0x17 b (.vins x b) (dst (fun w k =>
      (vPack (bits w) ((lane w (k.V (sB w))).set (vImm w % (1024 / bits w)) ((k.G (vC w)).toNat % 2 ^ bits w)), 0))) ∧
    Row s x 3 0x18 b (.vmov x b) (dst (fun w k => (k.V (sB w), 0))) ∧
    Row s x 3 0x19 b (.vabs x b) (dst (fun w k => vPackF (bits w) ((lane w (k.V (sB w))).map (laneAbs (vType w) (vSat w))))) ∧
    Row s x 3 0x1A b (.vany x b) (onC x.core (fun w k y => y.setP (fld w 51 49) ((lane w (k.V (sB w))).any (fun p => decide (p ≠ 0))))) ∧
    Row s x 3 0x1B b (.vall x b) (onC x.core (fun w k y => y.setP (fld w 51 49) ((lane w (k.V (sB w))).all (fun p => decide (p ≠ 0))))) ∧
    Row s x 3 0x1C b (.vmulh x b) (two (fun w p q => (laneMulh (vType w) p q, 0)))

/-- R86, R87, R99, Table 3.10: the rows of S4 and S5 put one command at the back of the queue of their array, with the values that the operands
have now, and change the issue-side copy of the array's state.
R89, R125, R406, Table 3.12: the rows of S6. DMV, DMVR, CSEND and DMAK put one command at the back of the transfer queue; DMV and CSEND read
their source rows now (R158). DMAK also waits for a full fence. MVL runs the matrix-vector lane. -/
def Obligations.MatrixAndTransferRowsQueueOneCommand : Prop :=
  (∀ (s : State) (x : At) (a : Fin 2) (b : BitVec 54),
     let put := fun (o : SlotW → Core → ArrOp) => onC x.core (fun w k y =>
       y.setArr a (issueSide { y.arr a with queue := (y.arr a).queue ++ [⟨o w k, k.seq⟩] } (o w k)))
     Row s x (4 + a) 0x01 b (.wld x a b) (put (fun w _ => .wld (bit w 53).toNat)) ∧
     Row s x (4 + a) 0x02 b (.mstream x a b) (put (fun w k => .mstream (fld w 47 41) (fld w 40 36) (fld w 35 34) (fld w 33 30)
       (if bit w 53 then fld (k.G (fld w 52 48)) 15 0 else fld w 15 0))) ∧
     Row s x (4 + a) 0x03 b (.mdst x a b) (put (fun w k => .mdst (fld w 53 48) (k.G (fld w 47 43) + BitVec.ofNat 32 (fld w 23 0)).toNat)) ∧
     Row s x (4 + a) 0x04 b (.mdrain x a b) (put (fun w _ => .mdrain (fld w 40 36) (fld w 35 31 + 1))) ∧
     Row s x (4 + a) 0x05 b (.mzero x a b) (put (fun w _ => .mzero (fld w 40 36) (fld w 35 31 + 1))) ∧
     Row s x (4 + a) 0x06 b (.msr x a b) (put (fun w k => .msr (fld w 47 40) (if bit w 53 then BitVec.ofNat 32 (sImm w) else k.G (fld w 52 48)))) ∧
     Row s x (4 + a) 0x07 b (.mrs x a b) (put (fun w _ => .mrs (sA w) (fld w 47 40))) ∧
     Row s x (4 + a) 0x08 b (.mscl x a b) (put (fun w k => .mscl (fld w 47 40) (k.V (sA w))))) ∧
  (∀ (s : State) (x : At) (b : BitVec 54),
     let put := fun (o : XferOp) (k : Core) (t : State) => t.onCore x.core (fun y => { y with xfer := y.xfer ++ [(o, k.seq)] })
     let n := fun w => fld w 30 24 + 1
     let at_ := fun (w : SlotW) (k : Core) => (k.handle (fld w 44 39)).base + (k.G (fld w 49 45) + BitVec.ofNat 32 (fld w 23 0)).toNat
     let src := fun (w : SlotW) (k : Core) => (k.handle (fld w 47 42)).base + (k.G (fld w 52 48)).toNat
     Row s x 6 0x01 b (.dmv x b) (fun w k t => put (.dmv (bit w 53).toNat (fld w 52 51) (bit w 50) (at_ w k) (fld w 38 31)
       (t.lockerRows x.core (at_ w k) (n w))) k (t.xferEcc x.core (at_ w k) (n w))) ∧
     Row s x 6 0x02 b (.dmvr x b) (fun w k t => put (.dmvr (bit w 53).toNat (fld w 52 51) (bit w 50) (at_ w k) (fld w 38 31) (n w)) k t) ∧
     Row s x 6 0x03 b (.csend x b) (fun w k t => put (.csend (bit w 53) (src w k) (fld w 41 36) (k.G (fld w 35 31)).toNat
       (t.lockerRows x.core (src w k) (n w))) k (t.xferEcc x.core (src w k) (n w))) ∧
     Row s x 6 0x04 b (.mvl x b) (fun w k t => t.mvlIssue k x.core w) ∧
     Row s x 6 0x05 b (.dmak x b) (fun w k t => (put (.dmak (bit w 48).toNat (k.G (sA w)).toNat) k (t.flushGather x.core)).onCore x.core (fun y =>
       { y with waits := y.waits ++ [.fence true] })))

/-- R63, R80, R91 to R93, R401, R405, R406, Table 3.13: the rows of S7 but TRAP. Waits join the core and end by themselves; HSIG and FENCE flush the
gather buffer; the predicate rows write one predicate; LOOP moves only the pc and the loops, when its bundle issues. -/
def Obligations.ControlSlotRows : Prop :=
  ∀ (s : State) (x : At) (b : BitVec 54) (z : BitVec 50),
    let c := x.core.val
    let wait := fun (v : SlotW → Core → CoreWait) (w : SlotW) (k : Core) (t : State) => t.onCore c (fun y => { y with waits := y.waits ++ [v w k] })
    let pass := fun (w : SlotW) (k : Core) => fld (k.G (sA w)) 12 0
    let pd := fun (f : Core → SlotW → Bool) => onC c (fun w k y => y.setP (fld w 53 51) (f k w))
    let pa := fun (k : Core) (w : SlotW) => k.P (fld w 50 48)
    let pb := fun (k : Core) (w : SlotW) => k.P (fld w 47 45)
    Row s x 7 0x01 b (.bwait x b) (fun w k t =>
      if k.latches.contains (fld w 15 0) then t.onCore c (fun y => { y with latches := y.latches.erase (fld w 15 0) })
      else wait (fun w _ => .bell (fld w 15 0)) w k t) ∧
    Row s x 7 0x02 b (.iwait x b) (wait (fun w k => .input (fld w 53 52) (k.G (fld w 51 47)).toNat (k.G (fld w 46 42)).toNat)) ∧
    Row s x 7 0x03 b (.hsig x b) (fun w k t => wait (fun _ _ => .signal) w k ((t.flushGather c).onCore c (fun y =>
      { y with signals := y.signals ++ [(pass w k, fld w 15 0, k.pc)] }))) ∧
    Row s x 7 0x04 b (.hwait x b) (fun w k t => (wait (fun w k => .hpass (pass w k)) w k t).join (pass w k) (fld w 15 0) (.core c)) ∧
    Row s x 7 0x05 (z ++ 1#4) (.fenceSl x z) (fun w k t => wait (fun _ _ => .fence false) w k (t.flushGather c)) ∧
    Row s x 7 0x05 (z ++ 2#4) (.fenceSs x z) (fun w k t => wait (fun _ _ => .fence false) w k (t.flushGather c)) ∧
    Row s x 7 0x05 (z ++ 3#4) (.fenceAll x z) (fun w k t => wait (fun _ _ => .fence true) w k (t.flushGather c)) ∧
    Row s x 7 0x05 (z ++ 4#4) (.fenceM0 x z) (wait (fun _ k => .arrays true false k.seq)) ∧
    Row s x 7 0x05 (z ++ 5#4) (.fenceM1 x z) (wait (fun _ k => .arrays false true k.seq)) ∧
    Row s x 7 0x05 (z ++ 6#4) (.fenceM x z) (wait (fun _ k => .arrays true true k.seq)) ∧
    Row s x 7 0x05 (z ++ 7#4) (.fenceX x z) (wait (fun _ k => .transfers k.seq)) ∧
    Row s x 7 0x06 b (.roll x b) (fun w _ t => t.rollIssue c (sA w) (fld w 48 46)) ∧
    Row s x 7 0x07 b (.tdone x b) (fun w k t => (t.flushGather c).onCore c (fun y =>
      { y with tdones := y.tdones ++ [(fld (k.G (sA w)) 15 0, k.seq)] })) ∧
    Row s x 7 0x08 b (.done_ x b) (fun w k t => wait (fun _ _ => .done) w k ((t.flushGather c).onCore c (fun y =>
      { (y.setC 6 (setBit (y.C 6) 1 false)) with afterDone := (k.pc + 1) % 8192 }))) ∧
    Row s x 7 0x09 b (.pset x b) (pd (fun _ w => bit w 0)) ∧
    Row s x 7 0x0A b (.pand x b) (pd (fun k w => pa k w && pb k w)) ∧
    Row s x 7 0x0B b (.por x b) (pd (fun k w => pa k w || pb k w)) ∧
    Row s x 7 0x0C b (.pxor x b) (pd (fun k w => pa k w ^^ pb k w)) ∧
    Row s x 7 0x0D b (.pnot x b) (pd (fun k w => !pa k w)) ∧
    Row s x 7 0x0E b (.loop_ x b) (fun _ _ t => t) ∧
    Row s x 7 0x0F b (.cwait x b) (wait (fun w k => .corr (bit w 53) (k.G (fld w 52 48)).toNat))

/-- R68, R69: a slot whose guard is off has no effect; its bundle issues, moves the pc and counts CNT_ISSUE.
R69: the guard of a slot, and what is checked whatever it reads: the decode faults of its word and of its bundle. A slot of zeros is legal.
R61, R71, R444: a core that does not run leaves the row without effect; one at its breakpoint halts; a bundle that waits for a register, a queue
or a pending wait does not issue, and the cycle is counted in CNT_STALL or CNT_WAIT. -/
def Obligations.RowsWithoutEffectIssueOrWait : Prop :=
  (∀ (s : State) (j : Instr) (x : At) (i op : Nat) (b : BitVec 54), slotRow j = some (x, i, op, b) →
     let k := (s.progress x.core).core x.core
     Ready s x.core i (slotWord op x.pg x.pn b) → k.guard (slotWord op x.pg x.pn b) = false →
       exec j s = .next ((((s.progress x.core).onCore x.core (fun y =>
         { y with pc := (loopEnd k.pc k.loops).1, loops := (loopEnd k.pc k.loops).2, seq := k.seq + 1, bpSkip := false })).csrCount x.core 0x18 1).progress
         x.core)) ∧
  (∀ (s : State) (k : Core) (c i : Nat) (w : SlotW) (ws : List SlotW),
     k.guard w = (k.P (fld w 57 55) ^^ bit w 54) ∧ (fld w 57 55 = 0 → bit w 54 = false → k.guard w = true) ∧
     ((i, w) ∈ runSlots k ws → k.guard w = true ∧ sOp w ≠ 0) ∧
     (slotLegal k.pc i w = false → s.slotFault k c ws (i, w) = some ⟨0x01, w.toNat / 2 ^ 32, w.toNat % 2 ^ 32⟩) ∧
     (∀ n r, slotLegal k.pc i w = true → bundleClash ws = some (i, n, r) → s.slotFault k c ws (i, w) = some ⟨0x02, n * 2 ^ 8 + r, 0⟩) ∧
     (slotLegal k.pc i w = true → (∀ n r, bundleClash ws ≠ some (i, n, r)) → k.guard w = false ∨ sOp w = 0 → s.slotFault k c ws (i, w) = none) ∧
     slotLegal k.pc i 0 = true) ∧
  (∀ (s : State) (j : Instr) (x : At) (i op : Nat) (b : BitVec 54), slotRow j = some (x, i, op, b) →
     let c := x.core.val
     let p := s.progress c
     let k := p.core c
     let ws := bundle1 i (slotWord op x.pg x.pn b)
     (p.canIssue c = false → exec j s = .next p) ∧
     (p.canIssue c = true → k.atBreak = true → exec j s = .next (p.setCore c { k with halted := true })) ∧
     (p.canIssue c = true → k.atBreak = false → p.depStall k c ws = true → exec j s = .next (p.csrCount c 0x1A 1)) ∧
     (p.canIssue c = true → k.atBreak = false → p.depStall k c ws = false → p.queueStall k c ws = true → exec j s = .next (p.csrCount c 0x1E 1)))

/-- R72, R94, Table 3.14: a row whose bundle faults has no other effect: the core stops, and its fault registers hold V, slot and cause, the bundle,
FAULT_INFO and FAULT_ADDR, or MULTI beside the record that they held.
R69, R70, Tables 3.4 and 3.15: an illegal encoding raises ILLEGAL_OP with the slot word, whatever its guard; a legal branch in S1 raises
ILLEGAL_BUNDLE of class 3; the stop names the slot.
R91, Table 3.15: TRAP raises fault TRAP with its CODE in FAULT_INFO. -/
def Obligations.StoppingBundlesSetTheFaultRegisters : Prop :=
  (∀ (s : State) (j : Instr) (x : At) (i op : Nat) (b : BitVec 54), slotRow j = some (x, i, op, b) →
     let c := x.core.val
     let p := s.progress c
     let k := p.core c
     let ws := bundle1 i (slotWord op x.pg x.pn b)
     p.canIssue c = true → k.atBreak = false → p.depStall k c ws = false → p.queueStall k c ws = false →
     ∀ (n : Nat) (f : CoreFault), p.bundleFault k c ws = some (n, f) →
       ∃ t, exec j s = .next t ∧ (t.core c).stopped = true ∧ (t.core c).respond = true ∧ (t.core c).waits = [] ∧ (t.core c).pc = k.pc ∧
         (t.core c).halted = (k.halted || k.stepping) ∧
         (bit (k.C 0x10) 31 = false → (t.core c).C 0x10 = BitVec.ofNat 32 (2 ^ 31 + n * 2 ^ 8 + f.cause) ∧
           (t.core c).C 0x11 = BitVec.ofNat 32 k.pc ∧ (t.core c).C 0x12 = BitVec.ofNat 32 f.info ∧ (t.core c).C 0x13 = BitVec.ofNat 32 f.addr) ∧
         (bit (k.C 0x10) 31 = true → (t.core c).C 0x10 = setBit (k.C 0x10) 30 true ∧ (t.core c).C 0x11 = k.C 0x11 ∧
           (t.core c).C 0x12 = k.C 0x12 ∧ (t.core c).C 0x13 = k.C 0x13) ∧
         (∀ r, (t.core c).G r = k.G r ∧ (t.core c).V r = k.V r ∧ (t.core c).P r = k.P r) ∧
         (∀ d, d ≠ c → t.core d = p.core d) ∧ t.lib = p.lib ∧ t.locker = p.locker ∧ t.desk = p.desk ∧ t.regs = p.regs) ∧
  (∀ (s : State) (k : Core) (c i : Nat) (w : SlotW), i < 8 →
     (slotLegal k.pc i w = false → s.bundleFault k c (bundle1 i w) = some (i, ⟨0x01, w.toNat / 2 ^ 32, w.toNat % 2 ^ 32⟩)) ∧
     (i = 1 → scalarLegal w = true → (sOp w = 0x30 ∨ sOp w = 0x31 ∨ sOp w = 0x32) →
       s.bundleFault k c (bundle1 1 w) = some (1, ⟨0x02, 3 * 2 ^ 8, 0⟩))) ∧
  (∀ (s : State) (x : At) (b : BitVec 54),
     let c := x.core.val
     let p := s.progress c
     let k := p.core c
     let w := slotWord 0x10 x.pg x.pn b
     p.canIssue c = true → k.atBreak = false → p.depStall k c (bundle1 7 w) = false → p.queueStall k c (bundle1 7 w) = false →
     k.guard w = true → fld w 53 16 = 0 → k.stepping = false →
       p.bundleFault k c (bundle1 7 w) = some (7, ⟨0x09, fld w 15 0, 0⟩) ∧
       exec (.trap x b) s = .next ((p.onCore c (clearHeld ⟨0x09, fld w 15 0, 0⟩)).takeFault c ⟨0x09, fld w 15 0, 0⟩ 7 k.pc))

/-- R79, R80: the pc. A branch goes to its target and ends the loops whose bodies it leaves; LOOP of COUNT 0 skips its body, any other count opens
one; every other row goes to the next bundle, or back to the start of the innermost body while passes are left. -/
def Obligations.ProgramCounterMoves : Prop :=
  ∀ (s : State) (x : At) (b : BitVec 54), Quiet s x.core →
    let c := x.core.val
    let k := (s.progress c).core c
    let goes := fun (j : Instr) (pc : Nat) (loops : List Loop) => ∃ t, exec j s = .next t ∧ (t.core c).pc = pc ∧ (t.core c).loops = loops
    let w := fun n => slotWord n x.pg x.pn b
    (Issues s c 0 (w 0x30) → goes (.br x 0 b) (fld (w 0x30) 12 0) (endLoops (fld (w 0x30) 12 0) k.loops)) ∧
    (Issues s c 0 (w 0x31) → goes (.brl x 0 b) (fld (w 0x31) 12 0) (endLoops (fld (w 0x31) 12 0) k.loops)) ∧
    (Issues s c 0 (w 0x32) → goes (.jr x 0 b) (fld (k.G (sB (w 0x32))) 12 0) (endLoops (fld (k.G (sB (w 0x32))) 12 0) k.loops)) ∧
    (Issues s c 7 (w 0x0E) → k.G (sA (w 0x0E)) = 0 → goes (.loop_ x b) ((fld (w 0x0E) 12 0 + 1) % 8192) k.loops) ∧
    (Issues s c 7 (w 0x0E) → k.G (sA (w 0x0E)) ≠ 0 → goes (.loop_ x b) ((k.pc + 1) % 8192)
      (⟨(k.pc + 1) % 8192, fld (w 0x0E) 12 0, (k.G (sA (w 0x0E))).toNat⟩ :: k.loops)) ∧
    (∀ l : Fin 2, Issues s c l (w 0x01) →
      (k.loops = [] → goes (.add x l b) ((k.pc + 1) % 8192) []) ∧
      (∀ i is, k.loops = i :: is → k.pc ≠ i.last → goes (.add x l b) ((k.pc + 1) % 8192) (i :: is)) ∧
      (∀ i is, k.loops = i :: is → k.pc = i.last → 1 < i.left → goes (.add x l b) i.start ({ i with left := i.left - 1 } :: is)) ∧
      (∀ i, k.loops = [i] → k.pc = i.last → i.left ≤ 1 → goes (.add x l b) ((k.pc + 1) % 8192) []))

/-- R65, R66, R72: a row of S0, S1, S3 or a predicate or LOOP row of S7 changes its core alone; in it every register other than the slot's
destination reads as before, and of the CSRs only FFLAGS and CNT_ISSUE may change.
R82, R156, R157: a store to the core's own Locker writes its bytes there and leaves every other byte of every memory, and every register. -/
def Obligations.RegisterAndLockerRowsKeepTheRest : Prop :=
  (∀ (s : State) (j : Instr) (x : At) (i op : Nat) (b : BitVec 54), slotRow j = some (x, i, op, b) →
     (i ≤ 1 ∨ i = 3 ∨ (i = 7 ∧ 9 ≤ op ∧ op ≤ 0x0E)) → Quiet s x.core → Issues s x.core i (slotWord op x.pg x.pn b) →
     let c := x.core.val
     let d := slotDest i (slotWord op x.pg x.pn b)
     let k := s.core c
     ∃ t, exec j s = .next t ∧ { t with cores := s.cores } = s ∧ (∀ e, e ≠ c → t.core e = s.core e) ∧
       (∀ r, r ∉ d.g → (t.core c).G r = k.G r) ∧ (∀ r, r ∉ d.v → (t.core c).V r = k.V r) ∧ (∀ r, r ∉ d.p → (t.core c).P r = k.P r) ∧
       (∀ n, n ≠ 8 → n ≠ 0x18 → n ≠ 0x19 → (t.core c).C n = k.C n) ∧
       (t.core c).m0 = k.m0 ∧ (t.core c).m1 = k.m1 ∧ (t.core c).xfer = k.xfer ∧ (t.core c).lane = k.lane ∧ (t.core c).loads = k.loads ∧
       (t.core c).gather = k.gather ∧ (t.core c).latches = k.latches ∧ (t.core c).handles = k.handles ∧
       (t.core c).shadowHandles = k.shadowHandles ∧ (t.core c).stopped = k.stopped ∧ (t.core c).house = k.house) ∧
  (∀ (s : State) (x : At) (b : BitVec 54), Quiet s x.core →
     let c := x.core.val
     let w := slotWord 0x03 x.pg x.pn b
     let k := s.core c
     let a := lockerKey c ((k.handle (s2H w)).base + s2Ofs k w)
     let bs := if sSize w = 128 then vBytes (k.V (sA w)) else leBytes (sSize w) (k.G (sA w)).toNat
     Issues s c 2 w → (k.handle (s2H w)).kind = 0 →
     ∃ t, exec (.st x b) s = .next t ∧ bs.length = sSize w ∧ (∀ i, (h : i < bs.length) → memRead t.locker (a + i) = bs[i]) ∧
       (∀ q, q < a ∨ a + bs.length ≤ q → memRead t.locker q = memRead s.locker q) ∧
       { t with cores := s.cores, locker := s.locker, ecc := s.ecc } = s ∧ (∀ e, e ≠ c → t.core e = s.core e) ∧
       (∀ r, (t.core c).G r = k.G r ∧ (t.core c).V r = k.V r ∧ (t.core c).P r = k.P r))

/-- R73, R74, R181: a load in flight returns its Library bytes to its register, or the bytes that it has taken already; a store entry of the gather
buffer that has been idle for 16 cycles goes out and its bytes are visible in the Library. -/
def Obligations.LoadsReturnAndGatheredStoresGoOut : Prop :=
  ∀ (s : State) (c : Fin 1024) (i : Nat), Quiet s c →
    (∀ l, (s.core c).loads[i]? = some l → l.shelf = false → l.data = none → l.size ≤ 64 → (∀ x ∈ linesOf l.addr l.size, s.bankBusy (bankOf x) = false) →
      (∀ x ∈ wordsTouched l.addr l.size, s.eccOf .lib x = 0) →
      exec (.loadReturn c i) s = .next ((s.onCore c (fun y =>
        ({ y with loads := y.loads.eraseIdx i } : Core))).onCore c (fun y => y.loadTo l.dest (memReadN s.lib l.addr l.size)) |>.progress c)) ∧
    (∀ l, (s.core c).loads[i]? = some l → l.shelf = false → l.data = none → (∃ x ∈ linesOf l.addr l.size, s.bankBusy (bankOf x) = true) →
      exec (.loadReturn c i) s = .next (s.progress c)) ∧
    ((s.core c).gather[i]? = none → exec (.gatherFlushTimeout c i) s = .next s) ∧
    (∀ e o bs, (s.core c).gather[i]? = some e → (s.core c).gather.find? (fun g => g.shelf = e.shelf && decide (g.line = e.line)) = some e →
      e.shelf = false → runsOf e.bytes = [(o, bs)] → (s.core c).loads = [] → s.banksOk e.house (e.line + o) bs.length = true →
      s.bankBusy (bankOf (e.line + o)) = false →
      ∃ t, exec (.gatherFlushTimeout c i) s = .next t ∧ e ∉ (t.core c).gather ∧ (∀ n, (h : n < bs.length) → memRead t.lib (e.line + o + n) = bs[n]) ∧
        (∀ q, q < e.line + o ∨ e.line + o + bs.length ≤ q → memRead t.lib q = memRead s.lib q) ∧
        t.locker = s.locker ∧ t.desk = s.desk ∧ t.regs = s.regs)

/-- R102, R107, R110, R111, R120: the head of an array queue starts when nothing runs; a state register takes an MSR's value, MDST sets the drain
destination, MRS reads its register and writes g[GD] when it completes; a completed drain's bytes are in the Locker and its flags in FFLAGS.
R102, R106, R107, R126: a WLD reads its half of the weight Desk into the shadow registers; the stream that starts next takes it as its active
image; a stream does not start while a WLD runs or its array is cold. -/
def Obligations.ArrayCommandsAndWeightsPass : Prop :=
  (∀ (s : State) (c : Fin 1024) (a : Fin 2) (rest : List ArrCmd) (n : Nat), Quiet s c → s.coresOn = true → s.fold c = false →
     let q := fun (o : ArrOp) => ((s.core c).arr a).queue = ⟨o, n⟩ :: rest ∧ ((s.core c).arr a).running = []
     let starts := fun (o : ArrOp) (v : Word) (f : Arr → Prop) => ∃ t, exec (.arrayCommandStart c a false) s = .next t ∧
       ((t.core c).arr a).queue = rest ∧ ((t.core c).arr a).running = [{ op := o, seq := n, value := v }] ∧ f ((t.core c).arr a) ∧
       { t with cores := s.cores } = s
     (∀ r v, q (.msr r v) → (fld v 31 28 ≠ 2 ∨ r < 8 ∨ 0xD < r) → starts (.msr r v) 0 (fun y =>
       y.reg r = aWritten r (((s.core c).arr a).reg r) v ∧ ∀ m, m ≠ r → y.reg m = ((s.core c).arr a).reg m)) ∧
     (∀ h o, q (.mdst h o) → starts (.mdst h o) 0 (fun y => y.dst = (h, o) ∧ y.regs = ((s.core c).arr a).regs)) ∧
     (∀ g r, q (.mrs g r) → aRegListed r = true → r ≠ 1 → starts (.mrs g r) (((s.core c).arr a).reg r) (fun y => y.regs = ((s.core c).arr a).regs)) ∧
     (∀ g r v fl rs, ((s.core c).arr a).running = { op := .mrs g r, seq := n, value := v, flags := fl } :: rs →
       ∃ t, exec (.arrayCommandComplete c a) s = .next t ∧ ((t.core c).arr a).running = rs ∧ (g ≠ 0 → (t.core c).G g = v) ∧
         (∀ m, m ≠ g → (t.core c).G m = (s.core c).G m) ∧ { t with cores := s.cores } = s) ∧
     (∀ h ad bs r m fl rs, ((s.core c).arr a).running = { op := .mdrain r m, seq := n, writes := [⟨h, false, ad, bs⟩], flags := fl } :: rs →
       ad + bs.length ≤ 65536 →
       ∃ t, exec (.arrayCommandComplete c a) s = .next t ∧ ((t.core c).arr a).running = rs ∧
         (∀ i, (h : i < bs.length) → memRead t.locker (lockerKey c ad + i) = bs[i]) ∧
         (t.core c).C 8 = (s.core c).C 8 ||| BitVec.ofNat 32 fl.toNat ∧
         { t with cores := s.cores, locker := s.locker, ecc := s.ecc } = s)) ∧
  (∀ (s : State) (c : Fin 1024) (a : Fin 2) (rest : List ArrCmd) (n : Nat), Quiet s c → s.coresOn = true → s.fold c = false →
     let y := (s.core c).arr a
     (∀ half, y.queue = ⟨.wld half, n⟩ :: rest → y.running = [] → (∀ x ∈ wordsTouched (deskKey c a (0x2000 + half * 2048)) 2048, s.eccOf .desk x = 0) →
       ∃ t, exec (.arrayCommandStart c a false) s = .next t ∧ ((t.core c).arr a).queue = rest ∧
         ((t.core c).arr a).shadow = some (rowMem (memReadN s.desk (deskKey c a (0x2000 + half * 2048)) 2048)) ∧
         ((t.core c).arr a).image = y.image ∧ { t with cores := s.cores } = s) ∧
     (∀ i r acc m, acc < 2 → y.queue = ⟨.mstream i r acc m 0, n⟩ :: rest → y.running = [] → y.warmth ≠ .cold →
       ∃ t, exec (.arrayCommandStart c a false) s = .next t ∧ ((t.core c).arr a).queue = rest ∧ ((t.core c).arr a).image = y.shadow.getD y.image ∧
         ((t.core c).arr a).shadow = none ∧ { t with cores := s.cores } = s) ∧
     (∀ i r acc m k, y.queue = ⟨.mstream i r acc m k, n⟩ :: rest →
       (y.warmth = .cold ∨ ∃ h q, { op := .wld h, seq := q } ∈ y.running) → exec (.arrayCommandStart c a false) s = .next (s.progress c)))

/-- R126, R127, R128, R463: the keeper of a warm array without a stream times out into a request to go idle; the governor grants a start unless the
power state is high, and a release always, each counted in PWR_GRANT; a failed residue check is held on the array. -/
def Obligations.KeeperAndGovernorMoveTheLoad : Prop :=
  ∀ (s : State) (c : Fin 1024) (a : Fin 2),
    let y := (s.core c).arr a
    (y.warmth = .warm → y.running = [] → ∃ t, exec (.keeperTimeout c a false) s = .next t ∧ ((t.core c).arr a).warmth = .releasing ∧
      ((t.core c).arr a).queue = y.queue ∧ { t with cores := s.cores } = s) ∧
    (y.warmth = .warm → y.running = [] → y.pendFault = none → ∃ t, exec (.keeperTimeout c a true) s = .next t ∧
      ((t.core c).arr a).warmth = .releasing ∧ ((t.core c).arr a).pendFault = some (0x0B, a.val, 0)) ∧
    (y.warmth ≠ .warm → ∀ b, exec (.keeperTimeout c a b) s = .next s) ∧
    (y.warmth = .cold → s.powerHigh = false → s.rd64 Reg.PWR_GRANT_LO Reg.PWR_GRANT_HI + 1 < 2 ^ 48 → ∃ t, exec (.governorGrant c a) s = .next t ∧
      ((t.core c).arr a).warmth = .granted ∧ t.rd64 Reg.PWR_GRANT_LO Reg.PWR_GRANT_HI = s.rd64 Reg.PWR_GRANT_LO Reg.PWR_GRANT_HI + 1 ∧
      { t with cores := s.cores, regs := s.regs } = s) ∧
    (y.warmth = .cold → s.powerHigh = true → exec (.governorGrant c a) s = .next s) ∧
    (y.warmth = .releasing → s.rd64 Reg.PWR_GRANT_LO Reg.PWR_GRANT_HI + 1 < 2 ^ 48 → ∃ t, exec (.governorGrant c a) s = .next t ∧
      ((t.core c).arr a).warmth = .cold ∧ t.rd64 Reg.PWR_GRANT_LO Reg.PWR_GRANT_HI = s.rd64 Reg.PWR_GRANT_LO Reg.PWR_GRANT_HI + 1)

/-- R75, R89, R104, R125, R191, R206: the lane writes its oldest results; the head of the transfer queue lands its row in the Desk, sends its units, or
starts a chain once its fence is over; a corridor unit lands in the neighbour's Locker and is counted. -/
def Obligations.TransfersComplete : Prop :=
  ∀ (s : State) (c : Fin 1024) (n : Nat), Quiet s c → s.coresOn = true →
    (∀ l rest v, (s.core c).lane = l :: rest → l.results = some [v] → l.n = 1 →
      ∃ t, exec (.mvlResult c) s = .next t ∧ (t.core c).lane = rest ∧ (t.core c).V l.vd = v ∧ (∀ m, m ≠ l.vd → (t.core c).V m = (s.core c).V m) ∧
        (t.core c).C 8 = (s.core c).C 8 ||| BitVec.ofNat 32 l.flags.toNat ∧ { t with cores := s.cores } = s) ∧
    (∀ l rest, (s.core c).lane = l :: rest → l.results = none →
      ∃ t, exec (.mvlResult c) s = .next t ∧ (t.core c).lane = rest ∧ (t.core c).v = (s.core c).v ∧ { t with cores := s.cores } = s) ∧
    (∀ a part ad drow r rest, (s.core c).xfer = (.dmv a part false ad drow [some r], n) :: rest → r.length = 64 →
      ∃ t, exec (.transferCommandComplete c) s = .next t ∧ (t.core c).xfer = rest ∧
        (∀ i, (h : i < r.length) → memRead t.desk (deskKey c a (partBase part + 64 * (drow % partRows part)) + i) = r[i]) ∧
        (∀ q, q < deskKey c a (partBase part + 64 * (drow % partRows part)) ∨ deskKey c a (partBase part + 64 * (drow % partRows part)) + 64 ≤ q →
          memRead t.desk q = memRead s.desk q) ∧ { t with cores := s.cores, desk := s.desk, ecc := s.ecc } = s) ∧
    (∀ up ad hd o bs rest, (s.core c).xfer = (.csend up ad hd o [some bs], n) :: rest →
      ∃ t, exec (.transferCommandComplete c) s = .next t ∧ (t.core c).xfer = rest ∧
        t.corr = s.corr ++ [⟨neighbour c up, up, n, (s.core c).house, hd, o, bs⟩] ∧ t.locker = s.locker ∧ t.regs = s.regs) ∧
    (∀ e ad rest, (s.core c).xfer = (.dmak e ad, n) :: rest → CoreWait.fence true ∉ (s.core c).waits → (s.eng (2 * (c / 32) + e)).starts.length < 4 →
      ∃ t, exec (.transferCommandComplete c) s = .next t ∧ (t.core c).xfer = rest ∧
        (t.eng (2 * (c / 32) + e)).starts = (s.eng (2 * (c / 32) + e)).starts ++ [{ addr := ad % 2 ^ 27, house := (s.core c).house }] ∧
        t.locker = s.locker ∧ t.desk = s.desk ∧ t.regs = s.regs) ∧
    (∀ u up, Quiet s (neighbour c (!up)) → s.corr.find? (fun q => decide (q.core = c.val) && q.up = up) = some u → s.coreLive c = true →
      landingOk (s.core c) u = true →
      ∃ t, exec (.corridorLanding c up) s = .next t ∧ t.corr = s.corr.erase u ∧
        (∀ i, (h : i < u.bytes.length) → memRead t.locker (lockerKey c (((s.core c).handle u.hd).base + u.ofs) + i) = u.bytes[i]) ∧
        (t.core c).C (if up then 9 else 0xA) = (s.core c).C (if up then 9 else 0xA) + 1 ∧ t.lib = s.lib ∧ t.desk = s.desk) ∧
    (∀ u up, Quiet s (neighbour c (!up)) → s.corr.find? (fun q => decide (q.core = c.val) && q.up = up) = some u → s.coreLive c = false →
      ∃ t, exec (.corridorLanding c up) s = .next t ∧ t.corr = s.corr.erase u ∧ t.locker = s.locker ∧
        t.rd (Reg.DMA_CORRf (c / 32)) = bumpErr (s.rd (Reg.DMA_CORRf (c / 32))))

/-- R11, and the rules that say what a function sees (R57, R187, R213, R292, R351, R383, R413, R472): a write of a register that the function does not see
changes nothing and a read of it returns 0; a write of a raster-block register changes the bits of its access codes. -/
def Obligations.RegisterAccessesFollowTheAccessCodes : Prop :=
  ∀ (s : State) (fn : Fin 8) (off : Fin 33554432) (v : BitVec 64), Link s → off.val % 4 = 0 → off.val < 0x1000000 →
    let w := BitVec.ofNat 32 v.toNat
    let m := fun n : Nat => BitVec.ofNat 32 n
    (s.sees fn off = false → exec (.registerWrite fn off 4 v) s = .next s ∧ (upperOf (off - 4) ≠ some off.val →
      ∃ t, exec (.pairSnapshotRead fn off 4) s = .next t ∧ t.out = .readData fn off 0 :: s.out ∧ { t with snaps := s.snaps, out := s.out } = s)) ∧
    (∀ r, 0x100000 ≤ off.val → off.val < 0x140000 → s.sees fn off = true → regRow? off = some r → r.ovf = false →
      SetsRegs (.registerWrite fn off 4 v) s [(off.val,
        (((s.rd off &&& ~~~(m r.rw ||| m r.rwl)) ||| (w &&& (m r.rw ||| m r.rwl))) &&& ~~~(w &&& m r.w1c)) ||| (w &&& m r.w1s))])

/-- R8: every function reads the identity registers, and the unit identifier reads 0 from a virtual function.
R13: a narrow read returns the addressed bytes of the word, a narrow write is discarded and sets NARROW_WR, a 64-bit access is two of 32 bits, lower
address first; the Library aperture takes accesses of any size.
R14: an offset that no table assigns reads 0, and a write to it is discarded.
R58: a read of the lower word of a pair holds the upper word for the same function, whose next read of the upper word returns the word held, whatever
has happened to the counter meanwhile; without a lower word read before, it returns the live value. -/
def Obligations.FunctionsReadAndWriteWords : Prop :=
  ∀ (s : State) (fn : Fin 8), Link s →
    let reads := fun (off : Fin 33554432) (n v : Nat) => exec (.pairSnapshotRead fn off n) s = .next (s.emit (.readData fn off v))
    (∀ off : Fin 33554432, (off.val % 4 = 0 → off.val ≤ Reg.DEV_REFRESH → ∃ w, s.fuses.reg off = some w ∧ reads off 4 w.toNat) ∧
      (off.val = Reg.DEV_UID_LO → reads off 4 (if fn.val = 0 then s.fuses.uid % 2 ^ 32 else 0)) ∧
      (off.val = Reg.DEV_UID_HI → reads off 4 (if fn.val = 0 then s.fuses.uid / 2 ^ 32 % 2 ^ 32 else 0))) ∧
    (∀ (off : Fin 33554432) (n : Nat) (v : BitVec 64), n = 1 ∨ n = 2 →
      let a := off.val / 4 * 4
      SetsRegs (.registerWrite fn off n v) s [(Reg.DEV_ERRSTAT, setBit (s.rd Reg.DEV_ERRSTAT) 0 true)] ∧
      (off.val % 4 + n ≤ 4 → upperOf a = none → upperOf (a - 4) ≠ some a →
        reads off n ((s.barValue fn a).toNat / 2 ^ (8 * (off.val % 4)) % 2 ^ (8 * n)))) ∧
    (∀ (off : Fin 33554432) (v : BitVec 64), off.val % 4 = 0 →
      let lo := s.read32 fn off
      let hi := lo.2.read32 fn (off + 4)
      exec (.registerWrite fn off 4 v) s = .next (s.write32 fn off (v.setWidth 32)) ∧
      exec (.registerWrite fn off 8 v) s = .next ((s.write32 fn off (v.setWidth 32)).write32 fn (off + 4) ((v >>> 32).setWidth 32)) ∧
      exec (.pairSnapshotRead fn off 4) s = .next (lo.2.emit (.readData fn off lo.1.toNat)) ∧
      exec (.pairSnapshotRead fn off 8) s = .next (hi.2.emit (.readData fn off (lo.1.toNat + 2 ^ 32 * hi.1.toNat)))) ∧
    (∀ (o : Fin 33554432) (bs : List Byte), Up s →
      let a := s.apertureAddr fn o
      s.granted fn = true → o.val % 0x40000 + bs.length ≤ 0x40000 → s.bankOk fn (bankOf a) = true → s.bankBusy (bankOf a) = false →
      ∃ t, exec (.apertureAccess fn o bs.length (some bs)) s = .next t ∧ (∀ i, (h : i < bs.length) → memRead t.lib (a + i) = bs[i]) ∧ t.regs = s.regs) ∧
    (∀ (off : Fin 33554432) (v : BitVec 64), off.val % 4 = 0 →
      let o := off.val % 0x2000
      (off.val < 0x1000000 ∧ regRow? off = none) ∨ 0x1800010 ≤ off.val ∨
        (0x1000000 ≤ off.val ∧ off.val < 0x1800000 ∧ ((o < 0x1000 ∧ csrListed (o / 4) = false) ∨ (0x1400 ≤ o ∧ o < 0x1800) ∨ (0x180C ≤ o ∧ o < 0x1880) ∨
          (0x1884 ≤ o ∧ o < 0x1900) ∨ (0x1980 ≤ o ∧ o < 0x1A00) ∨ (0x1A04 ≤ o ∧ o < 0x1A80) ∨ 0x1B00 ≤ o)) →
      reads off 4 0 ∧ exec (.registerWrite fn off 4 v) s = .next s) ∧
    (∀ lo hi : Fin 33554432, lo.val % 4 = 0 → hi.val = lo.val + 4 → upperOf lo = some hi.val →
      (∃ t, exec (.pairSnapshotRead fn lo 4) s = .next t ∧ t.out = .readData fn lo (s.barValue fn lo).toNat :: s.out ∧
        { t with snaps := s.snaps, out := s.out } = s ∧
        ∀ u : State, Link u → u.snaps = t.snaps → ∃ v, exec (.pairSnapshotRead fn hi 4) u = .next v ∧
          v.out = .readData fn hi (s.barValue fn hi).toNat :: u.out ∧ mapGet (fun _ => none) v.snaps (Reg.own fn hi) = none) ∧
      (∃ t, exec (.pairSnapshotRead fn lo 8) s = .next t ∧
        t.out = .readData fn lo ((s.barValue fn lo).toNat + 2 ^ 32 * (s.barValue fn hi).toNat) :: s.out) ∧
      (mapGet (fun _ => none) s.snaps (Reg.own fn hi) = none → reads hi 4 (s.barValue fn hi).toNat))

/-- R186: the Library aperture. A write inside reserved banks of the function's House stores its bytes, a read of them returns them in little-endian
order, and an access refused stores nothing, reads 0 and is counted with its offset. -/
def Obligations.ApertureReachesTheHousesBanks : Prop :=
  ∀ (s : State) (fn : Fin 8) (o : Fin 33554432) (bs : List Byte) (n : Nat), Up s →
    let a := s.apertureAddr fn o
    let ok := fun len => s.granted fn = true ∧ o.val % 0x40000 + len ≤ 0x40000 ∧ s.bankOk fn (bankOf a) = true ∧ s.bankBusy (bankOf a) = false
    (ok bs.length → ∃ t, exec (.apertureAccess fn o bs.length (some bs)) s = .next t ∧ (∀ i, (h : i < bs.length) → memRead t.lib (a + i) = bs[i]) ∧
      (∀ q, q < a ∨ a + bs.length ≤ q → memRead t.lib q = memRead s.lib q) ∧ { t with lib := s.lib, ecc := s.ecc } = s) ∧
    (ok n → 0 < n → s.ecc = [] → exec (.apertureAccess fn o n none) s = .next (s.emit (.readData fn (0x2000000 + o) (memLe s.lib a n)))) ∧
    ((s.granted fn = false ∨ s.bankOk fn (bankOf a) = false ∨ s.bankBusy (bankOf a) = true) → 0 < n →
      ∃ t, exec (.apertureAccess fn o n none) s = .next t ∧ t.out = .readData fn (0x2000000 + o) 0 :: s.out ∧
        t.rd (Reg.own fn Reg.LIB_APERR) = bumpErr (s.rd (Reg.own fn Reg.LIB_APERR)) ∧
        t.rd (Reg.own fn Reg.LIB_APERR_ADDR) = BitVec.ofNat 32 o.val ∧ { t with regs := s.regs, out := s.out } = s) ∧
    ((s.granted fn = false ∨ s.bankOk fn (bankOf a) = false ∨ s.bankBusy (bankOf a) = true) → bs ≠ [] →
      SetsRegs (.apertureAccess fn o bs.length (some bs)) s [(Reg.own fn Reg.LIB_APERR, bumpErr (s.rd (Reg.own fn Reg.LIB_APERR))),
        (Reg.own fn Reg.LIB_APERR_ADDR, BitVec.ofNat 32 o.val)])

/-- R397, R399, R400, R412: the doorbells. MBX_DOORBELL.GO makes an idle mailbox busy, and is lost on a busy one; TAIL of an enabled command queue
moves unless the ring would overfill, which sets OVF of its HEAD; HEAD of a completion or event queue moves; EVT_C_MASK takes its value, and sends the message for a
status bit that it newly unmasks. -/
def Obligations.DoorbellsMoveMailboxesAndQueues : Prop :=
  ∀ (s : State) (fn : Fin 8) (q : Fin 16384) (v : Word), Link s →
    let st := Reg.own fn Reg.MBX_STATUS
    let qs := fn.val = 0 ∨ (s.granted fn = true ∧ s.queueHouse q = some fn.val)
    let n := s.queueLen q
    (s.granted fn = true → s.mbxBusy fn = false → SetsRegs (.mbxDoorbell fn true) s [(st, setBit (s.rd st) 0 true)]) ∧
    (s.mbxBusy fn = false → exec (.mbxDoorbell fn false) s = .next s) ∧
    (∀ go, s.granted fn = true → s.mbxBusy fn = true → SetsRegs (.mbxDoorbell fn go) s [(st, setBit (s.rd st) 2 true)]) ∧
    (qs → s.queueKind q = 0 → s.queueOn q = true → v.toNat < n → n ≤ 4096 →
      (s.queueTail q + n - s.queueHead q) % n + (v.toNat + n - s.queueTail q) % n < n →
      SetsRegs (.queTail fn q v) s [(Reg.QUE_q_TAIL q, setFld (s.rd (Reg.QUE_q_TAIL q)) 11 0 v.toNat)]) ∧
    (qs → s.queueKind q = 0 → s.queueOn q = true → v.toNat < n → n ≤ 4096 →
      n ≤ (s.queueTail q + n - s.queueHead q) % n + (v.toNat + n - s.queueTail q) % n →
      SetsRegs (.queTail fn q v) s [(Reg.QUE_q_HEAD q, setBit (s.rd (Reg.QUE_q_HEAD q)) 16 true)]) ∧
    (qs → s.queueKind q ≠ 0 → s.queueOn q = true → v.toNat < 4096 → v.toNat = s.queueTail q →
      SetsRegs (.queHead fn q v) s [(Reg.QUE_q_HEAD q, setFld (s.rd (Reg.QUE_q_HEAD q)) 11 0 v.toNat)]) ∧
    (∀ h, qs → s.queueKind q ≠ 0 → s.queueOn q = true → v.toNat < 4096 → v.toNat ≠ s.queueTail q → s.queueHouse q = some h →
      bit (s.rd (Reg.QUE_q_CFG q)) 30 = true →
      ∃ t, exec (.queHead fn q v) s = .next t ∧ t.queueHead q = v.toNat ∧ t.out = .msix h (s.rdF (Reg.QUE_q_CFG q) 29 24) :: s.out ∧
        { t with regs := s.regs, out := s.out } = s) ∧
    (s.granted fn = true → v &&& ~~~(s.rd (Reg.own fn Reg.EVT_C_MASK)) &&& s.rd (Reg.own fn Reg.EVT_C_STATUS) = 0 →
      SetsRegs (.evtCMask fn v) s [(Reg.own fn Reg.EVT_C_MASK, v)]) ∧
    (s.granted fn = true → v &&& ~~~(s.rd (Reg.own fn Reg.EVT_C_MASK)) &&& s.rd (Reg.own fn Reg.EVT_C_STATUS) ≠ 0 →
      bit (s.rd (Reg.own fn Reg.EVT_C_IRQ)) 6 = true →
      ∃ t, exec (.evtCMask fn v) s = .next t ∧ t.rd (Reg.own fn Reg.EVT_C_MASK) = v ∧
        t.out = .msix fn (fld (s.rd (Reg.own fn Reg.EVT_C_IRQ)) 5 0) :: s.out ∧ { t with regs := s.regs, out := s.out } = s)

/-- R401, R402: a signal adds its count to the value of a hall pass of the requester's House, or saturates it and sets FAULT; the first waiter whose
count the value reaches is released and the value falls by that count.
R66, R334, R409: a 48-bit counter at its maximum wraps to 0 and posts PERF_WRAP with its offset; DIRTY of a layer sets for its owner. -/
def Obligations.HallPassesAndCountersCount : Prop :=
  (∀ (s : State) (fn : Fin 8) (p : Fin 8192) (n : Fin 65536), Link s → s.granted fn = true →
     (s.passHouse p ≠ some fn.val → exec (.hpsSignal fn p n) s = .next s) ∧
     (n.val = 0 → exec (.hpsSignal fn p n) s = .next s) ∧
     (s.passHouse p = some fn.val → n.val ≠ 0 → (∀ w ∈ s.waiters, w.pass ≠ p.val) → s.passVal p + n.val < 2 ^ 32 →
       SetsRegs (.hpsSignal fn p n) s [(Reg.HPS_p_VALUE p, s.rd (Reg.HPS_p_VALUE p) + BitVec.ofNat 32 n)]) ∧
     (∀ w ws c, s.passHouse p = some fn.val → n.val ≠ 0 → s.waiters = w :: ws → w.pass = p.val → w.who = .core c → (∀ x ∈ ws, x.pass ≠ p.val) →
       s.passVal p + n.val < 2 ^ 32 → w.count ≤ s.passVal p + n.val →
       ∃ t, exec (.hpsSignal fn p n) s = .next t ∧ t.waiters = ws ∧ t.passVal p = s.passVal p + n.val - w.count ∧
         { t with waiters := s.waiters, regs := s.regs } = s) ∧
     (∀ w ws, s.passHouse p = some fn.val → n.val ≠ 0 → s.waiters = w :: ws → w.pass = p.val → s.passVal p + n.val < w.count →
       SetsRegs (.hpsSignal fn p n) s [(Reg.HPS_p_VALUE p, s.rd (Reg.HPS_p_VALUE p) + BitVec.ofNat 32 n)]) ∧
     (s.passHouse p = some fn.val → (∀ w ∈ s.waiters, w.pass ≠ p.val) → 2 ^ 32 ≤ s.passVal p + n.val →
       exec (.hpsSignal fn p n) s = .next (((s.wr (Reg.HPS_p_VALUE p) 0xFFFFFFFF).wrF (Reg.HPS_p_STAT p) 31 31 1).post fn 0x1C 0 none [p.val, 1108 + fn.val]))) ∧
  (∀ (s : State), Up s →
     (∀ off : Fin 33554432, off.val = Reg.PWR_STRUS_LO ∨ off.val = Reg.PWR_GRANT_LO → s.rd64 off (off + 4) = 2 ^ 48 - 1 →
       exec (.perfWrap off) s = .next ((s.wr64 off (off + 4) 0).postAll [0] 0x16 0 none [off.val])) ∧
     (∀ off : Fin 33554432, off.val = Reg.PWR_STRUS_LO ∨ off.val = Reg.PWR_GRANT_LO → s.rd64 off (off + 4) ≠ 2 ^ 48 - 1 →
       exec (.perfWrap off) s = .next s) ∧
     (∀ (c : Fin 1024) (n : Nat) (off : Fin 33554432), n = 0x18 ∨ n = 0x1A ∨ n = 0x1C ∨ n = 0x1E → off.val = 0x1000000 + 0x2000 * c.val + 4 * n →
       ((s.core c).C n).toNat + 2 ^ 32 * ((s.core c).C (n + 1)).toNat = 2 ^ 48 - 1 →
       exec (.perfWrap off) s = .next ((s.setCore c (((s.core c).setC n 0).setC (n + 1) 0)).postAll [0, (s.core c).house] 0x16 0 none [off.val])) ∧
     (∀ (fn g : Fin 8), s.granted fn = true → s.ownsLayer fn g = true →
       SetsRegs (.dirty fn g) s [(Reg.CMP_GLg_CTRL g, setBit (s.rd (Reg.CMP_GLg_CTRL g)) 21 true)]) ∧
     (∀ (fn g : Fin 8), s.granted fn = false ∨ s.ownsLayer fn g = false → exec (.dirty fn g) s = .next s))

/-- R233: an arm takes the number of tiles from its shape word: 0 to 4,096 set NT; a greater one, or a word outside the House's banks, fails the
arm: SHAPE, NT 4,096, and the call of the on-call pipeline. A read of a busy bank waits.
R221 to R226, R233: the roll counter of a form. With nothing else waiting, a ROLL of a band that is over returns 0xFFFFFFFF; in draw mode it
returns the lowest index not dealt; in deal mode the next index of its lane with its neighbour flags; TDONE of an index that the lane holds is
counted, any other one is an error. -/
def Obligations.ShapesRollAndTdoneDealTiles : Prop :=
  (∀ (s : State) (f : Fin 32) (a h : Nat), Up s →
     let t := s.setForm f { s.form f with shape := none }
     let w := memLe s.lib a 4
     let bad := (t.shapeFail f)
     ((s.form f).shape = none → exec (.shapeWordRead f) s = .next s) ∧
     ((s.form f).shape = some (a, h) → s.banksOk h a 4 = true → s.bankBusy (bankOf a) = true → exec (.shapeWordRead f) s = .next s) ∧
     ((s.form f).shape = some (a, h) → s.banksOk h a 4 = true → s.bankBusy (bankOf a) = false → s.ecc = [] → w ≤ 4096 →
       exec (.shapeWordRead f) s = .next (t.armTiles f w)) ∧
     ((s.form f).shape = some (a, h) → s.banksOk h a 4 = true → s.bankBusy (bankOf a) = false → s.ecc = [] → 4096 < w →
       exec (.shapeWordRead f) s = .next (bad.callJob (bad.rdF (Reg.RC_BAND f) 17 16) (bad.rdF (Reg.RC_BAND f) 15 0) (bad.rd (Reg.RC_TFRAME f)))) ∧
     ((s.form f).shape = some (a, h) → s.banksOk h a 4 = false →
       exec (.shapeWordRead f) s = .next (bad.callJob (bad.rdF (Reg.RC_BAND f) 17 16) (bad.rdF (Reg.RC_BAND f) 15 0) (bad.rd (Reg.RC_TFRAME f))))) ∧
  (∀ (s : State) (c : Fin 1024) (gd pd : Nat),
     let f := c.val / 32
     let l := c.val % 32
     let x := s.form f
     let held := mapGet (fun _ => []) x.held l
     let result := fun (w : Word) (t : State) => (t.core c).G gd = w ∧ ((t.core c).P pd = decide (w = 0xFFFFFFFF)) ∧ (t.form f).rolls = []
     gd ≠ 0 → pd ≠ 0 → pd < 8 → x.rolls = [] → x.shape = none →
     (s.rollOver f = true → result 0xFFFFFFFF (s.rollIssue c gd pd)) ∧
     (s.rollOver f = false → held.length < 4 → s.rcDeal f = false → x.reissue = [] →
       ∀ i, i < s.rcNT f → Nat.testBit x.dealt i = false → (∀ j, j < i → Nat.testBit x.dealt j = true) → i < 4096 →
         let t := s.rollIssue c gd pd
         result (BitVec.ofNat 32 i) t ∧ mapGet (fun _ => []) (t.form f).held l = held ++ [i] ∧ Nat.testBit (t.form f).dealt i = true) ∧
     (s.rollOver f = false → held.length < 4 → s.rcDeal f = true → (s.rcLanes f).contains l = true →
       let m := mapGet (fun _ => 0) x.draws l
       let i := m * (s.rcLanes f).length + ((s.rcLanes f).filter (fun k => decide (k < l))).length
       i < s.rcNT f → Nat.testBit x.dealt i = false →
         let t := s.rollIssue c gd pd
         result (BitVec.ofNat 32 (i + s.rollFlags f l i)) t ∧ mapGet (fun _ => 0) (t.form f).draws l = m + 1 ∧
           mapGet (fun _ => []) (t.form f).held l = held ++ [i]) ∧
     (∀ i,
       let counts : Prop := bit (s.rd (Reg.RC_CTRL f)) 0 = true ∧ i < s.rcNT f ∧ i ∈ held ∧ Nat.testBit x.complete i = false
       let t := s.tdoneRecord c i
       (counts → Nat.testBit (t.form f).complete i = true ∧ mapGet (fun _ => []) (t.form f).held l = held.erase i ∧ t.rcDone f = (s.rcDone f + 1) % 8192) ∧
       (¬ counts → t = s.wr (Reg.RC_ERR f) (bumpErr (s.rd (Reg.RC_ERR f))))))

/-- R94, R281, R286: the Dean posts a held fault record to the House of its slice and clears V and MULTI; it answers a fault once, and acts on the
cause: a residue failure takes the array out of service, a Locker word retires the core and marches it; a trap changes no unit. -/
def Obligations.TheDeanAnswersTileFaults : Prop :=
  ∀ (s : State) (c : Fin 1024), Up s →
    let k := s.core c
    let f := c.val / 32
    let t := s.onCore c (fun y => { y with respond := false })
    let cause := fld (k.C 0x10) 7 0
    let info := k.C 0x12
    (bit (k.C 0x10) 31 = false → exec (.deanFaultNotice c) s = .next s) ∧
    (bit (k.C 0x10) 31 = true → (s.pipe (fld (k.C 3) 17 16)).valid = true →
      exec (.deanFaultNotice c) s = .next ((s.post k.house 0x13 0 (some (s.pipe (fld (k.C 3) 17 16)).raster)
        [c, (k.C 0x10).toNat, (k.C 0x11).toNat, (k.C 0x12).toNat, (k.C 0x13).toNat, (k.C 3).toNat]).onCore c (fun y =>
          y.setC 0x10 (setFld (y.C 0x10) 31 30 0)))) ∧
    (k.respond = false → exec (.tileFaultResponse c) s = .next s) ∧
    (k.respond = true → cause ≠ 0x0A → cause ≠ 0x0B → bit (s.rd (Reg.RC_CTRL f)) 0 = false → exec (.tileFaultResponse c) s = .next t) ∧
    (k.respond = true → cause = 0x0B → t.fold c = false → exec (.tileFaultResponse c) s = .next ((t.loseArray c (fld info 0 0)).faultCall f)) ∧
    (k.respond = true → cause = 0x0B → t.fold c = true → exec (.tileFaultResponse c) s = .next ((t.retireCore c).faultCall f)) ∧
    (k.respond = true → cause = 0x0A → fld info 2 0 = 0 → exec (.tileFaultResponse c) s =
      .next (((t.retireCore c).startMarch { core := true, unit := c, preserving := false, waiter := none }).faultCall f)) ∧
    (k.respond = true → cause = 0x0A → fld info 2 0 = 3 → exec (.tileFaultResponse c) s =
      .next ((t.bundleError c (k.C 0x13).toNat).faultCall f))

/-- R439, R441, R444: HALT stops a core that the function reaches, RESUME starts it again past its breakpoint, STEP issues one bundle (here an empty
one) and halts again; a core at its breakpoint halts before the bundle. A core that the function does not reach is left alone. -/
def Obligations.DebugHaltsStepsAndResumes : Prop :=
  ∀ (s : State) (fn : Fin 8) (c : Fin 1024), Up s →
    let k := s.core c
    let p := s.progress c
    let becomes := fun (j : Instr) (y : Core) => ∃ t, exec j s = .next t ∧ t.core c = y ∧ (∀ d, d ≠ c.val → t.core d = s.core d) ∧ { t with cores := s.cores } = s
    (s.tcdOpen fn c = false → exec (.halt fn c) s = .next s ∧ exec (.step_ fn c) s = .next s ∧ exec (.resume fn c) s = .next s) ∧
    (s.tcdOpen fn c = true → becomes (.halt fn c) { k with halted := true, stepping := false }) ∧
    (s.tcdOpen fn c = true → k.halted = true → becomes (.resume fn c) { k with halted := false, stepping := false, bpSkip := true }) ∧
    (s.tcdOpen fn c = true → k.halted = false → becomes (.resume fn c) k ∧ exec (.step_ fn c) s = .next s) ∧
    (s.tcdOpen fn c = true → k.halted = true → Quiet s c → k.waits = [] → k.idle = false → k.stopped = false → s.coreLive c = true →
      s.istore = [] → s.ecc = [] → s.handoffs = [] →
      ∃ t, exec (.step_ fn c) s = .next t ∧ (t.core c).halted = true ∧ (t.core c).stepping = false ∧ (t.core c).pc = (loopEnd k.pc k.loops).1 ∧
        (t.core c).g = k.g ∧ (t.core c).v = k.v ∧ (t.core c).p = k.p ∧ { t with cores := s.cores } = s) ∧
    (p.canIssue c = true → (p.core c).atBreak = true → exec (.breakpoint c) s = .next (p.setCore c { p.core c with halted := true })) ∧
    (p.canIssue c = false ∨ (p.core c).atBreak = false → exec (.breakpoint c) s = .next p)

/-- R168, R171, R172: a handover with ZERO leaves a bank of zeros, one without keeps its bytes, and writes that waited at the bank are stored then; a fill
that is out brings its line into the shelf with the bytes of the House's memory. -/
def Obligations.HandoversAndFillsComplete : Prop :=
  ∀ (s : State), Up s →
    (∀ b : Fin 512, s.bankBusy b = true → s.inMarch b = false → (∀ x ∈ s.late, bankOf x.2.1 ≠ b.val) →
      ∃ t, exec (.handoverComplete b) s = .next t ∧ t.bankBusy b = false ∧ bit (t.bankReg b) 9 = false ∧ fld (t.bankReg b) 8 0 = fld (s.bankReg b) 8 0 ∧
        (∀ a, bankOf a = b.val → memRead t.lib a = if bit (s.bankReg b) 9 then 0 else memRead s.lib a) ∧
        (∀ a, bankOf a ≠ b.val → memRead t.lib a = memRead s.lib a) ∧ t.late = s.late ∧ t.locker = s.locker ∧ t.cores = s.cores) ∧
    (∀ (b : Fin 512) r a bs, s.bankBusy b = true → s.inMarch b = false → s.late = [(r, a, bs)] → bankOf a = b.val →
      ∃ t, exec (.handoverComplete b) s = .next t ∧ t.late = [] ∧ ∀ i, (h : i < bs.length) → memRead t.lib (a + i) = bs[i]) ∧
    (∀ b : Fin 512, s.bankBusy b = false → exec (.handoverComplete b) s = .next s) ∧
    (∀ (h : Fin 8) line, (h.val, line / 64 * 64) ∉ s.fills → exec (.shelfFill h line) s = .next s) ∧
    (∀ (h : Fin 8) line, let x := line / 64 * 64
      (h.val, x) ∈ s.fills → s.slotBank h (x / 64 % 64) < 512 → s.firstUnmapped h x 1 = none → s.hasLine h x = false →
      ∃ t, exec (.shelfFill h line) s = .next t ∧ (h.val, x) ∉ t.fills ∧ t.hasLine h x = true ∧ t.lineRead h x 64 = s.dramRead h x 64 ∧
        t.cores = s.cores ∧ t.locker = s.locker)

/-- R174, R288: the scrubber reads the next row of a bank and rewrites what it could correct. Dvorzar answers an uncorrectable error of a bank: a spare
takes the place of a House's bank, which is marched; without a spare the bank is retired.
R182, R184: a march run that passes gives its bank, zeroed, back to the Dean and reports PASS; one that fails retires it; the run of a core leaves its
Locker and Desks at zero. -/
def Obligations.ScrubbingAndMarchFindErrors : Prop :=
  (∀ (s : State) (b : Fin 512), Up s →
     let a := b.val * 2 ^ 18 + 64 * mapGet (fun _ => 0) s.service.scrubRows b
     let u : State := { s with service := { s.service with uncTold := s.service.uncTold.filter (· ≠ b.val) } }
     let told := s.service.uncTold.contains b.val = true ∧ s.bankRetired b = false ∧ s.bankUnit b ≠ 3 ∧ s.bankBusy b = false
     let march : March := { core := false, unit := b, preserving := true, waiter := none }
     (bit (s.rd Reg.LIB_SCRUB) 0 = false ∨ s.bankBusy b = true ∨ s.bankUnit b = 3 → exec (.libraryScrub b) s = .next s) ∧
     (bit (s.rd Reg.LIB_SCRUB) 0 = true → s.bankBusy b = false → s.bankUnit b ≠ 3 → (∀ x ∈ wordsTouched a 64, s.eccOf .lib x ≤ 1) →
       ∃ t, exec (.libraryScrub b) s = .next t ∧ (∀ x ∈ wordsTouched a 64, t.eccOf .lib x = 0) ∧ t.lib = s.lib ∧
         mapGet (fun _ => 0) t.service.scrubRows b = (mapGet (fun _ => 0) s.service.scrubRows b + 1) % 4096) ∧
     (s.service.uncTold.contains b.val = false → exec (.libraryUncResponse b) s = .next s) ∧
     (told → s.bankOwner b < 8 → u.spareFor b = none → exec (.libraryUncResponse b) s = .next (u.retireBank b)) ∧
     (∀ x, told → s.bankOwner b < 8 → u.spareFor b = some x → (u.substituteBank b x (s.bankOwner b)).bankWorn b = false →
       exec (.libraryUncResponse b) s = .next (((u.substituteBank b x (s.bankOwner b)).bankSet b 8 0 false false).startMarch march)) ∧
     (∀ x, told → s.bankOwner b < 8 → u.spareFor b = some x → (u.substituteBank b x (s.bankOwner b)).bankWorn b = true →
       exec (.libraryUncResponse b) s = .next ((u.substituteBank b x (s.bankOwner b)).retireBank b)) ∧
     (told → s.bankOwner b = 8 → u.bankWorn b = false → exec (.libraryUncResponse b) s = .next (u.startMarch march))) ∧
  (∀ (s : State) (m : March) (fail : Bool), Up s →
     (s.service.marches = [] → exec (.marchComplete fail) s = .next s) ∧
     (s.service.marches = [m] → m.core = false → m.unit < 512 → m.preserving = false → m.waiter = none → m.unit ∉ s.service.retiredBanks →
       ∃ t, exec (.marchComplete false) s = .next t ∧ t.service.marches = [] ∧ t.bankReg m.unit = 8 ∧ t.rd Reg.LIB_MARCH = 2 ∧
         (∀ a, bankOf a = m.unit → memRead t.lib a = 0) ∧ (∀ a, bankOf a ≠ m.unit → memRead t.lib a = memRead s.lib a)) ∧
     (s.service.marches = [m] → m.core = false → m.unit < 512 → m.preserving = false → m.waiter = none → m.unit ∈ s.service.retiredBanks →
       ∃ t, exec (.marchComplete true) s = .next t ∧ t.bankReg m.unit = 0x8000000F ∧ t.rd Reg.LIB_MARCH = 0x10003 ∧ m.unit ∈ t.service.retiredBanks) ∧
     (s.service.marches = [m] → m.core = true → m.waiter = none →
       ∃ t, exec (.marchComplete fail) s = .next t ∧ (∀ a, memRead t.locker (m.unit * 2 ^ 16 + a % 2 ^ 16) = 0) ∧
         (∀ a, memRead t.desk (m.unit * 2 ^ 15 + a % 2 ^ 15) = 0) ∧ (∀ a, a / 2 ^ 16 ≠ m.unit → memRead t.locker a = memRead s.locker a) ∧
         (fail = false → (t.core m.unit).marched = true) ∧ t.lib = s.lib))

/-- R371, R385, R387, R388, R391, R392: the Dean takes no command from a source that is not served; a command of House 0 alone ends with NOT_PERMITTED
for every other House, with no effect; NOP completes with no effect, and a bit set in an unused word ends it with BAD_ARG and the place of the bit. -/
def Obligations.TheDeanTakesAndChecksRecords : Prop :=
  ∀ (s : State) (j : Instr) (d : DeanCmd) (op : Nat) (only0 standby : Bool), deanRow j = some (d, op, only0, standby) →
    (Link s → s.takesFrom d.house d.from_ = false → exec j s = .next s) ∧
    (Link s → s.rdF Reg.MBX_DEAN 3 0 ≠ 2 → s.rdF Reg.MBX_DEAN 3 0 ≠ 4 → exec j s = .next s) ∧
    (Takes s d.house d.src → only0 = true → d.house.val ≠ 0 → exec j s = .next (done s d.house d.src d.tag op 3 0x7FFF [] s)) ∧
    (∀ h src tag, Takes s h src → exec (.nop (cmd h src tag [])) s = .next (done s h src tag 0x01 0 0x7FFF [] s)) ∧
    (∀ h src tag w i, Takes s h src → w ≠ 0 → i < 14 →
      exec (.nop (cmd h src tag (List.replicate i 0 ++ [w]))) s = .next (done s h src tag 0x01 2 ((32 * (2 + i) + lowBit w.toNat) / 8) [] s))

/-- R398, R399, R401: QUEUE_CREATE makes an event queue in host memory ready and empty; QUEUE_DESTROY leaves its registers 0; HPASS_SET gives a hall
pass its value; HPASS_WAIT joins the list where the value does not reach. A queue or pass of another House ends them with NOT_PERMITTED. -/
def Obligations.QueueAndHallPassCommands : Prop :=
  ∀ (s : State) (h : Fin 8) (src : Option (Fin 16384)) (tag : Fin 65536) (q : Fin 16384) (p : Fin 8192) (n : Word), Takes s h src →
    let no := fun op det => Host.Outcome.next (done s h src tag op 3 det [] s)
    let w := fun k : Nat => BitVec.ofNat 32 k
    (∀ lo hi log2 vec : Nat, s.queueHouse q = some h.val → s.queueOn q = false → h.val ≠ 0 → lo < 2 ^ 32 → lo % 64 = 0 → hi < 2 ^ 16 → 1 ≤ log2 → log2 ≤ 12 →
      vec < 64 →
      ∃ t, exec (.queueCreate (cmd h src tag [w q, w lo, w hi, w (log2 + 2 * 16 + vec * 128 + 8192), 0, n])) s =
          .next (done s h src tag 0x02 0 0x7FFF [] t) ∧ t.queueOn q = true ∧ t.queueKind q = 2 ∧ t.queueLib q = false ∧ t.queueLen q = 2 ^ log2 ∧
        t.queueBase q = lo + 2 ^ 32 * hi ∧ t.queueEmpty q = true ∧ (t.qaux q).mask = n ∧ { t with regs := s.regs, queueAux := s.queueAux } = s) ∧
    (s.queueHouse q ≠ some h.val → exec (.queueDestroy (cmd h src tag [w q])) s = no 0x03 8) ∧
    (s.queueHouse q = some h.val → s.queueOn q = true → s.queueKind q = 2 → ∃ t, exec (.queueDestroy (cmd h src tag [w q])) s =
        .next (done s h src tag 0x03 0 0x7FFF [] t) ∧ t.queueOn q = false ∧ t.queueHead q = 0 ∧ t.queueTail q = 0 ∧
        { t with regs := s.regs, queueAux := s.queueAux } = s) ∧
    (s.passHouse p ≠ some h.val → exec (.hpassSet (cmd h src tag [w p, n])) s = no 0x1C 8) ∧
    (s.passHouse p = some h.val → (∀ x ∈ s.waiters, x.pass ≠ p.val) →
      exec (.hpassSet (cmd h src tag [w p, n])) s = .next (done s h src tag 0x1C 0 0x7FFF [] (s.wr (Reg.HPS_p_VALUE p) n))) ∧
    (∀ m : Fin 65536, s.passHouse p = some h.val → s.queueHouse q = some h.val → s.cmdWaits h < 256 → (∀ x ∈ s.waiters, x.pass ≠ p.val) →
      s.passVal p < n.toNat →
      exec (.hpassWait (cmd h src tag [w p, n, w q, w m])) s = .next (done s h src tag 0x1D 0 0x7FFF []
        { s with waiters := s.waiters ++ [{ pass := p, count := n.toNat, who := .cmd h q m }] })) ∧
    (∀ m : Fin 65536, s.passHouse p = some h.val → s.queueHouse q = some h.val → s.cmdWaits h < 256 → n = 0 →
      exec (.hpassWait (cmd h src tag [w p, n, w q, w m])) s = .next (done s h src tag 0x1D 0 0x7FFF [] (s.postTo h q 0x1B m none [p.val, 0])))

/-- R172, R184, R190, R227, R228, R260, R283, R289, R392: the commands on chains, the shelf, status and units. -/
def Obligations.ChainStatusAndUnitCommands : Prop :=
  ∀ (s : State) (h : Fin 8) (src : Option (Fin 16384)) (tag : Fin 65536), Takes s h src →
    let w := fun k : Nat => BitVec.ofNat 32 k
    let ok := fun op res t => Host.Outcome.next (done s h src tag op 0 0x7FFF res t)
    let no := fun op st det => Host.Outcome.next (done s h src tag op st det [] s)
    (∀ (k : Fin 4) a, a < 2 ^ 27 → a % 64 = 0 → let e := 64 + 8 * k.val + h.val
      ((s.eng e).starts.length < 4 → exec (.dmaRun (cmd h src tag [w k, w a])) s = .next ((s.setEng e { s.eng e with
        starts := (s.eng e).starts ++ [{ addr := a, house := h, waiter := some (h.val, src.map Fin.val, tag.val) }] }).dmaDepth e)) ∧
      (4 ≤ (s.eng e).starts.length → exec (.dmaRun (cmd h src tag [w k, w a])) s = no 0x1E 5 8)) ∧
    (∀ lo hi n : Word, ∀ inv : Fin 2, exec (.shelfFlush (cmd h src tag [lo, hi, n, w inv])) s =
      ok 0x1F [] (s.flushRange h (lo.toNat + 2 ^ 32 * hi.toNat) n.toNat (decide (inv = 1)))) ∧
    (∀ f : Fin 32, s.loadedForm h f = true → exec (.bandStatus (cmd h src tag [w f])) s =
      ok 0x19 ((List.range 10).map (fun i => (s.rd (Reg.RC_BAND f + 4 * i)).toNat) ++ [(s.formTier f).preempts % 2 ^ 32]) s) ∧
    (∀ p : Fin 4, s.ownsPipe h p = true → exec (.pipeStatus (cmd h src tag [w p])) s = ok 0x1A ([s.rd Reg.FFJ_SLOTS, s.rd Reg.FFJ_SLOTEN,
      s.rd (Reg.FFJ_Pp_LIST p), s.rd (Reg.FFJ_Pp_WALK p), s.rd (Reg.FFJ_Pp_ERR p), 0].map BitVec.toNat) s) ∧
    (∀ (p x : Fin 4), s.ownsPipe h p = true →
      exec (.tierFloor (cmd h src tag [w p, w x])) s = ok 0x11 [] (s.wrF (Reg.DLN_Pp_CTRL p) 5 4 x)) ∧
    (∀ (p x : Fin 4), s.ownsPipe h p = false → exec (.tierFloor (cmd h src tag [w p, w x])) s = no 0x11 3 8 ∧
      exec (.pipeStatus (cmd h src tag [w p])) s = no 0x1A 3 8) ∧
    (h.val = 0 → ∀ c : Fin 1024, ((s.core c).retired = false → exec (.coreRetire (cmd h src tag [w c])) s = ok 0x12 [] (s.retireCore c)) ∧
      ((s.core c).retired = true → exec (.coreRetire (cmd h src tag [w c])) s = no 0x12 0xC 0x7FFF) ∧
      (∀ a : Fin 2, (s.core c).retired = false → s.arrayOn c a = true → s.fold c = false →
        exec (.coreRetire (cmd h src tag [w c, w (1 + 2 * a.val)])) s = ok 0x12 [] (s.loseArray c a)) ∧
      ((s.core c).retired = true → (s.core c).marched = true → exec (.coreRejoin (cmd h src tag [w c])) s =
        ok 0x13 [] (((s.setCore c { s.core c with retired := false, marched := false }).unitChange 1 c).lossPart (c.val / 32))) ∧
      ((s.core c).retired = false → exec (.coreRejoin (cmd h src tag [w c])) s = no 0x13 0xC 0x7FFF) ∧
      ((s.core c).retired = true → exec (.marchRun (cmd h src tag [1, w c])) s =
        .next (s.startMarch { core := true, unit := c, preserving := false, waiter := some (h.val, src.map Fin.val, tag.val) }))) ∧
    (h.val = 0 → ∀ (b : Fin 512) (k : Fin 2), s.bankBusy b = false → s.bankOwner b = 8 → exec (.marchRun (cmd h src tag [0, w b, w k])) s =
      .next (s.startMarch { core := false, unit := b, preserving := decide (k = 1), waiter := some (h.val, src.map Fin.val, tag.val) }))

/-- R168, R169, R393, R394, R419 to R422: the commands that give out resources. HOUSE_GRANT replaces a House's grant, its ranges, layers and translation table;
BANK_HANDOVER moves a bank to its new owner and unit and holds it BUSY; PIPE_CREATE makes a pipeline that PIPE_DESTROY removes. -/
def Obligations.GrantBankAndPipelineCommands : Prop :=
  ∀ (s : State) (tag : Fin 65536) (lo hi : Word), Takes s 0 none →
    let w := fun k : Nat => BitVec.ofNat 32 k
    let a := lo.toNat + 2 ^ 32 * hi.toNat
    let ok := fun op t => Host.Outcome.next (done s 0 none tag op 0 0x7FFF [] t)
    let host := fun x n => s.hostRanges 0 [(x, n)] = .ok
    let g := grantOf (s.hostRead 0 a 64)
    let n := num (s.hostRead 0 g.xlate 64) 4 2
    let es := xlateEntries (s.hostRead 0 g.xlate (64 + 4 * n))
    (lo.toNat % 64 = 0 → hi.toNat < 2 ^ 16 → host a 64 → g.house < 8 → pickErr true (grantTests g.house (s.hostRead 0 a 64)) = none → g.xlate < 2 ^ 48 →
      host g.xlate 64 → pickErr true (xlateHeader (s.hostRead 0 g.xlate 64)) = none → host g.xlate (64 + 4 * n) →
      s.grantCheck g = none → s.xlateCheck g.house es = none →
      exec (.houseGrant (cmd 0 none tag [w g.house, lo, hi])) s = ok 0x04 (s.grantSet g es) ∧
        ((s.grantSet g es).grant g.house).given = true ∧ ((s.grantSet g es).grant g.house).outputs = g.outputs ∧
        ((s.grantSet g es).grant g.house).quota = g.quota ∧ ∀ k, k ≠ g.house → (s.grantSet g es).grant k = s.grant k) ∧
    (∀ (b : Fin 512) (o : Fin 9) (z : Fin 2), s.bankRetired b = false → s.bankBusy b = false → s.bankNamed b = false → s.bankShelf b = false →
      (o.val < 8 → s.bankOwner b ≠ o.val → (s.houseBanks o).length < s.quotaOf o) →
      ∃ t, exec (.bankHandover (cmd 0 none tag [w b, w (o.val + 512 * z.val)])) s = ok 0x05 t ∧ t.bankOwner b = o.val ∧ t.bankUnit b = 0 ∧
        t.bankBusy b = true ∧ bit (t.bankReg b) 9 = (decide (z = 1) || (decide (o.val ≠ 8) && decide (s.bankOwner b ≠ o.val))) ∧ t.lib = s.lib) ∧
    (∀ b : Fin 512, s.bankBusy b = true → s.bankRetired b = false →
      exec (.bankHandover (cmd 0 none tag [w b, 0])) s = .next (done s 0 none tag 0x05 5 8 [] s)) ∧
    (let b := s.hostRead 0 a 64
     let p := num b 0 1
     let co := s.hostRead 0 (num b 16 8) 1024
     lo.toNat % 64 = 0 → hi.toNat < 2 ^ 16 → host a 64 → pickErr true (pipeTests b) = none → (s.pipe p).valid = false → s.granted (num b 1 1) = true →
      s.hasInput (num b 1 1) (num b 2 1) = true → s.bankOk (num b 1 1) (num b 8 2) = true → s.bankOk (num b 1 1) (num b 10 2) = true →
      ((List.range 4).any (fun p => (s.pipe p).valid && decide ((s.pipe p).slots &&& num b 14 2 ≠ 0))) = false → num b 16 8 < 2 ^ 48 →
      host (num b 16 8) 1024 → coefOk co = true →
      exec (.pipeCreate (cmd 0 none tag [lo, hi])) s = ok 0x06 (s.pipeSet b co) ∧ ((s.pipeSet b co).pipe p).valid = true ∧
        ((s.pipeSet b co).pipe p).house = num b 1 1 ∧ ((s.pipeSet b co).pipe p).source = num b 2 1 ∧ ∀ q, q ≠ p → (s.pipeSet b co).pipe q = s.pipe q) ∧
    (∀ p : Fin 4, (s.pipe p).valid = true → (∀ m ∈ s.models, ∀ im ∈ m.images, ∀ e ∈ im.pipes, e.pipe ≠ p.val) →
      exec (.pipeDestroy (cmd 0 none tag [w p])) s = ok 0x07 (s.pipeClear p)) ∧
    (∀ p : Fin 4, (s.pipe p).valid = false → exec (.pipeDestroy (cmd 0 none tag [w p])) s = .next (done s 0 none tag 0x07 2 8 [] s))

/-- R238, R239, R317, R318, R392, R432: the commands on models: a package that passes its checks becomes a model with a handle that no other has;
MODEL_UNLOAD removes an idle model of the House; ADAPT_POLICY sets a policy, HW_STATUS writes the record of the homework in a bank of the House. -/
def Obligations.ModelAndHomeworkCommands : Prop :=
  ∀ (s : State) (h : Fin 8) (tag : Fin 65536) (lo hi n : Word), Takes s h none →
    let a := lo.toNat + 2 ^ 32 * hi.toNat
    let b := s.hostRead h a n.toNat
    let pk := Config.package (payloadOf b)
    let r := s.modelSet h (num b 5 1) (num b 8 4) pk
    (lo.toNat % 64 = 0 → hi.toNat < 2 ^ 16 → 256 ≤ n.toNat → s.hostRanges h [(a, n.toNat)] = .ok →
      (exec (.modelLoad (cmd h none tag [lo, hi, n])) s = match firstErr [s.signCheck h 2 b, s.packageCheck h pk] with
        | some e => .next (done s h none tag 0x08 e.status e.word [] s)
        | none => .next (done s h none tag 0x08 0 0x7FFF r.1 r.2)) ∧
      (s.models.length < 2 ^ 32 → ∀ m ∈ s.models, m.handle ≠ s.freshHandle.1)) ∧
    (∀ m, s.models.find? (fun x => decide (x.handle = n.toNat)) = some m → m.house = h.val → s.modelActive n.toNat = false →
      ∃ t, exec (.modelUnload (cmd h none tag [n])) s = .next (done s h none tag 0x09 0 0x7FFF [] t) ∧
        t.models = s.models.filter (fun x => decide (x.handle ≠ n.toNat)) ∧ { t with models := s.models, loaded := s.loaded, hw := s.hw } = s) ∧
    (∀ m, s.models.find? (fun x => decide (x.handle = n.toNat)) = some m → m.house ≠ h.val →
      exec (.modelUnload (cmd h none tag [n])) s = .next (done s h none tag 0x09 3 8 [] s)) ∧
    (let p := s.load .lib (lo.toNat % 2 ^ 27) 64
     let k := num p 0 4
     hi = 0x80000000 → lo.toNat < 2 ^ 27 → lo.toNat % 64 = 0 → s.banksOk h lo.toNat 64 = true → s.ecc = [] → pickErr true (policyTests p) = none →
      (∃ m, s.models.find? (fun x => decide (x.handle = k)) = some m ∧ m.house = h.val ∧ m.hw.isSome = true) → s.policyRing h p = false →
      exec (.adaptPolicy (cmd h none tag [lo, hi])) s = .next (done s h none tag 0x18 0 0x7FFF [] (s.setHw k ((s.hwOf k).setPolicy p)))) ∧
    (hi = 0x80000000 → lo.toNat < 2 ^ 27 → lo.toNat % 64 = 0 → s.banksOk h lo.toNat 64 = true → s.ecc = [] → s.modelCheck h n.toNat 2 = none →
      s.bankBusy (bankOf lo.toNat) = false →
      exec (.hwStatus (cmd h none tag [n, lo, hi])) s = .next (done s h none tag 0x1B 0 0x7FFF [] (s.store .lib lo.toNat (s.hwOf n.toNat).record)) ∧
        (s.hwOf n.toNat).record.length = 64)

/-- R335, R343, R392, R395: what a staging command puts in a commit slot. ROUTE_SET, MODE_SET, PORT_SET, CANVAS_SET, VLAYER_SET and PROTECT_SET that pass
their checks change their slot alone, a value staged again replaces the earlier one, and a slot that is armed, or another House's, ends them. -/
def Obligations.StagingCommandsFillTheirSlot : Prop :=
  ∀ (s : State) (h : Fin 8) (src : Option (Fin 16384)) (tag : Fin 65536) (i : Fin 256), Takes s h src →
    let w := fun k : Nat => BitVec.ofNat 32 k
    let c := s.slot i
    let put := fun op src c => Host.Outcome.next (done s h src tag op 0 0x7FFF [] (s.setSlot i c))
    let no := fun op st det => Host.Outcome.next (done s h src tag op st det [] s)
    (s.slotOf h i = true → c.armed = none →
      (∀ (p : Fin 4) (k : Fin 3), s.ownsPipe h p = true → s.hasInput h k = true →
        exec (.routeSet (cmd h src tag [w i, w (p.val + 256 * k.val)])) s = put 0x0A src { c with route := stage c.route p k }) ∧
      (∀ (p : Fin 4) (k : Fin 3), s.ownsPipe h p = false → exec (.routeSet (cmd h src tag [w i, w (p.val + 256 * k.val)])) s = no 0x0A 3 12) ∧
      (∀ (p : Fin 4) (k : Fin 3), s.ownsPipe h p = true → s.hasInput h k = false →
        exec (.routeSet (cmd h src tag [w i, w (p.val + 256 * k.val)])) s = no 0x0A 6 12) ∧
      (h.val = 0 → src = none → ∀ (lo hi : Word) (n : Fin 8), lo.toNat % 64 = 0 → hi.toNat < 2 ^ 16 →
        let a := lo.toNat + 2 ^ 32 * hi.toNat
        let ws := blockWords (s.hostRead h a 64)
        s.hostRanges h [(a, 64)] = .ok →
        (pickErr true (modeTests ws ++ gradeTests s.fuses ((s.view c 0).groupPorts n).length ws) = none →
          exec (.modeSet (cmd h src tag [w i, w n, lo, hi])) s = put 0x0C src { c with mode := stage c.mode n ws }) ∧
        (pickErr true (portTests n ((s.view c 0).vactive (fld (blockWord ws 0) 12 10)) ws) = none →
          exec (.portSet (cmd h src tag [w i, w n, lo, hi])) s = put 0x0D src { c with port := stage c.port n ws }) ∧
        (pickErr true (canvasTests ws) = none →
          exec (.canvasSet (cmd h src tag [w i, w n, lo, hi])) s = put 0x0E src { c with canvas := stage c.canvas n ws }) ∧
        (pickErr true (vlayerTests ws) = none → n.val < 4 →
          exec (.vlayerSet (cmd h src tag [w i, w n, lo, hi])) s = put 0x0F src { c with vlayer := stage c.vlayer n ws }) ∧
        (∀ x y : Fin 65536,
          let b := s.hostRead h a (256 + num (s.hostRead h a 256) 16 4)
          let t := templateOf (payloadOf b)
          s.hostRanges h [(a, 256)] = .ok → s.hostRanges h [(a, 256 + num (s.hostRead h a 256) 16 4)] = .ok →
          exec (.protectSet (cmd h src tag [w i, w n, lo, hi, w (x.val + 65536 * y.val)])) s = match s.signCheck h 3 b with
            | some e => no 0x10 e.status e.word
            | none =>
              if t.rep ∈ [1, 2, 4, 8] ∧ t.w ≤ 4096 ∧ t.h ≤ 1024 ∧ (s.view c 0).templateBad n t x y = false then
                put 0x10 src { c with protect := stage c.protect n (t, x.val, y.val) }
              else no 0x10 8 0x7FFF))) ∧
    (s.slotOf h i = true → c.armed ≠ none → ∀ (p : Fin 4) (k : Fin 3), exec (.routeSet (cmd h src tag [w i, w (p.val + 256 * k.val)])) s = no 0x0A 6 8) ∧
    (s.slotOf h i = false → ∀ (p : Fin 4) (k : Fin 3), exec (.routeSet (cmd h src tag [w i, w (p.val + 256 * k.val)])) s = no 0x0A 3 8) ∧
    (∀ c, (s.setSlot i c).slot i = c ∧ ∀ j, j ≠ i.val → (s.setSlot i c).slot j = s.slot j) ∧
    ∀ (xs : List (Nat × List Word)) (n : Nat) (v : List Word), (n, v) ∈ stage xs n v ∧ ∀ x ∈ stage xs n v, x.1 = n → x.2 = v

/-- R335, R336, R340, R396: COMMIT accepts its set, returns the sequence number, the rasters and frame T, and empties the slot; its parts wait for the
first boundary at least two lines ahead. COMMIT_BELL arms the slot, COMMIT_CUT accepts both sets of a cut, COMMIT_CLEAR empties the slot; a set that
fails a check stays as it is. -/
def Obligations.CommitsAcceptArmAndClear : Prop :=
  ∀ (s : State) (h : Fin 8) (src : Option (Fin 16384)) (tag : Fin 65536) (i j gl : Fin 256) (mask : Fin 16), Takes s h src → s.slotOf h i = true →
    (∀ g ∈ maskList gl, s.ownsLayer h g = true) →
    let w := fun k : Nat => BitVec.ofNat 32 k
    let ok := fun res t => Host.Outcome.next (done s h src tag 0x0B 0 0x7FFF res t)
    let no := fun (e : CmdErr) => Host.Outcome.next (done s h src tag 0x0B e.status e.word [] s)
    let seq := (s.service.commitSeq + 1) % 65536
    let frameT := fun (p : CommitPlan) => match p.swap with
      | some (_, _, t) => t
      | none => 0
    let results := fun (p : CommitPlan) => [seq, (p.rasters.map (2 ^ ·)).sum, frameT p % 2 ^ 32, frameT p / 2 ^ 32 % 2 ^ 32]
    let mine := ∀ p < 4, Nat.testBit mask.val p = true → s.ownsPipe h p = true
    (∀ p, s.checkCommit h (s.slot i) gl true = .ok p → let t := (s.accept h i (s.slot i) gl p).quietSinks
      exec (.commit (cmd h src tag [w i, 0, w gl])) s = ok (results p) t ∧ t.slot i = {} ∧ t.service.commitSeq = seq ∧
      exec (.commitBell (cmd h src tag [w i, 0, w gl])) s =
        ok [] (s.setSlot i { s.slot i with armed := some { house := h, gl := gl, cut := none } }) ∧
      (p.swap = none → p.rasters ≠ [] → (∀ r ∈ p.rasters, s.rasterOn r = true) → ∃ a, t.accepted = s.accepted ++ [a] ∧ a.seq = seq ∧
        a.due = p.rasters.map (fun r => (r, (s.raster r).frame.toNat + if (s.raster r).line + 2 ≤ s.vactive r then 1 else 2)))) ∧
    (∀ e, s.checkCommit h (s.slot i) gl true = .error e → exec (.commit (cmd h src tag [w i, 0, w gl])) s = no e ∧
      exec (.commitBell (cmd h src tag [w i, 0, w gl])) s = no e) ∧
    (mine → s.slotOf h j = true → ∀ p, s.checkCut h (s.slot i) mask (s.slot j) gl = .ok p →
      let t := (s.acceptCut h i j (s.slot i) (s.slot j) gl p).quietSinks
      exec (.commitCut (cmd h src tag [w i, 0, w gl, w mask, w j])) s = ok (results p) t ∧ t.slot i = {} ∧ t.slot j = {} ∧
      exec (.commitBell (cmd h src tag [w i, 2, w gl, w mask, w j])) s =
        ok [] (s.setSlot i { s.slot i with armed := some { house := h, gl := gl, cut := some (mask.val, j.val) } })) ∧
    (mine → s.slotOf h j = true → ∀ e, s.checkCut h (s.slot i) mask (s.slot j) gl = .error e →
      exec (.commitCut (cmd h src tag [w i, 0, w gl, w mask, w j])) s = no e) ∧
    exec (.commitClear (cmd h src tag [w i])) s = ok [] (s.setSlot i {})

/-- R392, R434, R437, R438, R442, R468: FW_STAGE writes the area that does not run, FW_SWAP asks for the swap once an image is staged, DEBUG_SET opens and closes
the debug state of a House as its lifecycle allows.
R385, R389, R397, R398: in the slot of its House the Dean takes a NOP from the mailbox and writes its completion there; the slot of a
House that asks for nothing changes nothing. -/
def Obligations.FirmwareDebugAndDeanSlots : Prop :=
  (∀ (s : State) (h : Fin 8) (tag : Fin 65536) (lo hi n : Word), Takes s h none →
     let a := lo.toNat + 2 ^ 32 * hi.toNat
     let b := s.hostRead h a n.toNat
     let v := Config.imageVersion (payloadOf b) % 65536
     let ok := fun op res t => Host.Outcome.next (done s h none tag op 0 0x7FFF res t)
     let no := fun op st det => Host.Outcome.next (done s h none tag op st det [] s)
     let stage := exec (.fwStage (cmd h none tag [lo, hi, n])) s
     let set := fun k : Word => exec (.debugSet (cmd h none tag [k])) s
     (h.val = 0 → lo.toNat % 64 = 0 → hi.toNat < 2 ^ 16 → 256 ≤ n.toNat → s.service.swap = .none → s.hostRanges h [(a, n.toNat)] = .ok →
       stage = match s.signCheck h 1 b with
         | some e => no 0x15 e.status e.word
         | none => if s.service.runB then ok 0x15 [v] { s with service := { s.service with verA := v, svnA := num b 8 4, staged := true } }
           else ok 0x15 [v] { s with service := { s.service with verB := v, svnB := num b 8 4, staged := true } }) ∧
     (h.val = 0 → s.service.staged = true → exec (.fwSwap (cmd h none tag [])) s =
       .next { s with service := { s.service with swap := .pending, swapWaiter := some (none, tag.val) } }) ∧
     (h.val = 0 → s.service.staged = false → exec (.fwSwap (cmd h none tag [])) s = no 0x16 0xC 0x7FFF) ∧
     (s.openDevice = false → s.fuses.life = 1 ∨ ((s.fuses.life = 2 ∨ s.fuses.life = 3) ∧ (h.val = 0 ∨ s.service.permit = true)) →
       set 1 = ok 0x17 [] { s with scopedHouses := putBit s.scopedHouses h true }) ∧
     (s.openDevice = false → s.fuses.life = 2 ∨ s.fuses.life = 3 → h.val ≠ 0 → s.service.permit = false → set 1 = no 0x17 0xC 0x7FFF) ∧
     (s.openDevice = false → h.val ≠ 0 → set 0 = ok 0x17 [] (s.closeDebug h) ∧ set 2 = no 0x17 3 8 ∧ set 3 = no 0x17 3 8) ∧
     (s.openDevice = false → h.val = 0 → set 3 = ok 0x17 [] { s with service := { s.service with permit := true } }) ∧
     (s.openDevice = false → h.val = 0 → s.fuses.life = 1 ∨ s.fuses.life = 4 → ∃ t, set 2 = ok 0x17 [] t ∧ t.deviceOpen = true ∧
       t.fuses.keygen = min 15 (s.fuses.keygen + 1) ∧ t.service.hdcpKeys = false) ∧
     (s.openDevice = false → h.val = 0 → s.fuses.life = 2 ∨ s.fuses.life = 3 → set 2 = no 0x17 0xC 0x7FFF) ∧
     (s.openDevice = true → set 0 = no 0x17 0xC 0x7FFF)) ∧
  (∀ (s : State) (h : Fin 8) (n : Nat) (tag : Fin 65536), Takes s h none → s.completions = [] → s.service.journalPend = 0 → s.service.swap = .none →
     s.service.rescue = false → bit (s.rd (Reg.own h Reg.MBX_IRQ)) 6 = false → s.turnQueues h = [] →
     (s.mbxBusy h = true → n ≠ 0 → s.rd (Reg.own h (Reg.MBX_CMDn 0)) = BitVec.ofNat 32 (0x01 + 65536 * tag.val) →
       (∀ i < 16, i ≠ 0 → s.rd (Reg.own h (Reg.MBX_CMDn i)) = 0) →
       ∃ t, exec (.deanSlot h n) s = .next t ∧ t.rdF (Reg.own h Reg.MBX_STATUS) 1 0 = 2 ∧
         t.rd (Reg.own h (Reg.MBX_RSPn 0)) = BitVec.ofNat 32 (0x01 + 65536 * tag.val) ∧ t.rd (Reg.own h (Reg.MBX_RSPn 1)) = 0x7FFF ∧
         (∀ i < 16, 2 ≤ i → t.rd (Reg.own h (Reg.MBX_RSPn i)) = 0) ∧ { t with regs := s.regs } = s) ∧
     (s.mbxBusy h = false → exec (.deanSlot h n) s = .next s))

/-- R43, R44, R46: a bell row acts once, for an entry that its raster is dispatching with the action code of the row; else nothing happens. NOP has no effect;
HOST_EVT posts to a queue of its House; a COMMIT bell takes the slot that its House armed, and leaves an empty one alone; DMA_START queues a chain on an
engine of the House, or counts a drop where four starts wait. -/
def Obligations.BellsActOnce : Prop :=
  ∀ (s : State) (r : Fin 8) (e : Fin 4096), Up s →
    let due := fun k : Nat => (s.raster r).due.find? (fun d => decide (d.entry = e.val) && decide (fld d.bell.w1 3 0 = k))
    let rows : List (Nat × Instr) := [(0, .bellNop r e), (1, .progStart r e), (2, .dmaStart r e), (3, .bellCommit r e), (4, .warn r e), (5, .late r e),
      (6, .hostEvt r e), (7, .wake r e)]
    (∀ x ∈ rows, due x.1 = none → exec x.2 s = .next s) ∧
    ∀ (h : Nat) (d : DueBell), s.bellHouse e = some h →
      let u := s.setRaster r { s.raster r with due := (s.raster r).due.erase d }
      (due 0 = some d → exec (.bellNop r e) s = .next u) ∧
      (due 6 = some d → s.queueHouse (fld d.bell.w2 13 0) = some h →
        exec (.hostEvt r e) s = .next (u.postTo h (fld d.bell.w2 13 0) 0x10 0 (some r.val) [d.bell.w3.toNat, d.entry])) ∧
      (due 6 = some d → s.queueHouse (fld d.bell.w2 13 0) ≠ some h → exec (.hostEvt r e) s = .next u) ∧
      (due 3 = some d → (s.slot (fld d.bell.w2 7 0)).armed = none → exec (.bellCommit r e) s = .next u) ∧
      (∀ a p, due 3 = some d → (s.slot (fld d.bell.w2 7 0)).armed = some a → a.house = h → a.cut = none → s.slotOf h (fld d.bell.w2 7 0) = true →
        u.checkCommit h (u.slot (fld d.bell.w2 7 0)) a.gl true = .ok p →
        exec (.bellCommit r e) s = .next (u.accept h (fld d.bell.w2 7 0) (u.slot (fld d.bell.w2 7 0)) a.gl p)) ∧
      (let n := fld d.bell.w2 6 0
       let g := if n < 64 then n else 64 + 8 * (n - 64) + h
       due 2 = some d → (n < 64 ∧ Nat.testBit (s.grant h).forms (n / 2) = true) ∨ (64 ≤ n ∧ n < 68) → ∃ t, exec (.dmaStart r e) s = .next t ∧
        ((s.eng g).starts.length < 4 → (t.eng g).starts = (s.eng g).starts ++ [{ addr := d.bell.w3.toNat, house := h }]) ∧
        (4 ≤ (s.eng g).starts.length → t.eng g = s.eng g ∧ t.rdF (Reg.DMA_En_STATUS g) 8 8 = 1 ∧
          t.rd (Reg.DMA_En_DROPCNT g) = bumpErr (s.rd (Reg.DMA_En_DROPCNT g))))

/-- R61, R91: what PROG_START and WAKE bells do to cores. PROG_START starts the live cores of the named forms that belong to its House at the entry, with
their band and pipeline in g1 and g2; WAKE ends a BWAIT for its tag, or is latched; no other core is touched.
R275, R276, R278: a WARN bell calls for a job only where the band is not complete; a LATE bell selects NEURAL for a band that is complete in time, SUB for
one whose job is READY and VOID otherwise, and counts the two latter. -/
def Obligations.BellsWakeWarnAndCatchLateCores : Prop :=
  (∀ (s : State) (r : Fin 8) (e : Fin 4096) (h : Nat) (d : DueBell), Up s → s.bellHouse e = some h →
     let due := fun k : Nat => (s.raster r).due.find? (fun d => decide (d.entry = e.val) && decide (fld d.bell.w1 3 0 = k))
     let named := fun c : Nat => bit d.bell.w2 (c / 32) && Nat.testBit (s.grant h).forms (c / 32) && s.coreLive c && decide ((s.core c).house = h)
     (due 1 = some d → (∀ a ∈ s.accepted, a.swap = none) → (s.pipe d.pipe).valid = true → (s.pipe d.pipe).house = h →
       ∃ t, exec (.progStart r e) s = .next t ∧ ∀ c, c < 1024 →
         (named c = true → (t.core c).pc = fld d.bell.w3 12 0 ∧ (t.core c).idle = false ∧ (t.core c).stopped = false ∧ (t.core c).waits = [] ∧
           (t.core c).G 1 = BitVec.ofNat 32 d.argC ∧ (t.core c).G 2 = BitVec.ofNat 32 d.pipe ∧ (∀ i, 3 ≤ i → (t.core c).G i = 0)) ∧
         (named c = false → t.core c = s.core c)) ∧
     (due 7 = some d → ∃ t, exec (.wake r e) s = .next t ∧ ∀ c, c < 1024 →
       (named c = true → (s.core c).waits.contains (.bell d.argC) = true →
         t.core c = { s.core c with waits := (s.core c).waits.filter (fun w => decide (w ≠ .bell d.argC)) }) ∧
       (named c = true → (s.core c).waits.contains (.bell d.argC) = false → (s.core c).latches.length < 8 →
         t.core c = { s.core c with latches := (s.core c).latches ++ [d.argC] }) ∧
       (named c = true → (s.core c).waits.contains (.bell d.argC) = false → 8 ≤ (s.core c).latches.length →
         t.core c = { s.core c with latches := (s.core c).latches.tail ++ [d.argC] }) ∧
       (named c = false → t.core c = s.core c))) ∧
  (∀ (s : State) (r : Fin 8) (e : Fin 4096) (h : Nat) (d : DueBell), Up s → s.bellHouse e = some h →
     let due := fun k : Nat => (s.raster r).due.find? (fun d => decide (d.entry = e.val) && decide (fld d.bell.w1 3 0 = k))
     let u := s.setRaster r { s.raster r with due := (s.raster r).due.erase d }
     let p := d.pipe
     let q := s.bandRec p d.argC
     (s.pipe p).valid = true → (s.pipe p).house = h →
     (due 4 = some d → q.tframe = d.target32 → q.nstate = .complete → exec (.warn r e) s = .next u) ∧
     (due 4 = some d → q.tframe = d.target32 → q.nstate ≠ .complete → exec (.warn r e) s = .next (u.callJob p d.argC d.target32)) ∧
     (due 5 = some d → (s.pipe p).cut = none → ∃ t, exec (.late r e) s = .next t ∧
       (q.tframe = d.target32 → q.tier < 3 → q.nstate = .complete →
         (t.bandRec p d.argC).sel = .neural ∧ t.rd (Reg.DLN_Pp_LATE p) = s.rd (Reg.DLN_Pp_LATE p) ∧ t.rd (Reg.DLN_Pp_VOID p) = s.rd (Reg.DLN_Pp_VOID p)) ∧
       (q.tframe = d.target32 → q.nstate ≠ .complete → q.sstate = .ready →
         (t.bandRec p d.argC).sel = .sub ∧ t.rd (Reg.DLN_Pp_LATE p) = bumpErr (s.rd (Reg.DLN_Pp_LATE p)) ∧
         t.rd (Reg.DLN_Pp_VOID p) = s.rd (Reg.DLN_Pp_VOID p)) ∧
       (q.tframe = d.target32 → q.nstate ≠ .complete → q.sstate ≠ .ready →
         (t.bandRec p d.argC).sel = .void ∧ t.rd (Reg.DLN_Pp_LATE p) = bumpErr (s.rd (Reg.DLN_Pp_LATE p)) ∧
         t.rd (Reg.DLN_Pp_VOID p) = bumpErr (s.rd (Reg.DLN_Pp_VOID p)))))

/-- R48, R336, R424: BELL_SWAP_COMPLETE turns the banks once frame T has begun; COMMIT_APPLY applies the parts whose boundary has come and none before;
HANDOFF gives every core of its forms to its House, stopped and empty. -/
def Obligations.SwapsPartsAndHandoffsHappenInTime : Prop :=
  ∀ s : State, Up s →
    (∀ (r h : Nat), s.swap = some (r, h) → s.rasterOn r = true → s.swapT ≤ (s.raster r).frame.toNat → ∃ t, exec .bellSwapComplete s = .next t ∧
      t.swap = none ∧ t.bellBank = 1 - s.bellBank ∧ t.rdF Reg.RAS_BELLSTAT 2 2 = 0 ∧ { t with regs := s.regs, swap := s.swap } = s) ∧
    (∀ (r h : Nat), s.swap = some (r, h) → (s.raster r).frame.toNat < s.swapT → exec .bellSwapComplete s = .next s) ∧
    (s.swap = none → exec .bellSwapComplete s = .next s) ∧
    (∀ r : Fin 8, exec (.commitApply r) s = .next (((s.accepted.filter (fun a => a.due.any (fun d => decide (d.1 = r.val) && decide (d.2 ≤ s.atBoundary r)))).foldl
      (fun u a => u.applyPart a r) s).quietSinks)) ∧
    (∀ i : Fin 64,
      let x := s.handoff i
      let q := s.raster (fld x.w0 18 16)
      (x.forms = 0 ∨ bellFires x.w0 (fld x.w0 18 16) q.frame.toNat q.line = false → exec (.handoff i) s = .next s) ∧
      (x.forms ≠ 0 → s.rasterOn (fld x.w0 18 16) = true → bellFires x.w0 (fld x.w0 18 16) q.frame.toNat q.line = true →
        ∃ t, exec (.handoff i) s = .next t ∧ (∀ c, c < 1024 → bit x.forms (c / 32) = true → x.house < 8 → (t.core c).house = x.house ∧ (t.core c).idle = true ∧
          (t.core c).latches = [] ∧ (t.core c).waits = [] ∧ (t.core c).g = [] ∧ (t.core c).m0.queue = []) ∧
        ∀ e, e < 64 → bit x.forms (e / 2) = true → (t.eng e).starts = [] ∧ (t.eng e).phase = .idle))

/-- R192, R194 to R200: a descriptor row acts on an engine that has a descriptor of its KIND in hand: the checks of Table 7.4 come first; NOP moves nothing, the
others move row by row; one row of a COPY or a FILL into the Library puts its source bytes, or its pattern, at its destination and nowhere else. -/
def Obligations.DescriptorsMoveTheirRows : Prop :=
  ∀ (s : State) (e : Fin 96) (bus : Option (Fin 65536 × Fin 65536)), Up s →
    let x := s.eng e
    let d := descOf x.bytes
    let b := bus.map (fun b => (b.1.val, b.2.val))
    let u := s.setEng e { x with begun := true, f0 := s.rd (Reg.RAS_INs_FRAME d.gtrk) }
    let rows : List (Nat × Instr) := [(0, .descNop e bus), (1, .copy e bus), (2, .skew e bus), (3, .fill e bus), (4, .descPref e bus)]
    (∀ r ∈ rows,
      (x.phase ≠ .ready ∨ d.kind ≠ r.1 → exec r.2 s = .next s) ∧
      (x.phase = .ready → d.kind = r.1 → x.begun = false → ∀ f, s.descCheck e x = some f → exec r.2 s = .next (s.dmaFault e f.1 f.2)) ∧
      (x.phase = .ready → d.kind = r.1 → x.begun = false → s.descCheck e x = none → r.1 ≠ 0 → exec r.2 s = .next (u.moveRows e d b (d.height + 1))) ∧
      (x.phase = .ready → d.kind = r.1 → x.begun = true → exec r.2 s = .next (s.moveRows e d b (d.height + 1)))) ∧
    (x.phase = .ready → d.kind = 0 → x.begun = false → s.descCheck e x = none →
      exec (.descNop e bus) s = .next (s.setEng e { u.eng e with phase := .moved })) ∧
    (x.phase = .ready → x.begun = false → x.row = 0 → x.byte = 0 → x.temp = [] → s.descCheck e x = none → d.height = 1 → 0 < d.width → d.rot = 0 →
      d.mirror = false → d.gate = false → d.dspace = 0 → s.bankBusy (bankOf d.daddr) = false → u.rowFail e (u.eng e) d b = none →
      s.rd64 (Reg.DMA_En_BYTES_LO e) (Reg.DMA_En_BYTES_HI e) + d.width < 2 ^ 48 →
      (d.kind = 1 → ∃ t, exec (.copy e bus) s = .next t ∧ (t.eng e).phase = .moved ∧
        (∀ k, k < d.width → memRead t.lib (d.daddr + k) = s.locByte x.house (srcLoc e d) (d.saddr + k)) ∧
        ∀ a, a < d.daddr ∨ d.daddr + d.width ≤ a → memRead t.lib a = memRead s.lib a) ∧
      (d.kind = 3 → ∃ t, exec (.fill e bus) s = .next t ∧ (t.eng e).phase = .moved ∧
        (∀ k, k < d.width → memRead t.lib (d.daddr + k) = BitVec.ofNat 8 (d.pat / 256 ^ (k % 4))) ∧
        ∀ a, a < d.daddr ∨ d.daddr + d.width ≤ a → memRead t.lib a = memRead s.lib a))

/-- R190, R191, R201 to R204, R372: a chain starts where the engine has none and reads its first descriptor; a descriptor that is complete ends its chain or leads to
the next; an abort ends the chain with cause 0x0A, for the House of the window alone; a page response lets halted contexts go on or ends them; the
host's tables say what it last said. -/
def Obligations.ChainsStartEndAndAbort : Prop :=
  ∀ (s : State) (e : Fin 96), Up s →
    let x := s.eng e
    let d := descOf x.bytes
    (x.phase ≠ .idle ∨ x.starts = [] → exec (.dmaChainStart e) s = .next s) ∧
    (∀ st rest, x.phase = .idle → x.starts = st :: rest → st.addr % 64 = 0 → s.banksOk st.house st.addr 64 = true → s.ecc = [] →
      (descOf (s.load .lib st.addr 64)).kind ≤ 4 → ∃ t, exec (.dmaChainStart e) s = .next t ∧ (t.eng e).phase = .ready ∧ (t.eng e).starts = rest ∧
        (t.eng e).house = st.house ∧ (t.eng e).bytes = s.load .lib st.addr 64 ∧ t.rdF (Reg.DMA_En_STATUS e) 2 0 = 1 ∧
        t.rd (Reg.DMA_En_DESC e) = BitVec.ofNat 32 st.addr ∧ { t with regs := s.regs, engines := s.engines } = s) ∧
    (x.phase ≠ .moved → exec (.descriptorComplete e) s = .next s) ∧
    (x.phase = .moved → x.waiter = none → d.hsig = false → d.evt = false → d.chain = false → ∃ t, exec (.descriptorComplete e) s = .next t ∧
      t.eng e = { starts := x.starts } ∧ t.rdF (Reg.DMA_En_STATUS e) 2 0 = 0 ∧ { t with regs := s.regs, engines := s.engines } = s) ∧
    (x.phase = .moved → x.waiter = none → d.hsig = false → d.evt = false → d.chain = true →
      exec (.descriptorComplete e) s = .next (s.readDesc e d.next)) ∧
    (x.phase = .moved → d.hsig = true → s.passHouse d.hpass ≠ some x.house → exec (.descriptorComplete e) s = .next (s.dmaFault e 0x0B 0)) ∧
    (x.phase ≠ .idle → ∃ t, exec (.abort_ none e) s = .next t ∧ t.eng e = { starts := x.starts } ∧ t.rdF (Reg.DMA_En_STATUS e) 2 0 = 4 ∧
      t.rdF (Reg.DMA_En_STATUS e) 23 16 = 0x0A) ∧
    (∀ fn : Fin 8, s.dmaHouse e ≠ fn.val → exec (.abort_ (some fn) e) s = .next s) ∧
    (∀ fn : Fin 8, s.dmaHouse e = fn.val → exec (.abort_ (some fn) e) s = exec (.abort_ none e) s) ∧
    (∀ (fn : Fin 8) (a : Nat) (ok : Bool), ∃ t, exec (.priResponse fn a ok) s = .next t ∧ (ok = true → t.page fn a = 0) ∧
      ∀ i, i < 4 →
        let g := 64 + 8 * i + fn.val
        let hit : Prop := (s.eng g).phase = .halted ∧ (s.eng g).page = a / 4096 * 4096
        (hit → ok = true → t.eng g = { s.eng g with phase := .ready } ∧ t.rdF (Reg.DMA_En_STATUS g) 2 0 = 1) ∧
        (hit → ok = false → t.eng g = { starts := (s.eng g).starts } ∧ t.rdF (Reg.DMA_En_STATUS g) 2 0 = 4 ∧ t.rdF (Reg.DMA_En_STATUS g) 23 16 = 7) ∧
        (¬ hit → t.eng g = s.eng g)) ∧
    (∀ (fn : Fin 8) (a : Nat) (v : Fin 3), exec (.atsInvalidation fn a v) s = .next (s.setPage fn a v) ∧ (s.setPage fn a v).page fn a = v.val ∧
      ∀ b, b / 4096 ≠ a / 4096 → (s.setPage fn a v).page fn b = s.page fn b)

/-- R25, R39, R50, R52, R54: at the end of a line period the next line starts, line 0 with the frame counter one higher; a held line stays the same line and counts in
RASn_STRETCH; a raster that does not run, or relocks, has no lines; RELOCK_COMPLETE ends the relock at STRETCH_LINE. -/
def Obligations.LinesFollowLines : Prop :=
  ∀ (s : State) (r : Fin 8), Up s →
    let x := s.raster r
    let status := s.rd (Reg.RASn_STATUS r)
    (s.rasterOn r = false ∨ bit status 6 = true → exec (.lineStart r) s = .next s) ∧
    (s.rasterOn r = true → bit status 6 = false → x.hold = none → ∃ t, exec (.lineStart r) s = .next t ∧
      (x.line + 1 < s.vtotal r → (t.raster r).line = x.line + 1 ∧ (t.raster r).frame = x.frame) ∧
      (s.vtotal r ≤ x.line + 1 → (t.raster r).line = 0 ∧ (t.raster r).frame = x.frame + 1)) ∧
    (s.rasterOn r = true → bit status 6 = false → x.hold = some .te → s.held r < s.holdRoom r →
      exec (.lineStart r) s = .next (s.wr (Reg.RASn_STRETCH r) (BitVec.ofNat 32 (s.held r + 1)))) ∧
    (s.rasterOn r = true → bit status 6 = false → x.hold = some .te → s.holdRoom r ≤ s.held r →
      ∃ t, exec (.lineStart r) s = .next t ∧ (t.raster r).line = s.stretchLine r + 1 ∧ (t.raster r).hold = none) ∧
    (bit status 6 = false → exec (.relockComplete r) s = .next s) ∧
    (bit status 6 = true → ∃ t, exec (.relockComplete r) s = .next t ∧ t.rdF (Reg.RASn_STATUS r) 7 6 = 0 ∧
      t.raster r = { x with line := s.stretchLine r, hold := none } ∧ ∀ q, q ≠ r.val → t.raster q = s.raster q)

/-- R31, R32, R39, R50 to R52: what a lock reference does. An instant inside TRACK_WIN is tracked and locks, one outside is a jump that counts; two missing ones are
holdover; a TE edge becomes pending or ends the hold that waits for it; holds end at VTOTAL_MAX with the flags of their kind. -/
def Obligations.ReferencesTrackJumpAndHold : Prop :=
  ∀ (s : State) (r : Fin 8), Up s →
    let x := s.raster r
    let flag := fun (t : State) i => bit (t.rd (Reg.RASn_STATUS r)) i
    let ended := s.holdRoom r ≤ s.held r
    (∀ delta : Int,
      let e := reduceErr (s.rdF (Reg.RASn_RATIO r) 3 0 * s.vtotal r * s.htotal r) delta
      let win := s.rdF (Reg.RASn_PHASE r) 23 16 * s.htotal r
      s.rasterOn r = true → s.slews r = true → x.refCount % max 1 (s.rdF (Reg.RASn_RATIO r) 7 4) = 0 → ∃ t, exec (.referenceInstant r delta) s = .next t ∧
        flag t 1 = false ∧ (t.raster r).refCount = x.refCount + 1 ∧
        (flag s 1 = false → e.natAbs ≤ win → flag t 0 = true ∧ (t.raster r).err = x.err + e ∧ t.rd (Reg.RASn_ERRCNT r) = s.rd (Reg.RASn_ERRCNT r)) ∧
        (flag s 1 = true ∨ win < e.natAbs → flag t 0 = false ∧ flag t 2 = true ∧
          t.rd (Reg.RASn_ERRCNT r) = bumpErr (s.rd (Reg.RASn_ERRCNT r)))) ∧
    (s.rasterOn r = true → s.slews r = true → ∃ t, exec (.holdover r) s = .next t ∧ flag t 1 = true ∧ flag t 0 = false ∧ { t with regs := s.regs } = s) ∧
    (s.rasterOn r = false ∨ s.slews r = false → exec (.holdover r) s = .next s) ∧
    (∀ n, x.hold = some (.slip n) → ended → exec (.slipHoldLimit r) s = .next (s.setRaster r { x with hold := none, err := x.err + n })) ∧
    (x.hold = some .te → ended → ∃ t, exec (.teMiss r) s = .next t ∧ flag t 4 = true ∧ t.raster r = { x with hold := none }) ∧
    (x.hold = some .vrr → ended → ∃ t, exec (.vrrTimeout r) s = .next t ∧ flag t 0 = false ∧ t.raster r = { x with hold := none, vrrMiss := x.vrrMiss + 1 } ∧
      (1 ≤ x.vrrMiss → flag t 1 = true)) ∧
    (x.hold = none ∨ s.held r < s.holdRoom r →
      exec (.slipHoldLimit r) s = .next s ∧ exec (.teMiss r) s = .next s ∧ exec (.vrrTimeout r) s = .next s) ∧
    (∀ (pin : Fin 2) (falling : Bool), ∃ t, exec (.teEdge pin falling) s = .next t ∧
      let c := s.rd (Reg.RASn_CTRL r)
      let hit : Prop := s.rasterOn r = true ∧ s.lockSel r = 3 ∧ bit c 14 = falling ∧ (fld c 13 12 = pin.val ∨ fld c 13 12 = 2)
      (¬ hit → t.raster r = s.raster r) ∧
      (hit → x.hold ≠ some .te → t.raster r = if pin = 0 then { x with te0 := true } else { x with te1 := true }) ∧
      (hit → x.hold = some .te → fld c 13 12 ≠ 2 → (t.raster r).hold = none ∧ (pin = 0 → (t.raster r).te0 = false) ∧ (pin = 1 → (t.raster r).te1 = false)))

/-- R56, R345, R346: FRAME_DONE compares the region's CRC at each port of the group, raises the alarm where it differs, and fires the event of the group; the Proctor
answers an alarm with FORCED, and a second one with FILL. -/
def Obligations.TheProtectedRegionIsWatched : Prop :=
  ∀ (s : State) (r : Fin 8) (ups : List (Fin 8 × Nat)), Up s →
    let q := s.protect r
    let upset := fun p : Nat => (((ups.map (fun u => (u.1.val, u.2))).find? (fun u => decide (u.1 = p))).map (·.2)).getD 0
    (s.rasterOn r = false ∨ (s.raster r).line < s.vactive r → exec (.frameDone r ups) s = .next s) ∧
    (s.rasterOn r = true → s.vactive r ≤ (s.raster r).line → q.tmpl = none → exec (.frameDone r ups) s = .next (s.compat r 2)) ∧
    (s.rasterOn r = true → s.vactive r ≤ (s.raster r).line → q.tmpl ≠ none →
      exec (.frameDone r ups) s = .next (((s.groupPorts r).foldl (fun s p => s.regionDone r p (upset p)) s).compat r 2)) ∧
    (∀ p u : Nat, p < 8 →
      let crc := BitVec.ofNat 32 (s.regionCrc p q.fill ^^^ u)
      let t := s.regionDone r p u
      (crc = s.rd (Reg.SCOn_PEXP p) → t = s.wr (Reg.SCOn_PCRC p) crc) ∧
      (crc ≠ s.rd (Reg.SCOn_PEXP p) → t.rd (Reg.SCOn_PCRC p) = crc ∧ t.rd (Reg.SCOn_PMIS p) = bumpErr (s.rd (Reg.SCOn_PMIS p)) ∧
        t.rdF (Reg.CMP_PRr_STAT r) 3 3 = 1 ∧ (t.protect r).due = true)) ∧
    (q.due = false → exec (.protectRewrite r) s = .next s) ∧
    (q.due = true → ∃ t, exec (.protectRewrite r) s = .next t ∧ t.protect r = { q with due := false } ∧
      (bit (s.rd (Reg.CMP_PRr_STAT r)) 1 = false → t.rdF (Reg.CMP_PRr_STAT r) 1 1 = 1) ∧
      (bit (s.rd (Reg.CMP_PRr_STAT r)) 1 = true → t.rdF (Reg.CMP_PRr_STAT r) 2 2 = 1))

/-- R350, R366 to R368: what happens at a port: an underrun fills the rest of the line with the background and counts, a lost link stops the port until it is trained
again, HDCP is lost and won, and self refresh is entered, updated and left. -/
def Obligations.PortsLoseAndRegainTheirLinks : Prop :=
  ∀ (s : State) (n : Fin 8), Up s →
    let x := s.port n
    let put := fun y => Host.Outcome.next (s.setPort n y)
    (∀ px : Fin 65536, bit (s.rd (Reg.SCOn_CTRL n)) 0 = true → px.val < x.fifo.length → ∃ t, exec (.scanoutUnderrun n px) s = .next t ∧
      t.rd (Reg.SCOn_UNDER n) = bumpErr (s.rd (Reg.SCOn_UNDER n)) ∧ t.rd (Reg.SCOn_ULAST n) = BitVec.ofNat 32 (x.line * 65536 + px.val) ∧
      (t.port n).fifo.take px = x.fifo.take px ∧ ∀ i, px.val ≤ i → i < x.fifo.length → (t.port n).fifo[i]? = some (packPix (s.background (s.leader n)))) ∧
    (∀ px : Fin 65536, bit (s.rd (Reg.SCOn_CTRL n)) 0 = false ∨ x.fifo.length ≤ px.val → exec (.scanoutUnderrun n px) s = .next s) ∧
    (∃ t, exec (.portHpdLoss n) s = .next t ∧ (t.port n).up = false ∧ (t.port n).training = false ∧ (t.port n).resume = false) ∧
    (x.up = false → exec (.portHpdReturn n) s = .next ((s.setPort n { x with training := true }).emit (.port n "train"))) ∧
    (x.up = true → exec (.portHpdReturn n) s = .next s) ∧
    (∀ lines, x.training = true → exec (.portLinkTrained n lines) s = put { x with training := false, resume := true, maxLines := lines }) ∧
    (∀ lines, x.training = false → exec (.portLinkTrained n lines) s = .next s) ∧
    exec (.portHdcpLoss n) s = put { x with auth := false } ∧
    (∀ type1, bit (s.rd (Reg.SCOn_CTRL n)) 18 = true → s.hdcpUsable = true →
      exec (.portHdcpAuthenticated n type1) s = put { x with auth := true, type1 := type1 }) ∧
    (∀ type1, bit (s.rd (Reg.SCOn_CTRL n)) 18 = false ∨ s.hdcpUsable = false → exec (.portHdcpAuthenticated n type1) s = .next s) ∧
    (s.psrPort n = true → s.inBlank n = true → x.psrOn = false → x.up = true → 4 ≤ x.same → x.torn = false →
      exec (.psrEnter n) s = .next ((s.setPort n { x with psrOn := true, changed := [], changedRun := 0 }).emit (.port n "psr enter"))) ∧
    (x.same < 4 → exec (.psrEnter n) s = .next s) ∧
    (∀ (gran : Fin 65536) lo rest, x.changed = lo :: rest → s.psrPort n = true → s.inBlank n = true → x.psrOn = true → x.changedRun = 1 →
      (bit x.psr 1 = true → exec (.psrSelectiveUpdate n gran) s =
        .next ((s.setPort n { x with su := some (lo, rest.getLast?.getD lo, gran.val) }).emit (.port n "psr selective update"))) ∧
      (bit x.psr 1 = false → exec (.psrSelectiveUpdate n gran) s = .next (s.psrLeave n))) ∧
    (x.psrOn = true → s.inBlank n = true → 2 ≤ x.changedRun → exec (.psrExit n) s = .next (s.psrLeave n) ∧ ((s.psrLeave n).port n).psrOn = false) ∧
    (x.psrOn = false ∨ x.changedRun < 2 → exec (.psrExit n) s = .next s)

/-- R34, R35, R264, R358, R361: an input frame that a sink takes is counted and stamped and its lines count from 0; the counter wraps to 0 with its flag; a sink with no
pipeline, link or accepted stream takes nothing. Each captured line counts once its chroma is there. -/
def Obligations.InputFramesAndLinesAreCounted : Prop :=
  ∀ (s : State) (k : Fin 2) (frac : Fin 65536) (enc : Fin 3), Up s →
    let takes : Prop := s.sinkOn k = true ∧ bit (s.rd (Reg.VIN_Ss_STATUS k)) 1 = true ∧ (s.tracker k).ok = true
    (¬ takes → exec (.inputFrameStart k frac enc) s = .next s) ∧
    (takes → ∃ t, exec (.inputFrameStart k frac enc) s = .next t ∧ t.inFrame k = (s.inFrame k + 1) % 2 ^ 32 ∧ t.rd (Reg.RAS_INs_LINE k) = 0 ∧
      t.rd64 (Reg.RAS_INs_LAST_LO k) (Reg.RAS_INs_LAST_HI k) = (s.rts (s.mapOf k) + frac.val) % 2 ^ 64 ∧ bit (t.rd (Reg.RAS_INs_STATUS k)) 0 = true ∧
      (t.tracker k).have_ = true ∧ (t.tracker k).due = none ∧ (t.tracker k).open_ = true ∧ (t.tracker k).lines = 0 ∧
      (t.tracker k).prot = decide (enc.val ≠ 0) ∧ (s.inFrame k = 0xFFFFFFFF → bit (t.rd (Reg.RAS_INs_STATUS k)) 2 = true)) ∧
    (s.inFrame k = 0xFFFFFFFF → exec (.inputWrap k frac enc) s = exec (.inputFrameStart k frac enc) s) ∧
    (s.inFrame k ≠ 0xFFFFFFFF → exec (.inputWrap k frac enc) s = .next s) ∧
    (∀ planes : List (List Nat),
      let x := s.tracker k
      let height := s.rdF (Reg.VIN_Ss_VTIM k) 15 0
      let pairs : Prop := (s.sinkFmt k).sub = 2 ∨ ∃ p ∈ s.sourcePipes k, (s.pipe p).fmt.sub = 2
      (x.open_ = false ∨ height ≤ x.lines → exec (.inputLineCaptured k planes) s = .next s) ∧
      (x.open_ = true → x.lines < height → ∃ t, exec (.inputLineCaptured k planes) s = .next t ∧ (t.tracker k).lines = x.lines + 1 ∧
        (¬ pairs ∨ x.lines % 2 = 1 ∨ x.lines + 1 = height → t.rd (Reg.RAS_INs_LINE k) = BitVec.ofNat 32 (x.lines + 1)) ∧
        (pairs → x.lines % 2 = 0 → x.lines + 1 < height → t.rd (Reg.RAS_INs_LINE k) = BitVec.ofNat 32 x.lines)))

/-- R36, R37, R355, R356, R359 to R361: what befalls the sinks: streams accepted, refused and changed, links trained, retrained and lost, sources that stop, each
discontinuity with its reason, one for a frame (log 45); failed DSC slices and HDCP sessions; and the end of repeating. -/
def Obligations.SinksTakeAndLoseTheirStreams : Prop :=
  ∀ (s : State) (k : Fin 2), Up s →
    let x := s.tracker k
    let link := bit (s.rd (Reg.VIN_Ss_STATUS k)) 1
    let disc := fun (t : State) (why : Nat) => t.rdF (Reg.RAS_INs_STATUS k) 4 3 = why ∧ bit (t.rd (Reg.RAS_INs_STATUS k)) 1 = true ∧
      t.rd (Reg.RAS_INs_DISCNT k) = bumpErr (s.rd (Reg.RAS_INs_DISCNT k)) ∧ (t.tracker k).due = some why
    let same := fun (t : State) => t.rd (Reg.RAS_INs_DISCNT k) = s.rd (Reg.RAS_INs_DISCNT k) ∧ (t.tracker k).due = x.due
    (x.have_ = true → x.due = none → ∃ t, exec (.sourceTimeout k) s = .next t ∧ disc t 2 ∧ bit (t.rd (Reg.RAS_INs_STATUS k)) 0 = false) ∧
    (x.have_ = false ∨ x.due ≠ none → exec (.sourceTimeout k) s = .next s) ∧
    (link = true → ∃ t, exec (.sinkLinkLost k) s = .next t ∧ bit (t.rd (Reg.VIN_Ss_STATUS k)) 1 = false ∧ bit (t.rd (Reg.VIN_Ss_STATUS k)) 3 = false ∧
      (t.tracker k).open_ = false ∧ (x.have_ = true → x.due = none → disc t 2)) ∧
    (link = false → exec (.sinkLinkLost k) s = .next s) ∧
    (s.sinkOn k = true → ∃ t, exec (.sinkRetrain k) s = .next t ∧ (x.due = none → disc t 3) ∧ (x.due ≠ none → same t) ∧ t.rd (Reg.VIN_Ss_RETRAIN k) = bumpErr (s.rd (Reg.VIN_Ss_RETRAIN k)) ∧
      bit (t.rd (Reg.VIN_Ss_STATUS k)) 1 = false ∧ (t.tracker k).open_ = false) ∧
    (s.sinkOn k = false → exec (.sinkRetrain k) s = .next s) ∧
    (∀ rate lanes : Fin 16, s.sinkOn k = true → ∃ t, exec (.sinkLinkTrained k rate lanes) s = .next t ∧ bit (t.rd (Reg.VIN_Ss_STATUS k)) 1 = true ∧
      t.rdF (Reg.VIN_Ss_STATUS k) 11 8 = lanes.val ∧ t.rdF (Reg.VIN_Ss_STATUS k) 15 12 = rate.val ∧ { t with regs := s.regs } = s) ∧
    (∀ rate lanes : Fin 16, s.sinkOn k = false → exec (.sinkLinkTrained k rate lanes) s = .next s) ∧
    (∀ (ha ht va vt : Fin 65536) (fmt : Fin 1024) (kpix : Nat) (dsc enc : Bool), s.sinkOn k = true → link = true →
      let big : Prop := 7680 < ha.val ∨ 4320 < va.val ∨ 3981312 < kpix
      let htim := BitVec.ofNat 32 (ht.val * 65536 + ha.val)
      let vtim := BitVec.ofNat 32 (vt.val * 65536 + va.val)
      (∃ t, exec (.streamFormat k ha ht va vt fmt kpix dsc enc) s = .next t ∧ t.rd (Reg.VIN_Ss_HTIM k) = htim ∧ t.rd (Reg.VIN_Ss_VTIM k) = vtim ∧
        t.rd (Reg.VIN_Ss_FMT k) = BitVec.ofNat 32 fmt.val ∧ bit (t.rd (Reg.VIN_Ss_STATUS k)) 5 = dsc ∧ bit (t.rd (Reg.VIN_Ss_STATUS k)) 4 = enc ∧
        (t.tracker k).ok = decide (¬ big) ∧ (big → bit (t.rd (Reg.VIN_Ss_STATUS k)) 7 = true ∧ bit (t.rd (Reg.RAS_INs_STATUS k)) 0 = false)) ∧
      (s.rd (Reg.VIN_Ss_HTIM k) = htim → s.rd (Reg.VIN_Ss_VTIM k) = vtim →
        exec (.msaChange k ha ht va vt fmt kpix dsc enc) s = exec (.streamFormat k ha ht va vt fmt kpix dsc enc) s) ∧
      (s.rd (Reg.VIN_Ss_HTIM k) ≠ htim ∨ s.rd (Reg.VIN_Ss_VTIM k) ≠ vtim → ∃ t, exec (.msaChange k ha ht va vt fmt kpix dsc enc) s = .next t ∧
        (x.due = none → disc t 1) ∧ (x.due ≠ none → same t) ∧
        (t.tracker k).open_ = false ∧ t.rd (Reg.VIN_Ss_HTIM k) = htim ∧ t.rd (Reg.VIN_Ss_VTIM k) = vtim)) ∧
    (∀ n : Fin 65536, x.open_ = true → exec (.dscDecodeError k n) s = .next ((s.countErr (Reg.VIN_Ss_DSCERR k)).setTracker k { x with dscBad := n.val })) ∧
    (∀ n : Fin 65536, x.open_ = false → exec (.dscDecodeError k n) s = .next s) ∧
    (∃ t, exec (.sinkHdcpFail k) s = .next t ∧ bit (t.rd (Reg.VIN_Ss_STATUS k)) 3 = false ∧
      (x.open_ = true → bit (s.rd (Reg.VIN_Ss_STATUS k)) 4 = true → x.black = false →
        (t.tracker k).black = true ∧ t.rd (Reg.VIN_Ss_HDCPERR k) = bumpErr (s.rd (Reg.VIN_Ss_HDCPERR k)))) ∧
    (link = true → s.hdcpUsable = true → ∃ t, exec (.sinkHdcpAuthenticated k) s = .next t ∧ bit (t.rd (Reg.VIN_Ss_STATUS k)) 3 = true ∧
      t.tracker k = { x with black := false }) ∧
    (link = false ∨ s.hdcpUsable = false → exec (.sinkHdcpAuthenticated k) s = .next s) ∧
    (∀ p : Fin 4,
      let y := s.pipe p
      let q := s.raster y.raster
      (y.repeats = none ∨ q.line ≠ s.vactive y.raster → exec (.repeatEnd p) s = .next s) ∧
      (y.valid = true → y.repeats ≠ none → q.line = s.vactive y.raster → y.discDue = false → y.anchorDone = true → (s.tracker y.source).due = none →
        exec (.repeatEnd p) s = .next ((s.setPipe p { y with repeats := none }).retime p (q.frame.toNat + 4))))

/-- R374 to R378: the ring of host frames: enabling it empties it, a tail inside the ring moves on and one outside is flagged, a descriptor that breaks Table 13.7 ends with
cause 1, one that keeps it begins a frame of input 2, a group is captured, and disabling aborts what waits. Only the House of the input does so. -/
def Obligations.HostFramesRunThroughTheirRing : Prop :=
  ∀ (s : State) (fn : Fin 8), Up s →
    let word := fun bs i => BitVec.ofNat 32 (num bs (4 * i) 4)
    let desc : HostFrame := { words := (List.range 16).map (word (s.hostRead fn (s.hfAddr s.hfHead) 64)), group := 0 }
    (s.hfHouse ≠ some fn.val →
      (∀ v : Fin 256, exec (.vinHfTail fn v) s = .next s) ∧ exec (.hfRingEnable fn) s = .next s ∧ exec (.hfRingDisable fn) s = .next s) ∧
    (s.hfHouse = some fn.val →
      (∀ v : Fin 256, s.hfOn = false → exec (.vinHfTail fn v) s = .next s) ∧
      (∀ v : Fin 256, s.hfOn = true → v.val < s.hfSize →
        (s.hfTail + s.hfSize - s.hfHead) % s.hfSize + (v.val + s.hfSize - s.hfTail % s.hfSize) % s.hfSize < s.hfSize →
        ∃ t, exec (.vinHfTail fn v) s = .next t ∧ t.hfTail = v.val ∧ t.hfHead = s.hfHead ∧ { t with regs := s.regs } = s) ∧
      (∀ v : Fin 256, s.hfOn = true → 0 < s.hfSize → s.hfSize ≤ v.val →
        ∃ t, exec (.vinHfTail fn v) s = .next t ∧ t.hfTail = s.hfTail ∧ t.rdF Reg.VIN_HF_ERR 16 16 = 1) ∧
      (s.hfOn = false → (∃ t, exec (.hfRingEnable fn) s = .next t ∧ t.hfOn = true ∧ t.hfHead = 0 ∧ t.hfTail = 0 ∧ t.hfAddr t.hfHead = s.hfAddr 0 ∧
          { t with regs := s.regs } = s) ∧
        exec (.hfRingDisable fn) s = .next s) ∧
      (s.hfOn = true → exec (.hfRingEnable fn) s = .next s ∧
        exec (.hfRingDisable fn) s = .next ((s.hfAbort fn).wrF Reg.VIN_HF_CTRL 0 0 0) ∧
        (let t := (s.hfAbort fn).wrF Reg.VIN_HF_CTRL 0 0 0
         t.hfOn = false ∧ t.hfHead = t.hfTail ∧ t.hfTail = s.hfTail ∧ t.hostFrame = none) ∧
        ∀ (off : Fin 33554432) (v : BitVec 64), off.val = Reg.VIN_HF_BASE_LO ∨ off.val = Reg.VIN_HF_BASE_HI ∨ off.val = Reg.VIN_HF_SIZE →
          exec (.registerWrite fn off 4 v) s = .next s) ∧
      (s.hfOn = false ∨ s.hostFrame ≠ none ∨ s.hfHead = s.hfTail → exec .hostFrameDescriptor s = .next s) ∧
      (s.hfOn = true → s.hostFrame = none → s.hfHead ≠ s.hfTail → s.hostRanges fn [(s.hfAddr s.hfHead, 64)] = .ok →
        (desc.ok = false → ∃ t, exec .hostFrameDescriptor s = .next t ∧ t.hostFrame = none ∧ t.hfHead = (s.hfHead + 1) % max 1 s.hfSize % 256 ∧
          t.rd Reg.VIN_HF_ERR = bumpFld (s.rd Reg.VIN_HF_ERR) 15 0 ∧
          ∀ i, i < 4 → memRead t.host (hostKey fn (s.hfAddr s.hfHead + 60 + i)) = (leBytes 4 17).getD i 0) ∧
        (desc.ok = true → ∃ t, exec .hostFrameDescriptor s = .next t ∧ t.hostFrame = some desc ∧ t.inFrame 2 = (s.inFrame 2 + 1) % 2 ^ 32 ∧
          t.hfHead = s.hfHead ∧ (t.tracker 2).size = some (desc.width, desc.height))) ∧
      (∀ fault, s.hostFrame = none → exec (.hostFrameGroup fault) s = .next s) ∧
      (∀ x, s.hostFrame = some x → ∃ t, exec (.hostFrameGroup true) s = .next t ∧ t.hostFrame = none ∧ t.hfHead = (s.hfHead + 1) % max 1 s.hfSize % 256 ∧
        (t.tracker 2).open_ = false) ∧
      (∀ x, s.hostFrame = some x → x.fmt.sub ≠ 2 → (s.tracker 2).open_ = true → (s.tracker 2).lines = x.group → x.group < x.height →
        s.hostRanges fn ((x.addr 0 + x.group * x.w 10, x.rowBytes 0) :: [1, 2].map (fun k => (x.addr k + x.group * x.w 11, x.rowBytes k))) = .ok →
        ∃ t, exec (.hostFrameGroup false) s = .next t ∧ (t.tracker 2).lines = x.group + 1 ∧
          (x.group + 1 ≠ x.height → t.hostFrame = some { x with group := x.group + 1 }) ∧
          (x.group + 1 = x.height → t.hostFrame = none ∧ t.hfHead = (s.hfHead + 1) % max 1 s.hfSize % 256)))

/-- R251 to R255, R258: the fixed-function jobs. Slots follow each other, a walk begins at its line, the job that is next on its unit starts in a slot of its
pipeline once its gate is open, a wrong descriptor counts in BADJOB, and a job that is complete frees its unit.
R249, R250, R269 to R271: the address generator lays its streamed rows into the input Desk, tap by tap; the first waiting preparation job of its pool starts when
a unit and store are free, and is READY with the words of its extent once its rows are there. -/
def Obligations.FixedFunctionJobsAndRows : Prop :=
  (∀ (s : State) (p : Fin 4), Up s →
     let x := s.pipe p
     let w := s.walk p
     let q := s.raster x.raster
     let a := (s.rd (Reg.FFJ_Pp_LIST p)).toNat
     let line := memLe s.lib (a + 4) 4
     let n := q.frame.toNat + line / 65536 % 4
     let rows : List (Nat × Instr) := [(0, .jobNop p), (1, .edgeIn p), (2, .edgeOut p), (3, .crop p)]
     (∃ t, exec .ffSlotStart s = .next t ∧ t.service.ffSlot = (s.service.ffSlot + 1) % 16 ∧
       (t.service.ffSlot ≠ 0 ∨ s.service.slotDue = none → t = { s with service := { s.service with ffSlot := (s.service.ffSlot + 1) % 16 } }) ∧
       (∀ b c, t.service.ffSlot = 0 → s.service.slotDue = some (b, c) → t.rd Reg.FFJ_SLOTS = b ∧ t.rd Reg.FFJ_SLOTEN = c ∧ t.service.slotDue = none)) ∧
     (x.valid = true → a ≠ 0 → s.rasterOn x.raster = true → s.banksOk x.house a 16 = true → s.firstBad .lib a 16 = none → q.line = line % 65536 →
       ∃ t, exec (.jobWalkStart p) s = .next t ∧
       (t.walk p).target = n ∧ (t.walk p).base = a ∧ (t.walk p).njobs = memLe s.lib a 4 % 256 ∧ (t.walk p).edge = none ∧ (t.walk p).crop = none ∧
       t.rd (Reg.FFJ_Pp_WALK p) = BitVec.ofNat 32 (n % 65536 * 65536)) ∧
     (x.valid = false ∨ a = 0 ∨ q.line ≠ line % 65536 → exec (.jobWalkStart p) s = .next s) ∧
     (∀ r ∈ rows,
       let unit := ffUnit r.1
       (s.nextJob p unit = none ∨ s.inSlot p = false → exec r.2 s = .next s) ∧
       ∀ i, s.nextJob p unit = some i → s.inSlot p = true →
         let j := s.ffJob p i
         let good : Prop := j.ok = true ∧ s.banksOk x.house (s.ffJobAt p i) 64 = true ∧ s.firstBad .lib (s.ffJobAt p i) 64 = none
         (j.kind ≠ r.1 → exec r.2 s = .next s) ∧
         (j.kind = r.1 → j.ok = false → ∃ t, exec r.2 s = .next t ∧ (t.walk p).has i = true ∧ t.rdF (Reg.FFJ_Pp_ERR p) 23 16 ≠ 0) ∧
         (j.kind = r.1 → good → j.gate = 0 → exec r.2 s = .next (s.runJob p unit i j)) ∧
         (j.kind = r.1 → good → j.gate = 2 → exec r.2 s = .next
           (if s.gateOpen (j.f 11 1 0) (s.retimeRec p w.target).2.1 (j.f 11 31 16) then s.runJob p unit i j else s)) ∧
         (j.kind = r.1 → good → j.gate = 1 → mapGet (fun _ => none) w.joined unit = some i → exec r.2 s = .next
           (if s.waits (.gate (4 * p.val + unit)) then s else s.runJob p unit i j))) ∧
     (∀ i j, let u := (s.takeJob p i).wrF (Reg.FFJ_Pp_WALK p) 7 0 i
       (j.done = false → s.runJob p 2 i j = u.settleWalk p) ∧
       ((banksOf (j.w 10) j.weightBytes).all u.edgeBank = true → u.ffReadable x.house j.edgeReads = (true, none) →
         u.firstBad .lib (j.w 10) j.weightBytes = none → u.edgeWritable p j = true →
         let v := u.ffCorrected (some (u.ffJobAt p i, 64) :: some (j.w 10, j.weightBytes) :: j.edgeReads)
         s.runJob p 0 i j = ((v.setWalk p { v.walk p with edge := some i }).edgeRun p j).settleWalk p) ∧
       ((u.walk p).has i = true)) ∧
     (∀ (unit : Fin 2) i, (if unit.val = 0 then w.edge else w.crop) = some i → s.inSlot p = true → (s.ffJob p i).done = false →
       ∃ t, exec (.jobComplete p unit) s = .next t ∧ (if unit.val = 0 then (t.walk p).edge else (t.walk p).crop) = none) ∧
     (∀ unit : Fin 2, (if unit.val = 0 then w.edge else w.crop) = none ∨ s.inSlot p = false → exec (.jobComplete p unit) s = .next s)) ∧
  (∀ s : State, Up s →
     (∀ (f : Fin 32) (a : AgRun), (agOk a = false → exec (.addressGeneratorRun f a) s = .next s) ∧
       (agOk a = true → a.pass = none → exec (.addressGeneratorRun f a) s = .next (s.intoDesk (32 * f.val + a.lane) a.array 0 true a.irow
         ((List.range a.kh).flatMap (fun ky => (List.range a.kw).flatMap (fun kx => (List.range a.count).map (fun i =>
           let sx : Int := (((a.first + i) * a.sx + kx * a.dx : Nat) : Int) - a.padL
           let sy : Int := ((a.line * a.sy + ky * a.dy : Nat) : Int) - a.padT
           some (if sx < 0 ∨ sy < 0 ∨ (a.width : Int) ≤ sx ∨ (a.height : Int) ≤ sy then List.replicate 64 (BitVec.ofNat 8 a.zcode)
             else match a.locker with
               | some l => memReadN s.locker ((32 * f.val + l) * 2 ^ 16 + (a.src + sy.toNat * a.linePitch + sx.toNat * 64)) 64
               | none => memReadN s.lib (a.src + sy.toNat * a.linePitch + sx.toNat * 64) 64))))))) ∧
       (∀ hp n, agOk a = true → a.pass = some (hp, n) → ∃ u, exec (.addressGeneratorRun f { a with pass := none }) s = .next u ∧
         exec (.addressGeneratorRun f a) s = .next (u.signal hp n 1092).1)) ∧
     (∀ (p : Fin 4) (b : Fin 2048),
       let mine := fun n (j : SubJob) => decide (j.pipe = p.val) && decide (j.band = b.val) && decide (j.phase = n)
       (s.subJobs.find? (mine 0) = none → (∀ j ∈ s.subJobs, j.cut = false) → exec (.subJobStart p b) s = .next s) ∧
       (∀ j, s.subJobs.find? (mine 0) = some j → (∀ j ∈ s.subJobs, j.cut = false) →
         let mates := s.subJobs.filter (fun k => decide (k.pool = j.pool))
         let fits : Prop := (∀ k ∈ mates, k.phase = 0 → k = j ∨ s.jobBefore j k = true) ∧
           (mates.filter (fun k => decide (k.phase = 1))).length < (s.poolSize j.pool).1 ∧
           ((mates.filter (fun k => decide (1 ≤ k.phase))).map (·.bytes)).sum + j.bytes ≤ (s.poolSize j.pool).2
         (fits → ∃ t, exec (.subJobStart p b) s = .next t ∧ t.subJobs = s.subJobs.map (fun k => if k = j then { k with phase := 1 } else k) ∧
           ((s.bandRec p b).tframe = j.target → (t.bandRec p b).sstate = .preparing)) ∧
         (¬ fits → exec (.subJobStart p b) s = .next s)) ∧
       (∀ j e, s.subJobs.find? (mine 1) = some j → s.anyEnt p b = some e →
         (s.prepRead j e = none → exec (.subJobReady p b) s = .next s) ∧
         (∀ r, s.prepRead j e = some r → ∃ t, exec (.subJobReady p b) s = .next t ∧
           t.subJobs = s.subJobs.map (fun k => if k = j then { k with phase := 2 } else k) ∧
           mapGet (fun _ => {}) t.prepared ((p.val * 2048 + b.val) * 4 + j.target.toNat % 4) = s.prepWords j e r ∧
           ((s.bandRec p b).tframe = j.target → (t.bandRec p b).sstate = .ready)))))

/-- R298, R301, R305 to R308: homework units. HOMEWORK_DEAL gives a form the unit that the round needs next, where the House's homework runs and the form is idle;
GRAD, UPDATE, HOMEWORK_COPY, EVAL and DEPLOY end the unit of their kind that the form has in hand, each with its effect on the round; a form without
one ends nothing. The gradient and the loss themselves are free (logs 3, 53). -/
def Obligations.HomeworkUnitsAreDealtAndEnd : Prop :=
  ∀ (s : State) (m : Word) (f : Fin 32), Up s →
    let x := s.hwOf m.toNat
    let rows : List (Nat × Instr) := [(1, .grad m f), (2, .update m f), (3, .homeworkCopy m f), (4, .eval m f), (5, .deploy m f)]
    (∀ r ∈ rows, (∀ u ∈ x.units, u.form = f.val → u.kind = r.1 → u.ended = true) → exec r.2 s = .next s) ∧
    (∀ md p, s.hwPlan? m.toNat = some (md, p) → ∀ g a hp, p.ctrl.find? (fun c => decide (c.1 = f.val)) = some (g, a, hp) →
      let y := x.settle p
      s.hwRuns md y = true → s.hwIdleForm f = true → (∀ u ∈ y.units, u.form ≠ f.val ∧ u.ended = false) → s.liveLanes f ≠ 0 →
      ∀ k l smp arg, s.nextUnit md.house y = some (k, l, smp, arg) →
      let u : HwUnit := { form := f.val, seq := (y.unitSeq + 1) % 2 ^ 32, kind := k, layer := l, sample := smp, step := y.stepNo % 2 ^ 32, arg := arg }
      let cyc := (Config.unitCycles md.modelId k l).toNat
      exec (.homeworkDeal m f) s = .next (if pol y.policy 48 4 < cyc then s else (s.writeUnit md.house a hp u cyc (s.liveLanes f)).setHw m.toNat
        { y with units := y.units ++ [u], unitSeq := u.seq, frozen := y.frozen || decide (k = 4) })) ∧
    (∀ md p, s.hwPlan? m.toNat = some (md, p) → s.hwIdleForm f = false → exec (.homeworkDeal m f) s = .next s) ∧
    (∀ md p u a hp,
      let rest := x.units.filter (fun v => decide (v ≠ u))
      (UnitHere s m.toNat f 1 md p u a hp → ∃ t, exec (.grad m f) s = .next t ∧ t.hwOf m.toNat = { x with units := rest, grads := x.grads ++ [u.arg] }) ∧
      (UnitHere s m.toNat f 2 md p u a hp →
        let n := planSize p u.layer
        let o := planOfs p u.layer
        let gs := (List.range (pol x.policy 5 1)).map (fun i =>
          let b := s.hwRead md.house (p.grads + gradPitch * i) (deployedSize n)
          loadGroups .e5m2 (b.take n) (b.drop n))
        let sc := s.hwRead md.house (p.scales + o / 8) (n / 8)
        ∃ t, exec (.update m f) s = .next t ∧ t.hwOf m.toNat = match updateLayer x.policy (planReal p u.layer) gs (s.hwMasters p u.layer)
            (s.load .lib (p.m + o) n) (s.load .lib (p.u + o) n) (sc.take (n / 16)) (sc.drop (n / 16)) with
          | some _ => { x with units := rest, updated := true }
          | none => { (x.skip.endStep p) with units := rest }) ∧
      (UnitHere s m.toNat f 3 md p u a hp → ∃ t, exec (.homeworkCopy m f) s = .next t ∧ (t.hwOf m.toNat).steps = (x.steps + 1) % 2 ^ 48 ∧
        (t.hwOf m.toNat).units = rest ∧ (t.hwOf m.toNat).grads = [] ∧ (t.hwOf m.toNat).stepNo = x.stepNo + 1 ∧ u.layer ∈ (t.hwOf m.toNat).pendLayers) ∧
      (UnitHere s m.toNat f 4 md p u a hp → ∃ t, exec (.eval m f) s = .next t ∧
        let c := if u.arg = 0 then 1 - x.copy else x.copy
        let l := Config.loss md.modelId x.policy (s.hwSample md.house p x true u.sample) (s.hwCopy md.house p c)
        t.hwOf m.toNat = { x with units := rest, evals := mapSet (fun _ => none) x.evals (2 * u.sample + u.arg) (some l) }) ∧
      (UnitHere s m.toNat f 5 md p u a hp → ∃ t, exec (.deploy m f) s = .next t ∧ t.hwOf m.toNat = { x with units := rest, deployed := true }))

/-- R304, R308, R309, R311, R312: homework samples are copied line by line while their rows stand, a round ends in acceptance, rejection or reset of its candidate, and a
checkpoint period ends with a sealed ring. -/
def Obligations.RoundsAndCheckpointsEnd : Prop :=
  ∀ (s : State) (m : Word) (md : Model) (p : Config.HwPlan), Up s → s.hwPlan? m.toNat = some (md, p) →
    let x := s.hwOf m.toNat
    let y := s.pipe p.pipe
    let size := x.patch p
    let last := fun u : State => u.ckpts.getLast?
    (s.hwRuns md x = false ∨ x.state = 0 → ∀ motion, exec (.homeworkSample m motion) s = .next s) ∧
    (∀ motion q, s.hwRuns md x = true → x.state ≠ 0 → size ≤ y.inW → size ≤ y.inH → x.sample = some q → q.lines < 2 * size →
      s.gateOpen y.source ((q.frame + q.lines / size) % 2 ^ 32) (q.y + q.lines % size) = false →
      exec (.homeworkSample m motion) s = .next (s.setHw m.toNat { x with sample := some q })) ∧
    (∀ motion q a b, s.hwRuns md x = true → x.state ≠ 0 → size ≤ y.inW → size ≤ y.inH → x.sample = some q → q.lines = 2 * size →
      y.recs.find? (fun r => decide (r.frame = q.frame) && r.complete) = some a →
      y.recs.find? (fun r => decide (r.frame = (q.frame + 1) % 2 ^ 32) && r.complete) = some b →
      let val : Prop := q.frame / max 1 (pol x.policy 8 2) % max 1 (pol x.policy 10 1) = 0
      ∃ t, exec (.homeworkSample m motion) s = .next t ∧ (t.hwOf m.toNat).sample = none ∧
        (a.seq ≠ b.seq → t.hwOf m.toNat = { x with sample := none }.discard) ∧
        (a.seq = b.seq → val → x.frozen = true → t.hwOf m.toNat = { x with sample := none }.discard) ∧
        (a.seq = b.seq → ¬ val → t.hwOf m.toNat = { x with sample := none, train := x.train + 1 }) ∧
        (a.seq = b.seq → val → x.frozen = false → t.hwOf m.toNat = { x with sample := none, val := x.val + 1 })) ∧
    (s.hwRuns md x = false ∨ x.state ≠ 3 ∨ x.deployed = false → exec (.roundEvaluate m) s = .next s) ∧
    (s.hwRuns md x = true → x.state = 3 → x.deployed = true → (∀ j, j < 2 * x.valCount → mapGet (fun _ => none) x.evals j ≠ none) →
      let good : Prop := x.valCount = pol x.policy 14 2 ∧ (f32 (x.lossSum 0)).isNan = false ∧ (f32 (x.lossSum 1)).isNan = false ∧
        fvLt (f32 (x.lossSum 0)) (f32 (f32Mul (x.lossSum 1) (pol x.policy 44 4))) = true
      (good → bit (s.rd Reg.RAS_BELLSTAT) 2 = true → exec (.roundEvaluate m) s = .next s) ∧
      (good → bit (s.rd Reg.RAS_BELLSTAT) 2 = false → ∃ t, exec (.roundEvaluate m) s = .next t ∧ (t.hwOf md.handle).copy = 1 - x.copy ∧
        (t.hwOf md.handle).gen = x.gen + 1 ∧ (t.hwOf md.handle).accepts = (x.accepts + 1) % 2 ^ 48 ∧ (t.hwOf md.handle).rejects = 0) ∧
      (¬ good → md.handle = m.toNat → ∃ t, exec (.roundEvaluate m) s = .next t ∧ (t.hwOf m.toNat).rejectsAll = (x.rejectsAll + 1) % 2 ^ 48 ∧
        (t.hwOf m.toNat).copy = x.copy ∧ (t.hwOf m.toNat).gen = x.gen ∧
        (x.next = [] → x.rejects + 1 < pol x.policy 54 1 → (t.hwOf m.toNat).rejects = x.rejects + 1 ∧ (t.hwOf m.toNat).epoch = x.epoch) ∧
        (x.next = [] → pol x.policy 54 1 ≤ x.rejects + 1 → (t.hwOf m.toNat).rejects = 0 ∧ (t.hwOf m.toNat).epoch = x.epoch + 1))) ∧
    (x.enable = false ∨ pol x.policy 52 2 = 0 ∨ (s.grant md.house).flashSize = 0 → exec (.checkpointPeriod m) s = .next s) ∧
    (x.enable = true → pol x.policy 52 2 ≠ 0 → (s.grant md.house).flashSize ≠ 0 → s.houseCkpts md.house = [] → x.pendLayers = [] → x.epochDue = false →
      x.sealedGen = x.gen → ∃ t, exec (.checkpointPeriod m) s = .next t ∧ ∃ r, last t = some r ∧ r.kind = 3 ∧ r.house = md.house ∧ r.seq = 0 ∧
        t.ckpts = s.ckpts ++ [r])

/-- R451, R477: RESET_N takes the registers and what the block holds, and leaves the fuses, the flash and the save record; it waits for a save in progress. Its release
starts the device: held at step 1 while PWRSAG_N is low, it runs an image that passes, or waits for one to be staged. -/
def Obligations.ResetTakesAllButWhatIsKept : Prop :=
  ∀ s : State,
    let saving : Prop := s.power = .holdup ∧ s.service.save ≠ none ∧ s.service.saved = false
    (¬ saving → ∃ t, exec .resetAssert s = .next t ∧ t.resetN = false ∧ t.regs = [] ∧ t.cores = [] ∧ t.lib = [] ∧ t.locker = [] ∧ t.desk = [] ∧ t.istore = [] ∧
      t.engines = [] ∧ t.grants = [] ∧ t.accepted = [] ∧ t.completions = [] ∧ t.fuses = s.fuses ∧ t.flash = s.flash ∧ t.saves = s.saves ∧ t.ckpts = s.ckpts ∧
      t.journal = s.journal ∧ t.host = s.host ∧ t.pending = s.pending) ∧
    (saving → exec .resetAssert s = .next { s with service := { s.service with resetHeld := true } }) ∧
    (∀ (u : StartUp) (sag : Bool), s.resetN = true → s.power = .on → s.started = true ∨ s.service.startHeld ≠ none →
      exec (.resetRelease u sag) s = .next s) ∧
    (∀ u : StartUp, s.resetN = false →
      let b := State.bootFuses { s with resetN := true, power := .on }
      exec (.resetRelease u true) s = .next { b with service := { b.service with startHeld := some s.startKind } } ∧
      (∀ i, b.bootImage u = some i → exec (.resetRelease u false) s = .next (b.bootRun u s.startKind i)) ∧
      (b.bootImage u = none → ∃ t, exec (.resetRelease u false) s = .next t ∧ t.rdF Reg.MBX_DEAN 3 0 = 4 ∧ t.rdF Reg.PWR_STATE 7 4 = s.startKind ∧
        t.resetN = true ∧ t.power = .on) ∧
      (b.bootImage u ≠ none → s.journal = {} → s.saves = [] → s.service.lcReq = none → u.banks = [] → u.cores = [] → u.arrays = [] → u.forms = [] →
        s.grants = [] → s.regs = [] → ∃ t, exec (.resetRelease u false) s = .next t ∧ t.rdF Reg.MBX_DEAN 3 0 = 2 ∧ t.rdF Reg.PWR_STATE 2 0 = 0 ∧
        t.rdF Reg.PWR_STATE 7 4 = s.startKind ∧ t.resetN = true ∧ t.power = .on ∧ t.lib = [])) ∧
    (∀ u : StartUp, Up s →
      (∀ last, s.service.startHeld = some last →
        exec (.pwrsagNHigh u) s = .next (State.bootFrom2 { s with service := { s.service with startHeld := none } } u last)) ∧
      (s.service.startHeld = none → exec (.pwrsagNHigh u) s = .next s))

/-- R448 to R450, R471: requests of a power state: what each begins, what waits for a transition in progress, and where Eco is refused; Standby is entered once the
commits have applied or two frames have passed, and a transition that is complete is reported. -/
def Obligations.PowerRequestsMoveTheState : Prop :=
  ∀ s : State, Link s →
    let begun := fun (u : State) v => { u.wrF Reg.PWR_STATE 3 3 1 with service := { u.service with trans := some v, heldReq := none } }
    let calm : Prop := s.service.trans = none
    let quiet := fun u : State => { u with service := { u.service with heldReq := none } }
    let req := fun v => s.wrF Reg.PWR_REQ 1 0 v
    (calm → s.powerState = 0 → exec .pwrReqFull s = .next (quiet (req 0)) ∧ exec .pwrReqStandby s = .next (begun (req 2) 2) ∧
      exec .pf0D3hot s = .next (begun s 2) ∧ exec .pf0D0 s = .next (quiet s) ∧
      (s.ecoTooSlow = false → exec .pwrReqEco s = .next (begun (req 1) 1)) ∧
      (s.ecoTooSlow = true → ∃ t, exec .pwrReqEco s = .next t ∧ bit (t.rd Reg.PWR_STATE) 8 = true ∧ t.service.trans = none)) ∧
    (calm → s.powerState = 1 → exec .pwrReqFull s = .next (begun (req 0) 0) ∧ exec .pwrReqEco s = .next (quiet (req 1)) ∧
      exec .pwrReqStandby s = .next (begun (req 2) 2)) ∧
    (calm → s.powerState = 2 → exec .pwrReqFull s = .next (begun (req 0) 0) ∧ exec .pwrReqStandby s = .next (quiet (req 2)) ∧
      exec .pf0D0 s = .next (begun s 0)) ∧
    (∀ v, s.service.trans = some v → exec .pwrReqFull s = .next { req 0 with service := { s.service with heldReq := some 0 } } ∧
      exec .pwrReqEco s = .next { req 1 with service := { s.service with heldReq := some 1 } } ∧
      exec .pwrReqStandby s = .next { req 2 with service := { s.service with heldReq := some 2 } } ∧
      exec .pf0D3hot s = .next { s with service := { s.service with heldReq := some 2 } } ∧
      exec .pf0D0 s = .next { s with service := { s.service with heldReq := some 3 } }) ∧
    (∀ late : Bool, s.service.trans = some 2 → s.power = .on → late = true ∨ s.accepted = [] → mapSorted s.cores → ∃ t, exec (.standbyEntry late) s = .next t ∧
      t.power = .standby ∧ t.lib = [] ∧ t.locker = [] ∧ t.desk = [] ∧ t.istore = [] ∧ t.engines = [] ∧ t.forms = [] ∧ t.subJobs = [] ∧ t.accepted = [] ∧
      ∀ c, (t.core c).g = [] ∧ (t.core c).idle = ({} : Core).idle ∧ (t.core c).retired = (s.core c).retired) ∧
    (∀ late : Bool, s.service.trans ≠ some 2 ∨ s.power ≠ .on ∨ (late = false ∧ s.accepted ≠ []) → exec (.standbyEntry late) s = .next s) ∧
    (∀ u, s.service.trans = none ∨ (s.service.trans = some 2 ∧ s.power = .on) → exec (.powerTransitionComplete u) s = .next s) ∧
    (∀ u v, s.service.trans = some v → v < 3 → s.service.heldReq = none → (v = 2 ∧ s.power = .standby) ∨ (v ≠ 2 ∧ s.power = .on) →
      ∃ t, exec (.powerTransitionComplete u) s = .next t ∧ t.powerState = v ∧ bit (t.rd Reg.PWR_STATE) 3 = false ∧ t.service.trans = none ∧
        t.power = s.power) ∧
    (∀ u v, s.service.trans = some v → v < 3 → s.service.heldReq = none → v ≠ 2 → s.power = .standby →
      exec (.powerTransitionComplete u) s = .next (State.powerAct (State.powerEvent
        { ((s.wakeUp u).wrF Reg.PWR_STATE 2 0 v).wrF Reg.PWR_STATE 3 3 0 with service := { (s.wakeUp u).service with trans := none } } 7)))

/-- R457 to R463, Table 16.3: Hold-up: a warning ends the work of a running device and begins the save, page 0 seals its record, the device goes on when the supplies are
back, or is off with a record that is not valid; a short pulse of PWRSAG_N only counts. -/
def Obligations.HoldUpSavesAndEnds : Prop :=
  ∀ s : State,
    let v := s.service
    (∀ i : Bool, Link s → s.started = true → s.rdF Reg.MBX_DEAN 3 0 ≠ 4 → ∃ t, exec (.holdupWarning i) s = .next t ∧ ∃ r, t.power = .holdup ∧ t.service.save = some r ∧
      r.cause = (if i then 2 else 1) ∧ r.frames = (List.range 8).map (fun r => (s.raster r).frame.toNat) ∧ r.commitSeq = v.commitSeq ∧ t.service.saved = false ∧
      t.cores = [] ∧ t.lib = [] ∧ t.saves = s.saves ∧ t.journal = s.journal) ∧
    (∀ i : Bool, Link s → s.started = false → ∃ t, exec (.holdupWarning i) s = .next t ∧ t.power = .holdup ∧ t.service.save = none ∧ t.service.saved = true) ∧
    (∀ i : Bool, ¬ Link s → exec (.holdupWarning i) s = .next s) ∧
    (∀ (n : Fin 4096) r, s.power = .holdup → v.save = some r → v.saved = false → v.resetHeld = false →
      exec (.saveSealed n) s = .next { s with saves := s.saves ++ [{ r with vholdEnd := n.val }], journal := v.saveJournal,
                                              service := { v with saved := true, save := none, saveJournal := {} } }) ∧
    (∀ n : Fin 4096, v.save = none ∨ s.power ≠ .holdup ∨ v.saved = true → exec (.saveSealed n) s = .next s) ∧
    (∀ u, s.power = .holdup → s.resetN = true → v.saved = true → v.tripped = false → exec (.holdupResume u) s = .next (s.warmStart u 2)) ∧
    (∀ u, s.power ≠ .holdup ∨ s.resetN = false ∨ v.saved = false ∨ v.tripped = true → exec (.holdupResume u) s = .next s) ∧
    (∀ u, s.power = .holdup → s.resetN = true → v.saved = true → v.tripped = true → exec (.thermalRestart u) s = .next (s.warmStart u 3)) ∧
    (∀ u, s.power ≠ .holdup ∨ s.resetN = false ∨ v.saved = false ∨ v.tripped = false → exec (.thermalRestart u) s = .next s) ∧
    (s.power = .holdup → ∃ t, exec .powerOff s = .next t ∧ t.power = .off ∧ t.resetN = false ∧ t.service.cold = true ∧ t.fuses = s.fuses ∧ t.regs = [] ∧
      (v.save = none ∨ v.saved = true → t.saves = s.saves) ∧ ∀ r, v.save = some r → v.saved = false → t.saves = s.saves ++ [{ r with valid := false }]) ∧
    (s.power ≠ .holdup → exec .powerOff s = .next s) ∧
    (Link s → SetsRegs .pwrsagGlitch s [(Reg.PWR_SAGGLITCH, bumpErr (s.rd Reg.PWR_SAGGLITCH))])

/-- R283, R446, R456, R457, R470, R471: heat, current and supply: a temperature is shown and raises the heat part of its form's tier at once, two readings of 115 °C
trip the device, a cool second lowers the part by one; every tenth tick moves the stretch, and the set point of VCORE moves by 10 mV at most. -/
def Obligations.HeatCurrentAndSupplyAreHeld : Prop :=
  ∀ (s : State) (f : Fin 32), Up s →
    let x := s.formTier f
    (∀ d : Fin 256, (d.val < 115 ∨ x.trip = false) → ∃ t, exec (.thermalSample f d) s = .next t ∧ t.rdF (Reg.DLN_FORMf f) 15 8 = d.val ∧
      (t.formTier f).heat = max x.heat (heatLevel d.val) ∧ (t.formTier f).last = d.val ∧ (t.formTier f).trip = decide (115 ≤ d.val) ∧ t.power = .on ∧
      (heatLevel d.val ≤ x.heat → (t.formTier f).cool = if d.val + 3 ≤ 99 + 3 * x.heat then x.cool + 1 else 0)) ∧
    (∀ d : Fin 256, 115 ≤ d.val → x.trip = true → ∃ t, exec (.thermalSample f d) s = .next t ∧ t.power = .holdup ∧ t.service.tripped = true) ∧
    (0 < x.heat → 10000 ≤ x.cool → exec (.heatTierDecay f) s = .next (s.setFormTier f { x with heat := x.heat - 1, cool := 0 })) ∧
    (x.heat = 0 ∨ x.cool < 10000 → exec (.heatTierDecay f) s = .next s) ∧
    (∀ (p1 p100 : Fin 65536) (pa : Nat),
      let u := s.wr Reg.PWR_PNOW (BitVec.ofNat 32 (p100.val * 65536 + p1.val))
      let v : State := { u with service := { s.service with tick := (s.service.tick + 1) % 10 } }
      let n := s.dlnLive.toNat % 4096
      (s.service.tick < 9 → exec (.governorTick p1 p100 pa) s = .next v) ∧
      (9 ≤ s.service.tick → ∃ t, exec (.governorTick p1 p100 pa) s = .next t ∧
        t.rdF Reg.PWR_STRETCH 5 0 = v.burstStep.nextStretch pa n % 64 ∧ (s.rdF Reg.PWR_STRETCH 5 0 ≤ 48 → t.rdF Reg.PWR_STRETCH 5 0 ≤ 48) ∧
        (v.burstStep.powerHigh = false → v.burstStep.powerLow = false → t.rdF Reg.PWR_STRETCH 5 0 = s.rdF Reg.PWR_STRETCH 5 0) ∧
        (v.burstStep.powerHigh = true → t.rdF Reg.PWR_STRETCH 5 0 = min 48 (s.rdF Reg.PWR_STRETCH 5 0 + v.burstStep.stretchStep pa n)))) ∧
    (∀ want meas : Fin 1024, ∃ t, exec (.vcoreAdjust want meas) s = .next t ∧ t.rdF Reg.PWR_VCORE 25 16 = meas.val ∧
      let old := s.rdF Reg.PWR_VCORE 9 0
      let new := t.rdF Reg.PWR_VCORE 9 0
      new ≤ old + 10 ∧ old ≤ new + 10 ∧ (550 ≤ old → 550 ≤ new) ∧ (old ≤ 850 → new ≤ 850)) ∧
    exec .vcoreRegulatorTimeout s = .next (s.post 0 0x20 0 none [9])

/-- R379, R433, R468 to R470: renewal in service: the firmware hands over, or the watchdog leaves the old image running; a confirmed image is selected for the next boot; a
rollback counter takes the version that has run; clocks, sensors and LPDDR5X channels are recalibrated in turn, and a failure keeps the old values. -/
def Obligations.ServiceRenewsThePartsInTurn : Prop :=
  ∀ s : State, Up s →
    let v := s.service
    let fuse := fun i k => Host.Outcome.next { s with fuses := { s.fuses with rollback := mapSet (fun _ => 0) s.fuses.rollback i (max (s.counter i) (min k 63)) } }
    (v.swap = .pending → exec .fwSwapHandover s = .next { s.wrF Reg.MBX_DEAN 3 0 3 with service := { v with swap := .gap } }) ∧
    (v.swap ≠ .pending → exec .fwSwapHandover s = .next s) ∧
    (∀ q tag, v.swap = .gap → v.swapWaiter = some (q, tag) → ∃ t, exec .fwWatchdog s = .next t ∧ t.rdF Reg.MBX_DEAN 3 0 = 2 ∧ t.service.runB = v.runB ∧
      t.service.swap = .none ∧ t.service.swapWaiter = none ∧ ∃ c, t.completions = s.completions ++ [c] ∧ c.house = 0 ∧ c.src = q ∧ c.tag = tag ∧ c.opcode = 0x16 ∧
        c.status = 0xC) ∧
    (v.swap ≠ .gap → exec .fwWatchdog s = .next s) ∧
    (s.rdF Reg.MBX_DEAN 3 0 = 2 → exec .fwBootConfirm s = .next { s with service := { v with bootB := v.runB } } ∧
      exec (.rollbackRaise none) s = fuse 0 (if v.runB then v.svnB else v.svnA)) ∧
    (s.rdF Reg.MBX_DEAN 3 0 ≠ 2 → exec .fwBootConfirm s = .next s ∧ exec (.rollbackRaise none) s = .next s) ∧
    (∀ (m : Word) x, s.models.find? (fun x => decide (x.handle = m.toNat)) = some x →
      (x.committed = true → exec (.rollbackRaise (some m)) s = fuse (1 + x.key) x.svn) ∧ (x.committed = false → exec (.rollbackRaise (some m)) s = .next s)) ∧
    (∀ a b : Bool, ∃ t, exec (.pllRecalibrate a b) s = .next t ∧ (t.rdF Reg.PWR_CAL 8 8 = if a then 1 - s.rdF Reg.PWR_CAL 8 8 else s.rdF Reg.PWR_CAL 8 8) ∧
      (t.rdF Reg.PWR_CAL 9 9 = if b then 1 - s.rdF Reg.PWR_CAL 9 9 else s.rdF Reg.PWR_CAL 9 9) ∧ ((a && b) = false → bit (t.rd Reg.PWR_CAL) 16 = true)) ∧
    (∀ (f : Fin 32) (ok : Bool), ∃ t, exec (.sensorCalibrate f ok) s = .next t ∧ t.rdF Reg.PWR_CAL 4 0 = f.val ∧
      (t.formTier f).heat = max (s.formTier f).heat (heatLevel (max (s.formTier f).last (if f.val < 24 then (s.formTier (f.val + 8)).last else 0))) ∧
      (ok = false → bit (t.rd Reg.PWR_CAL) 16 = true)) ∧
    (exec (.dramRetrain true) s = .next { s with service := { v with dramChannel := (v.dramChannel + 1) % 8 } }) ∧
    ∃ t, exec (.dramRetrain false) s = .next t ∧ t.service.dramChannel = (v.dramChannel + 1) % 8 ∧ bit (t.rd Reg.PWR_CAL) 16 = true

/-- R373, R477, Table 13.6: a function level reset takes the function's mailbox, its queues, completions, hall passes and debug state, and sets the floor of its
pipelines; PERST does so for every function.
R435 to R441, R382: JTAG answers while it is powered, EXTEST and INTEST in the lifecycle states that allow them, the TCD window in Device-open alone; lifecycle requests
and HDCP keys are taken in the states that allow them; a GPIO pin that meets its interrupt raises it. What INTEST captures is free (log 3). -/
def Obligations.FunctionResetsJtagAndPins : Prop :=
  (∀ (s : State) (fn : Fin 8), Link s →
     (∃ t, exec (.flr fn) s = .next t ∧ (∀ i, i < 35 → t.rd (Reg.own fn (0x10000 + 4 * i)) = regReset (Reg.own fn (0x10000 + 4 * i))) ∧
       (∀ c ∈ t.completions, c.house ≠ fn.val) ∧
       (let w := s.rd (Reg.QUE_HRANGEh fn)
        ∀ q, q < 16384 → inRange w 30 13 q = true → t.queueOn q = false ∧ t.queueHead q = 0 ∧ t.queueTail q = 0) ∧
       (fn.val ≠ 0 → (∀ p, p < 4 → s.ownsPipe fn p = true → (t.pipe p).flr = true) ∧ Nat.testBit t.scopedHouses fn = false ∧
         ∀ w ∈ t.waiters, ∀ q m, w.who ≠ .cmd fn q m)) ∧
     exec .perst s = .next ((List.range 8).foldl (fun u f => u.flr f) s) ∧
     ∃ t, exec .perst s = .next t ∧ t.completions.filter (fun c => decide (c.house < 8)) = []) ∧
  (∀ s : State,
     let on : Prop := s.resetN = true ∧ s.power ≠ .off
     let life := s.fuses.life
     let x : Prop := on ∧ s.power ≠ .holdup ∧ (life ≤ 1 ∨ life = 4)
     let scan := fun (u : State) n cap cont => Host.Outcome.next
       (State.emit { u with jtag := { u.jtag with instr := n, drives := decide (n = 4), bsr := cont } } (.tdo cap))
     let ask := fun dst slots => Host.Outcome.next { s with service := { s.service with lcReq := some (dst, slots) } }
     (on → exec .idcode s = .next (State.emit { s with jtag := { s.jtag with instr := 1, drives := false } } (.tdo s.fuses.idcode))) ∧
     (∀ b, on → exec (.bypass b) s = .next (State.emit { s with jtag := { s.jtag with instr := 2, drives := false, bypass := b } } (.tdo 0))) ∧
     (∀ p c, on → exec (.samplePreload p c) s = scan s 3 p c) ∧
     (∀ p c, x → exec (.extest p c) s = scan s 4 p c ∧ exec (.intest c) s = scan s.free.2 5 s.free.1.toNat c) ∧
     (∀ p c, ¬ x → exec (.extest p c) s = .next s ∧ exec (.intest c) s = .next s) ∧
     (∀ (w b : Bool) (p c : Nat) (o : Fin 16777216) (d : Word), ¬ on → exec .idcode s = .next s ∧ exec (.bypass b) s = .next s ∧
       exec (.samplePreload p c) s = .next s ∧ exec (.tcdAccess w o d) s = .next s) ∧
     (∀ (w : Bool) (o : Fin 16777216) (d : Word), on → s.power ≠ .holdup → let u : State := { s with jtag := { s.jtag with instr := 6, drives := false } }
       (s.openDevice = false → exec (.tcdAccess w o d) s = .next s) ∧
       (s.openDevice = true → exec (.tcdAccess true o d) s = .next (u.write32 0 (0x1000000 + o.val / 4 * 4) d) ∧
         exec (.tcdAccess false o d) s = .next (u.emit (.tdo (u.barValue 0 (0x1000000 + o.val / 4 * 4)).toNat)))) ∧
     (∀ (dst : Fin 8) (slots : Fin 16) (tk : List Byte), on → s.power ≠ .holdup →
       (life = 0 → dst.val = 1 → exec (.lcReq dst slots tk) s = ask 1 0) ∧
       (life = 0 → dst.val = 2 → exec (.lcReq dst slots tk) s = if slots.val ≠ 0 ∧ s.service.hdcpKeys = true then ask 2 slots.val else .next s) ∧
       (life = 2 → dst.val = 3 → exec (.lcReq dst slots tk) s = if s.tokenOk false tk then ask 3 0 else .next s) ∧
       (1 ≤ life → life ≤ 3 → dst.val = 4 → exec (.lcReq dst slots tk) s = if s.tokenOk true tk then ask 4 0 else .next s) ∧
       (dst.val ≤ life ∨ 4 < dst.val → exec (.lcReq dst slots tk) s = .next s)) ∧
     (on → s.power ≠ .holdup → life ≤ 1 → exec .hdcpProvision s = .next { s with service := { s.service with hdcpKeys := true } }) ∧
     (1 < life → exec .hdcpProvision s = .next s) ∧
     (∀ (pin : Fin 32) (mode : Fin 3) (irq : Fin 6) (l : Bool), Link s →
       let old := (mapGet (fun _ => ({} : Gpio)) s.gpio pin.val).level
       let u : State := { s with gpio := mapSet (fun _ => ({} : Gpio)) s.gpio pin.val { mode := mode.val, irq := irq.val, level := l } }
       (mode.val = 1 → gpioMeets irq.val old l = true → exec (.gpioInterrupt pin mode irq l) s = .next (u.emit (.gpioIrq pin.val))) ∧
       (mode.val ≠ 1 ∨ gpioMeets irq.val old l = false → exec (.gpioInterrupt pin mode irq l) s = .next u)))

/-- The queue (the pipeline's own interface): a step takes the command at the front and carries it out on the state with the rest of the queue, whatever the
command and the state; a command itself leaves the queue as it is. -/
def Obligations.StepTakesTheFrontCommand : Prop :=
  ∀ (s : State) (c : Instr), step { s with pending := c :: s.pending } = exec c s

/-- The model's choice (DESIGN CHOICE, log 1): a block with nothing waiting idles; and no word of the opcode table spells a command, since the table gives its rows
no bits. -/
def Obligations.AnEmptyQueueIdles : Prop :=
  ∀ (s : State) (nbits w : Nat), (s.pending = [] → step s = .next s) ∧ decodeTableWord nbits w = none ∧ s.withFetchWord nbits w = s

/-- Every command answers a next state, in any state, and leaves the queue as it is: all of it, in its order. The table has no command that stops the block. -/
def Obligations.CommandsLeaveTheQueue : Prop :=
  ∀ (c : Instr) (s : State), ∃ t, exec c s = .next t ∧ t.pending = s.pending

/-- Tables 0.4 to 16.12: what the registers of the tables read after reset where that is not 0, and R66, R68, R89, R166: an idle core with the predicate p0 alone set, array
registers and banks as their tables say. -/
def Obligations.ResetLeavesTheTablesValues : Prop :=
  let s := State.reset
  s.rd 0 = 0x91600000 ∧ s.rd Reg.RAS_CAPS = 0x81000 ∧ s.rd Reg.LIB_CAPS = 0x1004200 ∧ s.rd Reg.DMA_CAPS = 0x440 ∧ s.rd Reg.DMA_WINDOW = 0x258 ∧
  s.rd Reg.CMP_CAPS = 0x80804 ∧ s.rd Reg.SCO_CAPS = 8 ∧ s.rd Reg.VIN_CAPS = 0x12 ∧ s.rd Reg.QUE_CAPS = 0x4000 ∧ s.rd Reg.HPS_CAPS = 0x2000 ∧
  s.rd Reg.EVT_CAPS = 0x11 ∧ s.rd Reg.PWR_IO = 0x15 ∧ s.rd Reg.EVT_C_ID = 0x70400000 ∧
  (∀ r : Fin 8, s.rd (Reg.RASn_PHASE r) = 0x20000 ∧ s.rd (Reg.RASn_RATIO r) = 0x11 ∧ s.rd (Reg.RASn_CTRL r) = 0 ∧ s.rd (Reg.CMP_CVr_CTRL r) = 0xCB0000 ∧
    s.rd (Reg.SCOn_CTRL r) = BitVec.ofNat 32 (0x2000 + r.val * 1024) ∧ s.rd (Reg.CMP_GLg_ALPHA r) = 0x400) ∧
  (∀ p : Fin 4, s.rd (Reg.CMP_CUTp p) = 0xFFFF ∧ s.rd (Reg.DLN_Pp_LAST p) = 0xFFFF ∧ s.rd (Reg.CMP_VLv_ALPHA p) = 0x400) ∧
  (∀ b : Fin 512, s.bankOwner b = 8 ∧ s.bankBusy b = false ∧ s.bankShelf b = false) ∧
  (∀ c : Fin 1024, (s.core c).idle = true ∧ (s.core c).p = 1 ∧ (s.core c).m0.reg 0 = 1 ∧ (s.core c).m0.reg 3 = 0x7FFF8000 ∧ (s.core c).m0.reg 4 = 0x80 ∧
    (s.core c).m0.reg 0x10 = 0x3F800000) ∧
  s.pending = [] ∧ s.accepted = [] ∧ s.completions = [] ∧ s.waiters = [] ∧ s.subJobs = []

/-- The state after reset has the canonical form and legal fuses (the fuses' own values are the model's: log 6). -/
def Obligations.ResetIsCanonicalAndLegal : Prop :=
  State.reset.wf ∧ State.reset.fusesLegal

/-- The canonical form is kept by every step: all memories and the registers in rising order of keys with no entry that says what an unlisted one would, the tables of cores,
rasters, forms and engines in rising order. -/
def Obligations.EveryStepKeepsTheCanonicalForm : Prop :=
  ∀ s t : State, s.wf → step s = .next t → t.wf

/-- R433, R435, R436: fuses stay legal in every step: the lifecycle is one of its five states, no rollback counter passes 63, keys are destroyed at most fifteen times, and a
lifecycle request that waits leads to a later state.
R433, R435, R436: no step takes a fuse back: no lifecycle transition returns to an earlier state, no rollback counter goes down, no destroyed key returns. -/
def Obligations.StepsKeepAndNeverUndoTheFuses : Prop :=
  (∀ s t : State, s.fusesLegal → step s = .next t → t.fusesLegal) ∧
  (∀ s t : State, s.fusesLegal → step s = .next t → fusesKept s t)
end

