-- ==== Sys2Proof/Laws/Bits.lean ====
section
/-! SUPPORT. The laws of bit fields: each bit of a word after a field of it has been replaced, and the fields read back. -/
namespace Sys2Proof

/-- A bit of a word after field [hi:lo] has been replaced. -/
theorem bit_setFld {w : Nat} (x : BitVec w) {hi lo : Nat} (v i : Nat) (h : i < w) :
    bit (setFld x hi lo v) i = if lo ≤ i ∧ i < hi + 1 then Nat.testBit v (i - lo) else bit x i := by
  simp only [bit, setFld, fldMask, BitVec.getLsbD_or, BitVec.getLsbD_and, BitVec.getLsbD_not, BitVec.getLsbD_ofNat, h, decide_true,
    Bool.true_and, Nat.testBit_shiftLeft, Nat.testBit_mod_two_pow, Nat.testBit_two_pow_sub_one]
  by_cases a : lo ≤ i <;> by_cases b : i - lo < hi + 1 - lo
  · have c : i < hi + 1 := by omega
    simp [a, b, c]
  · have c : ¬ i < hi + 1 := by omega
    simp [a, b, c]
  · have c : ¬ (lo ≤ i ∧ i < hi + 1) := by omega
    simp [a]
  · simp [a]

/-- A bit of a field. -/
theorem testBit_fld {w : Nat} (x : BitVec w) (hi lo i : Nat) :
    Nat.testBit (fld x hi lo) i = (decide (i < hi + 1 - lo) && bit x (lo + i)) := by
  simp [fld, bit, Nat.testBit_mod_two_pow, Nat.testBit_shiftRight, BitVec.getLsbD]

/-- A field of a word below its width reads back after it has been replaced. -/
theorem fld_setFld_same {w : Nat} (x : BitVec w) {hi lo : Nat} (v : Nat) (h : hi < w) :
    fld (setFld x hi lo v) hi lo = v % 2 ^ (hi + 1 - lo) := by
  apply Nat.eq_of_testBit_eq
  intro i
  rw [testBit_fld, Nat.testBit_mod_two_pow]
  by_cases a : i < hi + 1 - lo
  · rw [bit_setFld _ _ _ (by omega)]
    simp [a]
    intro b
    omega
  · simp [a]

/-- Another field reads as before. -/
theorem fld_setFld_ne {w : Nat} (x : BitVec w) {hi lo hi' lo' : Nat} (v : Nat) (h : hi' < w) (q : hi' < lo ∨ hi < lo') :
    fld (setFld x hi lo v) hi' lo' = fld x hi' lo' := by
  apply Nat.eq_of_testBit_eq
  intro i
  rw [testBit_fld, testBit_fld]
  by_cases a : i < hi' + 1 - lo'
  · rw [bit_setFld _ _ _ (by omega), if_neg (by omega)]
  · simp [a]

/-- A field is below its bound. -/
theorem fld_lt {w : Nat} (x : BitVec w) (hi lo : Nat) : fld x hi lo < 2 ^ (hi + 1 - lo) := Nat.mod_lt _ (by positivity)

/-- The bit that has been set reads back. -/
@[simp] theorem bit_setBit_same {w : Nat} (x : BitVec w) {i : Nat} (b : Bool) (h : i < w) : bit (setBit x i b) i = b := by
  rw [setBit, bit_setFld _ _ _ h]
  cases b <;> simp

/-- Another bit reads as before. -/
theorem bit_setBit_ne {w : Nat} (x : BitVec w) {i j : Nat} (b : Bool) (h : j < w) (q : j ≠ i) : bit (setBit x i b) j = bit x j := by
  rw [setBit, bit_setFld _ _ _ h, if_neg (by omega)]

end Sys2Proof
end

