-- ==== Sys2Proof/Laws/Map.lean ====
section
/-! SUPPORT. The laws of sparse tables: what a read gives after a write, and that every operation keeps the canonical form. -/
namespace Sys2Proof

variable {α : Type}

/-- A lower bound of the keys may be lowered. -/
theorem mapAbove_mono {b c : Nat} {m : Map α} (h : mapAbove b m = true) (q : c ≤ b) : mapAbove c m = true := by
  cases m with
  | nil => rfl
  | cons x m =>
    simp only [mapAbove, Bool.and_eq_true, decide_eq_true_eq] at h ⊢
    exact ⟨by omega, h.2⟩

/-- A key not above the bound of a rising table reads as an unlisted one. -/
theorem mapGet_of_above (d : Nat → α) {b k : Nat} {m : Map α} (h : mapAbove b m = true) (q : k ≤ b) : mapGet d m k = d k := by
  induction m generalizing b with
  | nil => rfl
  | cons x m ih =>
    obtain ⟨y, v⟩ := x
    simp only [mapAbove, Bool.and_eq_true, decide_eq_true_eq] at h
    simp only [mapGet]
    rw [if_neg (by omega)]
    exact ih h.2 (by omega)

/-- A rising table rises above some bound that lies below a key k + 1 (or is empty): the two forms of the order. -/
theorem mapSorted_of_above {b : Nat} {m : Map α} (h : mapAbove b m = true) : mapSorted m = true := by
  cases m with
  | nil => rfl
  | cons x m =>
    simp only [mapAbove, Bool.and_eq_true] at h
    exact h.2

/-! ### Reading after writing -/

/-- The listed key reads as the value listed. -/
@[simp] theorem mapGet_mapIns_same (d : Nat → α) (m : Map α) (k : Nat) (v : α) : mapGet d (mapIns m k v) k = v := by
  induction m with
  | nil => simp [mapIns, mapGet]
  | cons x m ih =>
    obtain ⟨y, w⟩ := x
    simp only [mapIns]
    split
    · simp [mapGet]
    · split
      · simp [mapGet]
      · rename_i h
        simp [mapGet, h, ih]

/-- Other keys read as before. -/
theorem mapGet_mapIns_ne (d : Nat → α) (m : Map α) {k j : Nat} (v : α) (h : j ≠ k) : mapGet d (mapIns m k v) j = mapGet d m j := by
  induction m with
  | nil => simp [mapIns, mapGet, h]
  | cons x m ih =>
    obtain ⟨y, w⟩ := x
    simp only [mapIns]
    split
    · simp [mapGet, h]
    · split
      · rename_i q; subst q; simp [mapGet, h]
      · simp [mapGet, ih]

/-- A deleted key reads as an unlisted one. -/
@[simp] theorem mapGet_mapDel_same (d : Nat → α) (m : Map α) (k : Nat) : mapGet d (mapDel m k) k = d k := by
  induction m with
  | nil => rfl
  | cons x m ih =>
    obtain ⟨y, v⟩ := x
    simp only [mapDel]
    split
    · exact ih
    · rename_i q
      simp only [mapGet, if_neg q]
      exact ih

/-- Other keys read as before. -/
theorem mapGet_mapDel_ne (d : Nat → α) (m : Map α) {k j : Nat} (h : j ≠ k) : mapGet d (mapDel m k) j = mapGet d m j := by
  induction m with
  | nil => rfl
  | cons x m ih =>
    obtain ⟨y, v⟩ := x
    simp only [mapDel]
    split
    · rename_i q; subst q; simp [mapGet, h, ih]
    · simp [mapGet, ih]

variable [DecidableEq α]

/-- The key written reads as the value written. -/
@[simp] theorem mapGet_mapSet_same (d : Nat → α) (m : Map α) (k : Nat) (v : α) : mapGet d (mapSet d m k v) k = v := by
  unfold mapSet
  split
  · rename_i q; rw [mapGet_mapDel_same, q]
  · simp

/-- Every other key reads as before. -/
theorem mapGet_mapSet_ne (d : Nat → α) (m : Map α) {k j : Nat} (v : α) (h : j ≠ k) : mapGet d (mapSet d m k v) j = mapGet d m j := by
  unfold mapSet
  split
  · exact mapGet_mapDel_ne d m h
  · exact mapGet_mapIns_ne d m v h

/-! ### The canonical form -/

omit [DecidableEq α] in
/-- Deleting keeps a bound. -/
theorem mapAbove_mapDel {b : Nat} {m : Map α} (h : mapAbove b m = true) (k : Nat) : mapAbove b (mapDel m k) = true := by
  induction m generalizing b with
  | nil => rfl
  | cons x m ih =>
    obtain ⟨y, v⟩ := x
    simp only [mapAbove, Bool.and_eq_true, decide_eq_true_eq] at h
    simp only [mapDel]
    split
    · exact mapAbove_mono (ih h.2) (by omega)
    · simp only [mapAbove, Bool.and_eq_true, decide_eq_true_eq]
      exact ⟨h.1, ih h.2⟩

omit [DecidableEq α] in
/-- Listing a key above the bound keeps it. -/
theorem mapAbove_mapIns {b : Nat} {m : Map α} (h : mapAbove b m = true) {k : Nat} (q : b < k) (v : α) :
    mapAbove b (mapIns m k v) = true := by
  induction m generalizing b with
  | nil => simp [mapIns, mapAbove, q]
  | cons x m ih =>
    obtain ⟨y, w⟩ := x
    simp only [mapAbove, Bool.and_eq_true, decide_eq_true_eq] at h
    simp only [mapIns]
    split
    · simp only [mapAbove, Bool.and_eq_true, decide_eq_true_eq]; exact ⟨q, by omega, h.2⟩
    · split
      · rename_i e; subst e; simp only [mapAbove, Bool.and_eq_true, decide_eq_true_eq]; exact ⟨q, h.2⟩
      · simp only [mapAbove, Bool.and_eq_true, decide_eq_true_eq]
        exact ⟨h.1, ih h.2 (by omega)⟩

omit [DecidableEq α] in
/-- Deleting keeps the order. -/
theorem mapSorted_mapDel {m : Map α} (h : mapSorted m = true) (k : Nat) : mapSorted (mapDel m k) = true := by
  cases m with
  | nil => rfl
  | cons x m =>
    obtain ⟨y, v⟩ := x
    simp only [mapDel]
    split
    · exact mapSorted_of_above (mapAbove_mapDel h k)
    · exact mapAbove_mapDel h k

omit [DecidableEq α] in
/-- Listing keeps the order. -/
theorem mapSorted_mapIns {m : Map α} (h : mapSorted m = true) (k : Nat) (v : α) : mapSorted (mapIns m k v) = true := by
  cases m with
  | nil => rfl
  | cons x m =>
    obtain ⟨y, w⟩ := x
    simp only [mapIns]
    split
    · rename_i q; simp only [mapSorted, mapAbove, Bool.and_eq_true, decide_eq_true_eq]; exact ⟨q, h⟩
    · split
      · rename_i e; subst e; exact h
      · exact mapAbove_mapIns h (by omega) v

/-- Deleting leaves no superfluous entry. -/
theorem mapClean_mapDel {d : Nat → α} {m : Map α} (h : mapClean d m = true) (k : Nat) : mapClean d (mapDel m k) = true := by
  induction m with
  | nil => rfl
  | cons x m ih =>
    obtain ⟨y, v⟩ := x
    simp only [mapClean, Bool.and_eq_true] at h
    simp only [mapDel]
    split
    · exact ih h.2
    · simp only [mapClean, Bool.and_eq_true]; exact ⟨h.1, ih h.2⟩

/-- Listing a value other than the unlisted one leaves no superfluous entry. -/
theorem mapClean_mapIns {d : Nat → α} {m : Map α} (h : mapClean d m = true) {k : Nat} {v : α} (q : v ≠ d k) :
    mapClean d (mapIns m k v) = true := by
  induction m with
  | nil => simp [mapIns, mapClean, q]
  | cons x m ih =>
    obtain ⟨y, w⟩ := x
    have h' := h
    simp only [mapClean, Bool.and_eq_true] at h
    simp only [mapIns]
    split
    · rw [mapClean]; simp [q, h']
    · split
      · rw [mapClean]; simp [q, h.2]
      · simp only [mapClean, Bool.and_eq_true]; exact ⟨h.1, ih h.2⟩

/-- A write keeps the canonical form. -/
@[simp] theorem mapWf_mapSet {d : Nat → α} {m : Map α} (h : mapWf d m = true) (k : Nat) (v : α) : mapWf d (mapSet d m k v) = true := by
  simp only [mapWf, Bool.and_eq_true] at h ⊢
  unfold mapSet
  split
  · exact ⟨mapSorted_mapDel h.1 k, mapClean_mapDel h.2 k⟩
  · rename_i q; exact ⟨mapSorted_mapIns h.1 k v, mapClean_mapIns h.2 q⟩

omit [DecidableEq α] in
/-- Leaving entries out keeps a bound. -/
theorem mapAbove_filter {b : Nat} {m : Map α} (h : mapAbove b m = true) (p : Nat × α → Bool) : mapAbove b (m.filter p) = true := by
  induction m generalizing b with
  | nil => rfl
  | cons x m ih =>
    simp only [mapAbove, Bool.and_eq_true, decide_eq_true_eq] at h
    simp only [List.filter_cons]
    split
    · simp only [mapAbove, Bool.and_eq_true, decide_eq_true_eq]; exact ⟨h.1, ih h.2⟩
    · exact ih (mapAbove_mono h.2 (by omega))

/-- Leaving entries out keeps the canonical form. -/
@[simp] theorem mapWf_filter {d : Nat → α} {m : Map α} (h : mapWf d m = true) (p : Nat × α → Bool) : mapWf d (m.filter p) = true := by
  simp only [mapWf, Bool.and_eq_true] at h ⊢
  constructor
  · cases m with
    | nil => rfl
    | cons x m =>
      simp only [List.filter_cons]
      split
      · exact mapAbove_filter h.1 p
      · exact mapSorted_of_above (mapAbove_filter h.1 p)
  · have g := h.2
    clear h
    induction m with
    | nil => rfl
    | cons x m ih =>
      simp only [mapClean, Bool.and_eq_true] at g
      simp only [List.filter_cons]
      split
      · simp only [mapClean, Bool.and_eq_true]; exact ⟨g.1, ih g.2⟩
      · exact ih g.2

omit [DecidableEq α] in
/-- Leaving entries out keeps the order. -/
@[simp] theorem mapSorted_filter {m : Map α} (h : mapSorted m = true) (p : Nat × α → Bool) : mapSorted (m.filter p) = true := by
  cases m with
  | nil => rfl
  | cons x m =>
    simp only [List.filter_cons]
    split
    · exact mapAbove_filter h p
    · exact mapSorted_of_above (mapAbove_filter h p)

omit [DecidableEq α] in
/-- Changing values keeps the order. -/
@[simp] theorem mapSorted_map {β : Type} {m : Map α} (h : mapSorted m = true) (f : Nat × α → β) : mapSorted (m.map (fun x => (x.1, f x))) = true := by
  have g (b : Nat) (m : Map α) (h : mapAbove b m = true) : mapAbove b (m.map (fun x => (x.1, f x))) = true := by
    induction m generalizing b with
    | nil => rfl
    | cons x m ih =>
      simp only [mapAbove, Bool.and_eq_true] at h
      simp only [List.map_cons, mapAbove, Bool.and_eq_true]
      exact ⟨h.1, ih _ h.2⟩
  cases m with
  | nil => rfl
  | cons x m => exact g x.1 m h

/-- A write keeps the order. -/
@[simp] theorem mapSorted_mapSet {d : Nat → α} {m : Map α} (h : mapSorted m = true) (k : Nat) (v : α) : mapSorted (mapSet d m k v) = true := by
  unfold mapSet
  split
  · exact mapSorted_mapDel h k
  · exact mapSorted_mapIns h k v

/-! ### Memories -/

/-- An empty memory has the canonical form. -/
@[simp] theorem Memory.wf_nil : Memory.wf [] = true := rfl

/-- A byte written keeps the canonical form. -/
@[simp] theorem memWrite_wf {m : Memory} (h : Memory.wf m = true) (a : Nat) (b : Byte) : Memory.wf (memWrite m a b) = true := mapWf_mapSet h a b

/-- Bytes written keep the canonical form. -/
@[simp] theorem memWriteN_wf {m : Memory} (h : Memory.wf m = true) (a : Nat) (bs : List Byte) : Memory.wf (memWriteN m a bs) = true := by
  induction bs generalizing m a with
  | nil => exact h
  | cons b bs ih => exact ih (memWrite_wf h a b) (a + 1)

/-- Leaving bytes out keeps the canonical form. -/
@[simp] theorem Memory.wf_filter {m : Memory} (h : Memory.wf m = true) (p : Nat × Byte → Bool) : Memory.wf (m.filter p) = true := mapWf_filter h p

/-- The byte written reads back. -/
@[simp] theorem memRead_memWrite_same (m : Memory) (a : Nat) (b : Byte) : memRead (memWrite m a b) a = b :=
  mapGet_mapSet_same memDefault m a b

/-- Every other byte reads as before. -/
theorem memRead_memWrite_ne (m : Memory) {a c : Nat} (b : Byte) (h : c ≠ a) : memRead (memWrite m a b) c = memRead m c :=
  mapGet_mapSet_ne memDefault m b h

/-- Bytes outside those written read as before. -/
theorem memRead_memWriteN_out (m : Memory) {a c : Nat} (bs : List Byte) (h : c < a ∨ a + bs.length ≤ c) :
    memRead (memWriteN m a bs) c = memRead m c := by
  induction bs generalizing m a with
  | nil => rfl
  | cons b bs ih =>
    simp only [List.length_cons] at h
    simp only [memWriteN]
    rw [ih _ (by omega), memRead_memWrite_ne _ _ (by omega)]

/-- Bytes written read back. -/
theorem memRead_memWriteN_in (m : Memory) {a : Nat} (bs : List Byte) {i : Nat} (h : i < bs.length) :
    memRead (memWriteN m a bs) (a + i) = bs[i] := by
  induction bs generalizing m a i with
  | nil => simp at h
  | cons b bs ih =>
    simp only [memWriteN]
    cases i with
    | zero => rw [Nat.add_zero, memRead_memWriteN_out _ _ (by omega)]; exact memRead_memWrite_same m a b
    | succ i =>
      have := ih (memWrite m a b) (a := a + 1) (i := i) (by simpa using h)
      rw [show a + (i + 1) = a + 1 + i by omega, this]; rfl

/-- As many bytes are read as asked for. -/
@[simp] theorem memReadN_length (m : Memory) (a n : Nat) : (memReadN m a n).length = n := by
  induction n generalizing a with
  | zero => rfl
  | succ n ih => simp [memReadN, ih]

end Sys2Proof
end

