-- ==== Sys2Proof/Laws/Form.lean ====
section
/-! SUPPORT. The canonical form of the memories: the laws of State.wf, and folds. -/
namespace Sys2Proof.Machine

/-- A state written out. -/
@[simp] theorem wf_mk {{pending regs snaps out freeCtr resetN power fuses grants queueAux waiters rasters cores forms noBand engines lib locker desk istore dram host flash ecc pages priOn shelfTags shelfSlots shelfLru xlate lastMap fills late bandRecs corr completions pipes bandEnts subJobs bells swap commitSlots accepted glActive glHidden canvasMeta flat flatLines asked protects ports pclk trackers models loaded runs walks hostFrame parts prepared shown formTiers handoffs hw ckpts journal saves scopedHouses deviceOpen jtag gpio service}} :
    State.wf ⟨pending, regs, snaps, out, freeCtr, resetN, power, fuses, grants, queueAux, waiters, rasters, cores, forms, noBand, engines, lib, locker, desk, istore, dram, host, flash, ecc, pages, priOn, shelfTags, shelfSlots, shelfLru, xlate, lastMap, fills, late, bandRecs, corr, completions, pipes, bandEnts, subJobs, bells, swap, commitSlots, accepted, glActive, glHidden, canvasMeta, flat, flatLines, asked, protects, ports, pclk, trackers, models, loaded, runs, walks, hostFrame, parts, prepared, shown, formTiers, handoffs, hw, ckpts, journal, saves, scopedHouses, deviceOpen, jtag, gpio, service⟩ ↔ Memory.wf lib = true ∧ Memory.wf locker = true ∧ Memory.wf desk = true ∧ Memory.wf istore = true ∧
      Memory.wf dram = true ∧ Memory.wf host = true ∧ Memory.wf flash = true ∧ mapWf regReset regs = true ∧ mapSorted cores = true ∧
      mapSorted rasters = true ∧ mapSorted forms = true ∧ mapSorted engines = true := Iff.rfl

@[simp] theorem State.wf.lib {s : State} (h : s.wf) : Memory.wf s.lib = true := h.1
@[simp] theorem State.wf.locker {s : State} (h : s.wf) : Memory.wf s.locker = true := h.2.1
@[simp] theorem State.wf.desk {s : State} (h : s.wf) : Memory.wf s.desk = true := h.2.2.1
@[simp] theorem State.wf.istore {s : State} (h : s.wf) : Memory.wf s.istore = true := h.2.2.2.1
@[simp] theorem State.wf.dram {s : State} (h : s.wf) : Memory.wf s.dram = true := h.2.2.2.2.1
@[simp] theorem State.wf.host {s : State} (h : s.wf) : Memory.wf s.host = true := h.2.2.2.2.2.1
@[simp] theorem State.wf.flash {s : State} (h : s.wf) : Memory.wf s.flash = true := h.2.2.2.2.2.2.1
@[simp] theorem State.wf.regs {s : State} (h : s.wf) : mapWf regReset s.regs = true := h.2.2.2.2.2.2.2.1
@[simp] theorem State.wf.cores {s : State} (h : s.wf) : mapSorted s.cores = true := h.2.2.2.2.2.2.2.2.1
@[simp] theorem State.wf.rasters {s : State} (h : s.wf) : mapSorted s.rasters = true := h.2.2.2.2.2.2.2.2.2.1
@[simp] theorem State.wf.forms {s : State} (h : s.wf) : mapSorted s.forms = true := h.2.2.2.2.2.2.2.2.2.2.1
@[simp] theorem State.wf.engines {s : State} (h : s.wf) : mapSorted s.engines = true := h.2.2.2.2.2.2.2.2.2.2.2


@[simp] theorem mapWf_nil {α : Type} [DecidableEq α] (d : Nat → α) : mapWf d [] = true := rfl
@[simp] theorem mapSorted_nil {α : Type} : mapSorted ([] : Map α) = true := rfl

/-- A choice between two operations. -/
@[simp] theorem wf_ite (c : Prop) [Decidable c] (a b : State) : (if c then a else b).wf ↔ if c then a.wf else b.wf := by
  split <;> rfl
@[simp] theorem wf_ite_snd {α : Type} (c : Prop) [Decidable c] (a b : α × State) :
    (if c then a else b).2.wf ↔ if c then a.2.wf else b.2.wf := by
  split <;> rfl
@[simp] theorem wf_ite_fst {α : Type} (c : Prop) [Decidable c] (a b : State × α) :
    (if c then a else b).1.wf ↔ if c then a.1.wf else b.1.wf := by
  split <;> rfl

/-- A fold of operations that keep the form keeps it. -/
@[simp] theorem wf_foldl {α : Type} {f : State → α → State} (h : ∀ s x, s.wf → (f s x).wf) (l : List α) {s : State} (w : s.wf) :
    (l.foldl f s).wf := by
  induction l generalizing s <;> simp_all

/-- The same for a fold whose accumulator holds the state, at g. -/
theorem wf_foldl_at {α β : Type} (g : β → State) {f : β → α → β} (h : ∀ y x, (g y).wf → (g (f y x)).wf) (l : List α)
    {y : β} (w : (g y).wf) : (g (l.foldl f y)).wf := by
  induction l generalizing y <;> simp_all

/-! ### Ops -/

@[simp] theorem State.wr_wf (s : State) (key : Nat) (v : Word) (w0 : s.wf) : State.wf (State.wr s key v) := by
  simp (maxDischargeDepth := 100) [State.wr, w0]

@[simp] theorem State.wrF_wf (s : State) (key : Nat) (hi : Nat) (lo : Nat) (v : Nat) (w0 : s.wf) : State.wf (State.wrF s key hi lo v) := by
  simp (maxDischargeDepth := 100) [State.wrF, w0]

@[simp] theorem State.wr64_wf (s : State) (lo : Nat) (hi : Nat) (v : Nat) (w0 : s.wf) : State.wf (State.wr64 s lo hi v) := by
  simp (maxDischargeDepth := 100) [State.wr64, w0]

@[simp] theorem State.countErr_wf (s : State) (key : Nat) (w0 : s.wf) : State.wf (State.countErr s key) := by
  simp (maxDischargeDepth := 100) [State.countErr, w0]

@[simp] theorem State.countFld_wf (s : State) (key : Nat) (hi : Nat) (lo : Nat) (w0 : s.wf) : State.wf (State.countFld s key hi lo) := by
  simp (maxDischargeDepth := 100) [State.countFld, w0]

@[simp] theorem State.emit_wf (s : State) (o : Output) (w0 : s.wf) : State.wf (State.emit s o) := by simp (maxDischargeDepth := 100) [State.emit, w0]

@[simp] theorem State.powered_wf {s : State} {f : State → State} (h : ∀ s, s.wf → (f s).wf) (w0 : s.wf) :
    (s.powered f).wf := by
  unfold State.powered; split <;> simp [h, w0]

@[simp] theorem State.setRaster_wf (s : State) (n : Nat) (r : RasterAux) (w0 : s.wf) : State.wf (State.setRaster s n r) := by
  simp (maxDischargeDepth := 100) [State.setRaster, w0]

@[simp] theorem State.setCore_wf (s : State) (c : Nat) (k : Core) (w0 : s.wf) : State.wf (State.setCore s c k) := by
  simp (maxDischargeDepth := 100) [State.setCore, w0]

@[simp] theorem State.setForm_wf (s : State) (f : Nat) (x : Form) (w0 : s.wf) : State.wf (State.setForm s f x) := by
  simp (maxDischargeDepth := 100) [State.setForm, w0]

@[simp] theorem State.setEng_wf (s : State) (e : Nat) (x : DmaEng) (w0 : s.wf) : State.wf (State.setEng s e x) := by
  simp (maxDischargeDepth := 100) [State.setEng, w0]

@[simp] theorem State.free_wf (s : State) (w0 : s.wf) : State.wf (State.free s).2 := by simp (maxDischargeDepth := 100) [State.free, w0]

@[simp] theorem State.hostWrite_wf (s : State) (fn : Nat) (addr : Nat) (bs : List Byte) (w0 : s.wf) : State.wf (State.hostWrite s fn addr bs) := by
  simp (maxDischargeDepth := 100) [State.hostWrite, w0]

@[simp] theorem State.setPage_wf (s : State) (fn : Nat) (addr : Nat) (v : Nat) (w0 : s.wf) : State.wf (State.setPage s fn addr v) := by
  simp (maxDischargeDepth := 100) [State.setPage, w0]

@[simp] theorem State.libWrite_wf (s : State) (addr : Nat) (bs : List Byte) (w0 : s.wf) : State.wf (State.libWrite s addr bs) := by
  simp (maxDischargeDepth := 100) [State.libWrite, w0]

@[simp] theorem State.queueMsg_wf (s : State) (h : Nat) (q : Nat) (w0 : s.wf) : State.wf (State.queueMsg s h q) := by
  simp (maxDischargeDepth := 100) [State.queueMsg, w0]

@[simp] theorem State.queueStore_wf (s : State) (h : Nat) (q : Nat) (i : Nat) (bs : List Byte) (w0 : s.wf) :
    State.wf (State.queueStore s h q i bs) := by
  simp (maxDischargeDepth := 100) [State.queueStore, w0]

@[simp] theorem State.queuePut_wf (s : State) (h : Nat) (q : Nat) (bs : List Byte) (w0 : s.wf) : State.wf (State.queuePut s h q bs) := by
  simp (maxDischargeDepth := 100) [State.queuePut, w0]

@[simp] theorem State.eventLost_wf (s : State) (h : Nat) (w0 : s.wf) : State.wf (State.eventLost s h) := by
  simp (maxDischargeDepth := 100) [State.eventLost, w0]

@[simp] theorem State.eventPut_wf (s : State) (h : Nat) (q : Nat) (bs : List Byte) (w0 : s.wf) : State.wf (State.eventPut s h q bs) := by
  simp (maxDischargeDepth := 100) [State.eventPut, w0]

@[simp] theorem State.eventSeq_wf (s : State) (h : Nat) (w0 : s.wf) : State.wf (State.eventSeq s h) := by
  simp (maxDischargeDepth := 100) [State.eventSeq, w0]

@[simp] theorem State.post_wf (s : State) (h : Nat) (code : Nat) (tag : Nat) (own : Option Nat) (detail : List Nat) (w0 : s.wf) :
    State.wf (State.post s h code tag own detail) := by
  simp +contextual (maxDischargeDepth := 100) [State.post, w0]

@[simp] theorem State.postTo_wf (s : State) (h : Nat) (q : Nat) (code : Nat) (tag : Nat) (own : Option Nat) (detail : List Nat) (w0 : s.wf) :
    State.wf (State.postTo s h q code tag own detail) := by
  simp (maxDischargeDepth := 100) [State.postTo, w0]

@[simp] theorem State.postAll_wf (s : State) (hs : List Nat) (code : Nat) (tag : Nat) (own : Option Nat) (detail : List Nat) (w0 : s.wf) :
    State.wf (State.postAll s hs code tag own detail) := by
  simp +contextual (maxDischargeDepth := 100) [State.postAll, w0]

@[simp] theorem State.count48_wf (s : State) (lo : Nat) (hi : Nat) (n : Nat) (house : Option Nat) (w0 : s.wf) :
    State.wf (State.count48 s lo hi n house) := by
  simp (maxDischargeDepth := 100) [State.count48, w0]

@[simp] theorem State.compatSet1_wf (s : State) (r : Nat) (e : Nat) (fn : Nat) (w0 : s.wf) : State.wf (State.compatSet1 s r e fn) := by
  simp (maxDischargeDepth := 100) [State.compatSet1, w0]

@[simp] theorem State.compat_wf (s : State) (r : Nat) (e : Nat) (w0 : s.wf) : State.wf (State.compat s r e) := by
  simp +contextual (maxDischargeDepth := 100) [State.compat, w0]

@[simp] theorem State.serve_wf (s : State) (p : Nat) (x2 : Nat) (w0 : s.wf) : State.wf (State.serve s p x2) := by
  induction x2 generalizing s with
  | zero => simp [State.serve, w0]
  | succ n ih =>
    unfold State.serve; simp only []
    (repeat' split) <;> simp (maxDischargeDepth := 100) [ih, w0]

@[simp] theorem State.servePass_wf (s : State) (p : Nat) (w0 : s.wf) : State.wf (State.servePass s p) := by
  simp (maxDischargeDepth := 100) [State.servePass, w0]

@[simp] theorem State.signal_wf (s : State) (p : Nat) (n : Nat) (req : Nat) (w0 : s.wf) : State.wf (State.signal s p n req).1 := by
  unfold State.signal
  simp only []
  (repeat' split) <;> simp (maxDischargeDepth := 100) [w0]

@[simp] theorem State.join_wf (s : State) (p : Nat) (n : Nat) (who : HpWho) (w0 : s.wf) : State.wf (State.join s p n who) := by
  unfold State.join
  (repeat' split) <;> simp (maxDischargeDepth := 100) [w0]

@[simp] theorem State.unwait_wf (s : State) (who : HpWho) (w0 : s.wf) : State.wf (State.unwait s who) := by
  simp (maxDischargeDepth := 100) [State.unwait, w0]

/-! ### MemOps -/

/-- A protected memory replaced by another of the canonical form. -/
@[simp] theorem State.setBytes_wf {s : State} (sp : Space) {m : Memory} (w0 : s.wf) (h : Memory.wf m = true) :
    (s.setBytes sp m).wf := by
  unfold State.setBytes; split <;> simp [w0, h]

/-- The protected memories have the canonical form. -/
@[simp] theorem State.bytesOf_wf {s : State} (sp : Space) (w0 : s.wf) : Memory.wf (s.bytesOf sp) = true := by
  unfold State.bytesOf; split <;> simp [w0]

@[simp] theorem State.setEcc_wf (s : State) (sp : Space) (key : Nat) (v : Nat) (w0 : s.wf) : State.wf (State.setEcc s sp key v) := by
  simp (maxDischargeDepth := 100) [State.setEcc, w0]

@[simp] theorem State.eccMerge_wf (s : State) (sp : Space) (key : Nat) (n : Nat) (w0 : s.wf) : State.wf (State.eccMerge s sp key n) := by
  simp +contextual (maxDischargeDepth := 100) [State.eccMerge, w0]

@[simp] theorem State.store_wf (s : State) (sp : Space) (key : Nat) (bs : List Byte) (w0 : s.wf) : State.wf (State.store s sp key bs) := by
  simp (maxDischargeDepth := 100) [State.store, w0]

@[simp] theorem State.libError_wf (s : State) (unc : Bool) (addr : Nat) (w0 : s.wf) : State.wf (State.libError s unc addr) := by
  simp (maxDischargeDepth := 100) [State.libError, w0]

@[simp] theorem State.libCorrected_wf (s : State) (addr : Nat) (n : Nat) (w0 : s.wf) : State.wf (State.libCorrected s addr n) := by
  simp +contextual (maxDischargeDepth := 100) [State.libCorrected, w0]

@[simp] theorem State.bankWrite_wf (s : State) (req : Nat) (addr : Nat) (bs : List Byte) (w0 : s.wf) : State.wf (State.bankWrite s req addr bs) := by
  simp (maxDischargeDepth := 100) [State.bankWrite, w0]

@[simp] theorem State.bankWriteFor_wf (s : State) (req : Nat) (h : Nat) (addr : Nat) (bs : List Byte) (w0 : s.wf) :
    State.wf (State.bankWriteFor s req h addr bs) := by
  simp (maxDischargeDepth := 100) [State.bankWriteFor, w0]

@[simp] theorem State.dramWrite_wf (s : State) (h : Nat) (x2 : Nat) (x3 : List Byte) (w0 : s.wf) : State.wf (State.dramWrite s h x2 x3) := by
  induction x3 generalizing s x2 with
  | nil => simp [State.dramWrite, w0]
  | cons b bs ih => 
    unfold State.dramWrite
    split
    · have h : State.wf { s with dram := memWrite s.dram ‹Nat› b } := by simp [w0]
      exact ih _ _ h
    · exact ih _ _ w0

@[simp] theorem State.setTag_wf (s : State) (i : Nat) (t : Option (Nat × Bool)) (w0 : s.wf) : State.wf (State.setTag s i t) := by
  simp (maxDischargeDepth := 100) [State.setTag, w0]

@[simp] theorem State.touch_wf (s : State) (set : Nat) (w : Nat) (w0 : s.wf) : State.wf (State.touch s set w) := by
  simp (maxDischargeDepth := 100) [State.touch, w0]

@[simp] theorem State.evict_wf (s : State) (h : Nat) (i : Nat) (w0 : s.wf) : State.wf (State.evict s h i) := by
  unfold State.evict
  (repeat' split) <;> simp (maxDischargeDepth := 100) [w0]

@[simp] theorem State.allocLine_wf (s : State) (h : Nat) (x : Nat) (bs : List Byte) (dirty : Bool) (w0 : s.wf) :
    State.wf (State.allocLine s h x bs dirty) := by
  simp (maxDischargeDepth := 100) [State.allocLine, w0]

@[simp] theorem State.fillLine_wf (s : State) (h : Nat) (x : Nat) (w0 : s.wf) : State.wf (State.fillLine s h x) := by
  simp (maxDischargeDepth := 100) [State.fillLine, w0]

@[simp] theorem State.askFill_wf (s : State) (h : Nat) (x : Nat) (w0 : s.wf) : State.wf (State.askFill s h x) := by
  simp (maxDischargeDepth := 100) [State.askFill, w0]

@[simp] theorem State.shelfLookup_wf (s : State) (h : Nat) (x : Nat) (w0 : s.wf) : State.wf (State.shelfLookup s h x) := by
  simp (maxDischargeDepth := 100) [State.shelfLookup, w0]

@[simp] theorem State.shelfFill_wf (s : State) (h : Nat) (x : Nat) (w0 : s.wf) : State.wf (State.shelfFill s h x) := by
  simp (maxDischargeDepth := 100) [State.shelfFill, w0]

@[simp] theorem State.lineWrite_wf (s : State) (h : Nat) (a : Nat) (bs : List Byte) (w0 : s.wf) : State.wf (State.lineWrite s h a bs) := by
  simp (maxDischargeDepth := 100) [State.lineWrite, w0]

@[simp] theorem State.flushBank_wf (s : State) (h : Nat) (b : Nat) (w0 : s.wf) : State.wf (State.flushBank s h b) := by
  simp +contextual (maxDischargeDepth := 100) [State.flushBank, w0]

@[simp] theorem State.flushRange_wf (s : State) (h : Nat) (a : Nat) (n : Nat) (inval : Bool) (w0 : s.wf) :
    State.wf (State.flushRange s h a n inval) := by
  unfold State.flushRange
  simp only []
  (repeat' split) <;> (first | (simp (maxDischargeDepth := 100) [w0]; done) | (refine wf_foldl (fun s x w => ?_) _ (by simp [w0]); (repeat' split) <;> simp (maxDischargeDepth := 100) [w]) | (refine wf_foldl (fun s x w => ?_) _ (by simp [w0]); simp only []; (repeat' split) <;> simp (maxDischargeDepth := 100) [w]))

@[simp] theorem State.flushHouse_wf (s : State) (h : Nat) (w0 : s.wf) : State.wf (State.flushHouse s h) := by
  simp (maxDischargeDepth := 100) [State.flushHouse, w0]

@[simp] theorem State.pointSlots_wf (s : State) (h : Nat) (w0 : s.wf) : State.wf (State.pointSlots s h) := by
  simp +contextual (maxDischargeDepth := 100) [State.pointSlots, w0]

@[simp] theorem State.settleLoads_wf (s : State) (c : Nat) (shelf : Bool) (addr : Nat) (n : Nat) (w0 : s.wf) :
    State.wf (State.settleLoads s c shelf addr n) := by
  simp (maxDischargeDepth := 100) [State.settleLoads, w0]

@[simp] theorem State.coreWrite_wf (s : State) (c : Nat) (shelf : Bool) (house : Nat) (addr : Nat) (bs : List Byte) (w0 : s.wf) :
    State.wf (State.coreWrite s c shelf house addr bs) := by
  simp (maxDischargeDepth := 100) [State.coreWrite, w0]

@[simp] theorem State.sendEntry_wf (s : State) (c : Nat) (e : GatherEntry) (w0 : s.wf) : State.wf (State.sendEntry s c e) := by
  simp +contextual (maxDischargeDepth := 100) [State.sendEntry, w0]

@[simp] theorem State.flushEntry_wf (s : State) (c : Nat) (shelf : Bool) (line : Nat) (w0 : s.wf) : State.wf (State.flushEntry s c shelf line) := by
  unfold State.flushEntry
  simp only []
  (repeat' split) <;> simp (maxDischargeDepth := 100) [w0]

@[simp] theorem State.flushGather_wf (s : State) (c : Nat) (w0 : s.wf) : State.wf (State.flushGather s c) := by
  simp +contextual (maxDischargeDepth := 100) [State.flushGather, w0]

@[simp] theorem State.gatherRoom_wf (s : State) (c : Nat) (w0 : s.wf) : State.wf (State.gatherRoom s c) := by
  unfold State.gatherRoom
  (repeat' split) <;> simp (maxDischargeDepth := 100) [w0]

@[simp] theorem State.gatherStore_wf (s : State) (c : Nat) (shelf : Bool) (house : Nat) (addr : Nat) (bs : List Byte) (w0 : s.wf) :
    State.wf (State.gatherStore s c shelf house addr bs) := by
  unfold State.gatherStore
  simp only []
  (repeat' split) <;> simp (maxDischargeDepth := 100) [w0]

/-! ### Roll -/

@[simp] theorem State.setPipe_wf (s : State) (p : Nat) (x : Pipe) (w0 : s.wf) : State.wf (State.setPipe s p x) := by
  simp (maxDischargeDepth := 100) [State.setPipe, w0]

@[simp] theorem State.setBandRec_wf (s : State) (p : Nat) (b : Nat) (r : BandRec) (w0 : s.wf) : State.wf (State.setBandRec s p b r) := by
  simp (maxDischargeDepth := 100) [State.setBandRec, w0]

@[simp] theorem State.rollGive_wf (s : State) (f : Nat) (l : Nat) (i : Nat) (fresh : Bool) (w0 : s.wf) : State.wf (State.rollGive s f l i fresh) := by
  simp (maxDischargeDepth := 100) [State.rollGive, w0]

@[simp] theorem State.rollDraw_wf (s : State) (f : Nat) (l : Nat) (w0 : s.wf) : State.wf (State.rollDraw s f l).2 := by
  unfold State.rollDraw
  simp only []
  (repeat' split) <;> simp (maxDischargeDepth := 100) [w0]

@[simp] theorem State.rollResult_wf (s : State) (c : Nat) (gd : Nat) (pd : Nat) (w : Word) (w0 : s.wf) : State.wf (State.rollResult s c gd pd w) := by
  simp (maxDischargeDepth := 100) [State.rollResult, w0]

@[simp] theorem State.rollServe_wf (s : State) (f : Nat) (w0 : s.wf) : State.wf (State.rollServe s f) := by
  unfold State.rollServe
  refine wf_foldl (fun s l w => ?_) _ w0
  have h := State.rollDraw_wf s f l w
  simp only []
  (repeat' split) <;> simp_all

@[simp] theorem State.rollIssue_wf (s : State) (c : Nat) (gd : Nat) (pd : Nat) (w0 : s.wf) : State.wf (State.rollIssue s c gd pd) := by
  simp (maxDischargeDepth := 100) [State.rollIssue, w0]

@[simp] theorem State.bandDone_wf (s : State) (f : Nat) (w0 : s.wf) : State.wf (State.bandDone s f) := by
  simp (maxDischargeDepth := 100) [State.bandDone, w0]

@[simp] theorem State.tdoneRecord_wf (s : State) (c : Nat) (i : Nat) (w0 : s.wf) : State.wf (State.tdoneRecord s c i) := by
  simp (maxDischargeDepth := 100) [State.tdoneRecord, w0]

@[simp] theorem State.laneRelease_wf (s : State) (c : Nat) (w0 : s.wf) : State.wf (State.laneRelease s c) := by
  simp (maxDischargeDepth := 100) [State.laneRelease, w0]

@[simp] theorem State.closeBand_wf (s : State) (f : Nat) (w0 : s.wf) : State.wf (State.closeBand s f) := by
  simp (maxDischargeDepth := 100) [State.closeBand, w0]

@[simp] theorem State.dropTdones_wf (s : State) (f : Nat) (w0 : s.wf) : State.wf (State.dropTdones s f) := by
  simp +contextual (maxDischargeDepth := 100) [State.dropTdones, w0]

@[simp] theorem State.armTiles_wf (s : State) (f : Nat) (nt : Nat) (w0 : s.wf) : State.wf (State.armTiles s f nt) := by
  simp (maxDischargeDepth := 100) [State.armTiles, w0]

@[simp] theorem State.shapeFail_wf (s : State) (f : Nat) (w0 : s.wf) : State.wf (State.shapeFail s f) := by
  simp (maxDischargeDepth := 100) [State.shapeFail, w0]

@[simp] theorem State.armCounter_wf (s : State) (f : Nat) (p : Nat) (b : Nat) (target : Word) (deal : Bool) (nt : Nat) (shape : Option (Nat × Nat)) (tier : Nat) (w0 : s.wf) :
    State.wf (State.armCounter s f p b target deal nt shape tier) := by
  simp (maxDischargeDepth := 100) [State.armCounter, w0]

/-! ### CoreReg -/

@[simp] theorem State.onCore_wf (s : State) (c : Nat) (f : Core → Core) (w0 : s.wf) : State.wf (State.onCore s c f) := by
  simp (maxDischargeDepth := 100) [State.onCore, w0]

@[simp] theorem State.onArr_wf (s : State) (c : Nat) (a : Nat) (f : Arr → Arr) (w0 : s.wf) : State.wf (State.onArr s c a f) := by
  simp (maxDischargeDepth := 100) [State.onArr, w0]

@[simp] theorem State.csrRead_wf (s : State) (c : Nat) (n : Nat) (w0 : s.wf) : State.wf (State.csrRead s c n).2 := by
  unfold State.csrRead
  simp only []
  (repeat' split) <;> simp (maxDischargeDepth := 100) [w0]

@[simp] theorem State.csrCount_wf (s : State) (c : Nat) (lo : Nat) (n : Nat) (w0 : s.wf) : State.wf (State.csrCount s c lo n) := by
  simp (maxDischargeDepth := 100) [State.csrCount, w0]

@[simp] theorem State.coreEcc_wf (s : State) (c : Nat) (n : Nat) (w0 : s.wf) : State.wf (State.coreEcc s c n) := by
  simp +contextual (maxDischargeDepth := 100) [State.coreEcc, w0]

@[simp] theorem State.takeFault_wf (s : State) (c : Nat) (f : CoreFault) (slot : Nat) (pc : Nat) (w0 : s.wf) :
    State.wf (State.takeFault s c f slot pc) := by
  simp (maxDischargeDepth := 100) [State.takeFault, w0]

/-! ### Scalar -/

@[simp] theorem State.csrrRun_wf (s : State) (c : Nat) (w : SlotW) (w0 : s.wf) : State.wf (State.csrrRun s c w) := by
  simp (maxDischargeDepth := 100) [State.csrrRun, w0]

@[simp] theorem State.scalarRun_wf (s : State) (k : Core) (c : Nat) (w : SlotW) (w0 : s.wf) : State.wf (State.scalarRun s k c w) := by
  simp (maxDischargeDepth := 100) [State.scalarRun, w0]

/-! ### Locker -/

@[simp] theorem State.loadOut_wf (s : State) (k : Core) (c : Nat) (w : SlotW) (w0 : s.wf) : State.wf (State.loadOut s k c w) := by
  simp +contextual (maxDischargeDepth := 100) [State.loadOut, w0]

@[simp] theorem State.lockerStore_wf (s : State) (c : Nat) (a : Nat) (bs : List Byte) (w0 : s.wf) : State.wf (State.lockerStore s c a bs) := by
  simp (maxDischargeDepth := 100) [State.lockerStore, w0]

@[simp] theorem State.lockerRun_wf (s : State) (k : Core) (c : Nat) (w : SlotW) (w0 : s.wf) : State.wf (State.lockerRun s k c w) := by
  simp +contextual (maxDischargeDepth := 100) [State.lockerRun, w0]

@[simp] theorem State.loadReturn_wf (s : State) (c : Nat) (i : Nat) (w0 : s.wf) : State.wf (State.loadReturn s c i) := by
  unfold State.loadReturn
  simp only []
  (repeat' split) <;> simp +contextual (maxDischargeDepth := 100) [w0]

/-! ### Matrix -/

@[simp] theorem State.setAccWord_wf (s : State) (c : Nat) (a : Nat) (r : Nat) (j : Nat) (v : Nat) (w0 : s.wf) :
    State.wf (State.setAccWord s c a r j v) := by
  simp (maxDischargeDepth := 100) [State.setAccWord, w0]

@[simp] theorem State.arrayFault_wf (s : State) (c : Nat) (a : Nat) (cause : Nat) (info : Nat) (addr : Nat) (w0 : s.wf) :
    State.wf (State.arrayFault s c a cause info addr) := by
  simp (maxDischargeDepth := 100) [State.arrayFault, w0]

@[simp] theorem State.deskRead_wf (s : State) (c : Nat) (a : Nat) (ofs : Nat) (n : Nat) (w0 : s.wf) : State.wf (State.deskRead s c a ofs n).2 := by
  unfold State.deskRead
  simp only []
  (repeat' split) <;> simp (maxDischargeDepth := 100) [w0]

@[simp] theorem State.streamEcc_wf (s : State) (c : Nat) (a : Nat) (irow : Nat) (n : Nat) (w0 : s.wf) : State.wf (State.streamEcc s c a irow n) := by
  simp +contextual (maxDischargeDepth := 100) [State.streamEcc, w0]

@[simp] theorem State.setAccEntry_wf (s : State) (cfg : ArrCfg) (c : Nat) (a : Nat) (r : Nat) (j : Nat) (e : AccEntry) (w0 : s.wf) :
    State.wf (State.setAccEntry s cfg c a r j e) := by
  simp (maxDischargeDepth := 100) [State.setAccEntry, w0]

@[simp] theorem State.accRow_wf (s : State) (cfg : ArrCfg) (c : Nat) (a : Nat) (r : Nat) (half : Nat) (qmask : Nat) (clear : Bool) (zp : Nat) (img : Memory) (row : Memory) (w0 : s.wf) :
    State.wf (State.accRow s cfg c a r half qmask clear zp img row) := by
  simp +contextual (maxDischargeDepth := 100) [State.accRow, w0]

@[simp] theorem State.drainSource_wf (s : State) (cfg : ArrCfg) (c : Nat) (a : Nat) (r : Nat) (w0 : s.wf) :
    State.wf (State.drainSource s cfg c a r).2 := by
  simp (maxDischargeDepth := 100) [State.drainSource, w0]

@[simp] theorem State.readImage_wf (s : State) (c : Nat) (a : Nat) (half : Nat) (w0 : s.wf) : State.wf (State.readImage s c a half).2 := by
  simp (maxDischargeDepth := 100) [State.readImage, w0]

@[simp] theorem State.loadTable_wf (s : State) (c : Nat) (a : Nat) (v : Word) (w0 : s.wf) : State.wf (State.loadTable s c a v) := by
  unfold State.loadTable
  simp only []
  (repeat' split) <;> simp (maxDischargeDepth := 100) [w0]

@[simp] theorem streamStep_wf (cfg : ArrCfg) (c a irow arow acc qmask : Nat) (img : Memory) (zp : Nat) {x : StreamAcc} (t : Nat)
    (w0 : x.s.wf) : (streamStep cfg c a irow arow acc qmask img zp x t).s.wf := by
  unfold streamStep
  simp only []
  split
  · simp (maxDischargeDepth := 100) [w0]
  · split
    · exact w0
    · split
      · refine wf_foldl_at (fun y : StreamAcc × Option (List (List AccEntry × Nat × (Nat → Bool))) => y.1.s) (fun y h w => ?_) _ ?_
        · simp (maxDischargeDepth := 100) [w]
        · exact wf_foldl (fun s h w => by simp (maxDischargeDepth := 100) [w]) _ w0
      · exact wf_foldl (fun s h w => by simp (maxDischargeDepth := 100) [w]) _ w0
@[simp] theorem State.startOp_wf (s : State) (c : Nat) (a : Nat) (q : ArrCmd) (w0 : s.wf) : State.wf (State.startOp s c a q).1 := by
  unfold State.startOp
  simp only []
  split
  · split <;> simp (maxDischargeDepth := 100) [w0]
  · split
    · refine State.onArr_wf _ _ _ _ ?_
      refine wf_foldl_at (fun y : StreamAcc => y.s) (fun y h w => ?_) _ ?_
      · simp (maxDischargeDepth := 100) [w]
      · simp only []; split <;> simp (maxDischargeDepth := 100) [w0]
    · refine wf_foldl_at (fun y : StreamAcc => y.s) (fun y h w => ?_) _ ?_
      · simp (maxDischargeDepth := 100) [w]
      · simp only []; split <;> simp (maxDischargeDepth := 100) [w0]
  · simp (maxDischargeDepth := 100) [w0]
  · refine State.onArr_wf _ _ _ _ ?_
    refine wf_foldl_at (fun y : StreamAcc => y.s) (fun y h w => ?_) _ ?_
    · simp (maxDischargeDepth := 100) [w]
    · exact w0
  · exact wf_foldl (fun s i w => wf_foldl (fun s j w => by simp (maxDischargeDepth := 100) [w]) _ w) _ w0
  · simp only []; split <;> simp (maxDischargeDepth := 100) [w0]
  · exact w0
  · simp (maxDischargeDepth := 100) [w0]

@[simp] theorem State.arrayStart_wf (s : State) (c : Nat) (a : Nat) (bad : Bool) (w0 : s.wf) : State.wf (State.arrayStart s c a bad) := by
  unfold State.arrayStart
  simp only []
  (repeat' split) <;> simp (maxDischargeDepth := 100) [w0]

@[simp] theorem State.drainVisible_wf (s : State) (c : Nat) (a : Nat) (w : DrainWrite) (w0 : s.wf) : State.wf (State.drainVisible s c a w) := by
  simp (maxDischargeDepth := 100) [State.drainVisible, w0]

@[simp] theorem State.arrayComplete_wf (s : State) (c : Nat) (a : Nat) (w0 : s.wf) : State.wf (State.arrayComplete s c a) := by
  unfold State.arrayComplete
  simp only []
  (repeat' split) <;> simp +contextual (maxDischargeDepth := 100) [w0]

/-! ### Transfer -/

@[simp] theorem State.xferEcc_wf (s : State) (c : Nat) (addr : Nat) (n : Nat) (w0 : s.wf) : State.wf (State.xferEcc s c addr n) := by
  unfold State.xferEcc
  simp only []
  (repeat' split) <;> simp (maxDischargeDepth := 100) [w0]

@[simp] theorem State.mvlIssue_wf (s : State) (k : Core) (c : Nat) (w : SlotW) (w0 : s.wf) : State.wf (State.mvlIssue s k c w) := by
  unfold State.mvlIssue
  simp only []
  (repeat' split) <;> simp (maxDischargeDepth := 100) [w0]

@[simp] theorem State.mvlResult_wf (s : State) (c : Nat) (w0 : s.wf) : State.wf (State.mvlResult s c) := by
  unfold State.mvlResult
  (repeat' split) <;> simp (maxDischargeDepth := 100) [w0]

@[simp] theorem State.transferRun_wf (s : State) (k : Core) (c : Nat) (w : SlotW) (w0 : s.wf) : State.wf (State.transferRun s k c w) := by
  unfold State.transferRun
  (repeat' split) <;> simp (maxDischargeDepth := 100) [w0]

@[simp] theorem State.deskRowWrite_wf (s : State) (c : Nat) (a : Nat) (ofs : Nat) (bytes : Memory) (w0 : s.wf) :
    State.wf (State.deskRowWrite s c a ofs bytes) := by
  simp +contextual (maxDischargeDepth := 100) [State.deskRowWrite, w0]

@[simp] theorem State.intoDesk_wf (s : State) (c : Nat) (a : Nat) (part : Nat) (skew : Bool) (drow : Nat) (rows : List (Option (List Byte))) (w0 : s.wf) :
    State.wf (State.intoDesk s c a part skew drow rows) := by
  unfold State.intoDesk
  simp only []
  (repeat' split) <;> (first | (simp (maxDischargeDepth := 100) [w0]; done) | (refine wf_foldl (fun s x w => ?_) _ (by simp [w0]); (repeat' split) <;> simp (maxDischargeDepth := 100) [w]) | (refine wf_foldl (fun s x w => ?_) _ (by simp [w0]); simp only []; (repeat' split) <;> simp (maxDischargeDepth := 100) [w]))

@[simp] theorem State.fromDesk_wf (s : State) (c : Nat) (a : Nat) (part : Nat) (skew : Bool) (drow : Nat) (t : Nat) (w0 : s.wf) :
    State.wf (State.fromDesk s c a part skew drow t).2 := by
  unfold State.fromDesk
  simp only []
  (repeat' split) <;> simp (maxDischargeDepth := 100) [w0]

theorem State.dmaPush_wf {s t : State} {e a h : Nat} (q : s.dmaPush e a h = some t) (w0 : s.wf) : t.wf := by
  unfold State.dmaPush at q
  simp only [] at q
  split at q <;> simp_all
  subst q; simp [w0]

@[simp] theorem State.transferComplete_wf (s : State) (c : Nat) (w0 : s.wf) : State.wf (State.transferComplete s c) := by
  unfold State.transferComplete
  simp only []
  split
  · exact w0
  · split
    · simp (maxDischargeDepth := 100) [w0]
    · refine wf_foldl (fun s t w => ?_) _ (by simp [w0])
      split <;> simp (maxDischargeDepth := 100) [w]
    · simp (maxDischargeDepth := 100) [w0]
    · split
      · exact w0
      · cases h : State.dmaPush _ _ _ _
        · exact w0
        · exact State.dmaPush_wf h (by simp [w0])

@[simp] theorem State.corrBounds_wf (s : State) (u : CorrUnit) (w0 : s.wf) : State.wf (State.corrBounds s u) := by
  simp (maxDischargeDepth := 100) [State.corrBounds, w0]

@[simp] theorem State.corrLand_wf (s : State) (c : Nat) (up : Bool) (w0 : s.wf) : State.wf (State.corrLand s c up) := by
  unfold State.corrLand
  (repeat' split) <;> simp (maxDischargeDepth := 100) [w0]

/-! ### Control -/

@[simp] theorem State.doSignals_wf (s : State) (c : Nat) (w0 : s.wf) : State.wf (State.doSignals s c) := by
  simp +contextual (maxDischargeDepth := 100) [State.doSignals, w0]

@[simp] theorem State.doTdones_wf (s : State) (c : Nat) (w0 : s.wf) : State.wf (State.doTdones s c) := by
  simp +contextual (maxDischargeDepth := 100) [State.doTdones, w0]

@[simp] theorem State.dropWaits_wf (s : State) (c : Nat) (w0 : s.wf) : State.wf (State.dropWaits s c) := by
  simp (maxDischargeDepth := 100) [State.dropWaits, w0]

@[simp] theorem State.progress_wf (s : State) (c : Nat) (w0 : s.wf) : State.wf (State.progress s c) := by
  simp (maxDischargeDepth := 100) [State.progress, w0]

@[simp] theorem State.addWait_wf (s : State) (c : Nat) (w : CoreWait) (w0 : s.wf) : State.wf (State.addWait s c w) := by
  simp (maxDischargeDepth := 100) [State.addWait, w0]

@[simp] theorem State.controlRun_wf (s : State) (k : Core) (c : Nat) (w : SlotW) (w0 : s.wf) : State.wf (State.controlRun s k c w) := by
  unfold State.controlRun
  (repeat' split) <;> simp (maxDischargeDepth := 100) [w0]

/-! ### Substitute -/

@[simp] theorem State.subStat_wf (s : State) (w0 : s.wf) : State.wf (State.subStat s) := by simp (maxDischargeDepth := 100) [State.subStat, w0]

@[simp] theorem State.setSState_wf (s : State) (p : Nat) (b : Nat) (t : Word) (st : SState) (w0 : s.wf) : State.wf (State.setSState s p b t st) := by
  simp (maxDischargeDepth := 100) [State.setSState, w0]

@[simp] theorem State.queueJob_wf (s : State) (p : Nat) (b : Nat) (t : Word) (onCall : Bool) (cut : Bool) (w0 : s.wf) :
    State.wf (State.queueJob s p b t onCall cut) := by
  unfold State.queueJob
  (repeat' split) <;> simp (maxDischargeDepth := 100) [w0]

@[simp] theorem State.dropJob_wf (s : State) (p : Nat) (b : Nat) (t : Word) (w0 : s.wf) : State.wf (State.dropJob s p b t) := by
  simp (maxDischargeDepth := 100) [State.dropJob, w0]

@[simp] theorem State.callJob_wf (s : State) (p : Nat) (b : Nat) (t : Word) (w0 : s.wf) : State.wf (State.callJob s p b t) := by
  simp (maxDischargeDepth := 100) [State.callJob, w0]

@[simp] theorem State.startJob_wf (s : State) (p : Nat) (b : Nat) (w0 : s.wf) : State.wf (State.startJob s p b) := by
  unfold State.startJob
  (repeat' split) <;> simp (maxDischargeDepth := 100) [w0]

@[simp] theorem State.showFormTier_wf (s : State) (f : Nat) (w0 : s.wf) : State.wf (State.showFormTier s f) := by
  simp (maxDischargeDepth := 100) [State.showFormTier, w0]

@[simp] theorem State.setFormTier_wf (s : State) (f : Nat) (x : FormTier) (w0 : s.wf) : State.wf (State.setFormTier s f x) := by
  simp (maxDischargeDepth := 100) [State.setFormTier, w0]

@[simp] theorem State.setChipFloor_wf (s : State) (v : Nat) (w0 : s.wf) : State.wf (State.setChipFloor s v) := by
  simp (maxDischargeDepth := 100) [State.setChipFloor, w0]

/-! ### Dma -/

@[simp] theorem State.setDmaState_wf (s : State) (e : Nat) (v : Nat) (w0 : s.wf) : State.wf (State.setDmaState s e v) := by
  simp (maxDischargeDepth := 100) [State.setDmaState, w0]

@[simp] theorem State.dmaDepth_wf (s : State) (e : Nat) (w0 : s.wf) : State.wf (State.dmaDepth s e) := by
  simp (maxDischargeDepth := 100) [State.dmaDepth, w0]

@[simp] theorem State.dmaBell_wf {s : State} (e addr house : Nat) (w0 : s.wf) : (s.dmaBell e addr house).wf := by
  unfold State.dmaBell
  split
  · next h => simp [State.dmaPush_wf h w0]
  · simp [w0]

@[simp] theorem State.complete_wf (s : State) (h : Nat) (src : Option Nat) (op : Nat) (tag : Nat) (status : Nat) (detail : Nat) (res : List Nat) (w0 : s.wf) :
    State.wf (State.complete s h src op tag status detail res) := by
  simp (maxDischargeDepth := 100) [State.complete, w0]

@[simp] theorem State.completeTo_wf (s : State) (dest : Option Nat) (h : Nat) (src : Option Nat) (op : Nat) (tag : Nat) (status : Nat) (detail : Nat) (res : List Nat) (w0 : s.wf) :
    State.wf (State.completeTo s dest h src op tag status detail res) := by
  simp (maxDischargeDepth := 100) [State.completeTo, w0]

@[simp] theorem State.dmaAnswer_wf (s : State) (w : Option (Nat × Option Nat × Nat)) (w0 : s.wf) : State.wf (State.dmaAnswer s w) := by
  unfold State.dmaAnswer
  (repeat' split) <;> simp (maxDischargeDepth := 100) [w0]

@[simp] theorem State.dmaEnd_wf (s : State) (e : Nat) (st : Nat) (w0 : s.wf) : State.wf (State.dmaEnd s e st) := by
  simp (maxDischargeDepth := 100) [State.dmaEnd, w0]

@[simp] theorem State.dmaFlush_wf (s : State) (e : Nat) (w0 : s.wf) : State.wf (State.dmaFlush s e) := by
  simp (maxDischargeDepth := 100) [State.dmaFlush, w0]

@[simp] theorem State.dmaFault_wf (s : State) (e : Nat) (cause : Nat) (addr : Nat) (w0 : s.wf) : State.wf (State.dmaFault s e cause addr) := by
  simp (maxDischargeDepth := 100) [State.dmaFault, w0]

@[simp] theorem State.readDesc_wf (s : State) (e : Nat) (addr : Nat) (w0 : s.wf) : State.wf (State.readDesc s e addr) := by
  unfold State.readDesc
  simp only []
  (repeat' split) <;> simp (maxDischargeDepth := 100) [w0]

@[simp] theorem State.chainStart_wf (s : State) (e : Nat) (w0 : s.wf) : State.wf (State.chainStart s e) := by
  unfold State.chainStart
  simp only []
  (repeat' split) <;> simp (maxDischargeDepth := 100) [w0]

@[simp] theorem State.locWrite_wf (s : State) (house : Nat) (l : Loc) (a : Nat) (bs : List Byte) (w0 : s.wf) :
    State.wf (State.locWrite s house l a bs) := by
  unfold State.locWrite
  (repeat' split) <;> simp (maxDischargeDepth := 100) [w0]

@[simp] theorem State.skewArrive_wf (s : State) (e : Nat) (x : DmaEng) (d : Desc) (w0 : s.wf) : State.wf (State.skewArrive s e x d) := by
  simp +contextual (maxDischargeDepth := 100) [State.skewArrive, w0]

@[simp] theorem State.moveRow_wf (s : State) (e : Nat) (x : DmaEng) (d : Desc) (to_ : Nat) (w0 : s.wf) : State.wf (State.moveRow s e x d to_) := by
  unfold State.moveRow
  simp only []
  (repeat' split) <;> simp +contextual (maxDischargeDepth := 100) [w0]

@[simp] theorem State.moveRows_wf (s : State) (e : Nat) (d : Desc) (bus : Option (Nat × Nat)) (x4 : Nat) (w0 : s.wf) : State.wf (State.moveRows s e d bus x4) := by
  induction x4 generalizing s with
  | zero => simp [State.moveRows, w0]
  | succ n ih =>
    unfold State.moveRows
    simp only []
    (repeat' split) <;> simp (maxDischargeDepth := 100) [ih, w0]

@[simp] theorem State.runDesc_wf (s : State) (e : Nat) (kind : Nat) (bus : Option (Nat × Nat)) (w0 : s.wf) :
    State.wf (State.runDesc s e kind bus) := by
  unfold State.runDesc
  simp only []
  (repeat' split) <;> simp (maxDischargeDepth := 100) [w0]

@[simp] theorem State.descDone_wf (s : State) (e : Nat) (w0 : s.wf) : State.wf (State.descDone s e) := by
  simp (maxDischargeDepth := 100) [State.descDone, w0]

@[simp] theorem State.dmaAbort_wf (s : State) (e : Nat) (w0 : s.wf) : State.wf (State.dmaAbort s e) := by
  simp (maxDischargeDepth := 100) [State.dmaAbort, w0]

@[simp] theorem State.abortWrite_wf (s : State) (fn : Option Nat) (e : Nat) (w0 : s.wf) : State.wf (State.abortWrite s fn e) := by
  unfold State.abortWrite
  (repeat' split) <;> simp (maxDischargeDepth := 100) [w0]

@[simp] theorem State.priResponse_wf (s : State) (fn : Nat) (page : Nat) (ok : Bool) (w0 : s.wf) : State.wf (State.priResponse s fn page ok) := by
  simp +contextual (maxDischargeDepth := 100) [State.priResponse, w0]

/-! ### Issue -/

@[simp] theorem State.slotRun_wf (s : State) (k : Core) (c : Nat) (x : Nat × SlotW) (w0 : s.wf) : State.wf (State.slotRun s k c x) := by
  simp (maxDischargeDepth := 100) [State.slotRun, w0]

@[simp] theorem State.beginBundle_wf (s : State) (k : Core) (c : Nat) (ws : List SlotW) (w0 : s.wf) : State.wf (State.beginBundle s k c ws) := by
  simp (maxDischargeDepth := 100) [State.beginBundle, w0]

@[simp] theorem State.runBundle_wf (s : State) (k : Core) (c : Nat) (ws : List SlotW) (w0 : s.wf) : State.wf (State.runBundle s k c ws) := by
  simp +contextual (maxDischargeDepth := 100) [State.runBundle, w0]

@[simp] theorem State.issue_wf (s : State) (c : Nat) (ws : List SlotW) (w0 : s.wf) : State.wf (State.issue s c ws) := by
  unfold State.issue
  simp only []
  (repeat' split) <;> simp (maxDischargeDepth := 100) [w0]

@[simp] theorem State.issue1_wf (s : State) (c : Nat) (i : Nat) (op : Nat) (pg : Nat) (pn : Bool) (body : BitVec 54) (w0 : s.wf) :
    State.wf (State.issue1 s c i op pg pn body) := by
  simp (maxDischargeDepth := 100) [State.issue1, w0]

@[simp] theorem State.fetchIssue_wf (s : State) (c : Nat) (w0 : s.wf) : State.wf (State.fetchIssue s c) := by
  simp (maxDischargeDepth := 100) [State.fetchIssue, w0]

/-! ### Bells -/

@[simp] theorem State.ringLine_wf (s : State) (r : Nat) (frame : Nat) (line : Nat) (w0 : s.wf) : State.wf (State.ringLine s r frame line) := by
  simp +contextual (maxDischargeDepth := 100) [State.ringLine, w0]

@[simp] theorem State.onBell_wf {s : State} (r e action : Nat) {f : State → Nat → DueBell → State}
    (q : ∀ s h d, s.wf → (f s h d).wf) (w0 : s.wf) : (s.onBell r e action f).wf := by
  unfold State.onBell
  simp only []
  (repeat' split) <;> simp [q, w0]

@[simp] theorem State.stopArrays_wf (s : State) (c : Nat) (w0 : s.wf) : State.wf (State.stopArrays s c) := by
  simp +contextual (maxDischargeDepth := 100) [State.stopArrays, w0]

@[simp] theorem State.dropRolls_wf (s : State) (c : Nat) (w0 : s.wf) : State.wf (State.dropRolls s c) := by
  simp (maxDischargeDepth := 100) [State.dropRolls, w0]

@[simp] theorem State.startCore_wf (s : State) (c : Nat) (entry : Nat) (pipe : Nat) (band : Nat) (target : Nat) (tier : Nat) (w0 : s.wf) :
    State.wf (State.startCore s c entry pipe band target tier) := by
  simp (maxDischargeDepth := 100) [State.startCore, w0]

@[simp] theorem State.armBand_wf (s : State) (f : Nat) (p : Nat) (b : Nat) (target : Nat) (tier : Nat) (w0 : s.wf) : State.wf (State.armBand s f p b target tier) := by
  unfold State.armBand
  extract_lets t x h s1 src s2 onCall
  have h2 : s2.wf := by
    simp only [s2]
    refine State.setPipe_wf _ _ _ ?_
    simp only [s1]
    split <;> simp (maxDischargeDepth := 100) [w0]
  (repeat' split) <;> simp [h2]

@[simp] theorem State.hwEnd_wf (s : State) (f : Nat) (w0 : s.wf) : State.wf (State.hwEnd s f) := by simp (maxDischargeDepth := 100) [State.hwEnd, w0]

@[simp] theorem State.progStart_wf (s : State) (h : Nat) (d : DueBell) (w0 : s.wf) : State.wf (State.progStart s h d) := by
  simp +contextual (maxDischargeDepth := 100) [State.progStart, w0]

@[simp] theorem State.wake_wf (s : State) (h : Nat) (d : DueBell) (w0 : s.wf) : State.wf (State.wake s h d) := by
  simp +contextual (maxDischargeDepth := 100) [State.wake, w0]

@[simp] theorem State.bellDma_wf (s : State) (h : Nat) (d : DueBell) (w0 : s.wf) : State.wf (State.bellDma s h d) := by
  simp (maxDischargeDepth := 100) [State.bellDma, w0]

@[simp] theorem State.hostEvt_wf (s : State) (h : Nat) (r : Nat) (d : DueBell) (w0 : s.wf) : State.wf (State.hostEvt s h r d) := by
  simp (maxDischargeDepth := 100) [State.hostEvt, w0]

@[simp] theorem State.warn_wf (s : State) (h : Nat) (d : DueBell) (w0 : s.wf) : State.wf (State.warn s h d) := by
  simp (maxDischargeDepth := 100) [State.warn, w0]

@[simp] theorem State.late__wf (s : State) (h : Nat) (d : DueBell) (w0 : s.wf) : State.wf (State.late_ s h d) := by
  unfold State.late_
  extract_lets p b x t r sel src1 s1 s2 s3 s4 s5 s6 n
  split
  · exact w0
  · have h1 : s1.wf := by simp [s1, w0]
    clear_value s1
    have h2 : s2.wf := by simp [s2, h1]
    clear_value s2
    have h3 : s3.wf := by simp (maxDischargeDepth := 100) [s3, h2]
    clear_value s3
    have h4 : s4.wf := by simp (maxDischargeDepth := 100) [s4, h3]
    clear_value s4
    have h5 : s5.wf := by simp (maxDischargeDepth := 100) [s5, h4]
    clear_value s5
    have h6 : s6.wf := by simp only [s6]; split <;> simp [h5]
    clear_value s6
    simp (maxDischargeDepth := 100) [h6]

@[simp] theorem State.zeroArrays_wf (s : State) (c : Nat) (w0 : s.wf) : State.wf (State.zeroArrays s c) := by
  simp (maxDischargeDepth := 100) [State.zeroArrays, w0]

@[simp] theorem State.handCore_wf (s : State) (c : Nat) (house : Nat) (w0 : s.wf) : State.wf (State.handCore s c house) := by
  simp (maxDischargeDepth := 100) [State.handCore, w0]

@[simp] theorem State.handEngines_wf (s : State) (f : Nat) (w0 : s.wf) : State.wf (State.handEngines s f) := by
  simp (maxDischargeDepth := 100) [State.handEngines, w0]

@[simp] theorem State.fireHandoff_wf (s : State) (i : Nat) (w0 : s.wf) : State.wf (State.fireHandoff s i) := by
  simp +contextual (maxDischargeDepth := 100) [State.fireHandoff, w0]

@[simp] theorem State.swapDone_wf (s : State) (w0 : s.wf) : State.wf (State.swapDone s) := by
  unfold State.swapDone
  (repeat' split) <;> simp (maxDischargeDepth := 100) [w0]

/-! ### Banks -/

@[simp] theorem State.bankSet_wf (s : State) (b : Nat) (owner : Nat) (unit : Nat) (shelf : Bool) (zero : Bool) (w0 : s.wf) :
    State.wf (State.bankSet s b owner unit shelf zero) := by
  simp (maxDischargeDepth := 100) [State.bankSet, w0]

@[simp] theorem State.zeroBank_wf (s : State) (b : Nat) (w0 : s.wf) : State.wf (State.zeroBank s b) := by
  simp (maxDischargeDepth := 100) [State.zeroBank, w0]

@[simp] theorem State.handoverDone_wf (s : State) (b : Nat) (w0 : s.wf) : State.wf (State.handoverDone s b) := by
  simp +contextual (maxDischargeDepth := 100) [State.handoverDone, w0]

@[simp] theorem State.unitChange_wf (s : State) (kind : Nat) (unit : Nat) (w0 : s.wf) : State.wf (State.unitChange s kind unit) := by
  simp (maxDischargeDepth := 100) [State.unitChange, w0]

@[simp] theorem State.retireBank_wf (s : State) (b : Nat) (w0 : s.wf) : State.wf (State.retireBank s b) := by
  simp (maxDischargeDepth := 100) [State.retireBank, w0]

@[simp] theorem State.lossPart_wf (s : State) (f : Nat) (w0 : s.wf) : State.wf (State.lossPart s f) := by
  simp (maxDischargeDepth := 100) [State.lossPart, w0]

@[simp] theorem State.retireForm_wf (s : State) (f : Nat) (w0 : s.wf) : State.wf (State.retireForm s f) := by
  simp (maxDischargeDepth := 100) [State.retireForm, w0]

@[simp] theorem State.stopCore_wf (s : State) (c : Nat) (w0 : s.wf) : State.wf (State.stopCore s c) := by
  simp (maxDischargeDepth := 100) [State.stopCore, w0]

@[simp] theorem State.formCheck_wf (s : State) (f : Nat) (w0 : s.wf) : State.wf (State.formCheck s f) := by
  simp (maxDischargeDepth := 100) [State.formCheck, w0]

@[simp] theorem State.retireCore_wf (s : State) (c : Nat) (w0 : s.wf) : State.wf (State.retireCore s c) := by
  simp (maxDischargeDepth := 100) [State.retireCore, w0]

@[simp] theorem State.loseArray_wf (s : State) (c : Nat) (a : Nat) (w0 : s.wf) : State.wf (State.loseArray s c a) := by
  simp (maxDischargeDepth := 100) [State.loseArray, w0]

/-! ### CommitChecks -/

@[simp] theorem State.writeMode_wf (s : State) (r : Nat) (ws : List Word) (w0 : s.wf) : State.wf (State.writeMode s r ws) := by
  simp (maxDischargeDepth := 100) [State.writeMode, w0]

@[simp] theorem State.setPort_wf (s : State) (n : Nat) (x : Port) (w0 : s.wf) : State.wf (State.setPort s n x) := by
  simp (maxDischargeDepth := 100) [State.setPort, w0]

@[simp] theorem State.writePort_wf (s : State) (n : Nat) (ws : List Word) (w0 : s.wf) : State.wf (State.writePort s n ws) := by
  simp (maxDischargeDepth := 100) [State.writePort, w0]

@[simp] theorem State.writeCanvas_wf (s : State) (r : Nat) (ws : List Word) (w0 : s.wf) : State.wf (State.writeCanvas s r ws) := by
  simp (maxDischargeDepth := 100) [State.writeCanvas, w0]

@[simp] theorem State.writeVlayer_wf (s : State) (v : Nat) (ws : List Word) (w0 : s.wf) : State.wf (State.writeVlayer s v ws) := by
  simp (maxDischargeDepth := 100) [State.writeVlayer, w0]

@[simp] theorem State.takeGl_wf (s : State) (g : Nat) (w0 : s.wf) : State.wf (State.takeGl s g) := by
  simp (maxDischargeDepth := 100) [State.takeGl, w0]

@[simp] theorem State.view_wf (s : State) (c : CommitSet) (gl : Nat) (w0 : s.wf) : State.wf (State.view s c gl) := by
  simp +contextual (maxDischargeDepth := 100) [State.view, w0]

/-! ### CommitOps -/

@[simp] theorem State.carryLibmap_wf (s : State) (h : Nat) (m : Model) (w0 : s.wf) : State.wf (State.carryLibmap s h m) := by
  simp +contextual (maxDischargeDepth := 100) [State.carryLibmap, w0]

@[simp] theorem State.fillShadow_wf (s : State) (h : Nat) (m : Model) (w0 : s.wf) : State.wf (State.fillShadow s h m) := by
  simp (maxDischargeDepth := 100) [State.fillShadow, w0]

@[simp] theorem State.fillHandles_wf (s : State) (h : Nat) (t : Nat) (m : Model) (w0 : s.wf) : State.wf (State.fillHandles s h t m) := by
  simp +contextual (maxDischargeDepth := 100) [State.fillHandles, w0]

@[simp] theorem State.takeForms_wf (s : State) (h : Nat) (m : Model) (w0 : s.wf) : State.wf (State.takeForms s h m) := by
  simp +contextual (maxDischargeDepth := 100) [State.takeForms, w0]

@[simp] theorem State.showPend_wf (s : State) (w0 : s.wf) : State.wf (State.showPend s) := by simp (maxDischargeDepth := 100) [State.showPend, w0]

@[simp] theorem State.hwReplace_wf (s : State) (h : Nat) (keep : Nat) (w0 : s.wf) : State.wf (State.hwReplace s h keep) := by
  simp (maxDischargeDepth := 100) [State.hwReplace, w0]

@[simp] theorem State.acceptSwap_wf (s : State) (h : Nat) (m : Model) (r : Nat) (t : Nat) (w0 : s.wf) : State.wf (State.acceptSwap s h m r t) := by
  simp (maxDischargeDepth := 100) [State.acceptSwap, w0]

@[simp] theorem State.liftFlr_wf (s : State) (h : Nat) (w0 : s.wf) : State.wf (State.liftFlr s h) := by
  simp +contextual (maxDischargeDepth := 100) [State.liftFlr, w0]

@[simp] theorem State.disableRaster_wf (s : State) (r : Nat) (w0 : s.wf) : State.wf (State.disableRaster s r) := by
  simp +contextual (maxDischargeDepth := 100) [State.disableRaster, w0]

@[simp] theorem State.relock_wf (s : State) (r : Nat) (w0 : s.wf) : State.wf (State.relock s r) := by
  simp +contextual (maxDischargeDepth := 100) [State.relock, w0]

@[simp] theorem State.psrOut_wf (s : State) (r : Nat) (w0 : s.wf) : State.wf (State.psrOut s r) := by
  simp +contextual (maxDischargeDepth := 100) [State.psrOut, w0]

@[simp] theorem State.takeRoute_wf (s : State) (p : Nat) (src : Nat) (w0 : s.wf) : State.wf (State.takeRoute s p src) := by
  simp (maxDischargeDepth := 100) [State.takeRoute, w0]

@[simp] theorem State.applyGl_wf (s : State) (g : Nat) (w0 : s.wf) : State.wf (State.applyGl s g) := by
  simp (maxDischargeDepth := 100) [State.applyGl, w0]

@[simp] theorem State.setProtect_wf (s : State) (r : Nat) (q : Protect) (w0 : s.wf) : State.wf (State.setProtect s r q) := by
  simp (maxDischargeDepth := 100) [State.setProtect, w0]

@[simp] theorem State.setPexp_wf (s : State) (r : Nat) (w0 : s.wf) : State.wf (State.setPexp s r) := by
  simp +contextual (maxDischargeDepth := 100) [State.setPexp, w0]

@[simp] theorem State.applyProtect_wf (s : State) (r : Nat) (t : Template) (x0 : Nat) (y0 : Nat) (w0 : s.wf) :
    State.wf (State.applyProtect s r t x0 y0) := by
  simp (maxDischargeDepth := 100) [State.applyProtect, w0]

@[simp] theorem State.activate_wf (s : State) (m : Model) (w0 : s.wf) : State.wf (State.activate s m) := by
  simp +contextual (maxDischargeDepth := 100) [State.activate, w0]

@[simp] theorem State.activateFor_wf (s : State) (h : Nat) (target : Nat) (w0 : s.wf) : State.wf (State.activateFor s h target) := by
  unfold State.activateFor
  (repeat' split) <;> simp (maxDischargeDepth := 100) [w0]

@[simp] theorem State.progBell_wf (s : State) (h : Nat) (d : DueBell) (w0 : s.wf) : State.wf (State.progBell s h d) := by
  simp (maxDischargeDepth := 100) [State.progBell, w0]

@[simp] theorem State.endCuts_wf (s : State) (r : Nat) (w0 : s.wf) : State.wf (State.endCuts s r) := by
  unfold State.endCuts
  simp only []
  (repeat' split) <;> (first | (simp (maxDischargeDepth := 100) [w0]; done) | (refine wf_foldl (fun s x w => ?_) _ (by simp [w0]); (repeat' split) <;> simp (maxDischargeDepth := 100) [w]) | (refine wf_foldl (fun s x w => ?_) _ (by simp [w0]); simp only []; (repeat' split) <;> simp (maxDischargeDepth := 100) [w]))

@[simp] theorem State.applyPart_wf (s : State) (a : Accepted) (r : Nat) (w0 : s.wf) : State.wf (State.applyPart s a r) := by
  unfold State.applyPart
  extract_lets c change encode s1 s2 s3 s4 s5 s6 s7 s8 s9 s10 s11 s12 s13 s14 acc done src
  have e1 : s1.wf := by
    simp only [s1]; exact wf_foldl (fun s x w => by split <;> simp (maxDischargeDepth := 100) [w]) _ w0
  clear_value s1
  have e2 : s2.wf := by
    simp only [s2]; exact wf_foldl (fun s x w => by (repeat' split) <;> simp (maxDischargeDepth := 100) [w]) _ e1
  clear_value s2
  have e3 : s3.wf := by simp (maxDischargeDepth := 100) [s3, e2]
  clear_value s3
  have e4 : s4.wf := by
    simp only [s4]; split
    · exact wf_foldl (fun s x w => by split <;> simp (maxDischargeDepth := 100) [w]) _ e3
    · exact e3
  clear_value s4
  have e5 : s5.wf := by simp (maxDischargeDepth := 100) [s5, e4]
  clear_value s5
  have e6 : s6.wf := by simp (maxDischargeDepth := 100) [s6, e5]
  clear_value s6
  have e7 : s7.wf := by
    simp only [s7]; exact wf_foldl (fun s x w => by split <;> simp (maxDischargeDepth := 100) [w]) _ e6
  clear_value s7
  have e8 : s8.wf := by
    simp only [s8]; exact wf_foldl (fun s x w => by split <;> simp (maxDischargeDepth := 100) [w]) _ e7
  clear_value s8
  have e9 : s9.wf := by
    simp only [s9]; exact wf_foldl (fun s x w => by split <;> simp (maxDischargeDepth := 100) [w]) _ e8
  clear_value s9
  have e10 : s10.wf := by
    simp only [s10]; exact wf_foldl (fun s x w => by split <;> simp (maxDischargeDepth := 100) [w]) _ e9
  clear_value s10
  have e11 : s11.wf := by
    simp only [s11]; exact wf_foldl (fun s x w => by split <;> simp (maxDischargeDepth := 100) [w]) _ e10
  clear_value s11
  have e12 : s12.wf := by simp only [s12]; (repeat' split) <;> simp (maxDischargeDepth := 100) [e11]
  clear_value s12
  have e13 : s13.wf := by simp [s13, e12]
  clear_value s13
  have e14 : s14.wf := by simp [s14, e13]
  clear_value s14
  simp [e14]

@[simp] theorem State.applyDue_wf (s : State) (r : Nat) (w0 : s.wf) : State.wf (State.applyDue s r) := by
  simp +contextual (maxDischargeDepth := 100) [State.applyDue, w0]

@[simp] theorem State.accept_wf (s : State) (h : Nat) (slot : Nat) (c : CommitSet) (gl : Nat) (p : CommitPlan) (w0 : s.wf) :
    State.wf (State.accept s h slot c gl p) := by
  unfold State.accept
  simp only []
  (repeat' split) <;> simp +contextual (maxDischargeDepth := 100) [w0]

@[simp] theorem State.cutPipe_wf (s : State) (m : Model) (p : Nat) (src : Nat) (w0 : s.wf) : State.wf (State.cutPipe s m p src) := by
  unfold State.cutPipe
  simp only []
  (repeat' split) <;> simp +contextual (maxDischargeDepth := 100) [w0]

@[simp] theorem State.acceptCut_wf (s : State) (h : Nat) (slot1 : Nat) (slot2 : Nat) (c1 : CommitSet) (c2 : CommitSet) (gl : Nat) (p : CommitPlan) (w0 : s.wf) :
    State.wf (State.acceptCut s h slot1 slot2 c1 c2 gl p) := by
  unfold State.acceptCut
  simp only []
  (repeat' split) <;> simp +contextual (maxDischargeDepth := 100) [w0]

@[simp] theorem State.bellCommit_wf (s : State) (h : Nat) (i : Nat) (w0 : s.wf) : State.wf (State.bellCommit s h i) := by
  unfold State.bellCommit
  (repeat' split) <;> simp (maxDischargeDepth := 100) [w0]

/-! ### Inputs -/

@[simp] theorem State.setTracker_wf (s : State) (t : Nat) (x : Tracker) (w0 : s.wf) : State.wf (State.setTracker s t x) := by
  simp (maxDischargeDepth := 100) [State.setTracker, w0]

@[simp] theorem State.quietSinks_wf (s : State) (w0 : s.wf) : State.wf (State.quietSinks s) := by
  simp (maxDischargeDepth := 100) [State.quietSinks, w0]

@[simp] theorem State.writeRecord_wf (s : State) (p : Nat) (r : InRec) (reason : Nat) (w0 : s.wf) : State.wf (State.writeRecord s p r reason) := by
  simp (maxDischargeDepth := 100) [State.writeRecord, w0]

@[simp] theorem State.declareDisc_wf (s : State) (t : Nat) (reason : Nat) (w0 : s.wf) : State.wf (State.declareDisc s t reason) := by
  simp +contextual (maxDischargeDepth := 100) [State.declareDisc, w0]

@[simp] theorem State.beginFrame_wf (s : State) (t : Nat) (stamp : Nat) (w0 : s.wf) : State.wf (State.beginFrame s t stamp) := by
  unfold State.beginFrame
  extract_lets last s1 x n s2 s3 s4 s5 per vin s6 s7 s8
  have h1 : s1.wf := by simp (maxDischargeDepth := 100) [s1, w0]
  clear_value s1
  have h2 : s2.wf := by simp (maxDischargeDepth := 100) [s2, h1]
  clear_value s2
  have h3 : s3.wf := by simp (maxDischargeDepth := 100) [s3, h2]
  have h4 : s4.wf := by
    simp only [s4]; split
    · split <;> simp (maxDischargeDepth := 100) [h3]
    · exact h2
  clear_value s4 s3
  have h5 : s5.wf := by simp (maxDischargeDepth := 100) [s5, h4]
  clear_value s5
  have h6 : s6.wf := by simp (maxDischargeDepth := 100) [s6, h5]
  clear_value s6
  have h8 : s8.wf := by simp (maxDischargeDepth := 100) [s8, s7, h6]
  clear_value s8
  exact wf_foldl (fun s p w => by simp (maxDischargeDepth := 100) [w]) _ h8

@[simp] theorem State.endFrame_wf (s : State) (t : Nat) (w0 : s.wf) : State.wf (State.endFrame s t) := by
  unfold State.endFrame
  simp only []
  (repeat' split) <;> (first | (simp (maxDischargeDepth := 100) [w0]; done) | (refine wf_foldl (fun s x w => ?_) _ (by simp [w0]); (repeat' split) <;> simp (maxDischargeDepth := 100) [w]) | (refine wf_foldl (fun s x w => ?_) _ (by simp [w0]); simp only []; (repeat' split) <;> simp (maxDischargeDepth := 100) [w]))

@[simp] theorem State.repeatStep_wf (s : State) (p : Nat) (w0 : s.wf) : State.wf (State.repeatStep s p) := by
  simp (maxDischargeDepth := 100) [State.repeatStep, w0]

@[simp] theorem State.writeRetime_wf (s : State) (p : Nat) (n : Nat) (seq : Nat) (f : Nat) (weight : Nat) (rep : Bool) (w0 : s.wf) :
    State.wf (State.writeRetime s p n seq f weight rep) := by
  simp (maxDischargeDepth := 100) [State.writeRetime, w0]

@[simp] theorem State.retime_wf (s : State) (p : Nat) (n : Nat) (w0 : s.wf) : State.wf (State.retime s p n) := by
  unfold State.retime
  simp only []
  (repeat' split) <;> simp (maxDischargeDepth := 100) [w0]

@[simp] theorem State.slipRepeat_wf (s : State) (r : Nat) (w0 : s.wf) : State.wf (State.slipRepeat s r) := by
  simp +contextual (maxDischargeDepth := 100) [State.slipRepeat, w0]

@[simp] theorem State.ringWrite_wf (s : State) (p : Nat) (c : Nat) (l : Nat) (xs : List Nat) (w0 : s.wf) : State.wf (State.ringWrite s p c l xs) := by
  simp (maxDischargeDepth := 100) [State.ringWrite, w0]

@[simp] theorem State.captureFor_wf (s : State) (p : Nat) (j : Nat) (height : Nat) (f : PixFmt) (planes : List (List Nat)) (prev : List (List Nat)) (black : Bool) (w0 : s.wf) :
    State.wf (State.captureFor s p j height f planes prev black) := by
  simp (maxDischargeDepth := 100) [State.captureFor, w0]

@[simp] theorem State.captureLine_wf (s : State) (t : Nat) (height : Nat) (f : PixFmt) (planes : List (List Nat)) (w0 : s.wf) :
    State.wf (State.captureLine s t height f planes) := by
  simp +contextual (maxDischargeDepth := 100) [State.captureLine, w0]

@[simp] theorem State.sinkFrame_wf (s : State) (k : Nat) (frac : Nat) (enc : Nat) (w0 : s.wf) : State.wf (State.sinkFrame s k frac enc) := by
  simp (maxDischargeDepth := 100) [State.sinkFrame, w0]

@[simp] theorem State.streamFormat_wf (s : State) (k : Nat) (a : StreamAttr) (w0 : s.wf) : State.wf (State.streamFormat s k a) := by
  simp (maxDischargeDepth := 100) [State.streamFormat, w0]

@[simp] theorem State.msaChange_wf (s : State) (k : Nat) (a : StreamAttr) (w0 : s.wf) : State.wf (State.msaChange s k a) := by
  simp (maxDischargeDepth := 100) [State.msaChange, w0]

@[simp] theorem State.sinkLost_wf (s : State) (k : Nat) (w0 : s.wf) : State.wf (State.sinkLost s k) := by
  simp (maxDischargeDepth := 100) [State.sinkLost, w0]

@[simp] theorem State.sourceTimeout_wf (s : State) (k : Nat) (w0 : s.wf) : State.wf (State.sourceTimeout s k) := by
  simp (maxDischargeDepth := 100) [State.sourceTimeout, w0]

@[simp] theorem State.sinkRetrain_wf (s : State) (k : Nat) (w0 : s.wf) : State.wf (State.sinkRetrain s k) := by
  simp (maxDischargeDepth := 100) [State.sinkRetrain, w0]

@[simp] theorem State.sinkTrained_wf (s : State) (k : Nat) (rate : Nat) (lanes : Nat) (w0 : s.wf) : State.wf (State.sinkTrained s k rate lanes) := by
  simp (maxDischargeDepth := 100) [State.sinkTrained, w0]

@[simp] theorem State.dscError_wf (s : State) (k : Nat) (lines : Nat) (w0 : s.wf) : State.wf (State.dscError s k lines) := by
  simp (maxDischargeDepth := 100) [State.dscError, w0]

@[simp] theorem State.sinkHdcpFail_wf (s : State) (k : Nat) (w0 : s.wf) : State.wf (State.sinkHdcpFail s k) := by
  simp (maxDischargeDepth := 100) [State.sinkHdcpFail, w0]

@[simp] theorem State.sinkHdcpOk_wf (s : State) (k : Nat) (w0 : s.wf) : State.wf (State.sinkHdcpOk s k) := by
  simp (maxDischargeDepth := 100) [State.sinkHdcpOk, w0]

/-! ### Homework -/

@[simp] theorem State.setHw_wf (s : State) (m : Nat) (x : Hw) (w0 : s.wf) : State.wf (State.setHw s m x) := by
  simp (maxDischargeDepth := 100) [State.setHw, w0]

@[simp] theorem State.hwWrite_wf (s : State) (c : Nat) (h : Nat) (a : Nat) (bs : List Byte) (w0 : s.wf) : State.wf (State.hwWrite s c h a bs) := by
  simp +contextual (maxDischargeDepth := 100) [State.hwWrite, w0]

@[simp] theorem State.hwBank_wf (s : State) (req : Nat) (h : Nat) (a : Nat) (bs : List Byte) (w0 : s.wf) : State.wf (State.hwBank s req h a bs) := by
  simp +contextual (maxDischargeDepth := 100) [State.hwBank, w0]

@[simp] theorem State.hwWrap_wf (s : State) (h : Nat) (v : Nat) (w0 : s.wf) : State.wf (State.hwWrap s h v) := by
  simp (maxDischargeDepth := 100) [State.hwWrap, w0]

@[simp] theorem State.writeUnit_wf (s : State) (h : Nat) (a : Nat) (hp : Nat) (u : HwUnit) (cycles : Nat) (lanes : Nat) (w0 : s.wf) :
    State.wf (State.writeUnit s h a hp u cycles lanes) := by
  simp (maxDischargeDepth := 100) [State.writeUnit, w0]

@[simp] theorem State.hwDeal_wf (s : State) (m : Nat) (f : Nat) (w0 : s.wf) : State.wf (State.hwDeal s m f) := by
  unfold State.hwDeal
  simp only []
  (repeat' split) <;> simp (maxDischargeDepth := 100) [w0]

@[simp] theorem State.hwUnit_wf {s : State} (m f kind : Nat)
    {run : State → Model → Config.HwPlan → Hw → HwUnit → Nat → State × Hw × Option Nat}
    (q : ∀ s a b c d e, s.wf → (run s a b c d e).1.wf) (w0 : s.wf) : (s.hwUnit m f kind run).wf := by
  unfold State.hwUnit
  split
  · exact w0
  · extract_lets x
    split
    · extract_lets w lanes lead here
      split
      · exact w0
      · have g := fun a b c d e => q s a b c d e w0
        simp only []
        split <;> simp (maxDischargeDepth := 100) [g]
    · exact w0

@[simp] theorem State.hwGrad_wf (s : State) (m : Nat) (f : Nat) (w0 : s.wf) : State.wf (State.hwGrad s m f) := by
  simp +contextual (maxDischargeDepth := 100) [State.hwGrad, w0]

@[simp] theorem State.hwUpdate_wf (s : State) (m : Nat) (f : Nat) (w0 : s.wf) : State.wf (State.hwUpdate s m f) := by
  unfold State.hwUpdate
  refine State.hwUnit_wf _ _ _ (fun s a b c d e w => ?_) w0
  simp only []
  split <;> simp (maxDischargeDepth := 100) [w]

@[simp] theorem State.hwCopyUnit_wf (s : State) (m : Nat) (f : Nat) (w0 : s.wf) : State.wf (State.hwCopyUnit s m f) := by
  simp +contextual (maxDischargeDepth := 100) [State.hwCopyUnit, w0]

@[simp] theorem State.hwEval_wf (s : State) (m : Nat) (f : Nat) (w0 : s.wf) : State.wf (State.hwEval s m f) := by
  simp (maxDischargeDepth := 100) [State.hwEval, w0]

@[simp] theorem State.hwDeploy_wf (s : State) (m : Nat) (f : Nat) (w0 : s.wf) : State.wf (State.hwDeploy s m f) := by
  simp +contextual (maxDischargeDepth := 100) [State.hwDeploy, w0]

@[simp] theorem State.hwSampleRun_wf (s : State) (m : Nat) (motion : List Byte) (w0 : s.wf) : State.wf (State.hwSampleRun s m motion) := by
  unfold State.hwSampleRun
  simp only []
  (repeat' split) <;> simp (maxDischargeDepth := 100) [w0]

@[simp] theorem State.hwAccept_wf (s : State) (md : Model) (p : Config.HwPlan) (x : Hw) (w0 : s.wf) : State.wf (State.hwAccept s md p x) := by
  simp (maxDischargeDepth := 100) [State.hwAccept, w0]

@[simp] theorem State.hwReset_wf (s : State) (md : Model) (p : Config.HwPlan) (x : Hw) (w0 : s.wf) : State.wf (State.hwReset s md p x) := by
  simp +contextual (maxDischargeDepth := 100) [State.hwReset, w0]

@[simp] theorem State.hwRound_wf (s : State) (m : Nat) (w0 : s.wf) : State.wf (State.hwRound s m) := by
  unfold State.hwRound
  (repeat' split) <;> simp (maxDischargeDepth := 100) [w0]

@[simp] theorem State.ckptPeriod_wf (s : State) (m : Nat) (w0 : s.wf) : State.wf (State.ckptPeriod s m) := by
  unfold State.ckptPeriod
  split
  · exact w0
  · extract_lets x h size cap
    split
    · exact w0
    · split <;> simp [w0]

@[simp] theorem State.hwRestore_wf (s : State) (md : Model) (p : Config.HwPlan) (w0 : s.wf) : State.wf (State.hwRestore s md p) := by
  unfold State.hwRestore
  extract_lets n rs gen e service master s1 t s2 s3 s4
  have h1 : s1.wf := by simp only [s1]; exact wf_foldl (fun s x w => by simp (maxDischargeDepth := 100) [w]) _ w0
  clear_value s1
  have h2 : s2.wf := by simp (maxDischargeDepth := 100) [s2, h1]
  clear_value s2
  have h3 : s3.wf := by simp (maxDischargeDepth := 100) [s3, h2]
  clear_value s3
  have h4 : s4.wf := by simp (maxDischargeDepth := 100) [s4, h3]
  clear_value s4
  split
  rename_i a b q
  have h5 : b.wf := by
    have g := congrArg Prod.snd q
    simp only [] at g
    rw [← g]
    split
    · exact h4
    · simp (maxDischargeDepth := 100) [h4]
  simp (maxDischargeDepth := 100) [h5]

@[simp] theorem State.hwBankLost_wf (s : State) (b : Nat) (spare : Nat) (h : Nat) (w0 : s.wf) : State.wf (State.hwBankLost s b spare h) := by
  unfold State.hwBankLost
  simp only []
  (repeat' split) <;> (first | (simp (maxDischargeDepth := 100) [w0]; done) | (refine wf_foldl (fun s x w => ?_) _ (by simp [w0]); (repeat' split) <;> simp (maxDischargeDepth := 100) [w]) | (refine wf_foldl (fun s x w => ?_) _ (by simp [w0]); simp only []; (repeat' split) <;> simp (maxDischargeDepth := 100) [w]))

/-! ### Failures -/

@[simp] theorem State.startMarch_wf (s : State) (m : March) (w0 : s.wf) : State.wf (State.startMarch s m) := by
  simp (maxDischargeDepth := 100) [State.startMarch, w0]

@[simp] theorem State.zeroCore_wf (s : State) (c : Nat) (w0 : s.wf) : State.wf (State.zeroCore s c) := by
  simp (maxDischargeDepth := 100) [State.zeroCore, w0]

@[simp] theorem State.marchBack_wf (s : State) (b : Nat) (w0 : s.wf) : State.wf (State.marchBack s b) := by
  simp (maxDischargeDepth := 100) [State.marchBack, w0]

@[simp] theorem State.marchReport_wf (s : State) (m : March) (fail : Bool) (more : Bool) (w0 : s.wf) :
    State.wf (State.marchReport s m fail more) := by
  simp (maxDischargeDepth := 100) [State.marchReport, w0]

@[simp] theorem State.marchDone_wf (s : State) (fail : Bool) (w0 : s.wf) : State.wf (State.marchDone s fail).2 := by
  unfold State.marchDone
  (repeat' split) <;> simp (maxDischargeDepth := 100) [w0]

@[simp] theorem State.faultNotice_wf (s : State) (c : Nat) (w0 : s.wf) : State.wf (State.faultNotice s c) := by
  simp (maxDischargeDepth := 100) [State.faultNotice, w0]

@[simp] theorem State.faultCall_wf (s : State) (f : Nat) (w0 : s.wf) : State.wf (State.faultCall s f) := by
  simp (maxDischargeDepth := 100) [State.faultCall, w0]

@[simp] theorem State.bundleError_wf (s : State) (c : Nat) (pc : Nat) (w0 : s.wf) : State.wf (State.bundleError s c pc) := by
  unfold State.bundleError
  simp only []
  (repeat' split) <;> simp (maxDischargeDepth := 100) [w0]

@[simp] theorem State.faultResponse_wf (s : State) (c : Nat) (w0 : s.wf) : State.wf (State.faultResponse s c) := by
  unfold State.faultResponse
  simp only []
  (repeat' split) <;> simp (maxDischargeDepth := 100) [w0]

@[simp] theorem State.breakHalt_wf (s : State) (c : Nat) (w0 : s.wf) : State.wf (State.breakHalt s c) := by
  simp (maxDischargeDepth := 100) [State.breakHalt, w0]

@[simp] theorem State.shapeBad_wf (s : State) (f : Nat) (w0 : s.wf) : State.wf (State.shapeBad s f) := by
  simp (maxDischargeDepth := 100) [State.shapeBad, w0]

@[simp] theorem State.shapeRead_wf (s : State) (f : Nat) (w0 : s.wf) : State.wf (State.shapeRead s f) := by
  unfold State.shapeRead
  simp only []
  (repeat' split) <;> simp (maxDischargeDepth := 100) [w0]

@[simp] theorem State.scrub_wf (s : State) (b : Nat) (w0 : s.wf) : State.wf (State.scrub s b) := by
  unfold State.scrub
  simp only []
  (repeat' split) <;> simp +contextual (maxDischargeDepth := 100) [w0]

@[simp] theorem State.substituteBank_wf (s : State) (b : Nat) (spare : Nat) (h : Nat) (w0 : s.wf) : State.wf (State.substituteBank s b spare h) := by
  simp +contextual (maxDischargeDepth := 100) [State.substituteBank, w0]

@[simp] theorem State.uncResponse_wf (s : State) (b : Nat) (w0 : s.wf) : State.wf (State.uncResponse s b) := by
  unfold State.uncResponse
  simp only []
  (repeat' split) <;> simp (maxDischargeDepth := 100) [w0]

/-! ### Compose -/

@[simp] theorem State.glLine_wf (s : State) (g : Nat) (x : GlCfg) (dy : Nat) (w0 : s.wf) : State.wf (State.glLine s g x dy).1 := by
  simp +contextual (maxDischargeDepth := 100) [State.glLine, w0]

@[simp] theorem State.glRow_wf (s : State) (r : Nat) (g : Nat) (y : Nat) (w : Nat) (w0 : s.wf) : State.wf (State.glRow s r g y w).1 := by
  unfold State.glRow
  simp only []
  (repeat' split) <;> simp (maxDischargeDepth := 100) [w0]

@[simp] theorem State.runRow_wf (s : State) (r : Nat) (y : Nat) (w : Nat) (run : List Nat) (w0 : s.wf) : State.wf (State.runRow s r y w run).1 := by
  unfold State.runRow
  split
  · exact w0
  · simp
    exact (wf_foldl_at (fun y : State × List APix => y.1) (fun y h w => by simp [w]) _ w0)

@[simp] theorem State.canvasRow_wf (s : State) (r : Nat) (n : Nat) (y : Nat) (w0 : s.wf) : State.wf (State.canvasRow s r n y).1 := by
  unfold State.canvasRow
  refine (wf_foldl_at (fun y : State × List APix => y.1) (fun y h w => ?_) _ w0)
  split <;> simp [w]

@[simp] theorem State.fillFifos_wf (s : State) (r : Nat) (y : Nat) (w0 : s.wf) : State.wf (State.fillFifos s r y) := by
  simp +contextual (maxDischargeDepth := 100) [State.fillFifos, w0]

@[simp] theorem State.sendLine_wf (s : State) (p : Nat) (w0 : s.wf) : State.wf (State.sendLine s p) := by
  simp (maxDischargeDepth := 100) [State.sendLine, w0]

@[simp] theorem State.psrFrame_wf (s : State) (p : Nat) (w0 : s.wf) : State.wf (State.psrFrame s p) := by
  simp (maxDischargeDepth := 100) [State.psrFrame, w0]

@[simp] theorem State.sendSdps_wf (s : State) (r : Nat) (p : Nat) (w0 : s.wf) : State.wf (State.sendSdps s r p) := by
  simp (maxDischargeDepth := 100) [State.sendSdps, w0]

/-! ### Raster -/

@[simp] theorem State.rasBit_wf (s : State) (r : Nat) (i : Nat) (b : Bool) (w0 : s.wf) : State.wf (State.rasBit s r i b) := by
  simp (maxDischargeDepth := 100) [State.rasBit, w0]

@[simp] theorem State.showPpm_wf (s : State) (r : Nat) (d : Int) (w0 : s.wf) : State.wf (State.showPpm s r d) := by
  simp (maxDischargeDepth := 100) [State.showPpm, w0]

@[simp] theorem State.slewLine_wf (s : State) (r : Nat) (w0 : s.wf) : State.wf (State.slewLine s r) := by
  simp (maxDischargeDepth := 100) [State.slewLine, w0]

@[simp] theorem State.teConsume_wf (s : State) (r : Nat) (w0 : s.wf) : State.wf (State.teConsume s r) := by
  unfold State.teConsume
  (repeat' split) <;> simp (maxDischargeDepth := 100) [w0]

@[simp] theorem State.endHold_wf (s : State) (r : Nat) (w0 : s.wf) : State.wf (State.endHold s r) := by
  simp (maxDischargeDepth := 100) [State.endHold, w0]

@[simp] theorem State.holdLimit_wf (s : State) (r : Nat) (w0 : s.wf) : State.wf (State.holdLimit s r) := by
  unfold State.holdLimit
  (repeat' split) <;> simp (maxDischargeDepth := 100) [w0]

@[simp] theorem State.limitRow_wf (s : State) (r : Nat) (kind : Hold → Bool) (w0 : s.wf) : State.wf (State.limitRow s r kind) := by
  unfold State.limitRow
  (repeat' split) <;> simp (maxDischargeDepth := 100) [w0]

@[simp] theorem State.atStretch_wf (s : State) (r : Nat) (w0 : s.wf) : State.wf (State.atStretch s r) := by
  unfold State.atStretch
  simp only []
  (repeat' split) <;> simp (maxDischargeDepth := 100) [w0]

@[simp] theorem State.vrrFrame_wf (s : State) (r : Nat) (w0 : s.wf) : State.wf (State.vrrFrame s r) := by
  unfold State.vrrFrame
  simp only []
  (repeat' split) <;> simp (maxDischargeDepth := 100) [w0]

@[simp] theorem State.portFrame_wf (s : State) (r : Nat) (p : Nat) (w0 : s.wf) : State.wf (State.portFrame s r p) := by
  simp (maxDischargeDepth := 100) [State.portFrame, w0]

@[simp] theorem State.atLine0_wf (s : State) (r : Nat) (w0 : s.wf) : State.wf (State.atLine0 s r) := by
  simp +contextual (maxDischargeDepth := 100) [State.atLine0, w0]

@[simp] theorem State.chipFloor_wf (s : State) (w0 : s.wf) : State.wf (State.chipFloor s) := by simp (maxDischargeDepth := 100) [State.chipFloor, w0]

@[simp] theorem State.flatBoundary_wf (s : State) (r : Nat) (w0 : s.wf) : State.wf (State.flatBoundary s r) := by
  simp +contextual (maxDischargeDepth := 100) [State.flatBoundary, w0]

@[simp] theorem State.hideBoundary_wf (s : State) (r : Nat) (w0 : s.wf) : State.wf (State.hideBoundary s r) := by
  simp (maxDischargeDepth := 100) [State.hideBoundary, w0]

@[simp] theorem State.stretchPeak_wf (s : State) (w0 : s.wf) : State.wf (State.stretchPeak s) := by
  simp (maxDischargeDepth := 100) [State.stretchPeak, w0]

@[simp] theorem State.atVactive_wf (s : State) (r : Nat) (w0 : s.wf) : State.wf (State.atVactive s r) := by
  simp +contextual (maxDischargeDepth := 100) [State.atVactive, w0]

@[simp] theorem State.freeSent_wf (s : State) (r : Nat) (line : Nat) (frame : Nat) (w0 : s.wf) : State.wf (State.freeSent s r line frame) := by
  simp +contextual (maxDischargeDepth := 100) [State.freeSent, w0]

@[simp] theorem State.frameMark_wf (s : State) (r : Nat) (n : Nat) (w0 : s.wf) : State.wf (State.frameMark s r n) := by
  simp (maxDischargeDepth := 100) [State.frameMark, w0]

@[simp] theorem State.startLine_wf (s : State) (r : Nat) (l : Nat) (w0 : s.wf) : State.wf (State.startLine s r l) := by
  unfold State.startLine
  extract_lets s1 x frame s2 s3 s4 s5 s6 s7 s8 s9
  have h1 : s1.wf := by simp only [s1]; exact wf_foldl (fun s x w => by simp (maxDischargeDepth := 100) [w]) _ w0
  clear_value s1
  have h2 : s2.wf := by simp (maxDischargeDepth := 100) [s2, h1]
  clear_value s2
  have h3 : s3.wf := by simp (maxDischargeDepth := 100) [s3, h2]
  clear_value s3
  have h4 : s4.wf := by simp (maxDischargeDepth := 100) [s4, h3]
  clear_value s4
  have h5 : s5.wf := by simp (maxDischargeDepth := 100) [s5, h4]
  clear_value s5
  have h6 : s6.wf := by simp (maxDischargeDepth := 100) [s6, h5]
  clear_value s6
  have h7 : s7.wf := by simp (maxDischargeDepth := 100) [s7, h6]
  clear_value s7
  have h8 : s8.wf := by simp (maxDischargeDepth := 100) [s8, h7]
  clear_value s8
  have h9 : s9.wf := by simp (maxDischargeDepth := 100) [s9, h8]
  clear_value s9
  simp (maxDischargeDepth := 100) [h9]

@[simp] theorem State.holdMore_wf (s : State) (r : Nat) (w0 : s.wf) : State.wf (State.holdMore s r) := by
  simp (maxDischargeDepth := 100) [State.holdMore, w0]

@[simp] theorem State.holdLine_wf (s : State) (r : Nat) (h : Hold) (w0 : s.wf) : State.wf (State.holdLine s r h) := by
  unfold State.holdLine
  (repeat' split) <;> simp (maxDischargeDepth := 100) [w0]

@[simp] theorem State.lineStart_wf (s : State) (r : Nat) (w0 : s.wf) : State.wf (State.lineStart s r) := by
  unfold State.lineStart
  (repeat' split) <;> simp (maxDischargeDepth := 100) [w0]

@[simp] theorem State.showErr_wf (s : State) (r : Nat) (x : Int) (w0 : s.wf) : State.wf (State.showErr s r x) := by
  simp (maxDischargeDepth := 100) [State.showErr, w0]

@[simp] theorem State.jump_wf (s : State) (r : Nat) (delta : Int) (w0 : s.wf) : State.wf (State.jump s r delta) := by
  simp (maxDischargeDepth := 100) [State.jump, w0]

@[simp] theorem State.refInstant_wf (s : State) (r : Nat) (delta : Int) (w0 : s.wf) : State.wf (State.refInstant s r delta) := by
  simp (maxDischargeDepth := 100) [State.refInstant, w0]

@[simp] theorem State.holdover_wf (s : State) (r : Nat) (w0 : s.wf) : State.wf (State.holdover s r) := by
  simp (maxDischargeDepth := 100) [State.holdover, w0]

@[simp] theorem State.teEdge1_wf (s : State) (r : Nat) (pin : Nat) (falling : Bool) (w0 : s.wf) : State.wf (State.teEdge1 s r pin falling) := by
  simp (maxDischargeDepth := 100) [State.teEdge1, w0]

@[simp] theorem State.teEdge_wf (s : State) (pin : Nat) (falling : Bool) (w0 : s.wf) : State.wf (State.teEdge s pin falling) := by
  simp +contextual (maxDischargeDepth := 100) [State.teEdge, w0]

@[simp] theorem State.relocked_wf (s : State) (r : Nat) (w0 : s.wf) : State.wf (State.relocked s r) := by
  simp (maxDischargeDepth := 100) [State.relocked, w0]

@[simp] theorem State.regionDone_wf (s : State) (r : Nat) (p : Nat) (upset : Nat) (w0 : s.wf) : State.wf (State.regionDone s r p upset) := by
  simp (maxDischargeDepth := 100) [State.regionDone, w0]

@[simp] theorem State.frameDone_wf (s : State) (r : Nat) (upsets : List (Nat × Nat)) (w0 : s.wf) : State.wf (State.frameDone s r upsets) := by
  simp +contextual (maxDischargeDepth := 100) [State.frameDone, w0]

@[simp] theorem State.protectRewrite_wf (s : State) (r : Nat) (w0 : s.wf) : State.wf (State.protectRewrite s r) := by
  simp (maxDischargeDepth := 100) [State.protectRewrite, w0]

@[simp] theorem State.underrun_wf (s : State) (p : Nat) (pixel : Nat) (w0 : s.wf) : State.wf (State.underrun s p pixel) := by
  simp (maxDischargeDepth := 100) [State.underrun, w0]

@[simp] theorem State.portEvent_wf (s : State) (p : Nat) (up : Bool) (w0 : s.wf) : State.wf (State.portEvent s p up) := by
  simp (maxDischargeDepth := 100) [State.portEvent, w0]

@[simp] theorem State.portLoss_wf (s : State) (p : Nat) (w0 : s.wf) : State.wf (State.portLoss s p) := by
  simp (maxDischargeDepth := 100) [State.portLoss, w0]

@[simp] theorem State.portReturn_wf (s : State) (p : Nat) (w0 : s.wf) : State.wf (State.portReturn s p) := by
  simp (maxDischargeDepth := 100) [State.portReturn, w0]

@[simp] theorem State.portTrained_wf (s : State) (p : Nat) (lines : Option Nat) (w0 : s.wf) : State.wf (State.portTrained s p lines) := by
  simp (maxDischargeDepth := 100) [State.portTrained, w0]

@[simp] theorem State.portHdcpLoss_wf (s : State) (p : Nat) (w0 : s.wf) : State.wf (State.portHdcpLoss s p) := by
  simp (maxDischargeDepth := 100) [State.portHdcpLoss, w0]

@[simp] theorem State.portHdcpOk_wf (s : State) (p : Nat) (type1 : Bool) (w0 : s.wf) : State.wf (State.portHdcpOk s p type1) := by
  simp (maxDischargeDepth := 100) [State.portHdcpOk, w0]

@[simp] theorem State.psrEnter_wf (s : State) (p : Nat) (w0 : s.wf) : State.wf (State.psrEnter s p) := by
  simp (maxDischargeDepth := 100) [State.psrEnter, w0]

@[simp] theorem State.psrLeave_wf (s : State) (p : Nat) (w0 : s.wf) : State.wf (State.psrLeave s p) := by
  simp (maxDischargeDepth := 100) [State.psrLeave, w0]

@[simp] theorem State.psrUpdate_wf (s : State) (p : Nat) (gran : Nat) (w0 : s.wf) : State.wf (State.psrUpdate s p gran) := by
  unfold State.psrUpdate
  simp only []
  (repeat' split) <;> simp (maxDischargeDepth := 100) [w0]

@[simp] theorem State.psrExit_wf (s : State) (p : Nat) (w0 : s.wf) : State.wf (State.psrExit s p) := by
  simp (maxDischargeDepth := 100) [State.psrExit, w0]

/-! ### HostFrame -/

@[simp] theorem State.hfFinish_wf (s : State) (h : Nat) (cause : Nat) (w0 : s.wf) : State.wf (State.hfFinish s h cause) := by
  simp (maxDischargeDepth := 100) [State.hfFinish, w0]

@[simp] theorem State.hfCut_wf (s : State) (w0 : s.wf) : State.wf (State.hfCut s) := by simp (maxDischargeDepth := 100) [State.hfCut, w0]

@[simp] theorem State.hfAbort_wf (s : State) (h : Nat) (w0 : s.wf) : State.wf (State.hfAbort s h) := by
  simp +contextual (maxDischargeDepth := 100) [State.hfAbort, w0]

@[simp] theorem State.abortWindow_wf (s : State) (fn : Option Nat) (e : Nat) (w0 : s.wf) : State.wf (State.abortWindow s fn e) := by
  unfold State.abortWindow
  simp only []
  (repeat' split) <;> simp (maxDischargeDepth := 100) [w0]

@[simp] theorem State.hfTailWrite_wf (s : State) (v : Nat) (w0 : s.wf) : State.wf (State.hfTailWrite s v) := by
  simp (maxDischargeDepth := 100) [State.hfTailWrite, w0]

@[simp] theorem State.hfCtrlWrite_wf (s : State) (h : Nat) (on : Bool) (w0 : s.wf) : State.wf (State.hfCtrlWrite s h on) := by
  simp (maxDischargeDepth := 100) [State.hfCtrlWrite, w0]

@[simp] theorem State.askPage_wf (s : State) (h : Nat) (a : Nat) (w0 : s.wf) : State.wf (State.askPage s h a) := by
  simp (maxDischargeDepth := 100) [State.askPage, w0]

@[simp] theorem State.hfDescriptor_wf (s : State) (w0 : s.wf) : State.wf (State.hfDescriptor s) := by
  unfold State.hfDescriptor
  (repeat' split) <;> simp (maxDischargeDepth := 100) [w0]

@[simp] theorem State.hfGroup_wf (s : State) (fault : Bool) (w0 : s.wf) : State.wf (State.hfGroup s fault) := by
  unfold State.hfGroup
  simp only []
  (repeat' split) <;> simp (maxDischargeDepth := 100) [w0]

@[simp] theorem State.repeatEnd_wf (s : State) (p : Nat) (w0 : s.wf) : State.wf (State.repeatEnd s p) := by
  simp (maxDischargeDepth := 100) [State.repeatEnd, w0]

/-! ### PowerReq -/

@[simp] theorem State.transBegin_wf (s : State) (t : Nat) (w0 : s.wf) : State.wf (State.transBegin s t) := by
  simp (maxDischargeDepth := 100) [State.transBegin, w0]

@[simp] theorem State.ecoRefused_wf (s : State) (w0 : s.wf) : State.wf (State.ecoRefused s) := by
  simp (maxDischargeDepth := 100) [State.ecoRefused, w0]

@[simp] theorem State.powerAct_wf (s : State) (w0 : s.wf) : State.wf (State.powerAct s) := by
  unfold State.powerAct
  (repeat' split) <;> simp (maxDischargeDepth := 100) [w0]

@[simp] theorem State.powerAsk_wf (s : State) (v : Nat) (w0 : s.wf) : State.wf (State.powerAsk s v) := by
  simp (maxDischargeDepth := 100) [State.powerAsk, w0]

@[simp] theorem State.pwrReq_wf (s : State) (v : Nat) (w0 : s.wf) : State.wf (State.pwrReq s v) := by
  simp (maxDischargeDepth := 100) [State.pwrReq, w0]

/-! ### Access -/

@[simp] theorem State.coreStep_wf (s : State) (c : Nat) (w0 : s.wf) : State.wf (State.coreStep s c) := by
  simp (maxDischargeDepth := 100) [State.coreStep, w0]

@[simp] theorem State.tcdWrite_wf (s : State) (c : Nat) (o : Nat) (v : Word) (w0 : s.wf) : State.wf (State.tcdWrite s c o v) := by
  simp (maxDischargeDepth := 100) [State.tcdWrite, w0]

@[simp] theorem State.read32_wf (s : State) (fn : Nat) (off : Nat) (w0 : s.wf) : State.wf (State.read32 s fn off).2 := by
  unfold State.read32
  (repeat' split) <;> simp (maxDischargeDepth := 100) [w0]

@[simp] theorem State.barRead_wf (s : State) (fn : Nat) (off : Nat) (size : Nat) (w0 : s.wf) : State.wf (State.barRead s fn off size) := by
  simp (maxDischargeDepth := 100) [State.barRead, w0]

@[simp] theorem State.mbxLost_wf (s : State) (fn : Nat) (w0 : s.wf) : State.wf (State.mbxLost s fn) := by
  simp (maxDischargeDepth := 100) [State.mbxLost, w0]

@[simp] theorem State.mbxDoorbell_wf (s : State) (fn : Nat) (go : Bool) (w0 : s.wf) : State.wf (State.mbxDoorbell s fn go) := by
  simp (maxDischargeDepth := 100) [State.mbxDoorbell, w0]

@[simp] theorem State.queTail_wf (s : State) (q : Nat) (v : Word) (w0 : s.wf) : State.wf (State.queTail s q v) := by
  simp (maxDischargeDepth := 100) [State.queTail, w0]

@[simp] theorem State.queHead_wf (s : State) (q : Nat) (v : Word) (w0 : s.wf) : State.wf (State.queHead s q v) := by
  unfold State.queHead
  simp only []
  (repeat' split) <;> simp (maxDischargeDepth := 100) [w0]

@[simp] theorem State.hpsSignal_wf (s : State) (fn : Nat) (p : Nat) (n : Nat) (w0 : s.wf) : State.wf (State.hpsSignal s fn p n) := by
  simp (maxDischargeDepth := 100) [State.hpsSignal, w0]

@[simp] theorem State.evtMask_wf (s : State) (fn : Nat) (v : Word) (w0 : s.wf) : State.wf (State.evtMask s fn v) := by
  simp (maxDischargeDepth := 100) [State.evtMask, w0]

@[simp] theorem State.dirty_wf (s : State) (g : Nat) (w0 : s.wf) : State.wf (State.dirty s g) := by simp (maxDischargeDepth := 100) [State.dirty, w0]

@[simp] theorem State.codeWrite_wf (s : State) (key : Nat) (r : RegRow) (v : Word) (locked : Bool) (w0 : s.wf) :
    State.wf (State.codeWrite s key r v locked) := by
  simp (maxDischargeDepth := 100) [State.codeWrite, w0]

@[simp] theorem State.regWrite_wf (s : State) (fn : Nat) (off : Nat) (v : Word) (w0 : s.wf) : State.wf (State.regWrite s fn off v) := by
  unfold State.regWrite
  (repeat' split) <;> simp (maxDischargeDepth := 100) [w0]

@[simp] theorem State.write32_wf (s : State) (fn : Nat) (off : Nat) (v : Word) (w0 : s.wf) : State.wf (State.write32 s fn off v) := by
  simp (maxDischargeDepth := 100) [State.write32, w0]

@[simp] theorem State.barWrite_wf (s : State) (fn : Nat) (off : Nat) (size : Nat) (v : BitVec 64) (w0 : s.wf) :
    State.wf (State.barWrite s fn off size v) := by
  simp (maxDischargeDepth := 100) [State.barWrite, w0]

@[simp] theorem State.linked_wf {s : State} {f : State → State} (h : ∀ s, s.wf → (f s).wf) (w0 : s.wf) :
    (s.linked f).wf := by
  unfold State.linked; split <;> simp [h, w0]

@[simp] theorem State.perfWrap_wf (s : State) (off : Nat) (w0 : s.wf) : State.wf (State.perfWrap s off) := by
  unfold State.perfWrap
  (repeat' split) <;> simp (maxDischargeDepth := 100) [w0]

@[simp] theorem State.apertureRefused_wf (s : State) (fn : Nat) (o : Nat) (w0 : s.wf) : State.wf (State.apertureRefused s fn o) := by
  simp (maxDischargeDepth := 100) [State.apertureRefused, w0]

@[simp] theorem State.apertureRead_wf (s : State) (fn : Nat) (o : Nat) (n : Nat) (w0 : s.wf) : State.wf (State.apertureRead s fn o n) := by
  unfold State.apertureRead
  simp only []
  (repeat' split) <;> (first | (simp (maxDischargeDepth := 100) [w0]; done) | (refine wf_foldl (fun s x w => ?_) _ (by simp [w0]); (repeat' split) <;> simp (maxDischargeDepth := 100) [w]) | (refine wf_foldl (fun s x w => ?_) _ (by simp [w0]); simp only []; (repeat' split) <;> simp (maxDischargeDepth := 100) [w]))

@[simp] theorem State.apertureWrite_wf (s : State) (fn : Nat) (o : Nat) (bs : List Byte) (w0 : s.wf) : State.wf (State.apertureWrite s fn o bs) := by
  unfold State.apertureWrite
  split
  · simp (maxDischargeDepth := 100) [w0]
  · exact wf_foldl (fun s x w => by simp (maxDischargeDepth := 100) [w]) _ w0

/-! ### Governor -/

@[simp] theorem State.burstStep_wf (s : State) (w0 : s.wf) : State.wf (State.burstStep s) := by simp (maxDischargeDepth := 100) [State.burstStep, w0]

@[simp] theorem State.setStretch_wf (s : State) (v : Nat) (w0 : s.wf) : State.wf (State.setStretch s v) := by
  simp (maxDischargeDepth := 100) [State.setStretch, w0]

@[simp] theorem State.governorTick_wf (s : State) (p1 : Nat) (p100 : Nat) (pa : Nat) (arrays : Nat) (w0 : s.wf) :
    State.wf (State.governorTick s p1 p100 pa arrays) := by
  simp (maxDischargeDepth := 100) [State.governorTick, w0]

/-! ### MatrixRows -/

@[simp] theorem State.governorGrant_wf (s : State) (c : Nat) (a : Nat) (w0 : s.wf) : State.wf (State.governorGrant s c a) := by
  unfold State.governorGrant
  (repeat' split) <;> simp (maxDischargeDepth := 100) [w0]

/-! ### FixedFn -/

@[simp] theorem State.ffWrite_wf (s : State) (req : Nat) (h : Nat) (ws : List (Nat × List Byte)) (w0 : s.wf) :
    State.wf (State.ffWrite s req h ws) := by
  simp +contextual (maxDischargeDepth := 100) [State.ffWrite, w0]

@[simp] theorem State.ffSat_wf (s : State) (p : Nat) (n : Nat) (w0 : s.wf) : State.wf (State.ffSat s p n) := by
  simp (maxDischargeDepth := 100) [State.ffSat, w0]

@[simp] theorem State.writeCopy_wf (s : State) (p : Nat) (j : FfJob) (w0 : s.wf) : State.wf (State.writeCopy s p j) := by
  simp (maxDischargeDepth := 100) [State.writeCopy, w0]

@[simp] theorem State.edgeRun_wf (s : State) (p : Nat) (j : FfJob) (w0 : s.wf) : State.wf (State.edgeRun s p j) := by
  simp +contextual (maxDischargeDepth := 100) [State.edgeRun, w0]

@[simp] theorem State.cropRun_wf (s : State) (p : Nat) (j : FfJob) (w0 : s.wf) : State.wf (State.cropRun s p j) := by
  simp (maxDischargeDepth := 100) [State.cropRun, w0]

@[simp] theorem State.setWalk_wf (s : State) (p : Nat) (w : Walk) (w0 : s.wf) : State.wf (State.setWalk s p w) := by
  simp (maxDischargeDepth := 100) [State.setWalk, w0]

@[simp] theorem State.slotStart_wf (s : State) (w0 : s.wf) : State.wf (State.slotStart s) := by
  unfold State.slotStart
  simp only []
  (repeat' split) <;> simp (maxDischargeDepth := 100) [w0]

@[simp] theorem State.badJob_wf (s : State) (p : Nat) (w0 : s.wf) : State.wf (State.badJob s p) := by
  simp (maxDischargeDepth := 100) [State.badJob, w0]

@[simp] theorem State.takeJob_wf (s : State) (p : Nat) (i : Nat) (w0 : s.wf) : State.wf (State.takeJob s p i) := by
  simp (maxDischargeDepth := 100) [State.takeJob, w0]

@[simp] theorem State.settleWalk_wf (s : State) (p : Nat) (w0 : s.wf) : State.wf (State.settleWalk s p) := by
  simp +contextual (maxDischargeDepth := 100) [State.settleWalk, w0]

@[simp] theorem State.ffCorrected_wf (s : State) (rs : List (Option (Nat × Nat))) (w0 : s.wf) : State.wf (State.ffCorrected s rs) := by
  simp +contextual (maxDischargeDepth := 100) [State.ffCorrected, w0]

@[simp] theorem State.walkStart_wf (s : State) (p : Nat) (w0 : s.wf) : State.wf (State.walkStart s p) := by
  unfold State.walkStart
  simp only []
  (repeat' split) <;> simp (maxDischargeDepth := 100) [w0]

@[simp] theorem State.jobSignal_wf (s : State) (p : Nat) (unit : Nat) (j : FfJob) (w0 : s.wf) : State.wf (State.jobSignal s p unit j) := by
  simp (maxDischargeDepth := 100) [State.jobSignal, w0]

@[simp] theorem State.runJob_wf (s : State) (p : Nat) (unit : Nat) (i : Nat) (j : FfJob) (w0 : s.wf) : State.wf (State.runJob s p unit i j) := by
  unfold State.runJob
  simp only []
  (repeat' split) <;> simp (maxDischargeDepth := 100) [w0]

@[simp] theorem State.startFf_wf (s : State) (p : Nat) (kind : Nat) (w0 : s.wf) : State.wf (State.startFf s p kind) := by
  unfold State.startFf
  simp only []
  (repeat' split) <;> simp (maxDischargeDepth := 100) [w0]

@[simp] theorem State.jobComplete_wf (s : State) (p : Nat) (unit : Nat) (w0 : s.wf) : State.wf (State.jobComplete s p unit) := by
  unfold State.jobComplete
  simp only []
  (repeat' split) <;> simp (maxDischargeDepth := 100) [w0]

@[simp] theorem State.agRun_wf (s : State) (f : Nat) (a : AgRun) (w0 : s.wf) : State.wf (State.agRun s f a) := by
  unfold State.agRun
  (repeat' split) <;> simp (maxDischargeDepth := 100) [w0]

/-! ### SubPrep -/

@[simp] theorem State.takeCutFrame_wf (s : State) (p : Nat) (b : Nat) (w0 : s.wf) : State.wf (State.takeCutFrame s p b) := by
  unfold State.takeCutFrame
  (repeat' split) <;> simp (maxDischargeDepth := 100) [w0]

@[simp] theorem State.subStart_wf (s : State) (p : Nat) (b : Nat) (w0 : s.wf) : State.wf (State.subStart s p b) := by
  simp (maxDischargeDepth := 100) [State.subStart, w0]

@[simp] theorem State.subReady_wf (s : State) (p : Nat) (b : Nat) (w0 : s.wf) : State.wf (State.subReady s p b) := by
  unfold State.subReady
  (repeat' split) <;> simp (maxDischargeDepth := 100) [w0]

/-! ### DeanCmd -/

/-- Every state that an answer holds has memories of the canonical form. -/
def Answer.KeepsMem (a : Answer) : Prop :=
  match a with
  | .fail _ => True
  | .ok _ t | .later t | .hold t => t.wf

@[simp] theorem Answer.fail_mem (e : CmdErr) : (Answer.fail e).KeepsMem := trivial
@[simp] theorem Answer.ok_mem (r : List Nat) (t : State) : (Answer.ok r t).KeepsMem ↔ t.wf := Iff.rfl
@[simp] theorem Answer.later_mem (t : State) : (Answer.later t).KeepsMem ↔ t.wf := Iff.rfl
@[simp] theorem Answer.hold_mem (t : State) : (Answer.hold t).KeepsMem ↔ t.wf := Iff.rfl
@[simp] theorem Answer.ite_mem (c : Prop) [Decidable c] (a b : Answer) :
    (if c then a else b).KeepsMem ↔ if c then a.KeepsMem else b.KeepsMem := by split <;> rfl
@[simp] theorem checked_mem {a : Answer} (h : a.KeepsMem) (c : Check) : (checked c a).KeepsMem := by
  cases c <;> simp [checked, h]

/-- A command whose run keeps the form keeps it. -/
@[simp] theorem State.deanTake_wf {run : State → Answer} (h : ∀ s, s.wf → (run s).KeepsMem) {s : State} (op : Nat)
    (only0 standby : Bool) (tests : List FieldTest) (d : DeanCmd) (w0 : s.wf) : (s.deanTake op only0 standby tests d run).1.wf := by
  unfold State.deanTake
  extract_lets dean end_ c
  split
  · exact w0
  · split
    · have k := checked_mem (h s w0) c
      split <;> rename_i q <;> rw [q] at k <;> simp_all [end_]
    · exact w0

@[simp] theorem State.dean_wf {t : State → State × Bool} (h : ∀ s, s.wf → (t s).1.wf) {s : State} (w0 : s.wf) :
    (s.dean t).wf := h s w0

@[simp] theorem State.bufWrite_wf (s : State) (h : Nat) (p : BufPlace) (bs : List Byte) (w0 : s.wf) : State.wf (State.bufWrite s h p bs) := by
  unfold State.bufWrite; split <;> simp [w0]

@[simp] theorem State.withBytes_mem {f : State → List Byte → Answer} (h : ∀ t bs, t.wf → (f t bs).KeepsMem) {s : State} (w0 : s.wf)
    (d : DeanCmd) (a n o : Nat) (block : Bool) : (s.withBytes d a n o block f).KeepsMem := by
  unfold State.withBytes
  extract_lets p t
  split
  · simp
  · simp (maxDischargeDepth := 100) [w0]
  · exact h t _ (by simp only [t]; cases p <;> simp (maxDischargeDepth := 100) [w0])

@[simp] theorem State.withBuf_mem {f : State → List Byte → Answer} (h : ∀ t bs, t.wf → (f t bs).KeepsMem) {s : State} (w0 : s.wf)
    (d : DeanCmd) (i n : Nat) : (s.withBuf d i n f).KeepsMem := State.withBytes_mem h w0 d _ n _ false

/-! ### DeanQueues -/

@[simp] theorem State.cmdNop_wf (d : DeanCmd) (s : State) (w0 : s.wf) : State.wf (State.cmdNop d s).1 := by
  simp (maxDischargeDepth := 100) [State.cmdNop, w0]

@[simp] theorem State.postHeld_wf (s : State) (w0 : s.wf) : State.wf (State.postHeld s) := by
  simp +contextual (maxDischargeDepth := 100) [State.postHeld, w0]

@[simp] theorem State.queueSet_wf (s : State) (h : Nat) (q : Nat) (addr : Nat) (cfg : Nat) (pair : Nat) (mask : Word) (w0 : s.wf) :
    State.wf (State.queueSet s h q addr cfg pair mask) := by
  simp (maxDischargeDepth := 100) [State.queueSet, w0]

@[simp] theorem State.cmdQueueCreate_wf (d : DeanCmd) (s : State) (w0 : s.wf) : State.wf (State.cmdQueueCreate d s).1 := by
  simp +contextual (maxDischargeDepth := 100) [State.cmdQueueCreate, w0]

@[simp] theorem State.queueClear_wf (s : State) (q : Nat) (w0 : s.wf) : State.wf (State.queueClear s q) := by
  simp (maxDischargeDepth := 100) [State.queueClear, w0]

@[simp] theorem State.abortQueue_wf (s : State) (h : Nat) (q : Nat) (w0 : s.wf) : State.wf (State.abortQueue s h q) := by
  simp +contextual (maxDischargeDepth := 100) [State.abortQueue, w0]

@[simp] theorem State.cmdQueueDestroy_wf (d : DeanCmd) (s : State) (w0 : s.wf) : State.wf (State.cmdQueueDestroy d s).1 := by
  simp +contextual (maxDischargeDepth := 100) [State.cmdQueueDestroy, w0]

@[simp] theorem State.cmdHpassSet_wf (d : DeanCmd) (s : State) (w0 : s.wf) : State.wf (State.cmdHpassSet d s).1 := by
  simp +contextual (maxDischargeDepth := 100) [State.cmdHpassSet, w0]

@[simp] theorem State.cmdHpassWait_wf (d : DeanCmd) (s : State) (w0 : s.wf) : State.wf (State.cmdHpassWait d s).1 := by
  simp +contextual (maxDischargeDepth := 100) [State.cmdHpassWait, w0]

@[simp] theorem State.cmdDmaRun_wf (d : DeanCmd) (s : State) (w0 : s.wf) : State.wf (State.cmdDmaRun d s).1 := by
  simp +contextual (maxDischargeDepth := 100) [State.cmdDmaRun, w0]

@[simp] theorem State.cmdShelfFlush_wf (d : DeanCmd) (s : State) (w0 : s.wf) : State.wf (State.cmdShelfFlush d s).1 := by
  simp +contextual (maxDischargeDepth := 100) [State.cmdShelfFlush, w0]

@[simp] theorem State.cmdBandStatus_wf (d : DeanCmd) (s : State) (w0 : s.wf) : State.wf (State.cmdBandStatus d s).1 := by
  simp +contextual (maxDischargeDepth := 100) [State.cmdBandStatus, w0]

@[simp] theorem State.cmdPipeStatus_wf (d : DeanCmd) (s : State) (w0 : s.wf) : State.wf (State.cmdPipeStatus d s).1 := by
  simp +contextual (maxDischargeDepth := 100) [State.cmdPipeStatus, w0]

@[simp] theorem State.cmdTierFloor_wf (d : DeanCmd) (s : State) (w0 : s.wf) : State.wf (State.cmdTierFloor d s).1 := by
  simp +contextual (maxDischargeDepth := 100) [State.cmdTierFloor, w0]

@[simp] theorem State.cmdCoreRetire_wf (d : DeanCmd) (s : State) (w0 : s.wf) : State.wf (State.cmdCoreRetire d s).1 := by
  simp +contextual (maxDischargeDepth := 100) [State.cmdCoreRetire, w0]

@[simp] theorem State.cmdCoreRejoin_wf (d : DeanCmd) (s : State) (w0 : s.wf) : State.wf (State.cmdCoreRejoin d s).1 := by
  simp +contextual (maxDischargeDepth := 100) [State.cmdCoreRejoin, w0]

@[simp] theorem State.cmdMarchRun_wf (d : DeanCmd) (s : State) (w0 : s.wf) : State.wf (State.cmdMarchRun d s).1 := by
  simp +contextual (maxDischargeDepth := 100) [State.cmdMarchRun, w0]

@[simp] theorem State.marchComplete_wf (s : State) (fail : Bool) (w0 : s.wf) : State.wf (State.marchComplete s fail) := by
  unfold State.marchComplete
  have h := State.marchDone_wf s fail w0
  split
  · rename_i heq
    rw [heq] at h
    split <;> simp_all
  · rename_i heq
    rw [heq] at h
    exact h

/-! ### DeanGrant -/

@[simp] theorem State.journalAdd_wf (s : State) (w0 : s.wf) : State.wf (State.journalAdd s) := by
  simp (maxDischargeDepth := 100) [State.journalAdd, w0]

@[simp] theorem State.zeroGranule_wf (s : State) (g : Nat) (w0 : s.wf) : State.wf (State.zeroGranule s g) := by
  simp (maxDischargeDepth := 100) [State.zeroGranule, w0]

@[simp] theorem State.xlateSet_wf (s : State) (h : Nat) (ws : List Word) (w0 : s.wf) : State.wf (State.xlateSet s h ws) := by
  simp +contextual (maxDischargeDepth := 100) [State.xlateSet, w0]

@[simp] theorem State.grantLayers_wf (s : State) (g : GrantBlock) (w0 : s.wf) : State.wf (State.grantLayers s g) := by
  simp +contextual (maxDischargeDepth := 100) [State.grantLayers, w0]

@[simp] theorem State.grantSet_wf (s : State) (g : GrantBlock) (ws : List Word) (w0 : s.wf) : State.wf (State.grantSet s g ws) := by
  simp (maxDischargeDepth := 100) [State.grantSet, w0]

@[simp] theorem State.cmdHouseGrant_wf (d : DeanCmd) (s : State) (w0 : s.wf) : State.wf (State.cmdHouseGrant d s).1 := by
  simp +contextual (maxDischargeDepth := 100) [State.cmdHouseGrant, w0]

@[simp] theorem State.journalBank_wf (s : State) (b : Nat) (w0 : s.wf) : State.wf (State.journalBank s b) := by
  simp (maxDischargeDepth := 100) [State.journalBank, w0]

@[simp] theorem State.cmdBankHandover_wf (d : DeanCmd) (s : State) (w0 : s.wf) : State.wf (State.cmdBankHandover d s).1 := by
  simp +contextual (maxDischargeDepth := 100) [State.cmdBankHandover, w0]

@[simp] theorem State.pipeSet_wf (s : State) (b : List Byte) (coef : List Byte) (w0 : s.wf) : State.wf (State.pipeSet s b coef) := by
  simp (maxDischargeDepth := 100) [State.pipeSet, w0]

@[simp] theorem State.cmdPipeCreate_wf (d : DeanCmd) (s : State) (w0 : s.wf) : State.wf (State.cmdPipeCreate d s).1 := by
  simp +contextual (maxDischargeDepth := 100) [State.cmdPipeCreate, w0]

@[simp] theorem State.pipeClear_wf (s : State) (p : Nat) (w0 : s.wf) : State.wf (State.pipeClear s p) := by
  simp (maxDischargeDepth := 100) [State.pipeClear, w0]

@[simp] theorem State.cmdPipeDestroy_wf (d : DeanCmd) (s : State) (w0 : s.wf) : State.wf (State.cmdPipeDestroy d s).1 := by
  simp +contextual (maxDischargeDepth := 100) [State.cmdPipeDestroy, w0]

/-! ### DeanModel -/

@[simp] theorem State.freshHandle_wf (s : State) (w0 : s.wf) : State.wf (State.freshHandle s).2 := by
  simp (maxDischargeDepth := 100) [State.freshHandle, w0]

@[simp] theorem State.edgeWeights_wf (s : State) (m : Model) (w0 : s.wf) : State.wf (State.edgeWeights s m) := by
  simp +contextual (maxDischargeDepth := 100) [State.edgeWeights, w0]

@[simp] theorem State.modelSet_wf (s : State) (h : Nat) (key : Nat) (svn : Nat) (p : Config.Package) (w0 : s.wf) :
    State.wf (State.modelSet s h key svn p).2 := by
  unfold State.modelSet
  simp only []
  (repeat' split) <;> simp (maxDischargeDepth := 100) [w0]

@[simp] theorem State.cmdModelLoad_wf (d : DeanCmd) (s : State) (w0 : s.wf) : State.wf (State.cmdModelLoad d s).1 := by
  simp +contextual (maxDischargeDepth := 100) [State.cmdModelLoad, w0]

@[simp] theorem State.modelDrop_wf (s : State) (m : Nat) (w0 : s.wf) : State.wf (State.modelDrop s m) := by
  simp (maxDischargeDepth := 100) [State.modelDrop, w0]

@[simp] theorem State.cmdModelUnload_wf (d : DeanCmd) (s : State) (w0 : s.wf) : State.wf (State.cmdModelUnload d s).1 := by
  simp +contextual (maxDischargeDepth := 100) [State.cmdModelUnload, w0]

@[simp] theorem State.setSlot_wf (s : State) (i : Nat) (c : CommitSet) (w0 : s.wf) : State.wf (State.setSlot s i c) := by
  simp (maxDischargeDepth := 100) [State.setSlot, w0]

@[simp] theorem State.cmdRouteSet_wf (d : DeanCmd) (s : State) (w0 : s.wf) : State.wf (State.cmdRouteSet d s).1 := by
  simp +contextual (maxDischargeDepth := 100) [State.cmdRouteSet, w0]

@[simp] theorem State.stageBlock_wf (op : Nat) (mask : Nat) (d : DeanCmd) (check : State → Nat → CommitSet → List Word → Check) (put : CommitSet → Nat → List Word → CommitSet) (s : State) (w0 : s.wf) :
    State.wf (State.stageBlock op mask d check put s).1 := by
  simp +contextual (maxDischargeDepth := 100) [State.stageBlock, w0]

@[simp] theorem State.cmdModeSet_wf (d : DeanCmd) (s : State) (w0 : s.wf) : State.wf (State.cmdModeSet d s).1 := by
  simp (maxDischargeDepth := 100) [State.cmdModeSet, w0]

@[simp] theorem State.cmdPortSet_wf (d : DeanCmd) (s : State) (w0 : s.wf) : State.wf (State.cmdPortSet d s).1 := by
  simp (maxDischargeDepth := 100) [State.cmdPortSet, w0]

@[simp] theorem State.cmdCanvasSet_wf (d : DeanCmd) (s : State) (w0 : s.wf) : State.wf (State.cmdCanvasSet d s).1 := by
  simp (maxDischargeDepth := 100) [State.cmdCanvasSet, w0]

@[simp] theorem State.cmdVlayerSet_wf (d : DeanCmd) (s : State) (w0 : s.wf) : State.wf (State.cmdVlayerSet d s).1 := by
  simp (maxDischargeDepth := 100) [State.cmdVlayerSet, w0]

@[simp] theorem State.cmdProtectSet_wf (d : DeanCmd) (s : State) (w0 : s.wf) : State.wf (State.cmdProtectSet d s).1 := by
  simp +contextual (maxDischargeDepth := 100) [State.cmdProtectSet, w0]

@[simp] theorem State.cmdCommit_wf (d : DeanCmd) (s : State) (w0 : s.wf) : State.wf (State.cmdCommit d s).1 := by
  unfold State.cmdCommit
  extract_lets
  refine State.deanTake_wf (fun s w => ?_) _ _ _ _ _ w0
  (repeat (first | refine checked_mem ?_ _ | (refine State.withBuf_mem (fun s b w => ?_) (by assumption) _ _ _) | (refine State.withBytes_mem (fun s b w => ?_) (by assumption) _ _ _ _ _)))
  simp only []
  (repeat' split) <;> simp (maxDischargeDepth := 100) [*]

/-! ### DeanService -/

@[simp] theorem State.cmdFwStage_wf (d : DeanCmd) (s : State) (w0 : s.wf) : State.wf (State.cmdFwStage d s).1 := by
  simp +contextual (maxDischargeDepth := 100) [State.cmdFwStage, w0]

@[simp] theorem State.cmdFwSwap_wf (d : DeanCmd) (s : State) (w0 : s.wf) : State.wf (State.cmdFwSwap d s).1 := by
  simp +contextual (maxDischargeDepth := 100) [State.cmdFwSwap, w0]

@[simp] theorem State.resumeHouse_wf (s : State) (h : Nat) (w0 : s.wf) : State.wf (State.resumeHouse s h) := by
  simp +contextual (maxDischargeDepth := 100) [State.resumeHouse, w0]

@[simp] theorem State.closeDebug_wf (s : State) (h : Nat) (w0 : s.wf) : State.wf (State.closeDebug s h) := by
  simp (maxDischargeDepth := 100) [State.closeDebug, w0]

@[simp] theorem State.eraseKeys_wf (s : State) (w0 : s.wf) : State.wf (State.eraseKeys s) := by simp (maxDischargeDepth := 100) [State.eraseKeys, w0]

@[simp] theorem State.dropPermit_wf (s : State) (w0 : s.wf) : State.wf (State.dropPermit s) := by
  simp (maxDischargeDepth := 100) [State.dropPermit, w0]

@[simp] theorem State.cmdDebugSet_wf (d : DeanCmd) (s : State) (w0 : s.wf) : State.wf (State.cmdDebugSet d s).1 := by
  simp +contextual (maxDischargeDepth := 100) [State.cmdDebugSet, w0]

@[simp] theorem State.cmdAdaptPolicy_wf (d : DeanCmd) (s : State) (w0 : s.wf) : State.wf (State.cmdAdaptPolicy d s).1 := by
  simp +contextual (maxDischargeDepth := 100) [State.cmdAdaptPolicy, w0]

@[simp] theorem State.cmdHwStatus_wf (d : DeanCmd) (s : State) (w0 : s.wf) : State.wf (State.cmdHwStatus d s).1 := by
  unfold State.cmdHwStatus
  extract_lets
  refine State.deanTake_wf (fun s w => ?_) _ _ _ _ _ w0
  (repeat (first | refine checked_mem ?_ _ | (refine State.withBuf_mem (fun s b w => ?_) (by assumption) _ _ _) | (refine State.withBytes_mem (fun s b w => ?_) (by assumption) _ _ _ _ _)))
  simp only []
  (repeat' split) <;> simp (maxDischargeDepth := 100) [*]

/-! ### StartUp -/

@[simp] theorem State.journalFlush_wf (s : State) (w0 : s.wf) : State.wf (State.journalFlush s) := by
  simp (maxDischargeDepth := 100) [State.journalFlush, w0]

@[simp] theorem State.wipe_wf (s : State) (warm : Bool) (w0 : s.wf) : State.wf (State.wipe s warm) := by
  unfold State.wipe
  (repeat' split) <;> simp (maxDischargeDepth := 100) [w0]

@[simp] theorem State.bankOut_wf (s : State) (b : Nat) (w0 : s.wf) : State.wf (State.bankOut s b) := by
  simp (maxDischargeDepth := 100) [State.bankOut, w0]

@[simp] theorem State.coreOut_wf (s : State) (c : Nat) (w0 : s.wf) : State.wf (State.coreOut s c) := by
  simp (maxDischargeDepth := 100) [State.coreOut, w0]

@[simp] theorem State.arrayOut_wf (s : State) (a : Nat) (w0 : s.wf) : State.wf (State.arrayOut s a) := by
  simp (maxDischargeDepth := 100) [State.arrayOut, w0]

@[simp] theorem State.formOut_wf (s : State) (f : Nat) (w0 : s.wf) : State.wf (State.formOut s f) := by
  simp (maxDischargeDepth := 100) [State.formOut, w0]

@[simp] theorem State.unitsOut_wf (s : State) (r : SaveRec) (w0 : s.wf) : State.wf (State.unitsOut s r) := by
  simp +contextual (maxDischargeDepth := 100) [State.unitsOut, w0]

@[simp] theorem State.clearCells_wf (s : State) (w0 : s.wf) : State.wf (State.clearCells s) := by
  simp (maxDischargeDepth := 100) [State.clearCells, w0]

@[simp] theorem State.startMarchAll_wf (s : State) (u : StartUp) (w0 : s.wf) : State.wf (State.startMarchAll s u) := by
  simp +contextual (maxDischargeDepth := 100) [State.startMarchAll, w0]

@[simp] theorem State.rerun_wf (s : State) (m : Model) (w0 : s.wf) : State.wf (State.rerun s m) := by
  unfold State.rerun
  extract_lets s1 s2 s3 s4 s5 s6
  have h1 : s1.wf := by simp [s1, w0]
  clear_value s1
  have h2 : s2.wf := by simp (maxDischargeDepth := 100) [s2, h1]
  clear_value s2
  have h3 : s3.wf := by simp (maxDischargeDepth := 100) [s3, h2]
  clear_value s3
  have h4 : s4.wf := by simp (maxDischargeDepth := 100) [s4, h3]
  clear_value s4
  have h5 : s5.wf := by simp only [s5]; exact wf_foldl (fun s x w => by simp (maxDischargeDepth := 100) [w]) _ h4
  clear_value s5
  have h6 : s6.wf := by simp (maxDischargeDepth := 100) [s6, h5]
  clear_value s6
  split <;> simp (maxDischargeDepth := 100) [h6]

@[simp] theorem State.rerunAll_wf (s : State) (w0 : s.wf) : State.wf (State.rerunAll s) := by
  simp +contextual (maxDischargeDepth := 100) [State.rerunAll, w0]

@[simp] theorem State.picturesStart_wf (s : State) (w0 : s.wf) : State.wf (State.picturesStart s) := by
  simp +contextual (maxDischargeDepth := 100) [State.picturesStart, w0]

@[simp] theorem State.showHold_wf (s : State) (w0 : s.wf) : State.wf (State.showHold s) := by simp (maxDischargeDepth := 100) [State.showHold, w0]

@[simp] theorem State.startCauses_wf (s : State) (last : Nat) (w0 : s.wf) : State.wf (State.startCauses s last) := by
  simp (maxDischargeDepth := 100) [State.startCauses, w0]

@[simp] theorem State.restoreFrames_wf (s : State) (w0 : s.wf) : State.wf (State.restoreFrames s) := by
  simp +contextual (maxDischargeDepth := 100) [State.restoreFrames, w0]

@[simp] theorem State.restoreRecord_wf (s : State) (w0 : s.wf) : State.wf (State.restoreRecord s) := by
  unfold State.restoreRecord
  simp only []
  (repeat' split) <;> simp +contextual (maxDischargeDepth := 100) [w0]

@[simp] theorem State.tornPorts_wf (s : State) (w0 : s.wf) : State.wf (State.tornPorts s) := by
  unfold State.tornPorts
  simp only []
  (repeat' split) <;> simp +contextual (maxDischargeDepth := 100) [w0]

@[simp] theorem State.replay_wf (s : State) (w0 : s.wf) : State.wf (State.replay s) := by
  unfold State.replay
  extract_lets j s1 s2 gl last ran src s3 s4 s5
  have h1 : s1.wf := by simp only [s1]; exact wf_foldl (fun s x w => by simp (maxDischargeDepth := 100) [w]) _ w0
  clear_value s1
  have h2 : s2.wf := by simp only [s2]; exact wf_foldl (fun s x w => by simp (maxDischargeDepth := 100) [w]) _ h1
  clear_value s2
  have h3 : s3.wf := by simp (maxDischargeDepth := 100) [s3, h2]
  clear_value s3
  have h4 : s4.wf := by simp only [s4]; exact wf_foldl (fun s x w => by simp (maxDischargeDepth := 100) [w]) _ h3
  clear_value s4
  have h5 : s5.wf := by simp only [s5]; exact wf_foldl (fun s x w => by split <;> simp (maxDischargeDepth := 100) [w]) _ h4
  clear_value s5
  exact wf_foldl (fun s x w => by split <;> simp (maxDischargeDepth := 100) [w]) _ h5

@[simp] theorem State.bootFuses_wf (s : State) (w0 : s.wf) : State.wf (State.bootFuses s) := by
  unfold State.bootFuses
  simp only []
  (repeat' split) <;> simp (maxDischargeDepth := 100) [w0]

@[simp] theorem State.showDean_wf (s : State) (b : Bool) (st : Nat) (w0 : s.wf) : State.wf (State.showDean s b st) := by
  simp (maxDischargeDepth := 100) [State.showDean, w0]

@[simp] theorem State.bootBoard_wf (s : State) (u : StartUp) (w0 : s.wf) : State.wf (State.bootBoard s u) := by
  simp (maxDischargeDepth := 100) [State.bootBoard, w0]

@[simp] theorem State.bootRun_wf (s : State) (u : StartUp) (last : Nat) (b : Bool) (w0 : s.wf) : State.wf (State.bootRun s u last b) := by
  simp (maxDischargeDepth := 100) [State.bootRun, w0]

@[simp] theorem State.bootFrom2_wf (s : State) (u : StartUp) (last : Nat) (w0 : s.wf) : State.wf (State.bootFrom2 s u last) := by
  unfold State.bootFrom2
  (repeat' split) <;> simp (maxDischargeDepth := 100) [w0]

/-! ### Power -/

@[simp] theorem State.powerEvent_wf (s : State) (cause : Nat) (w0 : s.wf) : State.wf (State.powerEvent s cause) := by
  simp (maxDischargeDepth := 100) [State.powerEvent, w0]

@[simp] theorem State.resetNow_wf (s : State) (w0 : s.wf) : State.wf (State.resetNow s) := by simp (maxDischargeDepth := 100) [State.resetNow, w0]

@[simp] theorem State.resetAssert_wf (s : State) (w0 : s.wf) : State.wf (State.resetAssert s) := by
  simp (maxDischargeDepth := 100) [State.resetAssert, w0]

@[simp] theorem State.resetRelease_wf (s : State) (u : StartUp) (sag : Bool) (w0 : s.wf) : State.wf (State.resetRelease s u sag) := by
  simp (maxDischargeDepth := 100) [State.resetRelease, w0]

@[simp] theorem State.sagHigh_wf (s : State) (u : StartUp) (w0 : s.wf) : State.wf (State.sagHigh s u) := by
  unfold State.sagHigh
  (repeat' split) <;> simp (maxDischargeDepth := 100) [w0]

@[simp] theorem State.dropCommits_wf (s : State) (w0 : s.wf) : State.wf (State.dropCommits s) := by
  unfold State.dropCommits
  extract_lets s1 s2
  have h1 : s1.wf := by simp only [s1]; exact wf_foldl (fun s a w => by split <;> simp (maxDischargeDepth := 100) [w]) _ w0
  clear_value s1
  have h2 : s2.wf := by simp [s2, h1]
  clear_value s2
  simp (maxDischargeDepth := 100) [h2]

@[simp] theorem State.dark_wf (s : State) (w0 : s.wf) : State.wf (State.dark s) := by simp (maxDischargeDepth := 100) [State.dark, w0]

@[simp] theorem State.standbyEntry_wf (s : State) (timeout : Bool) (w0 : s.wf) : State.wf (State.standbyEntry s timeout) := by
  simp +contextual (maxDischargeDepth := 100) [State.standbyEntry, w0]

@[simp] theorem State.wakeUp_wf (s : State) (u : StartUp) (w0 : s.wf) : State.wf (State.wakeUp s u) := by
  simp +contextual (maxDischargeDepth := 100) [State.wakeUp, w0]

@[simp] theorem State.transDone_wf (s : State) (u : StartUp) (w0 : s.wf) : State.wf (State.transDone s u) := by
  unfold State.transDone
  (repeat' split) <;> simp (maxDischargeDepth := 100) [w0]

@[simp] theorem State.holdUp_wf (s : State) (cause : Nat) (w0 : s.wf) : State.wf (State.holdUp s cause) := by
  simp (maxDischargeDepth := 100) [State.holdUp, w0]

@[simp] theorem State.holdupWarning_wf (s : State) (cause : Nat) (w0 : s.wf) : State.wf (State.holdupWarning s cause) := by
  simp (maxDischargeDepth := 100) [State.holdupWarning, w0]

@[simp] theorem State.saveSealed_wf (s : State) (vhold : Nat) (w0 : s.wf) : State.wf (State.saveSealed s vhold) := by
  unfold State.saveSealed
  (repeat' split) <;> simp (maxDischargeDepth := 100) [w0]

@[simp] theorem State.powerOff_wf (s : State) (w0 : s.wf) : State.wf (State.powerOff s) := by
  unfold State.powerOff
  (repeat' split) <;> simp (maxDischargeDepth := 100) [w0]

@[simp] theorem State.warmStart_wf (s : State) (u : StartUp) (last : Nat) (w0 : s.wf) : State.wf (State.warmStart s u last) := by
  simp (maxDischargeDepth := 100) [State.warmStart, w0]

@[simp] theorem State.holdupResume_wf (s : State) (u : StartUp) (w0 : s.wf) : State.wf (State.holdupResume s u) := by
  simp (maxDischargeDepth := 100) [State.holdupResume, w0]

@[simp] theorem State.thermalRestart_wf (s : State) (u : StartUp) (w0 : s.wf) : State.wf (State.thermalRestart s u) := by
  simp (maxDischargeDepth := 100) [State.thermalRestart, w0]

@[simp] theorem State.showTj_wf (s : State) (w0 : s.wf) : State.wf (State.showTj s) := by simp (maxDischargeDepth := 100) [State.showTj, w0]

@[simp] theorem State.thermalSample_wf (s : State) (f : Nat) (t : Nat) (w0 : s.wf) : State.wf (State.thermalSample s f t) := by
  simp (maxDischargeDepth := 100) [State.thermalSample, w0]

@[simp] theorem State.heatDecay_wf (s : State) (f : Nat) (w0 : s.wf) : State.wf (State.heatDecay s f) := by
  simp (maxDischargeDepth := 100) [State.heatDecay, w0]

@[simp] theorem State.calFailed_wf (s : State) (w0 : s.wf) : State.wf (State.calFailed s) := by simp (maxDischargeDepth := 100) [State.calFailed, w0]

@[simp] theorem State.sensorCal_wf (s : State) (f : Nat) (ok : Bool) (w0 : s.wf) : State.wf (State.sensorCal s f ok) := by
  simp (maxDischargeDepth := 100) [State.sensorCal, w0]

@[simp] theorem State.pllCal_wf (s : State) (bitNo : Nat) (ok : Bool) (w0 : s.wf) : State.wf (State.pllCal s bitNo ok) := by
  simp (maxDischargeDepth := 100) [State.pllCal, w0]

@[simp] theorem State.dramRetrain_wf (s : State) (ok : Bool) (w0 : s.wf) : State.wf (State.dramRetrain s ok) := by
  simp (maxDischargeDepth := 100) [State.dramRetrain, w0]

@[simp] theorem State.vcoreAdjust_wf (s : State) (want : Nat) (meas : Nat) (w0 : s.wf) : State.wf (State.vcoreAdjust s want meas) := by
  simp (maxDischargeDepth := 100) [State.vcoreAdjust, w0]

@[simp] theorem State.fwHandover_wf (s : State) (w0 : s.wf) : State.wf (State.fwHandover s) := by
  simp (maxDischargeDepth := 100) [State.fwHandover, w0]

@[simp] theorem State.fwAnswer_wf (s : State) (status : Nat) (w0 : s.wf) : State.wf (State.fwAnswer s status) := by
  unfold State.fwAnswer
  (repeat' split) <;> simp (maxDischargeDepth := 100) [w0]

@[simp] theorem State.fwRuns_wf (s : State) (w0 : s.wf) : State.wf (State.fwRuns s) := by simp (maxDischargeDepth := 100) [State.fwRuns, w0]

@[simp] theorem State.fwWatchdog_wf (s : State) (w0 : s.wf) : State.wf (State.fwWatchdog s) := by
  simp (maxDischargeDepth := 100) [State.fwWatchdog, w0]

@[simp] theorem State.fwConfirm_wf (s : State) (w0 : s.wf) : State.wf (State.fwConfirm s) := by simp (maxDischargeDepth := 100) [State.fwConfirm, w0]

@[simp] theorem State.rollbackRaise_wf (s : State) (m : Option Nat) (w0 : s.wf) : State.wf (State.rollbackRaise s m) := by
  unfold State.rollbackRaise
  (repeat' split) <;> simp (maxDischargeDepth := 100) [w0]

/-! ### Debug -/

@[simp] theorem State.dropCompletions_wf (s : State) (h : Nat) (w0 : s.wf) : State.wf (State.dropCompletions s h) := by
  simp (maxDischargeDepth := 100) [State.dropCompletions, w0]

@[simp] theorem State.resetFunction_wf (s : State) (fn : Nat) (w0 : s.wf) : State.wf (State.resetFunction s fn) := by
  simp +contextual (maxDischargeDepth := 100) [State.resetFunction, w0]

@[simp] theorem State.resetQueues_wf (s : State) (h : Nat) (w0 : s.wf) : State.wf (State.resetQueues s h) := by
  simp +contextual (maxDischargeDepth := 100) [State.resetQueues, w0]

@[simp] theorem State.resetPasses_wf (s : State) (h : Nat) (w0 : s.wf) : State.wf (State.resetPasses s h) := by
  simp +contextual (maxDischargeDepth := 100) [State.resetPasses, w0]

@[simp] theorem State.resetHouse_wf (s : State) (h : Nat) (w0 : s.wf) : State.wf (State.resetHouse s h) := by
  simp +contextual (maxDischargeDepth := 100) [State.resetHouse, w0]

@[simp] theorem State.flr_wf (s : State) (fn : Nat) (w0 : s.wf) : State.wf (State.flr s fn) := by simp (maxDischargeDepth := 100) [State.flr, w0]

@[simp] theorem State.perst_wf (s : State) (w0 : s.wf) : State.wf (State.perst s) := by simp +contextual (maxDischargeDepth := 100) [State.perst, w0]

@[simp] theorem State.jtagInstr_wf (s : State) (n : Nat) (w0 : s.wf) : State.wf (State.jtagInstr s n) := by
  simp (maxDischargeDepth := 100) [State.jtagInstr, w0]

@[simp] theorem State.jtagIdcode_wf (s : State) (w0 : s.wf) : State.wf (State.jtagIdcode s) := by
  simp (maxDischargeDepth := 100) [State.jtagIdcode, w0]

@[simp] theorem State.jtagBypass_wf (s : State) (tdi : Bool) (w0 : s.wf) : State.wf (State.jtagBypass s tdi) := by
  simp (maxDischargeDepth := 100) [State.jtagBypass, w0]

@[simp] theorem State.jtagScan_wf (s : State) (n : Nat) (captured : Nat) (content : Nat) (w0 : s.wf) :
    State.wf (State.jtagScan s n captured content) := by
  simp (maxDischargeDepth := 100) [State.jtagScan, w0]

@[simp] theorem State.jtagSample_wf (s : State) (pins : Nat) (content : Nat) (w0 : s.wf) : State.wf (State.jtagSample s pins content) := by
  simp (maxDischargeDepth := 100) [State.jtagSample, w0]

@[simp] theorem State.jtagExtest_wf (s : State) (pins : Nat) (content : Nat) (w0 : s.wf) : State.wf (State.jtagExtest s pins content) := by
  simp (maxDischargeDepth := 100) [State.jtagExtest, w0]

@[simp] theorem State.jtagIntest_wf (s : State) (content : Nat) (w0 : s.wf) : State.wf (State.jtagIntest s content) := by
  simp (maxDischargeDepth := 100) [State.jtagIntest, w0]

@[simp] theorem State.jtagTcd_wf (s : State) (wr : Bool) (off : Nat) (v : Word) (w0 : s.wf) : State.wf (State.jtagTcd s wr off v) := by
  simp (maxDischargeDepth := 100) [State.jtagTcd, w0]

@[simp] theorem State.lcRequest_wf (s : State) (dst : Nat) (slots : Nat) (token : List Byte) (w0 : s.wf) :
    State.wf (State.lcRequest s dst slots token) := by
  simp (maxDischargeDepth := 100) [State.lcRequest, w0]

@[simp] theorem State.hdcpProvision_wf (s : State) (w0 : s.wf) : State.wf (State.hdcpProvision s) := by
  simp (maxDischargeDepth := 100) [State.hdcpProvision, w0]

@[simp] theorem State.gpioLevel_wf (s : State) (pin : Nat) (mode : Nat) (irq : Nat) (level : Bool) (w0 : s.wf) :
    State.wf (State.gpioLevel s pin mode irq level) := by
  simp (maxDischargeDepth := 100) [State.gpioLevel, w0]

/-! ### DeanSlot -/

@[simp] theorem State.badOpcode_wf (s : State) (op : Nat) (d : DeanCmd) (w0 : s.wf) : State.wf (State.badOpcode s op d).1 := by
  simp (maxDischargeDepth := 100) [State.badOpcode, w0]

@[simp] theorem State.runRecord_wf (s : State) (x : Nat × DeanCmd) (w0 : s.wf) : State.wf (State.runRecord s x).1 := by
  unfold State.runRecord
  split
  · rename_i f h
    unfold deanOp at h
    split at h <;> cases h <;> simp (maxDischargeDepth := 100) [w0]
  · simp (maxDischargeDepth := 100) [w0]

@[simp] theorem State.takeHead_wf (s : State) (q : Nat) (w0 : s.wf) : State.wf (State.takeHead s q) := by
  simp (maxDischargeDepth := 100) [State.takeHead, w0]

@[simp] theorem State.serveSource_wf (s : State) (h : Fin 8) (src : Option Nat) (w0 : s.wf) : State.wf (State.serveSource s h src).1 := by
  unfold State.serveSource
  (repeat' split) <;> simp (maxDischargeDepth := 100) [w0]

@[simp] theorem State.serveSlot_wf (h : Fin 8) (n : Nat) (skip : List (Option Nat)) {s : State} (w0 : s.wf) :
    (State.serveSlot h n skip s).wf := by
  induction n generalizing skip s with
  | zero => exact w0
  | succ n ih =>
    unfold State.serveSlot
    split
    · exact w0
    · exact ih _ (State.serveSource_wf _ h _ w0)

@[simp] theorem State.mbxAnswer_wf (s : State) (h : Nat) (c : Completion) (w0 : s.wf) : State.wf (State.mbxAnswer s h c) := by
  simp +contextual (maxDischargeDepth := 100) [State.mbxAnswer, w0]

@[simp] theorem State.writeDone_wf (s : State) (h : Nat) (c : Completion) (w0 : s.wf) : State.wf (State.writeDone s h c) := by
  unfold State.writeDone
  (repeat' split) <;> simp (maxDischargeDepth := 100) [w0]

@[simp] theorem State.writeDones_wf (s : State) (h : Nat) (w0 : s.wf) : State.wf (State.writeDones s h) := by
  simp +contextual (maxDischargeDepth := 100) [State.writeDones, w0]

@[simp] theorem State.rescueRestart_wf (s : State) (w0 : s.wf) : State.wf (State.rescueRestart s) := by
  simp (maxDischargeDepth := 100) [State.rescueRestart, w0]

@[simp] theorem State.deanSlot_wf (s : State) (h : Fin 8) (n : Nat) (w0 : s.wf) : State.wf (State.deanSlot s h n) := by
  simp (maxDischargeDepth := 100) [State.deanSlot, w0]

end Sys2Proof.Machine
end

