-- ==== Sys2Proof/Laws/Kept.lean ====
section
/-! SUPPORT. What almost no operation touches (the queue, the fuses, the lifecycle request): the laws of Kept, and folds. -/
namespace Sys2Proof.Machine

/-- Two states have the same queue, fuses and lifecycle request. -/
structure Kept (t s : State) : Prop where
  pending : t.pending = s.pending
  fuses : t.fuses = s.fuses
  lcReq : t.service.lcReq = s.service.lcReq

/-- The three parts together are Kept. -/
@[simp] theorem kept_parts (s u : State) :
    (s.pending = u.pending ∧ s.fuses = u.fuses ∧ s.service.lcReq = u.service.lcReq) ↔ Kept s u :=
  ⟨fun h => ⟨h.1, h.2.1, h.2.2⟩, fun h => ⟨h.1, h.2, h.3⟩⟩

/-- A state is Kept by itself. -/
@[simp] theorem kept_refl (s : State) : Kept s s := ⟨rfl, rfl, rfl⟩

/-- A state written out is Kept where its three parts are. -/
@[simp] theorem kept_mk {pending regs snaps out freeCtr resetN power fuses grants queueAux waiters rasters cores forms noBand engines lib locker desk istore dram host flash ecc pages priOn shelfTags shelfSlots shelfLru xlate lastMap fills late bandRecs corr completions pipes bandEnts subJobs bells swap commitSlots accepted glActive glHidden canvasMeta flat flatLines asked protects ports pclk trackers models loaded runs walks hostFrame parts prepared shown formTiers handoffs hw ckpts journal saves scopedHouses deviceOpen jtag gpio service} (u : State) :
    Kept ⟨pending, regs, snaps, out, freeCtr, resetN, power, fuses, grants, queueAux, waiters, rasters, cores, forms, noBand, engines, lib, locker, desk, istore, dram, host, flash, ecc, pages, priOn, shelfTags, shelfSlots, shelfLru, xlate, lastMap, fills, late, bandRecs, corr, completions, pipes, bandEnts, subJobs, bells, swap, commitSlots, accepted, glActive, glHidden, canvasMeta, flat, flatLines, asked, protects, ports, pclk, trackers, models, loaded, runs, walks, hostFrame, parts, prepared, shown, formTiers, handoffs, hw, ckpts, journal, saves, scopedHouses, deviceOpen, jtag, gpio, service⟩ u ↔ pending = u.pending ∧ fuses = u.fuses ∧ service.lcReq = u.service.lcReq :=
  ⟨fun h => ⟨h.1, h.2, h.3⟩, fun h => ⟨h.1, h.2.1, h.2.2⟩⟩

/-- A choice between two operations. -/
@[simp] theorem kept_ite (c : Prop) [Decidable c] (a b u : State) : Kept (if c then a else b) u ↔ if c then Kept a u else Kept b u := by
  split <;> rfl

/-- A choice between two operations that answer a value and a state. -/
@[simp] theorem kept_ite_snd {α : Type} (c : Prop) [Decidable c] (a b : α × State) (u : State) :
    Kept (if c then a else b).2 u ↔ if c then Kept a.2 u else Kept b.2 u := by
  split <;> rfl
@[simp] theorem kept_ite_fst {α : Type} (c : Prop) [Decidable c] (a b : State × α) (u : State) :
    Kept (if c then a else b).1 u ↔ if c then Kept a.1 u else Kept b.1 u := by
  split <;> rfl

/-- Registers and outputs do not lie in the three. -/
@[simp] theorem wr_parts (s : State) (r : Nat) (v : Word) :
    (s.wr r v).pending = s.pending ∧ (s.wr r v).fuses = s.fuses ∧ (s.wr r v).service = s.service := ⟨rfl, rfl, rfl⟩
@[simp] theorem wrF_parts (s : State) (r h l v : Nat) :
    (s.wrF r h l v).pending = s.pending ∧ (s.wrF r h l v).fuses = s.fuses ∧ (s.wrF r h l v).service = s.service := ⟨rfl, rfl, rfl⟩

/-- A fold of operations that keep the three keeps them. -/
@[simp] theorem kept_foldl {α : Type} {f : State → α → State} (h : ∀ s x u, Kept (f s x) u ↔ Kept s u) (l : List α) (s u : State) :
    Kept (l.foldl f s) u ↔ Kept s u := by
  induction l generalizing s <;> simp_all

/-- The same for a fold whose accumulator holds the state, at g. -/
theorem kept_foldl_at {α β : Type} (g : β → State) {f : β → α → β} (h : ∀ y x u, Kept (g (f y x)) u ↔ Kept (g y) u) (l : List α)
    (y : β) (u : State) : Kept (g (l.foldl f y)) u ↔ Kept (g y) u := by
  induction l generalizing y <;> simp_all

/-! ### Ops -/

@[simp] theorem State.wr_kept (s : State) (key : Nat) (v : Word) (u0 : State) : Kept (State.wr s key v) u0 ↔ Kept s u0 := by simp [State.wr]

@[simp] theorem State.wrF_kept (s : State) (key : Nat) (hi : Nat) (lo : Nat) (v : Nat) (u0 : State) :
    Kept (State.wrF s key hi lo v) u0 ↔ Kept s u0 := by
  simp [State.wrF]

@[simp] theorem State.wr64_kept (s : State) (lo : Nat) (hi : Nat) (v : Nat) (u0 : State) : Kept (State.wr64 s lo hi v) u0 ↔ Kept s u0 := by
  simp [State.wr64]

@[simp] theorem State.countErr_kept (s : State) (key : Nat) (u0 : State) : Kept (State.countErr s key) u0 ↔ Kept s u0 := by simp [State.countErr]

@[simp] theorem State.countFld_kept (s : State) (key : Nat) (hi : Nat) (lo : Nat) (u0 : State) :
    Kept (State.countFld s key hi lo) u0 ↔ Kept s u0 := by
  simp [State.countFld]

@[simp] theorem State.emit_kept (s : State) (o : Output) (u0 : State) : Kept (State.emit s o) u0 ↔ Kept s u0 := by simp [State.emit]

@[simp] theorem State.powered_kept (s : State) (f : State → State)
    (h : ∀ s u, Kept (f s) u ↔ Kept s u) (u : State) : Kept (s.powered f) u ↔ Kept s u := by
  unfold State.powered; split <;> simp [h]

@[simp] theorem State.setRaster_kept (s : State) (n : Nat) (r : RasterAux) (u0 : State) : Kept (State.setRaster s n r) u0 ↔ Kept s u0 := by
  simp [State.setRaster]

@[simp] theorem State.setCore_kept (s : State) (c : Nat) (k : Core) (u0 : State) : Kept (State.setCore s c k) u0 ↔ Kept s u0 := by
  simp [State.setCore]

@[simp] theorem State.setForm_kept (s : State) (f : Nat) (x : Form) (u0 : State) : Kept (State.setForm s f x) u0 ↔ Kept s u0 := by
  simp [State.setForm]

@[simp] theorem State.setEng_kept (s : State) (e : Nat) (x : DmaEng) (u0 : State) : Kept (State.setEng s e x) u0 ↔ Kept s u0 := by simp [State.setEng]

@[simp] theorem State.free_kept (s : State) (u0 : State) : Kept (State.free s).2 u0 ↔ Kept s u0 := by simp [State.free]

@[simp] theorem State.hostWrite_kept (s : State) (fn : Nat) (addr : Nat) (bs : List Byte) (u0 : State) :
    Kept (State.hostWrite s fn addr bs) u0 ↔ Kept s u0 := by
  simp [State.hostWrite]

@[simp] theorem State.setPage_kept (s : State) (fn : Nat) (addr : Nat) (v : Nat) (u0 : State) : Kept (State.setPage s fn addr v) u0 ↔ Kept s u0 := by
  simp [State.setPage]

@[simp] theorem State.libWrite_kept (s : State) (addr : Nat) (bs : List Byte) (u0 : State) : Kept (State.libWrite s addr bs) u0 ↔ Kept s u0 := by
  simp [State.libWrite]

@[simp] theorem State.queueMsg_kept (s : State) (h : Nat) (q : Nat) (u0 : State) : Kept (State.queueMsg s h q) u0 ↔ Kept s u0 := by
  simp [State.queueMsg]

@[simp] theorem State.queueStore_kept (s : State) (h : Nat) (q : Nat) (i : Nat) (bs : List Byte) (u0 : State) :
    Kept (State.queueStore s h q i bs) u0 ↔ Kept s u0 := by
  simp [State.queueStore]

@[simp] theorem State.queuePut_kept (s : State) (h : Nat) (q : Nat) (bs : List Byte) (u0 : State) :
    Kept (State.queuePut s h q bs) u0 ↔ Kept s u0 := by
  simp [State.queuePut]

@[simp] theorem State.eventLost_kept (s : State) (h : Nat) (u0 : State) : Kept (State.eventLost s h) u0 ↔ Kept s u0 := by simp [State.eventLost]

@[simp] theorem State.eventPut_kept (s : State) (h : Nat) (q : Nat) (bs : List Byte) (u0 : State) :
    Kept (State.eventPut s h q bs) u0 ↔ Kept s u0 := by
  simp [State.eventPut]

@[simp] theorem State.eventSeq_kept (s : State) (h : Nat) (u0 : State) : Kept (State.eventSeq s h) u0 ↔ Kept s u0 := by simp [State.eventSeq]

@[simp] theorem State.post_kept (s : State) (h : Nat) (code : Nat) (tag : Nat) (own : Option Nat) (detail : List Nat) (u0 : State) :
    Kept (State.post s h code tag own detail) u0 ↔ Kept s u0 := by
  simp [State.post]

@[simp] theorem State.postTo_kept (s : State) (h : Nat) (q : Nat) (code : Nat) (tag : Nat) (own : Option Nat) (detail : List Nat) (u0 : State) :
    Kept (State.postTo s h q code tag own detail) u0 ↔ Kept s u0 := by
  simp [State.postTo]

@[simp] theorem State.postAll_kept (s : State) (hs : List Nat) (code : Nat) (tag : Nat) (own : Option Nat) (detail : List Nat) (u0 : State) :
    Kept (State.postAll s hs code tag own detail) u0 ↔ Kept s u0 := by
  simp [State.postAll]

@[simp] theorem State.count48_kept (s : State) (lo : Nat) (hi : Nat) (n : Nat) (house : Option Nat) (u0 : State) :
    Kept (State.count48 s lo hi n house) u0 ↔ Kept s u0 := by
  simp [State.count48]

@[simp] theorem State.compatSet1_kept (s : State) (r : Nat) (e : Nat) (fn : Nat) (u0 : State) : Kept (State.compatSet1 s r e fn) u0 ↔ Kept s u0 := by
  simp [State.compatSet1]

@[simp] theorem State.compat_kept (s : State) (r : Nat) (e : Nat) (u0 : State) : Kept (State.compat s r e) u0 ↔ Kept s u0 := by simp [State.compat]

@[simp] theorem State.serve_kept (s : State) (p n : Nat) (u : State) : Kept (s.serve p n) u ↔ Kept s u := by
  induction n generalizing s with
  | zero => simp [State.serve]
  | succ n ih =>
    unfold State.serve; simp only []
    (repeat' split) <;> simp [ih]

@[simp] theorem State.servePass_kept (s : State) (p : Nat) (u0 : State) : Kept (State.servePass s p) u0 ↔ Kept s u0 := by simp [State.servePass]

@[simp] theorem State.signal_kept (s : State) (p : Nat) (n : Nat) (req : Nat) (u0 : State) : Kept (State.signal s p n req).1 u0 ↔ Kept s u0 := by
  unfold State.signal
  simp only []
  (repeat' split) <;> simp

@[simp] theorem State.join_kept (s : State) (p : Nat) (n : Nat) (who : HpWho) (u0 : State) : Kept (State.join s p n who) u0 ↔ Kept s u0 := by
  unfold State.join
  (repeat' split) <;> simp

@[simp] theorem State.unwait_kept (s : State) (who : HpWho) (u0 : State) : Kept (State.unwait s who) u0 ↔ Kept s u0 := by simp [State.unwait]

/-! ### MemOps -/

@[simp] theorem State.setBytes_kept (s : State) (sp : Space) (m : Memory) (u0 : State) : Kept (State.setBytes s sp m) u0 ↔ Kept s u0 := by
  unfold State.setBytes
  (repeat' split) <;> simp

@[simp] theorem State.setEcc_kept (s : State) (sp : Space) (key : Nat) (v : Nat) (u0 : State) : Kept (State.setEcc s sp key v) u0 ↔ Kept s u0 := by
  simp [State.setEcc]

@[simp] theorem State.eccMerge_kept (s : State) (sp : Space) (key : Nat) (n : Nat) (u0 : State) : Kept (State.eccMerge s sp key n) u0 ↔ Kept s u0 := by
  unfold State.eccMerge
  refine kept_foldl (fun s x u => ?_) _ _ _
  (repeat' split) <;> simp

@[simp] theorem State.store_kept (s : State) (sp : Space) (key : Nat) (bs : List Byte) (u0 : State) :
    Kept (State.store s sp key bs) u0 ↔ Kept s u0 := by
  simp [State.store]

@[simp] theorem State.libError_kept (s : State) (unc : Bool) (addr : Nat) (u0 : State) : Kept (State.libError s unc addr) u0 ↔ Kept s u0 := by
  simp [State.libError]

@[simp] theorem State.libCorrected_kept (s : State) (addr : Nat) (n : Nat) (u0 : State) : Kept (State.libCorrected s addr n) u0 ↔ Kept s u0 := by
  simp [State.libCorrected]

@[simp] theorem State.bankWrite_kept (s : State) (req : Nat) (addr : Nat) (bs : List Byte) (u0 : State) :
    Kept (State.bankWrite s req addr bs) u0 ↔ Kept s u0 := by
  simp [State.bankWrite]

@[simp] theorem State.bankWriteFor_kept (s : State) (req : Nat) (h : Nat) (addr : Nat) (bs : List Byte) (u0 : State) :
    Kept (State.bankWriteFor s req h addr bs) u0 ↔ Kept s u0 := by
  simp [State.bankWriteFor]

@[simp] theorem State.dramWrite_kept (s : State) (h : Nat) (x2 : Nat) (x3 : List Byte) (u0 : State) : Kept (State.dramWrite s h x2 x3) u0 ↔ Kept s u0 := by
  induction x3 generalizing s x2 with
  | nil => simp [State.dramWrite]
  | cons b bs ih => unfold State.dramWrite; split <;> simp [ih]

@[simp] theorem State.setTag_kept (s : State) (i : Nat) (t : Option (Nat × Bool)) (u0 : State) : Kept (State.setTag s i t) u0 ↔ Kept s u0 := by
  simp [State.setTag]

@[simp] theorem State.touch_kept (s : State) (set : Nat) (w : Nat) (u0 : State) : Kept (State.touch s set w) u0 ↔ Kept s u0 := by simp [State.touch]

@[simp] theorem State.evict_kept (s : State) (h : Nat) (i : Nat) (u0 : State) : Kept (State.evict s h i) u0 ↔ Kept s u0 := by
  unfold State.evict
  (repeat' split) <;> simp

@[simp] theorem State.allocLine_kept (s : State) (h : Nat) (x : Nat) (bs : List Byte) (dirty : Bool) (u0 : State) :
    Kept (State.allocLine s h x bs dirty) u0 ↔ Kept s u0 := by
  simp [State.allocLine]

@[simp] theorem State.fillLine_kept (s : State) (h : Nat) (x : Nat) (u0 : State) : Kept (State.fillLine s h x) u0 ↔ Kept s u0 := by
  simp [State.fillLine]

@[simp] theorem State.askFill_kept (s : State) (h : Nat) (x : Nat) (u0 : State) : Kept (State.askFill s h x) u0 ↔ Kept s u0 := by simp [State.askFill]

@[simp] theorem State.shelfLookup_kept (s : State) (h : Nat) (x : Nat) (u0 : State) : Kept (State.shelfLookup s h x) u0 ↔ Kept s u0 := by
  simp [State.shelfLookup]

@[simp] theorem State.shelfFill_kept (s : State) (h : Nat) (x : Nat) (u0 : State) : Kept (State.shelfFill s h x) u0 ↔ Kept s u0 := by
  simp [State.shelfFill]

@[simp] theorem State.lineWrite_kept (s : State) (h : Nat) (a : Nat) (bs : List Byte) (u0 : State) :
    Kept (State.lineWrite s h a bs) u0 ↔ Kept s u0 := by
  simp [State.lineWrite]

@[simp] theorem State.flushBank_kept (s : State) (h : Nat) (b : Nat) (u0 : State) : Kept (State.flushBank s h b) u0 ↔ Kept s u0 := by
  simp [State.flushBank]

@[simp] theorem State.flushRange_kept (s : State) (h : Nat) (a : Nat) (n : Nat) (inval : Bool) (u0 : State) : Kept (State.flushRange s h a n inval) u0 ↔ Kept s u0 := by
  unfold State.flushRange
  refine kept_foldl (fun s x u => ?_) _ _ _
  (repeat' split) <;> simp

@[simp] theorem State.flushHouse_kept (s : State) (h : Nat) (u0 : State) : Kept (State.flushHouse s h) u0 ↔ Kept s u0 := by simp [State.flushHouse]

@[simp] theorem State.pointSlots_kept (s : State) (h : Nat) (u0 : State) : Kept (State.pointSlots s h) u0 ↔ Kept s u0 := by simp [State.pointSlots]

@[simp] theorem State.settleLoads_kept (s : State) (c : Nat) (shelf : Bool) (addr : Nat) (n : Nat) (u0 : State) :
    Kept (State.settleLoads s c shelf addr n) u0 ↔ Kept s u0 := by
  simp [State.settleLoads]

@[simp] theorem State.coreWrite_kept (s : State) (c : Nat) (shelf : Bool) (house : Nat) (addr : Nat) (bs : List Byte) (u0 : State) :
    Kept (State.coreWrite s c shelf house addr bs) u0 ↔ Kept s u0 := by
  simp [State.coreWrite]

@[simp] theorem State.sendEntry_kept (s : State) (c : Nat) (e : GatherEntry) (u0 : State) : Kept (State.sendEntry s c e) u0 ↔ Kept s u0 := by
  simp [State.sendEntry]

@[simp] theorem State.flushEntry_kept (s : State) (c : Nat) (shelf : Bool) (line : Nat) (u0 : State) :
    Kept (State.flushEntry s c shelf line) u0 ↔ Kept s u0 := by
  unfold State.flushEntry
  simp only []
  (repeat' split) <;> simp

@[simp] theorem State.flushGather_kept (s : State) (c : Nat) (u0 : State) : Kept (State.flushGather s c) u0 ↔ Kept s u0 := by simp [State.flushGather]

@[simp] theorem State.gatherRoom_kept (s : State) (c : Nat) (u0 : State) : Kept (State.gatherRoom s c) u0 ↔ Kept s u0 := by
  unfold State.gatherRoom
  (repeat' split) <;> simp

@[simp] theorem State.gatherStore_kept (s : State) (c : Nat) (shelf : Bool) (house : Nat) (addr : Nat) (bs : List Byte) (u0 : State) :
    Kept (State.gatherStore s c shelf house addr bs) u0 ↔ Kept s u0 := by
  unfold State.gatherStore
  simp only []
  (repeat' split) <;> simp

/-! ### Roll -/

@[simp] theorem State.setPipe_kept (s : State) (p : Nat) (x : Pipe) (u0 : State) : Kept (State.setPipe s p x) u0 ↔ Kept s u0 := by
  simp [State.setPipe]

@[simp] theorem State.setBandRec_kept (s : State) (p : Nat) (b : Nat) (r : BandRec) (u0 : State) :
    Kept (State.setBandRec s p b r) u0 ↔ Kept s u0 := by
  simp [State.setBandRec]

@[simp] theorem State.rollGive_kept (s : State) (f : Nat) (l : Nat) (i : Nat) (fresh : Bool) (u0 : State) :
    Kept (State.rollGive s f l i fresh) u0 ↔ Kept s u0 := by
  simp [State.rollGive]

@[simp] theorem State.rollDraw_kept (s : State) (f : Nat) (l : Nat) (u0 : State) : Kept (State.rollDraw s f l).2 u0 ↔ Kept s u0 := by
  unfold State.rollDraw
  simp only []
  (repeat' split) <;> simp

@[simp] theorem State.rollResult_kept (s : State) (c : Nat) (gd : Nat) (pd : Nat) (w : Word) (u0 : State) :
    Kept (State.rollResult s c gd pd w) u0 ↔ Kept s u0 := by
  simp [State.rollResult]

@[simp] theorem State.rollServe_kept (s : State) (f : Nat) (u0 : State) : Kept (State.rollServe s f) u0 ↔ Kept s u0 := by
  unfold State.rollServe
  refine kept_foldl (fun s l u => ?_) _ _ _
  have h := State.rollDraw_kept s f l u
  simp only []
  (repeat' split) <;> simp_all

@[simp] theorem State.rollIssue_kept (s : State) (c : Nat) (gd : Nat) (pd : Nat) (u0 : State) : Kept (State.rollIssue s c gd pd) u0 ↔ Kept s u0 := by
  simp [State.rollIssue]

@[simp] theorem State.bandDone_kept (s : State) (f : Nat) (u0 : State) : Kept (State.bandDone s f) u0 ↔ Kept s u0 := by simp [State.bandDone]

@[simp] theorem State.tdoneRecord_kept (s : State) (c : Nat) (i : Nat) (u0 : State) : Kept (State.tdoneRecord s c i) u0 ↔ Kept s u0 := by
  simp [State.tdoneRecord]

@[simp] theorem State.laneRelease_kept (s : State) (c : Nat) (u0 : State) : Kept (State.laneRelease s c) u0 ↔ Kept s u0 := by simp [State.laneRelease]

@[simp] theorem State.closeBand_kept (s : State) (f : Nat) (u0 : State) : Kept (State.closeBand s f) u0 ↔ Kept s u0 := by simp [State.closeBand]

@[simp] theorem State.dropTdones_kept (s : State) (f : Nat) (u0 : State) : Kept (State.dropTdones s f) u0 ↔ Kept s u0 := by
  unfold State.dropTdones
  refine kept_foldl (fun s x u => ?_) _ _ _
  simp only []
  (repeat' split) <;> simp

@[simp] theorem State.armTiles_kept (s : State) (f : Nat) (nt : Nat) (u0 : State) : Kept (State.armTiles s f nt) u0 ↔ Kept s u0 := by
  simp [State.armTiles]

@[simp] theorem State.shapeFail_kept (s : State) (f : Nat) (u0 : State) : Kept (State.shapeFail s f) u0 ↔ Kept s u0 := by simp [State.shapeFail]

@[simp] theorem State.armCounter_kept (s : State) (f : Nat) (p : Nat) (b : Nat) (target : Word) (deal : Bool) (nt : Nat) (shape : Option (Nat × Nat)) (tier : Nat) (u0 : State) :
    Kept (State.armCounter s f p b target deal nt shape tier) u0 ↔ Kept s u0 := by
  simp [State.armCounter]

/-! ### CoreReg -/

@[simp] theorem State.onCore_kept (s : State) (c : Nat) (f : Core → Core) (u0 : State) : Kept (State.onCore s c f) u0 ↔ Kept s u0 := by
  simp [State.onCore]

@[simp] theorem State.onArr_kept (s : State) (c : Nat) (a : Nat) (f : Arr → Arr) (u0 : State) : Kept (State.onArr s c a f) u0 ↔ Kept s u0 := by
  simp [State.onArr]

@[simp] theorem State.csrRead_kept (s : State) (c : Nat) (n : Nat) (u0 : State) : Kept (State.csrRead s c n).2 u0 ↔ Kept s u0 := by
  unfold State.csrRead
  simp only []
  (repeat' split) <;> simp

@[simp] theorem State.csrCount_kept (s : State) (c : Nat) (lo : Nat) (n : Nat) (u0 : State) : Kept (State.csrCount s c lo n) u0 ↔ Kept s u0 := by
  simp [State.csrCount]

@[simp] theorem State.coreEcc_kept (s : State) (c : Nat) (n : Nat) (u0 : State) : Kept (State.coreEcc s c n) u0 ↔ Kept s u0 := by simp [State.coreEcc]

@[simp] theorem State.takeFault_kept (s : State) (c : Nat) (f : CoreFault) (slot : Nat) (pc : Nat) (u0 : State) :
    Kept (State.takeFault s c f slot pc) u0 ↔ Kept s u0 := by
  simp [State.takeFault]

/-! ### Scalar -/

@[simp] theorem State.csrrRun_kept (s : State) (c : Nat) (w : SlotW) (u0 : State) : Kept (State.csrrRun s c w) u0 ↔ Kept s u0 := by
  simp [State.csrrRun]

@[simp] theorem State.scalarRun_kept (s : State) (k : Core) (c : Nat) (w : SlotW) (u0 : State) : Kept (State.scalarRun s k c w) u0 ↔ Kept s u0 := by
  simp [State.scalarRun]

/-! ### Locker -/

@[simp] theorem State.loadOut_kept (s : State) (k : Core) (c : Nat) (w : SlotW) (u0 : State) : Kept (State.loadOut s k c w) u0 ↔ Kept s u0 := by
  simp [State.loadOut]

@[simp] theorem State.lockerStore_kept (s : State) (c : Nat) (a : Nat) (bs : List Byte) (u0 : State) :
    Kept (State.lockerStore s c a bs) u0 ↔ Kept s u0 := by
  simp [State.lockerStore]

@[simp] theorem State.lockerRun_kept (s : State) (k : Core) (c : Nat) (w : SlotW) (u0 : State) : Kept (State.lockerRun s k c w) u0 ↔ Kept s u0 := by
  simp [State.lockerRun]

@[simp] theorem State.loadReturn_kept (s : State) (c : Nat) (i : Nat) (u0 : State) : Kept (State.loadReturn s c i) u0 ↔ Kept s u0 := by
  unfold State.loadReturn
  simp only []
  (repeat' split) <;> simp

/-! ### Matrix -/

@[simp] theorem State.setAccWord_kept (s : State) (c : Nat) (a : Nat) (r : Nat) (j : Nat) (v : Nat) (u0 : State) :
    Kept (State.setAccWord s c a r j v) u0 ↔ Kept s u0 := by
  simp [State.setAccWord]

@[simp] theorem State.arrayFault_kept (s : State) (c : Nat) (a : Nat) (cause : Nat) (info : Nat) (addr : Nat) (u0 : State) :
    Kept (State.arrayFault s c a cause info addr) u0 ↔ Kept s u0 := by
  simp [State.arrayFault]

@[simp] theorem State.deskRead_kept (s : State) (c : Nat) (a : Nat) (ofs : Nat) (n : Nat) (u0 : State) :
    Kept (State.deskRead s c a ofs n).2 u0 ↔ Kept s u0 := by
  unfold State.deskRead
  simp only []
  (repeat' split) <;> simp

@[simp] theorem State.streamEcc_kept (s : State) (c : Nat) (a : Nat) (irow : Nat) (n : Nat) (u0 : State) :
    Kept (State.streamEcc s c a irow n) u0 ↔ Kept s u0 := by
  simp [State.streamEcc]

@[simp] theorem State.setAccEntry_kept (s : State) (cfg : ArrCfg) (c : Nat) (a : Nat) (r : Nat) (j : Nat) (e : AccEntry) (u0 : State) :
    Kept (State.setAccEntry s cfg c a r j e) u0 ↔ Kept s u0 := by
  simp [State.setAccEntry]

@[simp] theorem State.accRow_kept (s : State) (cfg : ArrCfg) (c : Nat) (a : Nat) (r : Nat) (half : Nat) (qmask : Nat) (clear : Bool) (zp : Nat) (img : Memory) (row : Memory) (u0 : State) : Kept (State.accRow s cfg c a r half qmask clear zp img row) u0 ↔ Kept s u0 := by
  unfold State.accRow
  refine kept_foldl (fun s j u => ?_) _ _ _
  simp only []
  (repeat' split) <;> simp

@[simp] theorem State.drainSource_kept (s : State) (cfg : ArrCfg) (c : Nat) (a : Nat) (r : Nat) (u0 : State) :
    Kept (State.drainSource s cfg c a r).2 u0 ↔ Kept s u0 := by
  simp [State.drainSource]

@[simp] theorem State.readImage_kept (s : State) (c : Nat) (a : Nat) (half : Nat) (u0 : State) :
    Kept (State.readImage s c a half).2 u0 ↔ Kept s u0 := by
  simp [State.readImage]

@[simp] theorem State.loadTable_kept (s : State) (c : Nat) (a : Nat) (v : Word) (u0 : State) : Kept (State.loadTable s c a v) u0 ↔ Kept s u0 := by
  unfold State.loadTable
  simp only []
  (repeat' split) <;> simp

@[simp] theorem streamStep_kept (cfg : ArrCfg) (c a irow arow acc qmask : Nat) (img : Memory) (zp : Nat) (x : StreamAcc) (t : Nat)
    (u : State) : Kept (streamStep cfg c a irow arow acc qmask img zp x t).s u ↔ Kept x.s u := by
  unfold streamStep
  simp only []
  split
  · simp
  · split
    · simp
    · split
      · refine (kept_foldl_at (fun y : StreamAcc × Option (List (List AccEntry × Nat × (Nat → Bool))) => y.1.s) (fun y h u => ?_) _ _ _).trans ?_
        · simp
        · refine kept_foldl (fun s h u => ?_) _ _ _
          simp
      · refine kept_foldl (fun s h u => ?_) _ _ _
        simp
@[simp] theorem State.startOp_kept (s : State) (c : Nat) (a : Nat) (q : ArrCmd) (u0 : State) : Kept (State.startOp s c a q).1 u0 ↔ Kept s u0 := by
  unfold State.startOp
  simp only []
  split
  · split <;> simp
  · split
    all_goals
      simp only [State.onArr_kept]
      refine (kept_foldl_at (fun y : StreamAcc => y.s) (fun y h u => ?_) _ _ _).trans ?_
      · simp
      · simp only []; split <;> simp
  · simp
  · simp only [State.onArr_kept]
    refine (kept_foldl_at (fun y : StreamAcc => y.s) (fun y h u => ?_) _ _ _).trans ?_
    · simp
    · simp
  · simp
  · simp only []; split <;> simp
  · simp
  · simp

@[simp] theorem State.arrayStart_kept (s : State) (c : Nat) (a : Nat) (bad : Bool) (u0 : State) :
    Kept (State.arrayStart s c a bad) u0 ↔ Kept s u0 := by
  unfold State.arrayStart
  simp only []
  (repeat' split) <;> simp

@[simp] theorem State.drainVisible_kept (s : State) (c : Nat) (a : Nat) (w : DrainWrite) (u0 : State) :
    Kept (State.drainVisible s c a w) u0 ↔ Kept s u0 := by
  simp [State.drainVisible]

@[simp] theorem State.arrayComplete_kept (s : State) (c : Nat) (a : Nat) (u0 : State) : Kept (State.arrayComplete s c a) u0 ↔ Kept s u0 := by
  unfold State.arrayComplete
  (repeat' split) <;> simp

/-! ### Transfer -/

@[simp] theorem State.xferEcc_kept (s : State) (c : Nat) (addr : Nat) (n : Nat) (u0 : State) : Kept (State.xferEcc s c addr n) u0 ↔ Kept s u0 := by
  unfold State.xferEcc
  simp only []
  (repeat' split) <;> simp

@[simp] theorem State.mvlIssue_kept (s : State) (k : Core) (c : Nat) (w : SlotW) (u0 : State) : Kept (State.mvlIssue s k c w) u0 ↔ Kept s u0 := by
  unfold State.mvlIssue
  simp only []
  (repeat' split) <;> simp

@[simp] theorem State.mvlResult_kept (s : State) (c : Nat) (u0 : State) : Kept (State.mvlResult s c) u0 ↔ Kept s u0 := by
  unfold State.mvlResult
  (repeat' split) <;> simp

@[simp] theorem State.transferRun_kept (s : State) (k : Core) (c : Nat) (w : SlotW) (u0 : State) :
    Kept (State.transferRun s k c w) u0 ↔ Kept s u0 := by
  unfold State.transferRun
  (repeat' split) <;> simp

@[simp] theorem State.deskRowWrite_kept (s : State) (c : Nat) (a : Nat) (ofs : Nat) (bytes : Memory) (u0 : State) :
    Kept (State.deskRowWrite s c a ofs bytes) u0 ↔ Kept s u0 := by
  simp [State.deskRowWrite]

@[simp] theorem State.intoDesk_kept (s : State) (c : Nat) (a : Nat) (part : Nat) (skew : Bool) (drow : Nat) (rows : List (Option (List Byte))) (u0 : State) : Kept (State.intoDesk s c a part skew drow rows) u0 ↔ Kept s u0 := by
  unfold State.intoDesk
  split
  · simp
  · refine kept_foldl (fun s i u => ?_) _ _ _
    split <;> simp

@[simp] theorem State.fromDesk_kept (s : State) (c : Nat) (a : Nat) (part : Nat) (skew : Bool) (drow : Nat) (t : Nat) (u0 : State) :
    Kept (State.fromDesk s c a part skew drow t).2 u0 ↔ Kept s u0 := by
  unfold State.fromDesk
  simp only []
  (repeat' split) <;> simp

theorem State.dmaPush_kept {s t : State} {e a h : Nat} (q : s.dmaPush e a h = some t) (u : State) : Kept t u ↔ Kept s u := by
  unfold State.dmaPush at q
  simp only [] at q
  split at q <;> simp_all
  subst q; simp

@[simp] theorem State.transferComplete_kept (s : State) (c : Nat) (u0 : State) : Kept (State.transferComplete s c) u0 ↔ Kept s u0 := by
  unfold State.transferComplete
  simp only []
  split
  · simp
  · split
    · simp
    · refine (kept_foldl (fun s t u => ?_) _ _ _).trans ?_
      · split <;> simp
      · simp
    · simp
    · split
      · simp
      · cases h : State.dmaPush _ _ _ _
        · simp
        · simp [State.dmaPush_kept h]

@[simp] theorem State.corrBounds_kept (s : State) (u : CorrUnit) (u0 : State) : Kept (State.corrBounds s u) u0 ↔ Kept s u0 := by
  simp [State.corrBounds]

@[simp] theorem State.corrLand_kept (s : State) (c : Nat) (up : Bool) (u0 : State) : Kept (State.corrLand s c up) u0 ↔ Kept s u0 := by
  unfold State.corrLand
  (repeat' split) <;> simp

/-! ### Control -/

@[simp] theorem State.doSignals_kept (s : State) (c : Nat) (u0 : State) : Kept (State.doSignals s c) u0 ↔ Kept s u0 := by simp [State.doSignals]

@[simp] theorem State.doTdones_kept (s : State) (c : Nat) (u0 : State) : Kept (State.doTdones s c) u0 ↔ Kept s u0 := by
  unfold State.doTdones
  refine kept_foldl (fun s x u => ?_) _ _ _
  (repeat' split) <;> simp

@[simp] theorem State.dropWaits_kept (s : State) (c : Nat) (u0 : State) : Kept (State.dropWaits s c) u0 ↔ Kept s u0 := by simp [State.dropWaits]

@[simp] theorem State.progress_kept (s : State) (c : Nat) (u0 : State) : Kept (State.progress s c) u0 ↔ Kept s u0 := by simp [State.progress]

@[simp] theorem State.addWait_kept (s : State) (c : Nat) (w : CoreWait) (u0 : State) : Kept (State.addWait s c w) u0 ↔ Kept s u0 := by
  simp [State.addWait]

@[simp] theorem State.controlRun_kept (s : State) (k : Core) (c : Nat) (w : SlotW) (u0 : State) : Kept (State.controlRun s k c w) u0 ↔ Kept s u0 := by
  unfold State.controlRun
  (repeat' split) <;> simp

/-! ### Substitute -/

@[simp] theorem State.subStat_kept (s : State) (u0 : State) : Kept (State.subStat s) u0 ↔ Kept s u0 := by simp [State.subStat]

@[simp] theorem State.setSState_kept (s : State) (p : Nat) (b : Nat) (t : Word) (st : SState) (u0 : State) :
    Kept (State.setSState s p b t st) u0 ↔ Kept s u0 := by
  simp [State.setSState]

@[simp] theorem State.queueJob_kept (s : State) (p : Nat) (b : Nat) (t : Word) (onCall : Bool) (cut : Bool) (u0 : State) :
    Kept (State.queueJob s p b t onCall cut) u0 ↔ Kept s u0 := by
  unfold State.queueJob
  (repeat' split) <;> simp

@[simp] theorem State.dropJob_kept (s : State) (p : Nat) (b : Nat) (t : Word) (u0 : State) : Kept (State.dropJob s p b t) u0 ↔ Kept s u0 := by
  simp [State.dropJob]

@[simp] theorem State.callJob_kept (s : State) (p : Nat) (b : Nat) (t : Word) (u0 : State) : Kept (State.callJob s p b t) u0 ↔ Kept s u0 := by
  simp [State.callJob]

@[simp] theorem State.startJob_kept (s : State) (p : Nat) (b : Nat) (u0 : State) : Kept (State.startJob s p b) u0 ↔ Kept s u0 := by
  unfold State.startJob
  (repeat' split) <;> simp

@[simp] theorem State.showFormTier_kept (s : State) (f : Nat) (u0 : State) : Kept (State.showFormTier s f) u0 ↔ Kept s u0 := by
  simp [State.showFormTier]

@[simp] theorem State.setFormTier_kept (s : State) (f : Nat) (x : FormTier) (u0 : State) : Kept (State.setFormTier s f x) u0 ↔ Kept s u0 := by
  simp [State.setFormTier]

@[simp] theorem State.setChipFloor_kept (s : State) (v : Nat) (u0 : State) : Kept (State.setChipFloor s v) u0 ↔ Kept s u0 := by
  simp [State.setChipFloor]

/-! ### Dma -/

@[simp] theorem State.setDmaState_kept (s : State) (e : Nat) (v : Nat) (u0 : State) : Kept (State.setDmaState s e v) u0 ↔ Kept s u0 := by
  simp [State.setDmaState]

@[simp] theorem State.dmaDepth_kept (s : State) (e : Nat) (u0 : State) : Kept (State.dmaDepth s e) u0 ↔ Kept s u0 := by simp [State.dmaDepth]

@[simp] theorem State.dmaBell_kept (s : State) (e addr house : Nat) (u : State) : Kept (s.dmaBell e addr house) u ↔ Kept s u := by
  unfold State.dmaBell
  split
  · next h => simp [State.dmaPush_kept h]
  · simp

@[simp] theorem State.complete_kept (s : State) (h : Nat) (src : Option Nat) (op : Nat) (tag : Nat) (status : Nat) (detail : Nat) (res : List Nat) (u0 : State) :
    Kept (State.complete s h src op tag status detail res) u0 ↔ Kept s u0 := by
  simp [State.complete]

@[simp] theorem State.completeTo_kept (s : State) (dest : Option Nat) (h : Nat) (src : Option Nat) (op : Nat) (tag : Nat) (status : Nat) (detail : Nat) (res : List Nat) (u0 : State) :
    Kept (State.completeTo s dest h src op tag status detail res) u0 ↔ Kept s u0 := by
  simp [State.completeTo]

@[simp] theorem State.dmaAnswer_kept (s : State) (w : Option (Nat × Option Nat × Nat)) (u0 : State) : Kept (State.dmaAnswer s w) u0 ↔ Kept s u0 := by
  unfold State.dmaAnswer
  (repeat' split) <;> simp

@[simp] theorem State.dmaEnd_kept (s : State) (e : Nat) (st : Nat) (u0 : State) : Kept (State.dmaEnd s e st) u0 ↔ Kept s u0 := by simp [State.dmaEnd]

@[simp] theorem State.dmaFlush_kept (s : State) (e : Nat) (u0 : State) : Kept (State.dmaFlush s e) u0 ↔ Kept s u0 := by simp [State.dmaFlush]

@[simp] theorem State.dmaFault_kept (s : State) (e : Nat) (cause : Nat) (addr : Nat) (u0 : State) :
    Kept (State.dmaFault s e cause addr) u0 ↔ Kept s u0 := by
  simp [State.dmaFault]

@[simp] theorem State.readDesc_kept (s : State) (e : Nat) (addr : Nat) (u0 : State) : Kept (State.readDesc s e addr) u0 ↔ Kept s u0 := by
  unfold State.readDesc
  simp only []
  (repeat' split) <;> simp

@[simp] theorem State.chainStart_kept (s : State) (e : Nat) (u0 : State) : Kept (State.chainStart s e) u0 ↔ Kept s u0 := by
  unfold State.chainStart
  simp only []
  (repeat' split) <;> simp

@[simp] theorem State.locWrite_kept (s : State) (house : Nat) (l : Loc) (a : Nat) (bs : List Byte) (u0 : State) :
    Kept (State.locWrite s house l a bs) u0 ↔ Kept s u0 := by
  unfold State.locWrite
  (repeat' split) <;> simp

@[simp] theorem State.skewArrive_kept (s : State) (e : Nat) (x : DmaEng) (d : Desc) (u0 : State) : Kept (State.skewArrive s e x d) u0 ↔ Kept s u0 := by
  simp [State.skewArrive]

@[simp] theorem State.moveRow_kept (s : State) (e : Nat) (x : DmaEng) (d : Desc) (to_ : Nat) (u0 : State) : Kept (State.moveRow s e x d to_) u0 ↔ Kept s u0 := by
  unfold State.moveRow
  simp only []
  split
  · simp
  · split
    · split
      · split <;> simp
      · refine (kept_foldl (fun s q u => ?_) _ _ _).trans ?_
        · simp
        · split <;> simp
    · simp
    · simp
    · refine kept_foldl (fun s a u => ?_) _ _ _
      split <;> simp

@[simp] theorem State.moveRows_kept (s : State) (e : Nat) (d : Desc) (bus : Option (Nat × Nat)) (x4 : Nat) (u0 : State) : Kept (State.moveRows s e d bus x4) u0 ↔ Kept s u0 := by
  induction x4 generalizing s with
  | zero => simp [State.moveRows]
  | succ n ih =>
    unfold State.moveRows
    simp only []
    (repeat' split) <;> simp [ih]

@[simp] theorem State.runDesc_kept (s : State) (e : Nat) (kind : Nat) (bus : Option (Nat × Nat)) (u0 : State) :
    Kept (State.runDesc s e kind bus) u0 ↔ Kept s u0 := by
  unfold State.runDesc
  simp only []
  (repeat' split) <;> simp

@[simp] theorem State.descDone_kept (s : State) (e : Nat) (u0 : State) : Kept (State.descDone s e) u0 ↔ Kept s u0 := by simp [State.descDone]

@[simp] theorem State.dmaAbort_kept (s : State) (e : Nat) (u0 : State) : Kept (State.dmaAbort s e) u0 ↔ Kept s u0 := by simp [State.dmaAbort]

@[simp] theorem State.abortWrite_kept (s : State) (fn : Option Nat) (e : Nat) (u0 : State) : Kept (State.abortWrite s fn e) u0 ↔ Kept s u0 := by
  unfold State.abortWrite
  (repeat' split) <;> simp

@[simp] theorem State.priResponse_kept (s : State) (fn : Nat) (page : Nat) (ok : Bool) (u0 : State) :
    Kept (State.priResponse s fn page ok) u0 ↔ Kept s u0 := by
  simp [State.priResponse]

/-! ### Issue -/

@[simp] theorem State.slotRun_kept (s : State) (k : Core) (c : Nat) (x : Nat × SlotW) (u0 : State) : Kept (State.slotRun s k c x) u0 ↔ Kept s u0 := by
  simp [State.slotRun]

@[simp] theorem State.beginBundle_kept (s : State) (k : Core) (c : Nat) (ws : List SlotW) (u0 : State) :
    Kept (State.beginBundle s k c ws) u0 ↔ Kept s u0 := by
  simp [State.beginBundle]

@[simp] theorem State.runBundle_kept (s : State) (k : Core) (c : Nat) (ws : List SlotW) (u0 : State) :
    Kept (State.runBundle s k c ws) u0 ↔ Kept s u0 := by
  simp [State.runBundle]

@[simp] theorem State.issue_kept (s : State) (c : Nat) (ws : List SlotW) (u0 : State) : Kept (State.issue s c ws) u0 ↔ Kept s u0 := by
  unfold State.issue
  simp only []
  (repeat' split) <;> simp

@[simp] theorem State.issue1_kept (s : State) (c : Nat) (i : Nat) (op : Nat) (pg : Nat) (pn : Bool) (body : BitVec 54) (u0 : State) :
    Kept (State.issue1 s c i op pg pn body) u0 ↔ Kept s u0 := by
  simp [State.issue1]

@[simp] theorem State.fetchIssue_kept (s : State) (c : Nat) (u0 : State) : Kept (State.fetchIssue s c) u0 ↔ Kept s u0 := by simp [State.fetchIssue]

/-! ### Bells -/

@[simp] theorem State.ringLine_kept (s : State) (r : Nat) (frame : Nat) (line : Nat) (u0 : State) :
    Kept (State.ringLine s r frame line) u0 ↔ Kept s u0 := by
  simp [State.ringLine]

@[simp] theorem State.onBell_kept (s : State) (r e action : Nat) (f : State → Nat → DueBell → State)
    (q : ∀ s h d u, Kept (f s h d) u ↔ Kept s u) (u : State) : Kept (s.onBell r e action f) u ↔ Kept s u := by
  unfold State.onBell
  simp only []
  (repeat' split) <;> simp [q]

@[simp] theorem State.stopArrays_kept (s : State) (c : Nat) (u0 : State) : Kept (State.stopArrays s c) u0 ↔ Kept s u0 := by simp [State.stopArrays]

@[simp] theorem State.dropRolls_kept (s : State) (c : Nat) (u0 : State) : Kept (State.dropRolls s c) u0 ↔ Kept s u0 := by simp [State.dropRolls]

@[simp] theorem State.startCore_kept (s : State) (c : Nat) (entry : Nat) (pipe : Nat) (band : Nat) (target : Nat) (tier : Nat) (u0 : State) :
    Kept (State.startCore s c entry pipe band target tier) u0 ↔ Kept s u0 := by
  simp [State.startCore]

@[simp] theorem State.armBand_kept (s : State) (f : Nat) (p : Nat) (b : Nat) (target : Nat) (tier : Nat) (u0 : State) : Kept (State.armBand s f p b target tier) u0 ↔ Kept s u0 := by
  unfold State.armBand
  extract_lets t x h s1 src s2 onCall
  have h2 : Kept s2 u0 ↔ Kept s u0 := by
    simp only [s2, State.setPipe_kept, s1]
    split <;> simp
  (repeat' split) <;> simp [h2]

@[simp] theorem State.hwEnd_kept (s : State) (f : Nat) (u0 : State) : Kept (State.hwEnd s f) u0 ↔ Kept s u0 := by simp [State.hwEnd]

@[simp] theorem State.progStart_kept (s : State) (h : Nat) (d : DueBell) (u0 : State) : Kept (State.progStart s h d) u0 ↔ Kept s u0 := by
  simp [State.progStart]

@[simp] theorem State.wake_kept (s : State) (h : Nat) (d : DueBell) (u0 : State) : Kept (State.wake s h d) u0 ↔ Kept s u0 := by simp [State.wake]

@[simp] theorem State.bellDma_kept (s : State) (h : Nat) (d : DueBell) (u0 : State) : Kept (State.bellDma s h d) u0 ↔ Kept s u0 := by
  simp [State.bellDma]

@[simp] theorem State.hostEvt_kept (s : State) (h : Nat) (r : Nat) (d : DueBell) (u0 : State) : Kept (State.hostEvt s h r d) u0 ↔ Kept s u0 := by
  simp [State.hostEvt]

@[simp] theorem State.warn_kept (s : State) (h : Nat) (d : DueBell) (u0 : State) : Kept (State.warn s h d) u0 ↔ Kept s u0 := by simp [State.warn]

@[simp] theorem State.late__kept (s : State) (h : Nat) (d : DueBell) (u0 : State) : Kept (State.late_ s h d) u0 ↔ Kept s u0 := by
  unfold State.late_
  extract_lets p b x t r sel src1 s1 s2 s3 s4 s5 s6 n
  split
  · simp
  · have h1 : Kept s1 u0 ↔ Kept s u0 := by simp [s1]
    clear_value s1
    have h2 : Kept s2 u0 ↔ Kept s u0 := by simp [s2, h1]
    clear_value s2
    have h3 : Kept s3 u0 ↔ Kept s u0 := by simp [s3, h2]
    clear_value s3
    have h4 : Kept s4 u0 ↔ Kept s u0 := by simp [s4, h3]
    clear_value s4
    have h5 : Kept s5 u0 ↔ Kept s u0 := by simp [s5, h4]
    clear_value s5
    have h6 : Kept s6 u0 ↔ Kept s u0 := by simp only [s6]; split <;> simp [h5]
    clear_value s6
    simp [h6]

@[simp] theorem State.zeroArrays_kept (s : State) (c : Nat) (u0 : State) : Kept (State.zeroArrays s c) u0 ↔ Kept s u0 := by simp [State.zeroArrays]

@[simp] theorem State.handCore_kept (s : State) (c : Nat) (house : Nat) (u0 : State) : Kept (State.handCore s c house) u0 ↔ Kept s u0 := by
  simp [State.handCore]

@[simp] theorem State.handEngines_kept (s : State) (f : Nat) (u0 : State) : Kept (State.handEngines s f) u0 ↔ Kept s u0 := by simp [State.handEngines]

@[simp] theorem State.fireHandoff_kept (s : State) (i : Nat) (u0 : State) : Kept (State.fireHandoff s i) u0 ↔ Kept s u0 := by simp [State.fireHandoff]

@[simp] theorem State.swapDone_kept (s : State) (u0 : State) : Kept (State.swapDone s) u0 ↔ Kept s u0 := by
  unfold State.swapDone
  (repeat' split) <;> simp

/-! ### Banks -/

@[simp] theorem State.bankSet_kept (s : State) (b : Nat) (owner : Nat) (unit : Nat) (shelf : Bool) (zero : Bool) (u0 : State) :
    Kept (State.bankSet s b owner unit shelf zero) u0 ↔ Kept s u0 := by
  simp [State.bankSet]

@[simp] theorem State.zeroBank_kept (s : State) (b : Nat) (u0 : State) : Kept (State.zeroBank s b) u0 ↔ Kept s u0 := by simp [State.zeroBank]

@[simp] theorem State.handoverDone_kept (s : State) (b : Nat) (u0 : State) : Kept (State.handoverDone s b) u0 ↔ Kept s u0 := by
  simp [State.handoverDone]

@[simp] theorem State.unitChange_kept (s : State) (kind : Nat) (unit : Nat) (u0 : State) : Kept (State.unitChange s kind unit) u0 ↔ Kept s u0 := by
  simp [State.unitChange]

@[simp] theorem State.retireBank_kept (s : State) (b : Nat) (u0 : State) : Kept (State.retireBank s b) u0 ↔ Kept s u0 := by simp [State.retireBank]

@[simp] theorem State.lossPart_kept (s : State) (f : Nat) (u0 : State) : Kept (State.lossPart s f) u0 ↔ Kept s u0 := by simp [State.lossPart]

@[simp] theorem State.retireForm_kept (s : State) (f : Nat) (u0 : State) : Kept (State.retireForm s f) u0 ↔ Kept s u0 := by simp [State.retireForm]

@[simp] theorem State.stopCore_kept (s : State) (c : Nat) (u0 : State) : Kept (State.stopCore s c) u0 ↔ Kept s u0 := by simp [State.stopCore]

@[simp] theorem State.formCheck_kept (s : State) (f : Nat) (u0 : State) : Kept (State.formCheck s f) u0 ↔ Kept s u0 := by simp [State.formCheck]

@[simp] theorem State.retireCore_kept (s : State) (c : Nat) (u0 : State) : Kept (State.retireCore s c) u0 ↔ Kept s u0 := by simp [State.retireCore]

@[simp] theorem State.loseArray_kept (s : State) (c : Nat) (a : Nat) (u0 : State) : Kept (State.loseArray s c a) u0 ↔ Kept s u0 := by
  simp [State.loseArray]

/-! ### CommitChecks -/

@[simp] theorem State.writeMode_kept (s : State) (r : Nat) (ws : List Word) (u0 : State) : Kept (State.writeMode s r ws) u0 ↔ Kept s u0 := by
  simp [State.writeMode]

@[simp] theorem State.setPort_kept (s : State) (n : Nat) (x : Port) (u0 : State) : Kept (State.setPort s n x) u0 ↔ Kept s u0 := by
  simp [State.setPort]

@[simp] theorem State.writePort_kept (s : State) (n : Nat) (ws : List Word) (u0 : State) : Kept (State.writePort s n ws) u0 ↔ Kept s u0 := by
  simp [State.writePort]

@[simp] theorem State.writeCanvas_kept (s : State) (r : Nat) (ws : List Word) (u0 : State) : Kept (State.writeCanvas s r ws) u0 ↔ Kept s u0 := by
  simp [State.writeCanvas]

@[simp] theorem State.writeVlayer_kept (s : State) (v : Nat) (ws : List Word) (u0 : State) : Kept (State.writeVlayer s v ws) u0 ↔ Kept s u0 := by
  simp [State.writeVlayer]

@[simp] theorem State.takeGl_kept (s : State) (g : Nat) (u0 : State) : Kept (State.takeGl s g) u0 ↔ Kept s u0 := by simp [State.takeGl]

@[simp] theorem State.view_kept (s : State) (c : CommitSet) (gl : Nat) (u0 : State) : Kept (State.view s c gl) u0 ↔ Kept s u0 := by simp [State.view]

/-! ### CommitOps -/

@[simp] theorem State.carryLibmap_kept (s : State) (h : Nat) (m : Model) (u0 : State) : Kept (State.carryLibmap s h m) u0 ↔ Kept s u0 := by
  simp [State.carryLibmap]

@[simp] theorem State.fillShadow_kept (s : State) (h : Nat) (m : Model) (u0 : State) : Kept (State.fillShadow s h m) u0 ↔ Kept s u0 := by
  simp [State.fillShadow]

@[simp] theorem State.fillHandles_kept (s : State) (h : Nat) (t : Nat) (m : Model) (u0 : State) :
    Kept (State.fillHandles s h t m) u0 ↔ Kept s u0 := by
  simp [State.fillHandles]

@[simp] theorem State.takeForms_kept (s : State) (h : Nat) (m : Model) (u0 : State) : Kept (State.takeForms s h m) u0 ↔ Kept s u0 := by
  simp [State.takeForms]

@[simp] theorem State.showPend_kept (s : State) (u0 : State) : Kept (State.showPend s) u0 ↔ Kept s u0 := by simp [State.showPend]

@[simp] theorem State.hwReplace_kept (s : State) (h : Nat) (keep : Nat) (u0 : State) : Kept (State.hwReplace s h keep) u0 ↔ Kept s u0 := by
  simp [State.hwReplace]

@[simp] theorem State.acceptSwap_kept (s : State) (h : Nat) (m : Model) (r : Nat) (t : Nat) (u0 : State) :
    Kept (State.acceptSwap s h m r t) u0 ↔ Kept s u0 := by
  simp [State.acceptSwap]

@[simp] theorem State.liftFlr_kept (s : State) (h : Nat) (u0 : State) : Kept (State.liftFlr s h) u0 ↔ Kept s u0 := by simp [State.liftFlr]

@[simp] theorem State.disableRaster_kept (s : State) (r : Nat) (u0 : State) : Kept (State.disableRaster s r) u0 ↔ Kept s u0 := by
  simp [State.disableRaster]

@[simp] theorem State.relock_kept (s : State) (r : Nat) (u0 : State) : Kept (State.relock s r) u0 ↔ Kept s u0 := by simp [State.relock]

@[simp] theorem State.psrOut_kept (s : State) (r : Nat) (u0 : State) : Kept (State.psrOut s r) u0 ↔ Kept s u0 := by simp [State.psrOut]

@[simp] theorem State.takeRoute_kept (s : State) (p : Nat) (src : Nat) (u0 : State) : Kept (State.takeRoute s p src) u0 ↔ Kept s u0 := by
  simp [State.takeRoute]

@[simp] theorem State.applyGl_kept (s : State) (g : Nat) (u0 : State) : Kept (State.applyGl s g) u0 ↔ Kept s u0 := by simp [State.applyGl]

@[simp] theorem State.setProtect_kept (s : State) (r : Nat) (q : Protect) (u0 : State) : Kept (State.setProtect s r q) u0 ↔ Kept s u0 := by
  simp [State.setProtect]

@[simp] theorem State.setPexp_kept (s : State) (r : Nat) (u0 : State) : Kept (State.setPexp s r) u0 ↔ Kept s u0 := by simp [State.setPexp]

@[simp] theorem State.applyProtect_kept (s : State) (r : Nat) (t : Template) (x0 : Nat) (y0 : Nat) (u0 : State) :
    Kept (State.applyProtect s r t x0 y0) u0 ↔ Kept s u0 := by
  simp [State.applyProtect]

@[simp] theorem State.activate_kept (s : State) (m : Model) (u0 : State) : Kept (State.activate s m) u0 ↔ Kept s u0 := by simp [State.activate]

@[simp] theorem State.activateFor_kept (s : State) (h : Nat) (target : Nat) (u0 : State) : Kept (State.activateFor s h target) u0 ↔ Kept s u0 := by
  unfold State.activateFor
  (repeat' split) <;> simp

@[simp] theorem State.progBell_kept (s : State) (h : Nat) (d : DueBell) (u0 : State) : Kept (State.progBell s h d) u0 ↔ Kept s u0 := by
  simp [State.progBell]

@[simp] theorem State.endCuts_kept (s : State) (r : Nat) (u0 : State) : Kept (State.endCuts s r) u0 ↔ Kept s u0 := by
  unfold State.endCuts
  refine kept_foldl (fun s p u => ?_) _ _ _
  split <;> simp

@[simp] theorem State.applyPart_kept (s : State) (a : Accepted) (r : Nat) (u0 : State) : Kept (State.applyPart s a r) u0 ↔ Kept s u0 := by
  unfold State.applyPart
  extract_lets c change encode s1 s2 s3 s4 s5 s6 s7 s8 s9 s10 s11 s12 s13 s14 acc done src
  have e1 : Kept s1 u0 ↔ Kept s u0 := by
    simp only [s1]; exact kept_foldl (fun s x u => by split <;> simp) _ _ _
  clear_value s1
  have e2 : Kept s2 u0 ↔ Kept s u0 := by
    simp only [s2]; exact (kept_foldl (fun s x u => by (repeat' split) <;> simp) _ _ _).trans e1
  clear_value s2
  have e3 : Kept s3 u0 ↔ Kept s u0 := by simp [s3, e2]
  clear_value s3
  have e4 : Kept s4 u0 ↔ Kept s u0 := by simp [s4, e3]
  clear_value s4
  have e5 : Kept s5 u0 ↔ Kept s u0 := by simp [s5, e4]
  clear_value s5
  have e6 : Kept s6 u0 ↔ Kept s u0 := by simp [s6, e5]
  clear_value s6
  have e7 : Kept s7 u0 ↔ Kept s u0 := by simp [s7, e6]
  clear_value s7
  have e8 : Kept s8 u0 ↔ Kept s u0 := by simp [s8, e7]
  clear_value s8
  have e9 : Kept s9 u0 ↔ Kept s u0 := by simp [s9, e8]
  clear_value s9
  have e10 : Kept s10 u0 ↔ Kept s u0 := by simp [s10, e9]
  clear_value s10
  have e11 : Kept s11 u0 ↔ Kept s u0 := by simp [s11, e10]
  clear_value s11
  have e12 : Kept s12 u0 ↔ Kept s u0 := by simp only [s12]; (repeat' split) <;> simp [e11]
  clear_value s12
  have e13 : Kept s13 u0 ↔ Kept s u0 := by simp [s13, e12]
  clear_value s13
  have e14 : Kept s14 u0 ↔ Kept s u0 := by simp [s14, e13]
  clear_value s14
  simp [src, e14]

@[simp] theorem State.applyDue_kept (s : State) (r : Nat) (u0 : State) : Kept (State.applyDue s r) u0 ↔ Kept s u0 := by simp [State.applyDue]

@[simp] theorem State.accept_kept (s : State) (h : Nat) (slot : Nat) (c : CommitSet) (gl : Nat) (p : CommitPlan) (u0 : State) :
    Kept (State.accept s h slot c gl p) u0 ↔ Kept s u0 := by
  unfold State.accept
  (repeat' split) <;> simp

@[simp] theorem State.cutPipe_kept (s : State) (m : Model) (p : Nat) (src : Nat) (u0 : State) : Kept (State.cutPipe s m p src) u0 ↔ Kept s u0 := by
  unfold State.cutPipe
  (repeat' split) <;> simp

@[simp] theorem State.acceptCut_kept (s : State) (h : Nat) (slot1 : Nat) (slot2 : Nat) (c1 : CommitSet) (c2 : CommitSet) (gl : Nat) (p : CommitPlan) (u0 : State) :
    Kept (State.acceptCut s h slot1 slot2 c1 c2 gl p) u0 ↔ Kept s u0 := by
  unfold State.acceptCut
  (repeat' split) <;> simp

@[simp] theorem State.bellCommit_kept (s : State) (h : Nat) (i : Nat) (u0 : State) : Kept (State.bellCommit s h i) u0 ↔ Kept s u0 := by
  unfold State.bellCommit
  (repeat' split) <;> simp

/-! ### Inputs -/

@[simp] theorem State.setTracker_kept (s : State) (t : Nat) (x : Tracker) (u0 : State) : Kept (State.setTracker s t x) u0 ↔ Kept s u0 := by
  simp [State.setTracker]

@[simp] theorem State.quietSinks_kept (s : State) (u0 : State) : Kept (State.quietSinks s) u0 ↔ Kept s u0 := by simp [State.quietSinks]

@[simp] theorem State.writeRecord_kept (s : State) (p : Nat) (r : InRec) (reason : Nat) (u0 : State) :
    Kept (State.writeRecord s p r reason) u0 ↔ Kept s u0 := by
  simp [State.writeRecord]

@[simp] theorem State.declareDisc_kept (s : State) (t : Nat) (reason : Nat) (u0 : State) : Kept (State.declareDisc s t reason) u0 ↔ Kept s u0 := by
  simp [State.declareDisc]

@[simp] theorem State.beginFrame_kept (s : State) (t : Nat) (stamp : Nat) (u0 : State) : Kept (State.beginFrame s t stamp) u0 ↔ Kept s u0 := by
  unfold State.beginFrame
  simp only []
  (repeat' split) <;> simp

@[simp] theorem State.endFrame_kept (s : State) (t : Nat) (u0 : State) : Kept (State.endFrame s t) u0 ↔ Kept s u0 := by
  unfold State.endFrame
  refine kept_foldl (fun s p u => ?_) _ _ _
  simp only []
  split <;> simp

@[simp] theorem State.repeatStep_kept (s : State) (p : Nat) (u0 : State) : Kept (State.repeatStep s p) u0 ↔ Kept s u0 := by simp [State.repeatStep]

@[simp] theorem State.writeRetime_kept (s : State) (p : Nat) (n : Nat) (seq : Nat) (f : Nat) (weight : Nat) (rep : Bool) (u0 : State) :
    Kept (State.writeRetime s p n seq f weight rep) u0 ↔ Kept s u0 := by
  simp [State.writeRetime]

@[simp] theorem State.retime_kept (s : State) (p : Nat) (n : Nat) (u0 : State) : Kept (State.retime s p n) u0 ↔ Kept s u0 := by
  unfold State.retime
  simp only []
  (repeat' split) <;> simp

@[simp] theorem State.slipRepeat_kept (s : State) (r : Nat) (u0 : State) : Kept (State.slipRepeat s r) u0 ↔ Kept s u0 := by simp [State.slipRepeat]

@[simp] theorem State.ringWrite_kept (s : State) (p : Nat) (c : Nat) (l : Nat) (xs : List Nat) (u0 : State) :
    Kept (State.ringWrite s p c l xs) u0 ↔ Kept s u0 := by
  simp [State.ringWrite]

@[simp] theorem State.captureFor_kept (s : State) (p : Nat) (j : Nat) (height : Nat) (f : PixFmt) (planes : List (List Nat)) (prev : List (List Nat)) (black : Bool) (u0 : State) :
    Kept (State.captureFor s p j height f planes prev black) u0 ↔ Kept s u0 := by
  simp [State.captureFor]

@[simp] theorem State.captureLine_kept (s : State) (t : Nat) (height : Nat) (f : PixFmt) (planes : List (List Nat)) (u0 : State) :
    Kept (State.captureLine s t height f planes) u0 ↔ Kept s u0 := by
  simp [State.captureLine]

@[simp] theorem State.sinkFrame_kept (s : State) (k : Nat) (frac : Nat) (enc : Nat) (u0 : State) :
    Kept (State.sinkFrame s k frac enc) u0 ↔ Kept s u0 := by
  simp [State.sinkFrame]

@[simp] theorem State.streamFormat_kept (s : State) (k : Nat) (a : StreamAttr) (u0 : State) : Kept (State.streamFormat s k a) u0 ↔ Kept s u0 := by
  simp [State.streamFormat]

@[simp] theorem State.msaChange_kept (s : State) (k : Nat) (a : StreamAttr) (u0 : State) : Kept (State.msaChange s k a) u0 ↔ Kept s u0 := by
  simp [State.msaChange]

@[simp] theorem State.sinkLost_kept (s : State) (k : Nat) (u0 : State) : Kept (State.sinkLost s k) u0 ↔ Kept s u0 := by simp [State.sinkLost]

@[simp] theorem State.sourceTimeout_kept (s : State) (k : Nat) (u0 : State) : Kept (State.sourceTimeout s k) u0 ↔ Kept s u0 := by
  simp [State.sourceTimeout]

@[simp] theorem State.sinkRetrain_kept (s : State) (k : Nat) (u0 : State) : Kept (State.sinkRetrain s k) u0 ↔ Kept s u0 := by simp [State.sinkRetrain]

@[simp] theorem State.sinkTrained_kept (s : State) (k : Nat) (rate : Nat) (lanes : Nat) (u0 : State) :
    Kept (State.sinkTrained s k rate lanes) u0 ↔ Kept s u0 := by
  simp [State.sinkTrained]

@[simp] theorem State.dscError_kept (s : State) (k : Nat) (lines : Nat) (u0 : State) : Kept (State.dscError s k lines) u0 ↔ Kept s u0 := by
  simp [State.dscError]

@[simp] theorem State.sinkHdcpFail_kept (s : State) (k : Nat) (u0 : State) : Kept (State.sinkHdcpFail s k) u0 ↔ Kept s u0 := by
  simp [State.sinkHdcpFail]

@[simp] theorem State.sinkHdcpOk_kept (s : State) (k : Nat) (u0 : State) : Kept (State.sinkHdcpOk s k) u0 ↔ Kept s u0 := by simp [State.sinkHdcpOk]

/-! ### Homework -/

@[simp] theorem State.setHw_kept (s : State) (m : Nat) (x : Hw) (u0 : State) : Kept (State.setHw s m x) u0 ↔ Kept s u0 := by simp [State.setHw]

@[simp] theorem State.hwWrite_kept (s : State) (c : Nat) (h : Nat) (a : Nat) (bs : List Byte) (u0 : State) :
    Kept (State.hwWrite s c h a bs) u0 ↔ Kept s u0 := by
  simp [State.hwWrite]

@[simp] theorem State.hwBank_kept (s : State) (req : Nat) (h : Nat) (a : Nat) (bs : List Byte) (u0 : State) :
    Kept (State.hwBank s req h a bs) u0 ↔ Kept s u0 := by
  simp [State.hwBank]

@[simp] theorem State.hwWrap_kept (s : State) (h : Nat) (v : Nat) (u0 : State) : Kept (State.hwWrap s h v) u0 ↔ Kept s u0 := by simp [State.hwWrap]

@[simp] theorem State.writeUnit_kept (s : State) (h : Nat) (a : Nat) (hp : Nat) (u : HwUnit) (cycles : Nat) (lanes : Nat) (u0 : State) :
    Kept (State.writeUnit s h a hp u cycles lanes) u0 ↔ Kept s u0 := by
  simp [State.writeUnit]

@[simp] theorem State.hwDeal_kept (s : State) (m : Nat) (f : Nat) (u0 : State) : Kept (State.hwDeal s m f) u0 ↔ Kept s u0 := by
  unfold State.hwDeal
  simp only []
  (repeat' split) <;> simp

@[simp] theorem State.hwUnit_kept (s : State) (m f kind : Nat)
    (run : State → Model → Config.HwPlan → Hw → HwUnit → Nat → State × Hw × Option Nat)
    (q : ∀ s a b c d e u, Kept (run s a b c d e).1 u ↔ Kept s u) (u : State) : Kept (s.hwUnit m f kind run) u ↔ Kept s u := by
  unfold State.hwUnit
  split
  · simp
  · extract_lets x
    split
    · extract_lets w lanes lead here
      split
      · simp
      · simp [q]
        split <;> simp [q]
    · simp

@[simp] theorem State.hwGrad_kept (s : State) (m : Nat) (f : Nat) (u0 : State) : Kept (State.hwGrad s m f) u0 ↔ Kept s u0 := by simp [State.hwGrad]

@[simp] theorem State.hwUpdate_kept (s : State) (m : Nat) (f : Nat) (u0 : State) : Kept (State.hwUpdate s m f) u0 ↔ Kept s u0 := by
  unfold State.hwUpdate
  refine State.hwUnit_kept _ _ _ _ _ (fun s a b c d e u => ?_) _
  simp only []
  split <;> simp

@[simp] theorem State.hwCopyUnit_kept (s : State) (m : Nat) (f : Nat) (u0 : State) : Kept (State.hwCopyUnit s m f) u0 ↔ Kept s u0 := by
  simp [State.hwCopyUnit]

@[simp] theorem State.hwEval_kept (s : State) (m : Nat) (f : Nat) (u0 : State) : Kept (State.hwEval s m f) u0 ↔ Kept s u0 := by simp [State.hwEval]

@[simp] theorem State.hwDeploy_kept (s : State) (m : Nat) (f : Nat) (u0 : State) : Kept (State.hwDeploy s m f) u0 ↔ Kept s u0 := by
  simp [State.hwDeploy]

@[simp] theorem State.hwSampleRun_kept (s : State) (m : Nat) (motion : List Byte) (u0 : State) :
    Kept (State.hwSampleRun s m motion) u0 ↔ Kept s u0 := by
  unfold State.hwSampleRun
  simp only []
  (repeat' split) <;> simp

@[simp] theorem State.hwAccept_kept (s : State) (md : Model) (p : Config.HwPlan) (x : Hw) (u0 : State) :
    Kept (State.hwAccept s md p x) u0 ↔ Kept s u0 := by
  simp [State.hwAccept]

@[simp] theorem State.hwReset_kept (s : State) (md : Model) (p : Config.HwPlan) (x : Hw) (u0 : State) :
    Kept (State.hwReset s md p x) u0 ↔ Kept s u0 := by
  simp [State.hwReset]

@[simp] theorem State.hwRound_kept (s : State) (m : Nat) (u0 : State) : Kept (State.hwRound s m) u0 ↔ Kept s u0 := by
  unfold State.hwRound
  (repeat' split) <;> simp

@[simp] theorem State.ckptPeriod_kept (s : State) (m : Nat) (u0 : State) : Kept (State.ckptPeriod s m) u0 ↔ Kept s u0 := by
  unfold State.ckptPeriod
  split
  · simp
  · extract_lets x h size cap
    split
    · simp
    · split <;> simp

@[simp] theorem State.hwRestore_kept (s : State) (md : Model) (p : Config.HwPlan) (u0 : State) : Kept (State.hwRestore s md p) u0 ↔ Kept s u0 := by
  simp [State.hwRestore]

@[simp] theorem State.hwBankLost_kept (s : State) (b : Nat) (spare : Nat) (h : Nat) (u0 : State) : Kept (State.hwBankLost s b spare h) u0 ↔ Kept s u0 := by
  unfold State.hwBankLost
  refine kept_foldl (fun s p u => ?_) _ _ _
  simp only []
  split <;> simp

/-! ### Failures -/

@[simp] theorem State.startMarch_kept (s : State) (m : March) (u0 : State) : Kept (State.startMarch s m) u0 ↔ Kept s u0 := by simp [State.startMarch]

@[simp] theorem State.zeroCore_kept (s : State) (c : Nat) (u0 : State) : Kept (State.zeroCore s c) u0 ↔ Kept s u0 := by simp [State.zeroCore]

@[simp] theorem State.marchBack_kept (s : State) (b : Nat) (u0 : State) : Kept (State.marchBack s b) u0 ↔ Kept s u0 := by simp [State.marchBack]

@[simp] theorem State.marchReport_kept (s : State) (m : March) (fail : Bool) (more : Bool) (u0 : State) :
    Kept (State.marchReport s m fail more) u0 ↔ Kept s u0 := by
  simp [State.marchReport]

@[simp] theorem State.marchDone_kept (s : State) (fail : Bool) (u0 : State) : Kept (State.marchDone s fail).2 u0 ↔ Kept s u0 := by
  unfold State.marchDone
  (repeat' split) <;> simp

@[simp] theorem State.faultNotice_kept (s : State) (c : Nat) (u0 : State) : Kept (State.faultNotice s c) u0 ↔ Kept s u0 := by simp [State.faultNotice]

@[simp] theorem State.faultCall_kept (s : State) (f : Nat) (u0 : State) : Kept (State.faultCall s f) u0 ↔ Kept s u0 := by simp [State.faultCall]

@[simp] theorem State.bundleError_kept (s : State) (c : Nat) (pc : Nat) (u0 : State) : Kept (State.bundleError s c pc) u0 ↔ Kept s u0 := by
  unfold State.bundleError
  simp only []
  (repeat' split) <;> simp

@[simp] theorem State.faultResponse_kept (s : State) (c : Nat) (u0 : State) : Kept (State.faultResponse s c) u0 ↔ Kept s u0 := by
  unfold State.faultResponse
  simp only []
  (repeat' split) <;> simp

@[simp] theorem State.breakHalt_kept (s : State) (c : Nat) (u0 : State) : Kept (State.breakHalt s c) u0 ↔ Kept s u0 := by simp [State.breakHalt]

@[simp] theorem State.shapeBad_kept (s : State) (f : Nat) (u0 : State) : Kept (State.shapeBad s f) u0 ↔ Kept s u0 := by simp [State.shapeBad]

@[simp] theorem State.shapeRead_kept (s : State) (f : Nat) (u0 : State) : Kept (State.shapeRead s f) u0 ↔ Kept s u0 := by
  unfold State.shapeRead
  simp only []
  (repeat' split) <;> simp

@[simp] theorem State.scrub_kept (s : State) (b : Nat) (u0 : State) : Kept (State.scrub s b) u0 ↔ Kept s u0 := by
  unfold State.scrub
  simp only []
  (repeat' split) <;> simp

@[simp] theorem State.substituteBank_kept (s : State) (b : Nat) (spare : Nat) (h : Nat) (u0 : State) :
    Kept (State.substituteBank s b spare h) u0 ↔ Kept s u0 := by
  simp [State.substituteBank]

@[simp] theorem State.uncResponse_kept (s : State) (b : Nat) (u0 : State) : Kept (State.uncResponse s b) u0 ↔ Kept s u0 := by
  unfold State.uncResponse
  simp only []
  (repeat' split) <;> simp

/-! ### Compose -/

@[simp] theorem State.glLine_kept (s : State) (g : Nat) (x : GlCfg) (dy : Nat) (u0 : State) : Kept (State.glLine s g x dy).1 u0 ↔ Kept s u0 := by
  simp [State.glLine]

@[simp] theorem State.glRow_kept (s : State) (r : Nat) (g : Nat) (y : Nat) (w : Nat) (u0 : State) :
    Kept (State.glRow s r g y w).1 u0 ↔ Kept s u0 := by
  unfold State.glRow
  simp only []
  (repeat' split) <;> simp

@[simp] theorem State.runRow_kept (s : State) (r : Nat) (y : Nat) (w : Nat) (run : List Nat) (u0 : State) : Kept (State.runRow s r y w run).1 u0 ↔ Kept s u0 := by
  unfold State.runRow
  split
  · simp
  · simp
    refine (kept_foldl_at (fun y : State × List APix => y.1) (fun y h u => ?_) _ _ _)
    simp

@[simp] theorem State.canvasRow_kept (s : State) (r : Nat) (n : Nat) (y : Nat) (u0 : State) : Kept (State.canvasRow s r n y).1 u0 ↔ Kept s u0 := by
  unfold State.canvasRow
  refine (kept_foldl_at (fun y : State × List APix => y.1) (fun y h u => ?_) _ _ _)
  split <;> simp

@[simp] theorem State.fillFifos_kept (s : State) (r : Nat) (y : Nat) (u0 : State) : Kept (State.fillFifos s r y) u0 ↔ Kept s u0 := by
  simp [State.fillFifos]

@[simp] theorem State.sendLine_kept (s : State) (p : Nat) (u0 : State) : Kept (State.sendLine s p) u0 ↔ Kept s u0 := by simp [State.sendLine]

@[simp] theorem State.psrFrame_kept (s : State) (p : Nat) (u0 : State) : Kept (State.psrFrame s p) u0 ↔ Kept s u0 := by simp [State.psrFrame]

@[simp] theorem State.sendSdps_kept (s : State) (r : Nat) (p : Nat) (u0 : State) : Kept (State.sendSdps s r p) u0 ↔ Kept s u0 := by
  simp [State.sendSdps]

/-! ### Raster -/

@[simp] theorem State.rasBit_kept (s : State) (r : Nat) (i : Nat) (b : Bool) (u0 : State) : Kept (State.rasBit s r i b) u0 ↔ Kept s u0 := by
  simp [State.rasBit]

@[simp] theorem State.showPpm_kept (s : State) (r : Nat) (d : Int) (u0 : State) : Kept (State.showPpm s r d) u0 ↔ Kept s u0 := by simp [State.showPpm]

@[simp] theorem State.slewLine_kept (s : State) (r : Nat) (u0 : State) : Kept (State.slewLine s r) u0 ↔ Kept s u0 := by simp [State.slewLine]

@[simp] theorem State.teConsume_kept (s : State) (r : Nat) (u0 : State) : Kept (State.teConsume s r) u0 ↔ Kept s u0 := by
  unfold State.teConsume
  (repeat' split) <;> simp

@[simp] theorem State.endHold_kept (s : State) (r : Nat) (u0 : State) : Kept (State.endHold s r) u0 ↔ Kept s u0 := by simp [State.endHold]

@[simp] theorem State.holdLimit_kept (s : State) (r : Nat) (u0 : State) : Kept (State.holdLimit s r) u0 ↔ Kept s u0 := by
  unfold State.holdLimit
  (repeat' split) <;> simp

@[simp] theorem State.limitRow_kept (s : State) (r : Nat) (kind : Hold → Bool) (u0 : State) : Kept (State.limitRow s r kind) u0 ↔ Kept s u0 := by
  unfold State.limitRow
  (repeat' split) <;> simp

@[simp] theorem State.atStretch_kept (s : State) (r : Nat) (u0 : State) : Kept (State.atStretch s r) u0 ↔ Kept s u0 := by
  unfold State.atStretch
  simp only []
  (repeat' split) <;> simp

@[simp] theorem State.vrrFrame_kept (s : State) (r : Nat) (u0 : State) : Kept (State.vrrFrame s r) u0 ↔ Kept s u0 := by
  unfold State.vrrFrame
  simp only []
  (repeat' split) <;> simp

@[simp] theorem State.portFrame_kept (s : State) (r : Nat) (p : Nat) (u0 : State) : Kept (State.portFrame s r p) u0 ↔ Kept s u0 := by
  simp [State.portFrame]

@[simp] theorem State.atLine0_kept (s : State) (r : Nat) (u0 : State) : Kept (State.atLine0 s r) u0 ↔ Kept s u0 := by simp [State.atLine0]

@[simp] theorem State.chipFloor_kept (s : State) (u0 : State) : Kept (State.chipFloor s) u0 ↔ Kept s u0 := by simp [State.chipFloor]

@[simp] theorem State.flatBoundary_kept (s : State) (r : Nat) (u0 : State) : Kept (State.flatBoundary s r) u0 ↔ Kept s u0 := by
  simp [State.flatBoundary]

@[simp] theorem State.hideBoundary_kept (s : State) (r : Nat) (u0 : State) : Kept (State.hideBoundary s r) u0 ↔ Kept s u0 := by
  simp [State.hideBoundary]

@[simp] theorem State.stretchPeak_kept (s : State) (u0 : State) : Kept (State.stretchPeak s) u0 ↔ Kept s u0 := by simp [State.stretchPeak]

@[simp] theorem State.atVactive_kept (s : State) (r : Nat) (u0 : State) : Kept (State.atVactive s r) u0 ↔ Kept s u0 := by simp [State.atVactive]

@[simp] theorem State.freeSent_kept (s : State) (r : Nat) (line : Nat) (frame : Nat) (u0 : State) :
    Kept (State.freeSent s r line frame) u0 ↔ Kept s u0 := by
  simp [State.freeSent]

@[simp] theorem State.frameMark_kept (s : State) (r : Nat) (n : Nat) (u0 : State) : Kept (State.frameMark s r n) u0 ↔ Kept s u0 := by
  simp [State.frameMark]

@[simp] theorem State.startLine_kept (s : State) (r : Nat) (l : Nat) (u0 : State) : Kept (State.startLine s r l) u0 ↔ Kept s u0 := by
  simp [State.startLine]

@[simp] theorem State.holdMore_kept (s : State) (r : Nat) (u0 : State) : Kept (State.holdMore s r) u0 ↔ Kept s u0 := by simp [State.holdMore]

@[simp] theorem State.holdLine_kept (s : State) (r : Nat) (h : Hold) (u0 : State) : Kept (State.holdLine s r h) u0 ↔ Kept s u0 := by
  unfold State.holdLine
  (repeat' split) <;> simp

@[simp] theorem State.lineStart_kept (s : State) (r : Nat) (u0 : State) : Kept (State.lineStart s r) u0 ↔ Kept s u0 := by
  unfold State.lineStart
  (repeat' split) <;> simp

@[simp] theorem State.showErr_kept (s : State) (r : Nat) (x : Int) (u0 : State) : Kept (State.showErr s r x) u0 ↔ Kept s u0 := by simp [State.showErr]

@[simp] theorem State.jump_kept (s : State) (r : Nat) (delta : Int) (u0 : State) : Kept (State.jump s r delta) u0 ↔ Kept s u0 := by simp [State.jump]

@[simp] theorem State.refInstant_kept (s : State) (r : Nat) (delta : Int) (u0 : State) : Kept (State.refInstant s r delta) u0 ↔ Kept s u0 := by
  simp [State.refInstant]

@[simp] theorem State.holdover_kept (s : State) (r : Nat) (u0 : State) : Kept (State.holdover s r) u0 ↔ Kept s u0 := by simp [State.holdover]

@[simp] theorem State.teEdge1_kept (s : State) (r : Nat) (pin : Nat) (falling : Bool) (u0 : State) :
    Kept (State.teEdge1 s r pin falling) u0 ↔ Kept s u0 := by
  simp [State.teEdge1]

@[simp] theorem State.teEdge_kept (s : State) (pin : Nat) (falling : Bool) (u0 : State) : Kept (State.teEdge s pin falling) u0 ↔ Kept s u0 := by
  simp [State.teEdge]

@[simp] theorem State.relocked_kept (s : State) (r : Nat) (u0 : State) : Kept (State.relocked s r) u0 ↔ Kept s u0 := by simp [State.relocked]

@[simp] theorem State.regionDone_kept (s : State) (r : Nat) (p : Nat) (upset : Nat) (u0 : State) :
    Kept (State.regionDone s r p upset) u0 ↔ Kept s u0 := by
  simp [State.regionDone]

@[simp] theorem State.frameDone_kept (s : State) (r : Nat) (upsets : List (Nat × Nat)) (u0 : State) :
    Kept (State.frameDone s r upsets) u0 ↔ Kept s u0 := by
  simp [State.frameDone]

@[simp] theorem State.protectRewrite_kept (s : State) (r : Nat) (u0 : State) : Kept (State.protectRewrite s r) u0 ↔ Kept s u0 := by
  simp [State.protectRewrite]

@[simp] theorem State.underrun_kept (s : State) (p : Nat) (pixel : Nat) (u0 : State) : Kept (State.underrun s p pixel) u0 ↔ Kept s u0 := by
  simp [State.underrun]

@[simp] theorem State.portEvent_kept (s : State) (p : Nat) (up : Bool) (u0 : State) : Kept (State.portEvent s p up) u0 ↔ Kept s u0 := by
  simp [State.portEvent]

@[simp] theorem State.portLoss_kept (s : State) (p : Nat) (u0 : State) : Kept (State.portLoss s p) u0 ↔ Kept s u0 := by simp [State.portLoss]

@[simp] theorem State.portReturn_kept (s : State) (p : Nat) (u0 : State) : Kept (State.portReturn s p) u0 ↔ Kept s u0 := by simp [State.portReturn]

@[simp] theorem State.portTrained_kept (s : State) (p : Nat) (lines : Option Nat) (u0 : State) :
    Kept (State.portTrained s p lines) u0 ↔ Kept s u0 := by
  simp [State.portTrained]

@[simp] theorem State.portHdcpLoss_kept (s : State) (p : Nat) (u0 : State) : Kept (State.portHdcpLoss s p) u0 ↔ Kept s u0 := by
  simp [State.portHdcpLoss]

@[simp] theorem State.portHdcpOk_kept (s : State) (p : Nat) (type1 : Bool) (u0 : State) : Kept (State.portHdcpOk s p type1) u0 ↔ Kept s u0 := by
  simp [State.portHdcpOk]

@[simp] theorem State.psrEnter_kept (s : State) (p : Nat) (u0 : State) : Kept (State.psrEnter s p) u0 ↔ Kept s u0 := by simp [State.psrEnter]

@[simp] theorem State.psrLeave_kept (s : State) (p : Nat) (u0 : State) : Kept (State.psrLeave s p) u0 ↔ Kept s u0 := by simp [State.psrLeave]

@[simp] theorem State.psrUpdate_kept (s : State) (p : Nat) (gran : Nat) (u0 : State) : Kept (State.psrUpdate s p gran) u0 ↔ Kept s u0 := by
  unfold State.psrUpdate
  simp only []
  (repeat' split) <;> simp

@[simp] theorem State.psrExit_kept (s : State) (p : Nat) (u0 : State) : Kept (State.psrExit s p) u0 ↔ Kept s u0 := by simp [State.psrExit]

/-! ### HostFrame -/

@[simp] theorem State.hfFinish_kept (s : State) (h : Nat) (cause : Nat) (u0 : State) : Kept (State.hfFinish s h cause) u0 ↔ Kept s u0 := by
  simp [State.hfFinish]

@[simp] theorem State.hfCut_kept (s : State) (u0 : State) : Kept (State.hfCut s) u0 ↔ Kept s u0 := by simp [State.hfCut]

@[simp] theorem State.hfAbort_kept (s : State) (h : Nat) (u0 : State) : Kept (State.hfAbort s h) u0 ↔ Kept s u0 := by simp [State.hfAbort]

@[simp] theorem State.abortWindow_kept (s : State) (fn : Option Nat) (e : Nat) (u0 : State) : Kept (State.abortWindow s fn e) u0 ↔ Kept s u0 := by
  unfold State.abortWindow
  simp only []
  (repeat' split) <;> simp

@[simp] theorem State.hfTailWrite_kept (s : State) (v : Nat) (u0 : State) : Kept (State.hfTailWrite s v) u0 ↔ Kept s u0 := by simp [State.hfTailWrite]

@[simp] theorem State.hfCtrlWrite_kept (s : State) (h : Nat) (on : Bool) (u0 : State) : Kept (State.hfCtrlWrite s h on) u0 ↔ Kept s u0 := by
  simp [State.hfCtrlWrite]

@[simp] theorem State.askPage_kept (s : State) (h : Nat) (a : Nat) (u0 : State) : Kept (State.askPage s h a) u0 ↔ Kept s u0 := by simp [State.askPage]

@[simp] theorem State.hfDescriptor_kept (s : State) (u0 : State) : Kept (State.hfDescriptor s) u0 ↔ Kept s u0 := by
  unfold State.hfDescriptor
  (repeat' split) <;> simp

@[simp] theorem State.hfGroup_kept (s : State) (fault : Bool) (u0 : State) : Kept (State.hfGroup s fault) u0 ↔ Kept s u0 := by
  unfold State.hfGroup
  simp only []
  (repeat' split) <;> simp

@[simp] theorem State.repeatEnd_kept (s : State) (p : Nat) (u0 : State) : Kept (State.repeatEnd s p) u0 ↔ Kept s u0 := by simp [State.repeatEnd]

/-! ### PowerReq -/

@[simp] theorem State.transBegin_kept (s : State) (t : Nat) (u0 : State) : Kept (State.transBegin s t) u0 ↔ Kept s u0 := by simp [State.transBegin]

@[simp] theorem State.ecoRefused_kept (s : State) (u0 : State) : Kept (State.ecoRefused s) u0 ↔ Kept s u0 := by simp [State.ecoRefused]

@[simp] theorem State.powerAct_kept (s : State) (u0 : State) : Kept (State.powerAct s) u0 ↔ Kept s u0 := by
  unfold State.powerAct
  (repeat' split) <;> simp

@[simp] theorem State.powerAsk_kept (s : State) (v : Nat) (u0 : State) : Kept (State.powerAsk s v) u0 ↔ Kept s u0 := by simp [State.powerAsk]

@[simp] theorem State.pwrReq_kept (s : State) (v : Nat) (u0 : State) : Kept (State.pwrReq s v) u0 ↔ Kept s u0 := by simp [State.pwrReq]

/-! ### Access -/

@[simp] theorem State.coreStep_kept (s : State) (c : Nat) (u0 : State) : Kept (State.coreStep s c) u0 ↔ Kept s u0 := by simp [State.coreStep]

@[simp] theorem State.tcdWrite_kept (s : State) (c : Nat) (o : Nat) (v : Word) (u0 : State) : Kept (State.tcdWrite s c o v) u0 ↔ Kept s u0 := by
  simp [State.tcdWrite]

@[simp] theorem State.read32_kept (s : State) (fn : Nat) (off : Nat) (u0 : State) : Kept (State.read32 s fn off).2 u0 ↔ Kept s u0 := by
  unfold State.read32
  (repeat' split) <;> simp

@[simp] theorem State.barRead_kept (s : State) (fn : Nat) (off : Nat) (size : Nat) (u0 : State) :
    Kept (State.barRead s fn off size) u0 ↔ Kept s u0 := by
  simp [State.barRead]

@[simp] theorem State.mbxLost_kept (s : State) (fn : Nat) (u0 : State) : Kept (State.mbxLost s fn) u0 ↔ Kept s u0 := by simp [State.mbxLost]

@[simp] theorem State.mbxDoorbell_kept (s : State) (fn : Nat) (go : Bool) (u0 : State) : Kept (State.mbxDoorbell s fn go) u0 ↔ Kept s u0 := by
  simp [State.mbxDoorbell]

@[simp] theorem State.queTail_kept (s : State) (q : Nat) (v : Word) (u0 : State) : Kept (State.queTail s q v) u0 ↔ Kept s u0 := by
  simp [State.queTail]

@[simp] theorem State.queHead_kept (s : State) (q : Nat) (v : Word) (u0 : State) : Kept (State.queHead s q v) u0 ↔ Kept s u0 := by
  unfold State.queHead
  simp only []
  (repeat' split) <;> simp

@[simp] theorem State.hpsSignal_kept (s : State) (fn : Nat) (p : Nat) (n : Nat) (u0 : State) : Kept (State.hpsSignal s fn p n) u0 ↔ Kept s u0 := by
  simp [State.hpsSignal]

@[simp] theorem State.evtMask_kept (s : State) (fn : Nat) (v : Word) (u0 : State) : Kept (State.evtMask s fn v) u0 ↔ Kept s u0 := by
  simp [State.evtMask]

@[simp] theorem State.dirty_kept (s : State) (g : Nat) (u0 : State) : Kept (State.dirty s g) u0 ↔ Kept s u0 := by simp [State.dirty]

@[simp] theorem State.codeWrite_kept (s : State) (key : Nat) (r : RegRow) (v : Word) (locked : Bool) (u0 : State) :
    Kept (State.codeWrite s key r v locked) u0 ↔ Kept s u0 := by
  simp [State.codeWrite]

@[simp] theorem State.regWrite_kept (s : State) (fn : Nat) (off : Nat) (v : Word) (u0 : State) : Kept (State.regWrite s fn off v) u0 ↔ Kept s u0 := by
  unfold State.regWrite
  (repeat' split) <;> simp

@[simp] theorem State.write32_kept (s : State) (fn : Nat) (off : Nat) (v : Word) (u0 : State) : Kept (State.write32 s fn off v) u0 ↔ Kept s u0 := by
  simp [State.write32]

@[simp] theorem State.barWrite_kept (s : State) (fn : Nat) (off : Nat) (size : Nat) (v : BitVec 64) (u0 : State) :
    Kept (State.barWrite s fn off size v) u0 ↔ Kept s u0 := by
  simp [State.barWrite]

@[simp] theorem State.linked_kept (s : State) (f : State → State)
    (h : ∀ s u, Kept (f s) u ↔ Kept s u) (u : State) : Kept (s.linked f) u ↔ Kept s u := by
  unfold State.linked; split <;> simp [h]

@[simp] theorem State.perfWrap_kept (s : State) (off : Nat) (u0 : State) : Kept (State.perfWrap s off) u0 ↔ Kept s u0 := by
  unfold State.perfWrap
  (repeat' split) <;> simp

@[simp] theorem State.apertureRefused_kept (s : State) (fn : Nat) (o : Nat) (u0 : State) : Kept (State.apertureRefused s fn o) u0 ↔ Kept s u0 := by
  simp [State.apertureRefused]

@[simp] theorem State.apertureRead_kept (s : State) (fn : Nat) (o : Nat) (n : Nat) (u0 : State) : Kept (State.apertureRead s fn o n) u0 ↔ Kept s u0 := by
  unfold State.apertureRead
  split
  · simp
  · simp
    refine kept_foldl (fun s a u => ?_) _ _ _
    split <;> simp

@[simp] theorem State.apertureWrite_kept (s : State) (fn : Nat) (o : Nat) (bs : List Byte) (u0 : State) :
    Kept (State.apertureWrite s fn o bs) u0 ↔ Kept s u0 := by
  unfold State.apertureWrite
  (repeat' split) <;> simp

/-! ### Governor -/

@[simp] theorem State.burstStep_kept (s : State) (u0 : State) : Kept (State.burstStep s) u0 ↔ Kept s u0 := by simp [State.burstStep]

@[simp] theorem State.setStretch_kept (s : State) (v : Nat) (u0 : State) : Kept (State.setStretch s v) u0 ↔ Kept s u0 := by simp [State.setStretch]

@[simp] theorem State.governorTick_kept (s : State) (p1 : Nat) (p100 : Nat) (pa : Nat) (arrays : Nat) (u0 : State) :
    Kept (State.governorTick s p1 p100 pa arrays) u0 ↔ Kept s u0 := by
  simp [State.governorTick]

/-! ### MatrixRows -/

@[simp] theorem State.governorGrant_kept (s : State) (c : Nat) (a : Nat) (u0 : State) : Kept (State.governorGrant s c a) u0 ↔ Kept s u0 := by
  unfold State.governorGrant
  (repeat' split) <;> simp

/-! ### FixedFn -/

@[simp] theorem State.ffWrite_kept (s : State) (req : Nat) (h : Nat) (ws : List (Nat × List Byte)) (u0 : State) :
    Kept (State.ffWrite s req h ws) u0 ↔ Kept s u0 := by
  simp [State.ffWrite]

@[simp] theorem State.ffSat_kept (s : State) (p : Nat) (n : Nat) (u0 : State) : Kept (State.ffSat s p n) u0 ↔ Kept s u0 := by simp [State.ffSat]

@[simp] theorem State.writeCopy_kept (s : State) (p : Nat) (j : FfJob) (u0 : State) : Kept (State.writeCopy s p j) u0 ↔ Kept s u0 := by
  simp [State.writeCopy]

@[simp] theorem State.edgeRun_kept (s : State) (p : Nat) (j : FfJob) (u0 : State) : Kept (State.edgeRun s p j) u0 ↔ Kept s u0 := by
  simp [State.edgeRun]

@[simp] theorem State.cropRun_kept (s : State) (p : Nat) (j : FfJob) (u0 : State) : Kept (State.cropRun s p j) u0 ↔ Kept s u0 := by
  simp [State.cropRun]

@[simp] theorem State.setWalk_kept (s : State) (p : Nat) (w : Walk) (u0 : State) : Kept (State.setWalk s p w) u0 ↔ Kept s u0 := by
  simp [State.setWalk]

@[simp] theorem State.slotStart_kept (s : State) (u0 : State) : Kept (State.slotStart s) u0 ↔ Kept s u0 := by
  unfold State.slotStart
  simp only []
  (repeat' split) <;> simp

@[simp] theorem State.badJob_kept (s : State) (p : Nat) (u0 : State) : Kept (State.badJob s p) u0 ↔ Kept s u0 := by simp [State.badJob]

@[simp] theorem State.takeJob_kept (s : State) (p : Nat) (i : Nat) (u0 : State) : Kept (State.takeJob s p i) u0 ↔ Kept s u0 := by simp [State.takeJob]

@[simp] theorem State.settleWalk_kept (s : State) (p : Nat) (u0 : State) : Kept (State.settleWalk s p) u0 ↔ Kept s u0 := by simp [State.settleWalk]

@[simp] theorem State.ffCorrected_kept (s : State) (rs : List (Option (Nat × Nat))) (u0 : State) : Kept (State.ffCorrected s rs) u0 ↔ Kept s u0 := by
  simp [State.ffCorrected]

@[simp] theorem State.walkStart_kept (s : State) (p : Nat) (u0 : State) : Kept (State.walkStart s p) u0 ↔ Kept s u0 := by
  unfold State.walkStart
  simp only []
  (repeat' split) <;> simp

@[simp] theorem State.jobSignal_kept (s : State) (p : Nat) (unit : Nat) (j : FfJob) (u0 : State) :
    Kept (State.jobSignal s p unit j) u0 ↔ Kept s u0 := by
  simp [State.jobSignal]

@[simp] theorem State.runJob_kept (s : State) (p : Nat) (unit : Nat) (i : Nat) (j : FfJob) (u0 : State) :
    Kept (State.runJob s p unit i j) u0 ↔ Kept s u0 := by
  unfold State.runJob
  simp only []
  (repeat' split) <;> simp

@[simp] theorem State.startFf_kept (s : State) (p : Nat) (kind : Nat) (u0 : State) : Kept (State.startFf s p kind) u0 ↔ Kept s u0 := by
  unfold State.startFf
  simp only []
  (repeat' split) <;> simp

@[simp] theorem State.jobComplete_kept (s : State) (p : Nat) (unit : Nat) (u0 : State) : Kept (State.jobComplete s p unit) u0 ↔ Kept s u0 := by
  unfold State.jobComplete
  simp only []
  (repeat' split) <;> simp

@[simp] theorem State.agRun_kept (s : State) (f : Nat) (a : AgRun) (u0 : State) : Kept (State.agRun s f a) u0 ↔ Kept s u0 := by
  unfold State.agRun
  (repeat' split) <;> simp

/-! ### SubPrep -/

@[simp] theorem State.takeCutFrame_kept (s : State) (p : Nat) (b : Nat) (u0 : State) : Kept (State.takeCutFrame s p b) u0 ↔ Kept s u0 := by
  unfold State.takeCutFrame
  (repeat' split) <;> simp

@[simp] theorem State.subStart_kept (s : State) (p : Nat) (b : Nat) (u0 : State) : Kept (State.subStart s p b) u0 ↔ Kept s u0 := by
  simp [State.subStart]

@[simp] theorem State.subReady_kept (s : State) (p : Nat) (b : Nat) (u0 : State) : Kept (State.subReady s p b) u0 ↔ Kept s u0 := by
  unfold State.subReady
  (repeat' split) <;> simp

/-! ### DeanCmd -/

/-- Every state that an answer holds is as the state that was asked. -/
def Answer.Keeps (a : Answer) (s : State) : Prop :=
  match a with
  | .fail _ => True
  | .ok _ t | .later t | .hold t => ∀ u, Kept t u ↔ Kept s u

@[simp] theorem Answer.fail_keeps (e : CmdErr) (s : State) : (Answer.fail e).Keeps s := trivial
@[simp] theorem Answer.ok_keeps (r : List Nat) (t s : State) : (Answer.ok r t).Keeps s ↔ ∀ u, Kept t u ↔ Kept s u := Iff.rfl
@[simp] theorem Answer.later_keeps (t s : State) : (Answer.later t).Keeps s ↔ ∀ u, Kept t u ↔ Kept s u := Iff.rfl
@[simp] theorem Answer.hold_keeps (t s : State) : (Answer.hold t).Keeps s ↔ ∀ u, Kept t u ↔ Kept s u := Iff.rfl
@[simp] theorem Answer.ite_keeps (c : Prop) [Decidable c] (a b : Answer) (s : State) :
    (if c then a else b).Keeps s ↔ if c then a.Keeps s else b.Keeps s := by split <;> rfl
@[simp] theorem checked_keeps {a : Answer} {s : State} (h : a.Keeps s) (c : Check) : (checked c a).Keeps s := by
  cases c <;> simp [checked, h]

/-- A command whose run keeps the three keeps them. -/
@[simp] theorem State.deanTake_kept {run : State → Answer} (h : ∀ s, (run s).Keeps s) (s : State) (op : Nat) (only0 standby : Bool)
    (tests : List FieldTest) (d : DeanCmd) (u : State) : Kept (s.deanTake op only0 standby tests d run).1 u ↔ Kept s u := by
  unfold State.deanTake
  extract_lets dean end_ c
  split
  · simp
  · split
    · have k := checked_keeps (h s) c
      split <;> rename_i q <;> rw [q] at k <;> simp_all [end_]
    · simp

@[simp] theorem State.dean_kept {t : State → State × Bool} (h : ∀ s u, Kept (t s).1 u ↔ Kept s u) (s u : State) :
    Kept (s.dean t) u ↔ Kept s u := h s u

@[simp] theorem State.bufWrite_kept (s : State) (h : Nat) (p : BufPlace) (bs : List Byte) (u0 : State) : Kept (State.bufWrite s h p bs) u0 ↔ Kept s u0 := by
  unfold State.bufWrite; split <;> simp

@[simp] theorem State.withBytes_keeps {f : State → List Byte → Answer} (h : ∀ t bs, (f t bs).Keeps t) (s : State) (d : DeanCmd)
    (a n o : Nat) (block : Bool) : (s.withBytes d a n o block f).Keeps s := by
  unfold State.withBytes
  extract_lets p t
  split
  · simp
  · simp
  · have k : ∀ u, Kept t u ↔ Kept s u := fun u => by simp only [t]; cases p <;> simp
    have q := h t (s.bufRead d.house p n)
    cases e : f t (s.bufRead d.house p n) <;> rw [e] at q <;> simp_all

@[simp] theorem State.withBuf_keeps {f : State → List Byte → Answer} (h : ∀ t bs, (f t bs).Keeps t) (s : State) (d : DeanCmd)
    (i n : Nat) : (s.withBuf d i n f).Keeps s := State.withBytes_keeps h s d _ n _ false

/-! ### DeanQueues -/

@[simp] theorem State.cmdNop_kept (d : DeanCmd) (s : State) (u0 : State) : Kept (State.cmdNop d s).1 u0 ↔ Kept s u0 := by simp [State.cmdNop]

@[simp] theorem State.postHeld_kept (s : State) (u0 : State) : Kept (State.postHeld s) u0 ↔ Kept s u0 := by simp [State.postHeld]

@[simp] theorem State.queueSet_kept (s : State) (h : Nat) (q : Nat) (addr : Nat) (cfg : Nat) (pair : Nat) (mask : Word) (u0 : State) :
    Kept (State.queueSet s h q addr cfg pair mask) u0 ↔ Kept s u0 := by
  simp [State.queueSet]

@[simp] theorem State.cmdQueueCreate_kept (d : DeanCmd) (s : State) (u0 : State) : Kept (State.cmdQueueCreate d s).1 u0 ↔ Kept s u0 := by
  simp [State.cmdQueueCreate]

@[simp] theorem State.queueClear_kept (s : State) (q : Nat) (u0 : State) : Kept (State.queueClear s q) u0 ↔ Kept s u0 := by simp [State.queueClear]

@[simp] theorem State.abortQueue_kept (s : State) (h : Nat) (q : Nat) (u0 : State) : Kept (State.abortQueue s h q) u0 ↔ Kept s u0 := by
  simp [State.abortQueue]

@[simp] theorem State.cmdQueueDestroy_kept (d : DeanCmd) (s : State) (u0 : State) : Kept (State.cmdQueueDestroy d s).1 u0 ↔ Kept s u0 := by
  simp [State.cmdQueueDestroy]

@[simp] theorem State.cmdHpassSet_kept (d : DeanCmd) (s : State) (u0 : State) : Kept (State.cmdHpassSet d s).1 u0 ↔ Kept s u0 := by
  simp [State.cmdHpassSet]

@[simp] theorem State.cmdHpassWait_kept (d : DeanCmd) (s : State) (u0 : State) : Kept (State.cmdHpassWait d s).1 u0 ↔ Kept s u0 := by
  simp [State.cmdHpassWait]

@[simp] theorem State.cmdDmaRun_kept (d : DeanCmd) (s : State) (u0 : State) : Kept (State.cmdDmaRun d s).1 u0 ↔ Kept s u0 := by simp [State.cmdDmaRun]

@[simp] theorem State.cmdShelfFlush_kept (d : DeanCmd) (s : State) (u0 : State) : Kept (State.cmdShelfFlush d s).1 u0 ↔ Kept s u0 := by
  simp [State.cmdShelfFlush]

@[simp] theorem State.cmdBandStatus_kept (d : DeanCmd) (s : State) (u0 : State) : Kept (State.cmdBandStatus d s).1 u0 ↔ Kept s u0 := by
  simp [State.cmdBandStatus]

@[simp] theorem State.cmdPipeStatus_kept (d : DeanCmd) (s : State) (u0 : State) : Kept (State.cmdPipeStatus d s).1 u0 ↔ Kept s u0 := by
  simp [State.cmdPipeStatus]

@[simp] theorem State.cmdTierFloor_kept (d : DeanCmd) (s : State) (u0 : State) : Kept (State.cmdTierFloor d s).1 u0 ↔ Kept s u0 := by
  simp [State.cmdTierFloor]

@[simp] theorem State.cmdCoreRetire_kept (d : DeanCmd) (s : State) (u0 : State) : Kept (State.cmdCoreRetire d s).1 u0 ↔ Kept s u0 := by
  simp [State.cmdCoreRetire]

@[simp] theorem State.cmdCoreRejoin_kept (d : DeanCmd) (s : State) (u0 : State) : Kept (State.cmdCoreRejoin d s).1 u0 ↔ Kept s u0 := by
  simp [State.cmdCoreRejoin]

@[simp] theorem State.cmdMarchRun_kept (d : DeanCmd) (s : State) (u0 : State) : Kept (State.cmdMarchRun d s).1 u0 ↔ Kept s u0 := by
  simp [State.cmdMarchRun]

@[simp] theorem State.marchComplete_kept (s : State) (fail : Bool) (u0 : State) : Kept (State.marchComplete s fail) u0 ↔ Kept s u0 := by
  unfold State.marchComplete
  have h := State.marchDone_kept s fail u0
  split
  · rename_i heq
    rw [heq] at h
    split <;> simp_all
  · rename_i heq
    rw [heq] at h
    exact h

/-! ### DeanGrant -/

@[simp] theorem State.journalAdd_kept (s : State) (u0 : State) : Kept (State.journalAdd s) u0 ↔ Kept s u0 := by simp [State.journalAdd]

@[simp] theorem State.zeroGranule_kept (s : State) (g : Nat) (u0 : State) : Kept (State.zeroGranule s g) u0 ↔ Kept s u0 := by simp [State.zeroGranule]

@[simp] theorem State.xlateSet_kept (s : State) (h : Nat) (ws : List Word) (u0 : State) : Kept (State.xlateSet s h ws) u0 ↔ Kept s u0 := by
  simp [State.xlateSet]

@[simp] theorem State.grantLayers_kept (s : State) (g : GrantBlock) (u0 : State) : Kept (State.grantLayers s g) u0 ↔ Kept s u0 := by
  simp [State.grantLayers]

@[simp] theorem State.grantSet_kept (s : State) (g : GrantBlock) (ws : List Word) (u0 : State) : Kept (State.grantSet s g ws) u0 ↔ Kept s u0 := by
  simp [State.grantSet]

@[simp] theorem State.cmdHouseGrant_kept (d : DeanCmd) (s : State) (u0 : State) : Kept (State.cmdHouseGrant d s).1 u0 ↔ Kept s u0 := by
  unfold State.cmdHouseGrant
  refine State.deanTake_kept (fun s => State.withBuf_keeps (fun s b => ?_) _ _ _ _) _ _ _ _ _ _ _
  refine checked_keeps (State.withBytes_keeps (fun s hd => ?_) _ _ _ _ _ _) _
  refine checked_keeps (State.withBytes_keeps (fun s t => ?_) _ _ _ _ _ _) _
  exact checked_keeps (by simp) _

@[simp] theorem State.journalBank_kept (s : State) (b : Nat) (u0 : State) : Kept (State.journalBank s b) u0 ↔ Kept s u0 := by simp [State.journalBank]

@[simp] theorem State.cmdBankHandover_kept (d : DeanCmd) (s : State) (u0 : State) : Kept (State.cmdBankHandover d s).1 u0 ↔ Kept s u0 := by
  simp [State.cmdBankHandover]

@[simp] theorem State.pipeSet_kept (s : State) (b : List Byte) (coef : List Byte) (u0 : State) : Kept (State.pipeSet s b coef) u0 ↔ Kept s u0 := by
  simp [State.pipeSet]

@[simp] theorem State.cmdPipeCreate_kept (d : DeanCmd) (s : State) (u0 : State) : Kept (State.cmdPipeCreate d s).1 u0 ↔ Kept s u0 := by
  unfold State.cmdPipeCreate
  refine State.deanTake_kept (fun s => State.withBuf_keeps (fun s b => ?_) _ _ _ _) _ _ _ _ _ _ _
  refine checked_keeps (State.withBytes_keeps (fun s cs => ?_) _ _ _ _ _ _) _
  exact checked_keeps (by simp) _

@[simp] theorem State.pipeClear_kept (s : State) (p : Nat) (u0 : State) : Kept (State.pipeClear s p) u0 ↔ Kept s u0 := by simp [State.pipeClear]

@[simp] theorem State.cmdPipeDestroy_kept (d : DeanCmd) (s : State) (u0 : State) : Kept (State.cmdPipeDestroy d s).1 u0 ↔ Kept s u0 := by
  simp [State.cmdPipeDestroy]

/-! ### DeanModel -/

@[simp] theorem State.freshHandle_kept (s : State) (u0 : State) : Kept (State.freshHandle s).2 u0 ↔ Kept s u0 := by simp [State.freshHandle]

@[simp] theorem State.edgeWeights_kept (s : State) (m : Model) (u0 : State) : Kept (State.edgeWeights s m) u0 ↔ Kept s u0 := by
  simp [State.edgeWeights]

@[simp] theorem State.modelSet_kept (s : State) (h : Nat) (key : Nat) (svn : Nat) (p : Config.Package) (u0 : State) :
    Kept (State.modelSet s h key svn p).2 u0 ↔ Kept s u0 := by
  unfold State.modelSet
  simp only []
  (repeat' split) <;> simp

@[simp] theorem State.cmdModelLoad_kept (d : DeanCmd) (s : State) (u0 : State) : Kept (State.cmdModelLoad d s).1 u0 ↔ Kept s u0 := by
  unfold State.cmdModelLoad
  extract_lets
  apply State.deanTake_kept
  intro s
  (repeat (first | apply checked_keeps | (apply State.withBuf_keeps; intro s b) | (apply State.withBytes_keeps; intro s b)))
  simp only []
  (repeat' split) <;> simp

@[simp] theorem State.modelDrop_kept (s : State) (m : Nat) (u0 : State) : Kept (State.modelDrop s m) u0 ↔ Kept s u0 := by simp [State.modelDrop]

@[simp] theorem State.cmdModelUnload_kept (d : DeanCmd) (s : State) (u0 : State) : Kept (State.cmdModelUnload d s).1 u0 ↔ Kept s u0 := by
  simp [State.cmdModelUnload]

@[simp] theorem State.setSlot_kept (s : State) (i : Nat) (c : CommitSet) (u0 : State) : Kept (State.setSlot s i c) u0 ↔ Kept s u0 := by
  simp [State.setSlot]

@[simp] theorem State.cmdRouteSet_kept (d : DeanCmd) (s : State) (u0 : State) : Kept (State.cmdRouteSet d s).1 u0 ↔ Kept s u0 := by
  simp [State.cmdRouteSet]

@[simp] theorem State.stageBlock_kept (op : Nat) (mask : Nat) (d : DeanCmd) (check : State → Nat → CommitSet → List Word → Check) (put : CommitSet → Nat → List Word → CommitSet) (s : State) (u0 : State) : Kept (State.stageBlock op mask d check put s).1 u0 ↔ Kept s u0 := by
  unfold State.stageBlock
  refine State.deanTake_kept (fun s => checked_keeps (State.withBuf_keeps (fun s b => ?_) _ _ _ _) _) _ _ _ _ _ _ _
  exact checked_keeps (by simp) _

@[simp] theorem State.cmdModeSet_kept (d : DeanCmd) (s : State) (u0 : State) : Kept (State.cmdModeSet d s).1 u0 ↔ Kept s u0 := by
  simp [State.cmdModeSet]

@[simp] theorem State.cmdPortSet_kept (d : DeanCmd) (s : State) (u0 : State) : Kept (State.cmdPortSet d s).1 u0 ↔ Kept s u0 := by
  simp [State.cmdPortSet]

@[simp] theorem State.cmdCanvasSet_kept (d : DeanCmd) (s : State) (u0 : State) : Kept (State.cmdCanvasSet d s).1 u0 ↔ Kept s u0 := by
  simp [State.cmdCanvasSet]

@[simp] theorem State.cmdVlayerSet_kept (d : DeanCmd) (s : State) (u0 : State) : Kept (State.cmdVlayerSet d s).1 u0 ↔ Kept s u0 := by
  simp [State.cmdVlayerSet]

@[simp] theorem State.cmdProtectSet_kept (d : DeanCmd) (s : State) (u0 : State) : Kept (State.cmdProtectSet d s).1 u0 ↔ Kept s u0 := by
  unfold State.cmdProtectSet
  extract_lets
  apply State.deanTake_kept
  intro s
  (repeat (first | apply checked_keeps | (apply State.withBuf_keeps; intro s b) | (apply State.withBytes_keeps; intro s b)))
  simp only []
  (repeat' split) <;> simp

@[simp] theorem State.cmdCommit_kept (d : DeanCmd) (s : State) (u0 : State) : Kept (State.cmdCommit d s).1 u0 ↔ Kept s u0 := by
  unfold State.cmdCommit
  extract_lets
  apply State.deanTake_kept
  intro s
  (repeat (first | apply checked_keeps | (apply State.withBuf_keeps; intro s b) | (apply State.withBytes_keeps; intro s b)))
  simp only []
  (repeat' split) <;> simp

/-! ### DeanService -/

@[simp] theorem State.cmdFwStage_kept (d : DeanCmd) (s : State) (u0 : State) : Kept (State.cmdFwStage d s).1 u0 ↔ Kept s u0 := by
  unfold State.cmdFwStage
  extract_lets
  apply State.deanTake_kept
  intro s
  (repeat (first | apply checked_keeps | (apply State.withBuf_keeps; intro s b) | (apply State.withBytes_keeps; intro s b)))
  simp only []
  (repeat' split) <;> simp

@[simp] theorem State.cmdFwSwap_kept (d : DeanCmd) (s : State) (u0 : State) : Kept (State.cmdFwSwap d s).1 u0 ↔ Kept s u0 := by simp [State.cmdFwSwap]

@[simp] theorem State.resumeHouse_kept (s : State) (h : Nat) (u0 : State) : Kept (State.resumeHouse s h) u0 ↔ Kept s u0 := by simp [State.resumeHouse]

@[simp] theorem State.closeDebug_kept (s : State) (h : Nat) (u0 : State) : Kept (State.closeDebug s h) u0 ↔ Kept s u0 := by simp [State.closeDebug]

/-- Two states differ in the three parts at most by destroyed key slots: KEYGEN counts up to 15 (R436). -/
structure KeysKept (t s : State) : Prop where
  pending : t.pending = s.pending
  lcReq : t.service.lcReq = s.service.lcReq
  life : t.fuses.life = s.fuses.life
  rollback : t.fuses.rollback = s.fuses.rollback
  up : s.fuses.keygen ≤ 15 → s.fuses.keygen ≤ t.fuses.keygen ∧ t.fuses.keygen ≤ 15

/-- What Kept says, KeysKept says. -/
theorem Kept.keys {t s : State} (h : Kept t s) : KeysKept t s :=
  ⟨h.pending, h.lcReq, by rw [h.fuses], by rw [h.fuses], fun q => by rw [h.fuses]; exact ⟨Nat.le_refl _, q⟩⟩

/-- KeysKept is transitive. -/
theorem KeysKept.trans {t s r : State} (h : KeysKept t s) (g : KeysKept s r) : KeysKept t r :=
  ⟨h.pending.trans g.pending, h.lcReq.trans g.lcReq, h.life.trans g.life, h.rollback.trans g.rollback, fun q =>
    ⟨Nat.le_trans (g.up q).1 (h.up (g.up q).2).1, (h.up (g.up q).2).2⟩⟩

/-- What the destruction of keys does to the fuses. -/
theorem State.eraseKeys_keys (s : State) : KeysKept s.eraseKeys s :=
  ⟨rfl, rfl, rfl, rfl, fun q => by unfold State.eraseKeys; simp; omega⟩

@[simp] theorem State.dropPermit_kept (s : State) (u0 : State) : Kept (State.dropPermit s) u0 ↔ Kept s u0 := by simp [State.dropPermit]

/-- The states that an answer holds differ from the one asked at most by destroyed keys. -/
def Answer.KeepsKeys (a : Answer) (s : State) : Prop :=
  match a with
  | .fail _ => True
  | .ok _ t | .later t | .hold t => KeysKept t s

/-- A command whose run destroys at most keys. -/
theorem State.deanTake_keys {run : State → Answer} (h : ∀ s, (run s).KeepsKeys s) (s : State) (op : Nat) (only0 standby : Bool)
    (tests : List FieldTest) (d : DeanCmd) : KeysKept (s.deanTake op only0 standby tests d run).1 s := by
  unfold State.deanTake
  extract_lets dean end_ c
  have e (st det res t) : KeysKept (end_ st det res t) t := Kept.keys (by simp [end_])
  clear_value end_
  have r : KeysKept s s := Kept.keys (kept_refl s)
  split
  · exact r
  · split
    · have k : (checked c (run s)).KeepsKeys s := by cases c <;> simp [checked, Answer.KeepsKeys]; exact h s
      split <;> rename_i q <;> rw [q] at k
      · exact e _ _ _ _
      · exact (e _ _ _ _).trans k
      · exact k
      · exact k
    · exact r

/-- DEBUG_SET destroys at most keys. -/
theorem State.cmdDebugSet_keys (d : DeanCmd) (s : State) : KeysKept (State.cmdDebugSet d s).1 s := by
  unfold State.cmdDebugSet
  refine State.deanTake_keys (fun s => ?_) _ _ _ _ _ _
  simp only [checked]
  split
  · trivial
  · simp only [Answer.KeepsKeys]
    split
    · exact Kept.keys (by split <;> simp)
    · split
      · exact Kept.keys (by simp)
      · split
        · have := s.eraseKeys_keys
          exact ⟨this.1, this.2, this.3, this.4, this.5⟩
        · exact Kept.keys (by simp)

@[simp] theorem State.cmdAdaptPolicy_kept (d : DeanCmd) (s : State) (u0 : State) : Kept (State.cmdAdaptPolicy d s).1 u0 ↔ Kept s u0 := by
  unfold State.cmdAdaptPolicy
  refine State.deanTake_kept (fun s => State.withBuf_keeps (fun s b => ?_) _ _ _ _) _ _ _ _ _ _ _
  exact checked_keeps (by simp) _

@[simp] theorem State.cmdHwStatus_kept (d : DeanCmd) (s : State) (u0 : State) : Kept (State.cmdHwStatus d s).1 u0 ↔ Kept s u0 := by
  unfold State.cmdHwStatus
  extract_lets
  apply State.deanTake_kept
  intro s
  (repeat (first | apply checked_keeps | (apply State.withBuf_keeps; intro s b) | (apply State.withBytes_keeps; intro s b)))
  simp only []
  (repeat' split) <;> simp

/-! ### StartUp -/

@[simp] theorem State.journalFlush_kept (s : State) (u0 : State) : Kept (State.journalFlush s) u0 ↔ Kept s u0 := by simp [State.journalFlush]

@[simp] theorem State.wipe_kept (s : State) (warm : Bool) (u0 : State) : Kept (State.wipe s warm) u0 ↔ Kept s u0 := by
  unfold State.wipe
  (repeat' split) <;> simp

@[simp] theorem State.bankOut_kept (s : State) (b : Nat) (u0 : State) : Kept (State.bankOut s b) u0 ↔ Kept s u0 := by simp [State.bankOut]

@[simp] theorem State.coreOut_kept (s : State) (c : Nat) (u0 : State) : Kept (State.coreOut s c) u0 ↔ Kept s u0 := by simp [State.coreOut]

@[simp] theorem State.arrayOut_kept (s : State) (a : Nat) (u0 : State) : Kept (State.arrayOut s a) u0 ↔ Kept s u0 := by simp [State.arrayOut]

@[simp] theorem State.formOut_kept (s : State) (f : Nat) (u0 : State) : Kept (State.formOut s f) u0 ↔ Kept s u0 := by simp [State.formOut]

@[simp] theorem State.unitsOut_kept (s : State) (r : SaveRec) (u0 : State) : Kept (State.unitsOut s r) u0 ↔ Kept s u0 := by simp [State.unitsOut]

@[simp] theorem State.clearCells_kept (s : State) (u0 : State) : Kept (State.clearCells s) u0 ↔ Kept s u0 := by simp [State.clearCells]

@[simp] theorem State.startMarchAll_kept (s : State) (u : StartUp) (u0 : State) : Kept (State.startMarchAll s u) u0 ↔ Kept s u0 := by
  simp [State.startMarchAll]

@[simp] theorem State.rerun_kept (s : State) (m : Model) (u0 : State) : Kept (State.rerun s m) u0 ↔ Kept s u0 := by
  unfold State.rerun
  (repeat' split) <;> simp

@[simp] theorem State.rerunAll_kept (s : State) (u0 : State) : Kept (State.rerunAll s) u0 ↔ Kept s u0 := by simp [State.rerunAll]

@[simp] theorem State.picturesStart_kept (s : State) (u0 : State) : Kept (State.picturesStart s) u0 ↔ Kept s u0 := by simp [State.picturesStart]

@[simp] theorem State.showHold_kept (s : State) (u0 : State) : Kept (State.showHold s) u0 ↔ Kept s u0 := by simp [State.showHold]

@[simp] theorem State.startCauses_kept (s : State) (last : Nat) (u0 : State) : Kept (State.startCauses s last) u0 ↔ Kept s u0 := by
  simp [State.startCauses]

@[simp] theorem State.restoreFrames_kept (s : State) (u0 : State) : Kept (State.restoreFrames s) u0 ↔ Kept s u0 := by simp [State.restoreFrames]

@[simp] theorem State.restoreRecord_kept (s : State) (u0 : State) : Kept (State.restoreRecord s) u0 ↔ Kept s u0 := by
  unfold State.restoreRecord
  (repeat' split) <;> simp

@[simp] theorem State.tornPorts_kept (s : State) (u0 : State) : Kept (State.tornPorts s) u0 ↔ Kept s u0 := by
  unfold State.tornPorts
  (repeat' split) <;> simp

@[simp] theorem State.replay_kept (s : State) (u0 : State) : Kept (State.replay s) u0 ↔ Kept s u0 := by
  unfold State.replay
  simp only []
  (repeat' split) <;> (first | (simp; done) | (rw [kept_foldl (by intros; (repeat' split) <;> simp)]; simp))

@[simp] theorem State.showDean_kept (s : State) (b : Bool) (st : Nat) (u0 : State) : Kept (State.showDean s b st) u0 ↔ Kept s u0 := by
  simp [State.showDean]

@[simp] theorem State.bootBoard_kept (s : State) (u : StartUp) (u0 : State) : Kept (State.bootBoard s u) u0 ↔ Kept s u0 := by simp [State.bootBoard]

@[simp] theorem State.bootRun_kept (s : State) (u : StartUp) (last : Nat) (b : Bool) (u0 : State) :
    Kept (State.bootRun s u last b) u0 ↔ Kept s u0 := by
  simp [State.bootRun]

@[simp] theorem State.bootFrom2_kept (s : State) (u : StartUp) (last : Nat) (u0 : State) : Kept (State.bootFrom2 s u last) u0 ↔ Kept s u0 := by
  unfold State.bootFrom2
  (repeat' split) <;> simp

/-! ### Power -/

@[simp] theorem State.powerEvent_kept (s : State) (cause : Nat) (u0 : State) : Kept (State.powerEvent s cause) u0 ↔ Kept s u0 := by
  simp [State.powerEvent]

@[simp] theorem State.resetNow_kept (s : State) (u0 : State) : Kept (State.resetNow s) u0 ↔ Kept s u0 := by simp [State.resetNow]

@[simp] theorem State.resetAssert_kept (s : State) (u0 : State) : Kept (State.resetAssert s) u0 ↔ Kept s u0 := by simp [State.resetAssert]

@[simp] theorem State.sagHigh_kept (s : State) (u : StartUp) (u0 : State) : Kept (State.sagHigh s u) u0 ↔ Kept s u0 := by
  unfold State.sagHigh
  (repeat' split) <;> simp

@[simp] theorem State.dropCommits_kept (s : State) (u0 : State) : Kept (State.dropCommits s) u0 ↔ Kept s u0 := by
  unfold State.dropCommits
  simp
  refine kept_foldl (fun s a u => ?_) _ _ _
  split <;> simp

@[simp] theorem State.dark_kept (s : State) (u0 : State) : Kept (State.dark s) u0 ↔ Kept s u0 := by simp [State.dark]

@[simp] theorem State.standbyEntry_kept (s : State) (timeout : Bool) (u0 : State) : Kept (State.standbyEntry s timeout) u0 ↔ Kept s u0 := by
  simp [State.standbyEntry]

@[simp] theorem State.wakeUp_kept (s : State) (u : StartUp) (u0 : State) : Kept (State.wakeUp s u) u0 ↔ Kept s u0 := by simp [State.wakeUp]

@[simp] theorem State.transDone_kept (s : State) (u : StartUp) (u0 : State) : Kept (State.transDone s u) u0 ↔ Kept s u0 := by
  unfold State.transDone
  split
  · simp
  · extract_lets s1 s2 src
    have h1 : Kept s1 u0 ↔ Kept s u0 := by simp [s1]
    clear_value s1
    have h2 : Kept s2 u0 ↔ Kept s u0 := by simp [s2, h1]
    clear_value s2
    split
    · simp
    · simp [src, h2]

@[simp] theorem State.holdUp_kept (s : State) (cause : Nat) (u0 : State) : Kept (State.holdUp s cause) u0 ↔ Kept s u0 := by simp [State.holdUp]

@[simp] theorem State.holdupWarning_kept (s : State) (cause : Nat) (u0 : State) : Kept (State.holdupWarning s cause) u0 ↔ Kept s u0 := by
  simp [State.holdupWarning]

@[simp] theorem State.saveSealed_kept (s : State) (vhold : Nat) (u0 : State) : Kept (State.saveSealed s vhold) u0 ↔ Kept s u0 := by
  unfold State.saveSealed
  (repeat' split) <;> simp

@[simp] theorem State.powerOff_kept (s : State) (u0 : State) : Kept (State.powerOff s) u0 ↔ Kept s u0 := by
  unfold State.powerOff
  (repeat' split) <;> simp

@[simp] theorem State.warmStart_kept (s : State) (u : StartUp) (last : Nat) (u0 : State) : Kept (State.warmStart s u last) u0 ↔ Kept s u0 := by
  simp [State.warmStart]

@[simp] theorem State.holdupResume_kept (s : State) (u : StartUp) (u0 : State) : Kept (State.holdupResume s u) u0 ↔ Kept s u0 := by
  simp [State.holdupResume]

@[simp] theorem State.thermalRestart_kept (s : State) (u : StartUp) (u0 : State) : Kept (State.thermalRestart s u) u0 ↔ Kept s u0 := by
  simp [State.thermalRestart]

@[simp] theorem State.showTj_kept (s : State) (u0 : State) : Kept (State.showTj s) u0 ↔ Kept s u0 := by simp [State.showTj]

@[simp] theorem State.thermalSample_kept (s : State) (f : Nat) (t : Nat) (u0 : State) : Kept (State.thermalSample s f t) u0 ↔ Kept s u0 := by
  simp [State.thermalSample]

@[simp] theorem State.heatDecay_kept (s : State) (f : Nat) (u0 : State) : Kept (State.heatDecay s f) u0 ↔ Kept s u0 := by simp [State.heatDecay]

@[simp] theorem State.calFailed_kept (s : State) (u0 : State) : Kept (State.calFailed s) u0 ↔ Kept s u0 := by simp [State.calFailed]

@[simp] theorem State.sensorCal_kept (s : State) (f : Nat) (ok : Bool) (u0 : State) : Kept (State.sensorCal s f ok) u0 ↔ Kept s u0 := by
  simp [State.sensorCal]

@[simp] theorem State.pllCal_kept (s : State) (bitNo : Nat) (ok : Bool) (u0 : State) : Kept (State.pllCal s bitNo ok) u0 ↔ Kept s u0 := by
  simp [State.pllCal]

@[simp] theorem State.dramRetrain_kept (s : State) (ok : Bool) (u0 : State) : Kept (State.dramRetrain s ok) u0 ↔ Kept s u0 := by
  simp [State.dramRetrain]

@[simp] theorem State.vcoreAdjust_kept (s : State) (want : Nat) (meas : Nat) (u0 : State) : Kept (State.vcoreAdjust s want meas) u0 ↔ Kept s u0 := by
  simp [State.vcoreAdjust]

@[simp] theorem State.fwHandover_kept (s : State) (u0 : State) : Kept (State.fwHandover s) u0 ↔ Kept s u0 := by simp [State.fwHandover]

@[simp] theorem State.fwAnswer_kept (s : State) (status : Nat) (u0 : State) : Kept (State.fwAnswer s status) u0 ↔ Kept s u0 := by
  unfold State.fwAnswer
  (repeat' split) <;> simp

@[simp] theorem State.fwRuns_kept (s : State) (u0 : State) : Kept (State.fwRuns s) u0 ↔ Kept s u0 := by simp [State.fwRuns]

@[simp] theorem State.fwWatchdog_kept (s : State) (u0 : State) : Kept (State.fwWatchdog s) u0 ↔ Kept s u0 := by simp [State.fwWatchdog]

@[simp] theorem State.fwConfirm_kept (s : State) (u0 : State) : Kept (State.fwConfirm s) u0 ↔ Kept s u0 := by simp [State.fwConfirm]

/-! ### Debug -/

@[simp] theorem State.dropCompletions_kept (s : State) (h : Nat) (u0 : State) : Kept (State.dropCompletions s h) u0 ↔ Kept s u0 := by
  simp [State.dropCompletions]

@[simp] theorem State.resetFunction_kept (s : State) (fn : Nat) (u0 : State) : Kept (State.resetFunction s fn) u0 ↔ Kept s u0 := by
  simp [State.resetFunction]

@[simp] theorem State.resetQueues_kept (s : State) (h : Nat) (u0 : State) : Kept (State.resetQueues s h) u0 ↔ Kept s u0 := by simp [State.resetQueues]

@[simp] theorem State.resetPasses_kept (s : State) (h : Nat) (u0 : State) : Kept (State.resetPasses s h) u0 ↔ Kept s u0 := by simp [State.resetPasses]

@[simp] theorem State.resetHouse_kept (s : State) (h : Nat) (u0 : State) : Kept (State.resetHouse s h) u0 ↔ Kept s u0 := by simp [State.resetHouse]

@[simp] theorem State.flr_kept (s : State) (fn : Nat) (u0 : State) : Kept (State.flr s fn) u0 ↔ Kept s u0 := by simp [State.flr]

@[simp] theorem State.perst_kept (s : State) (u0 : State) : Kept (State.perst s) u0 ↔ Kept s u0 := by simp [State.perst]

@[simp] theorem State.jtagInstr_kept (s : State) (n : Nat) (u0 : State) : Kept (State.jtagInstr s n) u0 ↔ Kept s u0 := by simp [State.jtagInstr]

@[simp] theorem State.jtagIdcode_kept (s : State) (u0 : State) : Kept (State.jtagIdcode s) u0 ↔ Kept s u0 := by simp [State.jtagIdcode]

@[simp] theorem State.jtagBypass_kept (s : State) (tdi : Bool) (u0 : State) : Kept (State.jtagBypass s tdi) u0 ↔ Kept s u0 := by
  simp [State.jtagBypass]

@[simp] theorem State.jtagScan_kept (s : State) (n : Nat) (captured : Nat) (content : Nat) (u0 : State) :
    Kept (State.jtagScan s n captured content) u0 ↔ Kept s u0 := by
  simp [State.jtagScan]

@[simp] theorem State.jtagSample_kept (s : State) (pins : Nat) (content : Nat) (u0 : State) :
    Kept (State.jtagSample s pins content) u0 ↔ Kept s u0 := by
  simp [State.jtagSample]

@[simp] theorem State.jtagExtest_kept (s : State) (pins : Nat) (content : Nat) (u0 : State) :
    Kept (State.jtagExtest s pins content) u0 ↔ Kept s u0 := by
  simp [State.jtagExtest]

@[simp] theorem State.jtagIntest_kept (s : State) (content : Nat) (u0 : State) : Kept (State.jtagIntest s content) u0 ↔ Kept s u0 := by
  simp [State.jtagIntest]

@[simp] theorem State.jtagTcd_kept (s : State) (wr : Bool) (off : Nat) (v : Word) (u0 : State) : Kept (State.jtagTcd s wr off v) u0 ↔ Kept s u0 := by
  simp [State.jtagTcd]

@[simp] theorem State.hdcpProvision_kept (s : State) (u0 : State) : Kept (State.hdcpProvision s) u0 ↔ Kept s u0 := by simp [State.hdcpProvision]

@[simp] theorem State.gpioLevel_kept (s : State) (pin : Nat) (mode : Nat) (irq : Nat) (level : Bool) (u0 : State) :
    Kept (State.gpioLevel s pin mode irq level) u0 ↔ Kept s u0 := by
  simp [State.gpioLevel]

/-! ### DeanSlot -/

@[simp] theorem State.badOpcode_kept (s : State) (op : Nat) (d : DeanCmd) (u0 : State) : Kept (State.badOpcode s op d).1 u0 ↔ Kept s u0 := by
  simp [State.badOpcode]

/-- A record taken destroys at most keys. -/
theorem State.runRecord_keys (s : State) (x : Nat × DeanCmd) : KeysKept (s.runRecord x).1 s := by
  unfold State.runRecord
  split
  · rename_i f h
    unfold deanOp at h
    split at h <;> cases h <;> first | exact Kept.keys (by simp) | exact State.cmdDebugSet_keys _ _
  · exact Kept.keys (by simp)

@[simp] theorem State.takeHead_kept (s : State) (q : Nat) (u0 : State) : Kept (State.takeHead s q) u0 ↔ Kept s u0 := by simp [State.takeHead]

/-- A source served destroys at most keys. -/
theorem State.serveSource_keys (s : State) (h : Fin 8) (src : Option Nat) : KeysKept (s.serveSource h src).1 s := by
  unfold State.serveSource
  extract_lets x
  split
  · exact State.runRecord_keys _ _
  · rename_i q
    have k (s1 : State) (hk : Kept s1 s) : KeysKept (s1.runRecord x).1 s := (State.runRecord_keys s1 x).trans hk.keys
    extract_lets old next
    split
    rename_i t taken e
    have g := k (({ s with service := { s.service with slotNext := mapSet (fun _ => 0) s.service.slotNext h (q + 1) } } : State).takeHead q) (by simp)
    rw [e] at g
    split
    · exact g
    · exact ⟨g.1, g.2, g.3, g.4, g.5⟩

/-- A slot's commands destroy at most keys. -/
theorem State.serveSlot_keys (h : Fin 8) (n : Nat) (skip : List (Option Nat)) (s : State) : KeysKept (State.serveSlot h n skip s) s := by
  induction n generalizing skip s with
  | zero => exact Kept.keys (kept_refl s)
  | succ n ih =>
    unfold State.serveSlot
    split
    · exact Kept.keys (kept_refl s)
    · exact (ih _ _).trans (s.serveSource_keys h _)

@[simp] theorem State.mbxAnswer_kept (s : State) (h : Nat) (c : Completion) (u0 : State) : Kept (State.mbxAnswer s h c) u0 ↔ Kept s u0 := by
  simp [State.mbxAnswer]

@[simp] theorem State.writeDone_kept (s : State) (h : Nat) (c : Completion) (u0 : State) : Kept (State.writeDone s h c) u0 ↔ Kept s u0 := by
  unfold State.writeDone
  (repeat' split) <;> simp

@[simp] theorem State.writeDones_kept (s : State) (h : Nat) (u0 : State) : Kept (State.writeDones s h) u0 ↔ Kept s u0 := by simp [State.writeDones]

@[simp] theorem State.rescueRestart_kept (s : State) (u0 : State) : Kept (State.rescueRestart s) u0 ↔ Kept s u0 := by simp [State.rescueRestart]

/-- A slot of the Dean destroys at most keys. -/
theorem State.deanSlot_keys (s : State) (h : Fin 8) (n : Nat) : KeysKept (s.deanSlot h n) s := by
  unfold State.deanSlot
  extract_lets s1 st
  have k : KeysKept s1 s := Kept.keys (by simp [s1])
  clear_value s1
  split
  · exact (Kept.keys (by simp)).trans ((State.serveSlot_keys h n [] s1).trans k)
  · exact k

end Sys2Proof.Machine
end

