-- ==== Sys2Proof/Laws/State.lean ====
section
/-! SUPPORT. The laws of the state: for each update, that every other field is as before, and that what is written reads back. -/
namespace Sys2Proof.Machine

/-- State.wr changes regs alone. -/
@[simp] theorem State.wr_frame (s : State) (r : Nat) (v : Word) :
    (State.wr s r v).pending = s.pending ∧ (State.wr s r v).snaps = s.snaps ∧ (State.wr s r v).out = s.out ∧
    (State.wr s r v).freeCtr = s.freeCtr ∧ (State.wr s r v).resetN = s.resetN ∧ (State.wr s r v).power = s.power ∧
    (State.wr s r v).fuses = s.fuses ∧ (State.wr s r v).grants = s.grants ∧ (State.wr s r v).queueAux = s.queueAux ∧
    (State.wr s r v).waiters = s.waiters ∧ (State.wr s r v).rasters = s.rasters ∧ (State.wr s r v).cores = s.cores ∧
    (State.wr s r v).forms = s.forms ∧ (State.wr s r v).noBand = s.noBand ∧ (State.wr s r v).engines = s.engines ∧ (State.wr s r v).lib = s.lib ∧
    (State.wr s r v).locker = s.locker ∧ (State.wr s r v).desk = s.desk ∧ (State.wr s r v).istore = s.istore ∧ (State.wr s r v).dram = s.dram ∧
    (State.wr s r v).host = s.host ∧ (State.wr s r v).flash = s.flash ∧ (State.wr s r v).ecc = s.ecc ∧ (State.wr s r v).pages = s.pages ∧
    (State.wr s r v).priOn = s.priOn ∧ (State.wr s r v).shelfTags = s.shelfTags ∧ (State.wr s r v).shelfSlots = s.shelfSlots ∧
    (State.wr s r v).shelfLru = s.shelfLru ∧ (State.wr s r v).xlate = s.xlate ∧ (State.wr s r v).lastMap = s.lastMap ∧
    (State.wr s r v).fills = s.fills ∧ (State.wr s r v).late = s.late ∧ (State.wr s r v).bandRecs = s.bandRecs ∧ (State.wr s r v).corr = s.corr ∧
    (State.wr s r v).completions = s.completions ∧ (State.wr s r v).pipes = s.pipes ∧ (State.wr s r v).bandEnts = s.bandEnts ∧
    (State.wr s r v).subJobs = s.subJobs ∧ (State.wr s r v).bells = s.bells ∧ (State.wr s r v).swap = s.swap ∧
    (State.wr s r v).commitSlots = s.commitSlots ∧ (State.wr s r v).accepted = s.accepted ∧ (State.wr s r v).glActive = s.glActive ∧
    (State.wr s r v).glHidden = s.glHidden ∧ (State.wr s r v).canvasMeta = s.canvasMeta ∧ (State.wr s r v).flat = s.flat ∧
    (State.wr s r v).flatLines = s.flatLines ∧ (State.wr s r v).asked = s.asked ∧ (State.wr s r v).protects = s.protects ∧
    (State.wr s r v).ports = s.ports ∧ (State.wr s r v).pclk = s.pclk ∧ (State.wr s r v).trackers = s.trackers ∧
    (State.wr s r v).models = s.models ∧ (State.wr s r v).loaded = s.loaded ∧ (State.wr s r v).runs = s.runs ∧ (State.wr s r v).walks = s.walks ∧
    (State.wr s r v).hostFrame = s.hostFrame ∧ (State.wr s r v).parts = s.parts ∧ (State.wr s r v).prepared = s.prepared ∧
    (State.wr s r v).shown = s.shown ∧ (State.wr s r v).formTiers = s.formTiers ∧ (State.wr s r v).handoffs = s.handoffs ∧
    (State.wr s r v).hw = s.hw ∧ (State.wr s r v).ckpts = s.ckpts ∧ (State.wr s r v).journal = s.journal ∧ (State.wr s r v).saves = s.saves ∧
    (State.wr s r v).scopedHouses = s.scopedHouses ∧ (State.wr s r v).deviceOpen = s.deviceOpen ∧ (State.wr s r v).jtag = s.jtag ∧
    (State.wr s r v).gpio = s.gpio ∧ (State.wr s r v).service = s.service := by
  refine ⟨rfl, rfl, rfl, rfl, rfl, rfl, rfl, rfl, rfl, rfl, rfl, rfl, rfl, rfl, rfl, rfl, rfl, rfl, rfl, rfl, rfl, rfl, rfl, rfl, rfl, rfl, rfl, rfl, rfl, rfl, rfl, rfl, rfl, rfl, rfl, rfl, rfl, rfl, rfl, rfl, rfl, rfl, rfl, rfl, rfl, rfl, rfl, rfl, rfl, rfl, rfl, rfl, rfl, rfl, rfl, rfl, rfl, rfl, rfl, rfl, rfl, rfl, rfl, rfl, rfl, rfl, rfl, rfl, rfl, rfl, rfl⟩

/-- State.wrF changes regs alone. -/
@[simp] theorem State.wrF_frame (s : State) (r hi lo v : Nat) :
    (State.wrF s r hi lo v).pending = s.pending ∧ (State.wrF s r hi lo v).snaps = s.snaps ∧ (State.wrF s r hi lo v).out = s.out ∧
    (State.wrF s r hi lo v).freeCtr = s.freeCtr ∧ (State.wrF s r hi lo v).resetN = s.resetN ∧ (State.wrF s r hi lo v).power = s.power ∧
    (State.wrF s r hi lo v).fuses = s.fuses ∧ (State.wrF s r hi lo v).grants = s.grants ∧ (State.wrF s r hi lo v).queueAux = s.queueAux ∧
    (State.wrF s r hi lo v).waiters = s.waiters ∧ (State.wrF s r hi lo v).rasters = s.rasters ∧ (State.wrF s r hi lo v).cores = s.cores ∧
    (State.wrF s r hi lo v).forms = s.forms ∧ (State.wrF s r hi lo v).noBand = s.noBand ∧ (State.wrF s r hi lo v).engines = s.engines ∧
    (State.wrF s r hi lo v).lib = s.lib ∧ (State.wrF s r hi lo v).locker = s.locker ∧ (State.wrF s r hi lo v).desk = s.desk ∧
    (State.wrF s r hi lo v).istore = s.istore ∧ (State.wrF s r hi lo v).dram = s.dram ∧ (State.wrF s r hi lo v).host = s.host ∧
    (State.wrF s r hi lo v).flash = s.flash ∧ (State.wrF s r hi lo v).ecc = s.ecc ∧ (State.wrF s r hi lo v).pages = s.pages ∧
    (State.wrF s r hi lo v).priOn = s.priOn ∧ (State.wrF s r hi lo v).shelfTags = s.shelfTags ∧
    (State.wrF s r hi lo v).shelfSlots = s.shelfSlots ∧ (State.wrF s r hi lo v).shelfLru = s.shelfLru ∧ (State.wrF s r hi lo v).xlate = s.xlate ∧
    (State.wrF s r hi lo v).lastMap = s.lastMap ∧ (State.wrF s r hi lo v).fills = s.fills ∧ (State.wrF s r hi lo v).late = s.late ∧
    (State.wrF s r hi lo v).bandRecs = s.bandRecs ∧ (State.wrF s r hi lo v).corr = s.corr ∧ (State.wrF s r hi lo v).completions = s.completions ∧
    (State.wrF s r hi lo v).pipes = s.pipes ∧ (State.wrF s r hi lo v).bandEnts = s.bandEnts ∧ (State.wrF s r hi lo v).subJobs = s.subJobs ∧
    (State.wrF s r hi lo v).bells = s.bells ∧ (State.wrF s r hi lo v).swap = s.swap ∧ (State.wrF s r hi lo v).commitSlots = s.commitSlots ∧
    (State.wrF s r hi lo v).accepted = s.accepted ∧ (State.wrF s r hi lo v).glActive = s.glActive ∧
    (State.wrF s r hi lo v).glHidden = s.glHidden ∧ (State.wrF s r hi lo v).canvasMeta = s.canvasMeta ∧ (State.wrF s r hi lo v).flat = s.flat ∧
    (State.wrF s r hi lo v).flatLines = s.flatLines ∧ (State.wrF s r hi lo v).asked = s.asked ∧ (State.wrF s r hi lo v).protects = s.protects ∧
    (State.wrF s r hi lo v).ports = s.ports ∧ (State.wrF s r hi lo v).pclk = s.pclk ∧ (State.wrF s r hi lo v).trackers = s.trackers ∧
    (State.wrF s r hi lo v).models = s.models ∧ (State.wrF s r hi lo v).loaded = s.loaded ∧ (State.wrF s r hi lo v).runs = s.runs ∧
    (State.wrF s r hi lo v).walks = s.walks ∧ (State.wrF s r hi lo v).hostFrame = s.hostFrame ∧ (State.wrF s r hi lo v).parts = s.parts ∧
    (State.wrF s r hi lo v).prepared = s.prepared ∧ (State.wrF s r hi lo v).shown = s.shown ∧ (State.wrF s r hi lo v).formTiers = s.formTiers ∧
    (State.wrF s r hi lo v).handoffs = s.handoffs ∧ (State.wrF s r hi lo v).hw = s.hw ∧ (State.wrF s r hi lo v).ckpts = s.ckpts ∧
    (State.wrF s r hi lo v).journal = s.journal ∧ (State.wrF s r hi lo v).saves = s.saves ∧
    (State.wrF s r hi lo v).scopedHouses = s.scopedHouses ∧ (State.wrF s r hi lo v).deviceOpen = s.deviceOpen ∧
    (State.wrF s r hi lo v).jtag = s.jtag ∧ (State.wrF s r hi lo v).gpio = s.gpio ∧ (State.wrF s r hi lo v).service = s.service := by
  refine ⟨rfl, rfl, rfl, rfl, rfl, rfl, rfl, rfl, rfl, rfl, rfl, rfl, rfl, rfl, rfl, rfl, rfl, rfl, rfl, rfl, rfl, rfl, rfl, rfl, rfl, rfl, rfl, rfl, rfl, rfl, rfl, rfl, rfl, rfl, rfl, rfl, rfl, rfl, rfl, rfl, rfl, rfl, rfl, rfl, rfl, rfl, rfl, rfl, rfl, rfl, rfl, rfl, rfl, rfl, rfl, rfl, rfl, rfl, rfl, rfl, rfl, rfl, rfl, rfl, rfl, rfl, rfl, rfl, rfl, rfl, rfl⟩

/-- State.wr64 changes regs alone. -/
@[simp] theorem State.wr64_frame (s : State) (lo hi v : Nat) :
    (State.wr64 s lo hi v).pending = s.pending ∧ (State.wr64 s lo hi v).snaps = s.snaps ∧ (State.wr64 s lo hi v).out = s.out ∧
    (State.wr64 s lo hi v).freeCtr = s.freeCtr ∧ (State.wr64 s lo hi v).resetN = s.resetN ∧ (State.wr64 s lo hi v).power = s.power ∧
    (State.wr64 s lo hi v).fuses = s.fuses ∧ (State.wr64 s lo hi v).grants = s.grants ∧ (State.wr64 s lo hi v).queueAux = s.queueAux ∧
    (State.wr64 s lo hi v).waiters = s.waiters ∧ (State.wr64 s lo hi v).rasters = s.rasters ∧ (State.wr64 s lo hi v).cores = s.cores ∧
    (State.wr64 s lo hi v).forms = s.forms ∧ (State.wr64 s lo hi v).noBand = s.noBand ∧ (State.wr64 s lo hi v).engines = s.engines ∧
    (State.wr64 s lo hi v).lib = s.lib ∧ (State.wr64 s lo hi v).locker = s.locker ∧ (State.wr64 s lo hi v).desk = s.desk ∧
    (State.wr64 s lo hi v).istore = s.istore ∧ (State.wr64 s lo hi v).dram = s.dram ∧ (State.wr64 s lo hi v).host = s.host ∧
    (State.wr64 s lo hi v).flash = s.flash ∧ (State.wr64 s lo hi v).ecc = s.ecc ∧ (State.wr64 s lo hi v).pages = s.pages ∧
    (State.wr64 s lo hi v).priOn = s.priOn ∧ (State.wr64 s lo hi v).shelfTags = s.shelfTags ∧ (State.wr64 s lo hi v).shelfSlots = s.shelfSlots ∧
    (State.wr64 s lo hi v).shelfLru = s.shelfLru ∧ (State.wr64 s lo hi v).xlate = s.xlate ∧ (State.wr64 s lo hi v).lastMap = s.lastMap ∧
    (State.wr64 s lo hi v).fills = s.fills ∧ (State.wr64 s lo hi v).late = s.late ∧ (State.wr64 s lo hi v).bandRecs = s.bandRecs ∧
    (State.wr64 s lo hi v).corr = s.corr ∧ (State.wr64 s lo hi v).completions = s.completions ∧ (State.wr64 s lo hi v).pipes = s.pipes ∧
    (State.wr64 s lo hi v).bandEnts = s.bandEnts ∧ (State.wr64 s lo hi v).subJobs = s.subJobs ∧ (State.wr64 s lo hi v).bells = s.bells ∧
    (State.wr64 s lo hi v).swap = s.swap ∧ (State.wr64 s lo hi v).commitSlots = s.commitSlots ∧ (State.wr64 s lo hi v).accepted = s.accepted ∧
    (State.wr64 s lo hi v).glActive = s.glActive ∧ (State.wr64 s lo hi v).glHidden = s.glHidden ∧
    (State.wr64 s lo hi v).canvasMeta = s.canvasMeta ∧ (State.wr64 s lo hi v).flat = s.flat ∧ (State.wr64 s lo hi v).flatLines = s.flatLines ∧
    (State.wr64 s lo hi v).asked = s.asked ∧ (State.wr64 s lo hi v).protects = s.protects ∧ (State.wr64 s lo hi v).ports = s.ports ∧
    (State.wr64 s lo hi v).pclk = s.pclk ∧ (State.wr64 s lo hi v).trackers = s.trackers ∧ (State.wr64 s lo hi v).models = s.models ∧
    (State.wr64 s lo hi v).loaded = s.loaded ∧ (State.wr64 s lo hi v).runs = s.runs ∧ (State.wr64 s lo hi v).walks = s.walks ∧
    (State.wr64 s lo hi v).hostFrame = s.hostFrame ∧ (State.wr64 s lo hi v).parts = s.parts ∧ (State.wr64 s lo hi v).prepared = s.prepared ∧
    (State.wr64 s lo hi v).shown = s.shown ∧ (State.wr64 s lo hi v).formTiers = s.formTiers ∧ (State.wr64 s lo hi v).handoffs = s.handoffs ∧
    (State.wr64 s lo hi v).hw = s.hw ∧ (State.wr64 s lo hi v).ckpts = s.ckpts ∧ (State.wr64 s lo hi v).journal = s.journal ∧
    (State.wr64 s lo hi v).saves = s.saves ∧ (State.wr64 s lo hi v).scopedHouses = s.scopedHouses ∧
    (State.wr64 s lo hi v).deviceOpen = s.deviceOpen ∧ (State.wr64 s lo hi v).jtag = s.jtag ∧ (State.wr64 s lo hi v).gpio = s.gpio ∧
    (State.wr64 s lo hi v).service = s.service := by
  refine ⟨rfl, rfl, rfl, rfl, rfl, rfl, rfl, rfl, rfl, rfl, rfl, rfl, rfl, rfl, rfl, rfl, rfl, rfl, rfl, rfl, rfl, rfl, rfl, rfl, rfl, rfl, rfl, rfl, rfl, rfl, rfl, rfl, rfl, rfl, rfl, rfl, rfl, rfl, rfl, rfl, rfl, rfl, rfl, rfl, rfl, rfl, rfl, rfl, rfl, rfl, rfl, rfl, rfl, rfl, rfl, rfl, rfl, rfl, rfl, rfl, rfl, rfl, rfl, rfl, rfl, rfl, rfl, rfl, rfl, rfl, rfl⟩

/-- State.emit changes out alone. -/
@[simp] theorem State.emit_frame (s : State) (o : Output) :
    (State.emit s o).pending = s.pending ∧ (State.emit s o).regs = s.regs ∧ (State.emit s o).snaps = s.snaps ∧
    (State.emit s o).freeCtr = s.freeCtr ∧ (State.emit s o).resetN = s.resetN ∧ (State.emit s o).power = s.power ∧
    (State.emit s o).fuses = s.fuses ∧ (State.emit s o).grants = s.grants ∧ (State.emit s o).queueAux = s.queueAux ∧
    (State.emit s o).waiters = s.waiters ∧ (State.emit s o).rasters = s.rasters ∧ (State.emit s o).cores = s.cores ∧
    (State.emit s o).forms = s.forms ∧ (State.emit s o).noBand = s.noBand ∧ (State.emit s o).engines = s.engines ∧ (State.emit s o).lib = s.lib ∧
    (State.emit s o).locker = s.locker ∧ (State.emit s o).desk = s.desk ∧ (State.emit s o).istore = s.istore ∧ (State.emit s o).dram = s.dram ∧
    (State.emit s o).host = s.host ∧ (State.emit s o).flash = s.flash ∧ (State.emit s o).ecc = s.ecc ∧ (State.emit s o).pages = s.pages ∧
    (State.emit s o).priOn = s.priOn ∧ (State.emit s o).shelfTags = s.shelfTags ∧ (State.emit s o).shelfSlots = s.shelfSlots ∧
    (State.emit s o).shelfLru = s.shelfLru ∧ (State.emit s o).xlate = s.xlate ∧ (State.emit s o).lastMap = s.lastMap ∧
    (State.emit s o).fills = s.fills ∧ (State.emit s o).late = s.late ∧ (State.emit s o).bandRecs = s.bandRecs ∧ (State.emit s o).corr = s.corr ∧
    (State.emit s o).completions = s.completions ∧ (State.emit s o).pipes = s.pipes ∧ (State.emit s o).bandEnts = s.bandEnts ∧
    (State.emit s o).subJobs = s.subJobs ∧ (State.emit s o).bells = s.bells ∧ (State.emit s o).swap = s.swap ∧
    (State.emit s o).commitSlots = s.commitSlots ∧ (State.emit s o).accepted = s.accepted ∧ (State.emit s o).glActive = s.glActive ∧
    (State.emit s o).glHidden = s.glHidden ∧ (State.emit s o).canvasMeta = s.canvasMeta ∧ (State.emit s o).flat = s.flat ∧
    (State.emit s o).flatLines = s.flatLines ∧ (State.emit s o).asked = s.asked ∧ (State.emit s o).protects = s.protects ∧
    (State.emit s o).ports = s.ports ∧ (State.emit s o).pclk = s.pclk ∧ (State.emit s o).trackers = s.trackers ∧
    (State.emit s o).models = s.models ∧ (State.emit s o).loaded = s.loaded ∧ (State.emit s o).runs = s.runs ∧ (State.emit s o).walks = s.walks ∧
    (State.emit s o).hostFrame = s.hostFrame ∧ (State.emit s o).parts = s.parts ∧ (State.emit s o).prepared = s.prepared ∧
    (State.emit s o).shown = s.shown ∧ (State.emit s o).formTiers = s.formTiers ∧ (State.emit s o).handoffs = s.handoffs ∧
    (State.emit s o).hw = s.hw ∧ (State.emit s o).ckpts = s.ckpts ∧ (State.emit s o).journal = s.journal ∧ (State.emit s o).saves = s.saves ∧
    (State.emit s o).scopedHouses = s.scopedHouses ∧ (State.emit s o).deviceOpen = s.deviceOpen ∧ (State.emit s o).jtag = s.jtag ∧
    (State.emit s o).gpio = s.gpio ∧ (State.emit s o).service = s.service := by
  refine ⟨rfl, rfl, rfl, rfl, rfl, rfl, rfl, rfl, rfl, rfl, rfl, rfl, rfl, rfl, rfl, rfl, rfl, rfl, rfl, rfl, rfl, rfl, rfl, rfl, rfl, rfl, rfl, rfl, rfl, rfl, rfl, rfl, rfl, rfl, rfl, rfl, rfl, rfl, rfl, rfl, rfl, rfl, rfl, rfl, rfl, rfl, rfl, rfl, rfl, rfl, rfl, rfl, rfl, rfl, rfl, rfl, rfl, rfl, rfl, rfl, rfl, rfl, rfl, rfl, rfl, rfl, rfl, rfl, rfl, rfl, rfl⟩

/-- State.setRaster changes rasters alone. -/
@[simp] theorem State.setRaster_frame (s : State) (n : Nat) (r : RasterAux) :
    (State.setRaster s n r).pending = s.pending ∧ (State.setRaster s n r).regs = s.regs ∧ (State.setRaster s n r).snaps = s.snaps ∧
    (State.setRaster s n r).out = s.out ∧ (State.setRaster s n r).freeCtr = s.freeCtr ∧ (State.setRaster s n r).resetN = s.resetN ∧
    (State.setRaster s n r).power = s.power ∧ (State.setRaster s n r).fuses = s.fuses ∧ (State.setRaster s n r).grants = s.grants ∧
    (State.setRaster s n r).queueAux = s.queueAux ∧ (State.setRaster s n r).waiters = s.waiters ∧ (State.setRaster s n r).cores = s.cores ∧
    (State.setRaster s n r).forms = s.forms ∧ (State.setRaster s n r).noBand = s.noBand ∧ (State.setRaster s n r).engines = s.engines ∧
    (State.setRaster s n r).lib = s.lib ∧ (State.setRaster s n r).locker = s.locker ∧ (State.setRaster s n r).desk = s.desk ∧
    (State.setRaster s n r).istore = s.istore ∧ (State.setRaster s n r).dram = s.dram ∧ (State.setRaster s n r).host = s.host ∧
    (State.setRaster s n r).flash = s.flash ∧ (State.setRaster s n r).ecc = s.ecc ∧ (State.setRaster s n r).pages = s.pages ∧
    (State.setRaster s n r).priOn = s.priOn ∧ (State.setRaster s n r).shelfTags = s.shelfTags ∧
    (State.setRaster s n r).shelfSlots = s.shelfSlots ∧ (State.setRaster s n r).shelfLru = s.shelfLru ∧ (State.setRaster s n r).xlate = s.xlate ∧
    (State.setRaster s n r).lastMap = s.lastMap ∧ (State.setRaster s n r).fills = s.fills ∧ (State.setRaster s n r).late = s.late ∧
    (State.setRaster s n r).bandRecs = s.bandRecs ∧ (State.setRaster s n r).corr = s.corr ∧ (State.setRaster s n r).completions = s.completions ∧
    (State.setRaster s n r).pipes = s.pipes ∧ (State.setRaster s n r).bandEnts = s.bandEnts ∧ (State.setRaster s n r).subJobs = s.subJobs ∧
    (State.setRaster s n r).bells = s.bells ∧ (State.setRaster s n r).swap = s.swap ∧ (State.setRaster s n r).commitSlots = s.commitSlots ∧
    (State.setRaster s n r).accepted = s.accepted ∧ (State.setRaster s n r).glActive = s.glActive ∧
    (State.setRaster s n r).glHidden = s.glHidden ∧ (State.setRaster s n r).canvasMeta = s.canvasMeta ∧ (State.setRaster s n r).flat = s.flat ∧
    (State.setRaster s n r).flatLines = s.flatLines ∧ (State.setRaster s n r).asked = s.asked ∧ (State.setRaster s n r).protects = s.protects ∧
    (State.setRaster s n r).ports = s.ports ∧ (State.setRaster s n r).pclk = s.pclk ∧ (State.setRaster s n r).trackers = s.trackers ∧
    (State.setRaster s n r).models = s.models ∧ (State.setRaster s n r).loaded = s.loaded ∧ (State.setRaster s n r).runs = s.runs ∧
    (State.setRaster s n r).walks = s.walks ∧ (State.setRaster s n r).hostFrame = s.hostFrame ∧ (State.setRaster s n r).parts = s.parts ∧
    (State.setRaster s n r).prepared = s.prepared ∧ (State.setRaster s n r).shown = s.shown ∧ (State.setRaster s n r).formTiers = s.formTiers ∧
    (State.setRaster s n r).handoffs = s.handoffs ∧ (State.setRaster s n r).hw = s.hw ∧ (State.setRaster s n r).ckpts = s.ckpts ∧
    (State.setRaster s n r).journal = s.journal ∧ (State.setRaster s n r).saves = s.saves ∧
    (State.setRaster s n r).scopedHouses = s.scopedHouses ∧ (State.setRaster s n r).deviceOpen = s.deviceOpen ∧
    (State.setRaster s n r).jtag = s.jtag ∧ (State.setRaster s n r).gpio = s.gpio ∧ (State.setRaster s n r).service = s.service := by
  refine ⟨rfl, rfl, rfl, rfl, rfl, rfl, rfl, rfl, rfl, rfl, rfl, rfl, rfl, rfl, rfl, rfl, rfl, rfl, rfl, rfl, rfl, rfl, rfl, rfl, rfl, rfl, rfl, rfl, rfl, rfl, rfl, rfl, rfl, rfl, rfl, rfl, rfl, rfl, rfl, rfl, rfl, rfl, rfl, rfl, rfl, rfl, rfl, rfl, rfl, rfl, rfl, rfl, rfl, rfl, rfl, rfl, rfl, rfl, rfl, rfl, rfl, rfl, rfl, rfl, rfl, rfl, rfl, rfl, rfl, rfl, rfl⟩

/-- State.setCore changes cores alone. -/
@[simp] theorem State.setCore_frame (s : State) (c : Nat) (k : Core) :
    (State.setCore s c k).pending = s.pending ∧ (State.setCore s c k).regs = s.regs ∧ (State.setCore s c k).snaps = s.snaps ∧
    (State.setCore s c k).out = s.out ∧ (State.setCore s c k).freeCtr = s.freeCtr ∧ (State.setCore s c k).resetN = s.resetN ∧
    (State.setCore s c k).power = s.power ∧ (State.setCore s c k).fuses = s.fuses ∧ (State.setCore s c k).grants = s.grants ∧
    (State.setCore s c k).queueAux = s.queueAux ∧ (State.setCore s c k).waiters = s.waiters ∧ (State.setCore s c k).rasters = s.rasters ∧
    (State.setCore s c k).forms = s.forms ∧ (State.setCore s c k).noBand = s.noBand ∧ (State.setCore s c k).engines = s.engines ∧
    (State.setCore s c k).lib = s.lib ∧ (State.setCore s c k).locker = s.locker ∧ (State.setCore s c k).desk = s.desk ∧
    (State.setCore s c k).istore = s.istore ∧ (State.setCore s c k).dram = s.dram ∧ (State.setCore s c k).host = s.host ∧
    (State.setCore s c k).flash = s.flash ∧ (State.setCore s c k).ecc = s.ecc ∧ (State.setCore s c k).pages = s.pages ∧
    (State.setCore s c k).priOn = s.priOn ∧ (State.setCore s c k).shelfTags = s.shelfTags ∧ (State.setCore s c k).shelfSlots = s.shelfSlots ∧
    (State.setCore s c k).shelfLru = s.shelfLru ∧ (State.setCore s c k).xlate = s.xlate ∧ (State.setCore s c k).lastMap = s.lastMap ∧
    (State.setCore s c k).fills = s.fills ∧ (State.setCore s c k).late = s.late ∧ (State.setCore s c k).bandRecs = s.bandRecs ∧
    (State.setCore s c k).corr = s.corr ∧ (State.setCore s c k).completions = s.completions ∧ (State.setCore s c k).pipes = s.pipes ∧
    (State.setCore s c k).bandEnts = s.bandEnts ∧ (State.setCore s c k).subJobs = s.subJobs ∧ (State.setCore s c k).bells = s.bells ∧
    (State.setCore s c k).swap = s.swap ∧ (State.setCore s c k).commitSlots = s.commitSlots ∧ (State.setCore s c k).accepted = s.accepted ∧
    (State.setCore s c k).glActive = s.glActive ∧ (State.setCore s c k).glHidden = s.glHidden ∧ (State.setCore s c k).canvasMeta = s.canvasMeta ∧
    (State.setCore s c k).flat = s.flat ∧ (State.setCore s c k).flatLines = s.flatLines ∧ (State.setCore s c k).asked = s.asked ∧
    (State.setCore s c k).protects = s.protects ∧ (State.setCore s c k).ports = s.ports ∧ (State.setCore s c k).pclk = s.pclk ∧
    (State.setCore s c k).trackers = s.trackers ∧ (State.setCore s c k).models = s.models ∧ (State.setCore s c k).loaded = s.loaded ∧
    (State.setCore s c k).runs = s.runs ∧ (State.setCore s c k).walks = s.walks ∧ (State.setCore s c k).hostFrame = s.hostFrame ∧
    (State.setCore s c k).parts = s.parts ∧ (State.setCore s c k).prepared = s.prepared ∧ (State.setCore s c k).shown = s.shown ∧
    (State.setCore s c k).formTiers = s.formTiers ∧ (State.setCore s c k).handoffs = s.handoffs ∧ (State.setCore s c k).hw = s.hw ∧
    (State.setCore s c k).ckpts = s.ckpts ∧ (State.setCore s c k).journal = s.journal ∧ (State.setCore s c k).saves = s.saves ∧
    (State.setCore s c k).scopedHouses = s.scopedHouses ∧ (State.setCore s c k).deviceOpen = s.deviceOpen ∧ (State.setCore s c k).jtag = s.jtag ∧
    (State.setCore s c k).gpio = s.gpio ∧ (State.setCore s c k).service = s.service := by
  refine ⟨rfl, rfl, rfl, rfl, rfl, rfl, rfl, rfl, rfl, rfl, rfl, rfl, rfl, rfl, rfl, rfl, rfl, rfl, rfl, rfl, rfl, rfl, rfl, rfl, rfl, rfl, rfl, rfl, rfl, rfl, rfl, rfl, rfl, rfl, rfl, rfl, rfl, rfl, rfl, rfl, rfl, rfl, rfl, rfl, rfl, rfl, rfl, rfl, rfl, rfl, rfl, rfl, rfl, rfl, rfl, rfl, rfl, rfl, rfl, rfl, rfl, rfl, rfl, rfl, rfl, rfl, rfl, rfl, rfl, rfl, rfl⟩

/-- State.onCore changes cores alone. -/
@[simp] theorem State.onCore_frame (s : State) (c : Nat) (f : Core → Core) :
    (State.onCore s c f).pending = s.pending ∧ (State.onCore s c f).regs = s.regs ∧ (State.onCore s c f).snaps = s.snaps ∧
    (State.onCore s c f).out = s.out ∧ (State.onCore s c f).freeCtr = s.freeCtr ∧ (State.onCore s c f).resetN = s.resetN ∧
    (State.onCore s c f).power = s.power ∧ (State.onCore s c f).fuses = s.fuses ∧ (State.onCore s c f).grants = s.grants ∧
    (State.onCore s c f).queueAux = s.queueAux ∧ (State.onCore s c f).waiters = s.waiters ∧ (State.onCore s c f).rasters = s.rasters ∧
    (State.onCore s c f).forms = s.forms ∧ (State.onCore s c f).noBand = s.noBand ∧ (State.onCore s c f).engines = s.engines ∧
    (State.onCore s c f).lib = s.lib ∧ (State.onCore s c f).locker = s.locker ∧ (State.onCore s c f).desk = s.desk ∧
    (State.onCore s c f).istore = s.istore ∧ (State.onCore s c f).dram = s.dram ∧ (State.onCore s c f).host = s.host ∧
    (State.onCore s c f).flash = s.flash ∧ (State.onCore s c f).ecc = s.ecc ∧ (State.onCore s c f).pages = s.pages ∧
    (State.onCore s c f).priOn = s.priOn ∧ (State.onCore s c f).shelfTags = s.shelfTags ∧ (State.onCore s c f).shelfSlots = s.shelfSlots ∧
    (State.onCore s c f).shelfLru = s.shelfLru ∧ (State.onCore s c f).xlate = s.xlate ∧ (State.onCore s c f).lastMap = s.lastMap ∧
    (State.onCore s c f).fills = s.fills ∧ (State.onCore s c f).late = s.late ∧ (State.onCore s c f).bandRecs = s.bandRecs ∧
    (State.onCore s c f).corr = s.corr ∧ (State.onCore s c f).completions = s.completions ∧ (State.onCore s c f).pipes = s.pipes ∧
    (State.onCore s c f).bandEnts = s.bandEnts ∧ (State.onCore s c f).subJobs = s.subJobs ∧ (State.onCore s c f).bells = s.bells ∧
    (State.onCore s c f).swap = s.swap ∧ (State.onCore s c f).commitSlots = s.commitSlots ∧ (State.onCore s c f).accepted = s.accepted ∧
    (State.onCore s c f).glActive = s.glActive ∧ (State.onCore s c f).glHidden = s.glHidden ∧ (State.onCore s c f).canvasMeta = s.canvasMeta ∧
    (State.onCore s c f).flat = s.flat ∧ (State.onCore s c f).flatLines = s.flatLines ∧ (State.onCore s c f).asked = s.asked ∧
    (State.onCore s c f).protects = s.protects ∧ (State.onCore s c f).ports = s.ports ∧ (State.onCore s c f).pclk = s.pclk ∧
    (State.onCore s c f).trackers = s.trackers ∧ (State.onCore s c f).models = s.models ∧ (State.onCore s c f).loaded = s.loaded ∧
    (State.onCore s c f).runs = s.runs ∧ (State.onCore s c f).walks = s.walks ∧ (State.onCore s c f).hostFrame = s.hostFrame ∧
    (State.onCore s c f).parts = s.parts ∧ (State.onCore s c f).prepared = s.prepared ∧ (State.onCore s c f).shown = s.shown ∧
    (State.onCore s c f).formTiers = s.formTiers ∧ (State.onCore s c f).handoffs = s.handoffs ∧ (State.onCore s c f).hw = s.hw ∧
    (State.onCore s c f).ckpts = s.ckpts ∧ (State.onCore s c f).journal = s.journal ∧ (State.onCore s c f).saves = s.saves ∧
    (State.onCore s c f).scopedHouses = s.scopedHouses ∧ (State.onCore s c f).deviceOpen = s.deviceOpen ∧ (State.onCore s c f).jtag = s.jtag ∧
    (State.onCore s c f).gpio = s.gpio ∧ (State.onCore s c f).service = s.service := by
  refine ⟨rfl, rfl, rfl, rfl, rfl, rfl, rfl, rfl, rfl, rfl, rfl, rfl, rfl, rfl, rfl, rfl, rfl, rfl, rfl, rfl, rfl, rfl, rfl, rfl, rfl, rfl, rfl, rfl, rfl, rfl, rfl, rfl, rfl, rfl, rfl, rfl, rfl, rfl, rfl, rfl, rfl, rfl, rfl, rfl, rfl, rfl, rfl, rfl, rfl, rfl, rfl, rfl, rfl, rfl, rfl, rfl, rfl, rfl, rfl, rfl, rfl, rfl, rfl, rfl, rfl, rfl, rfl, rfl, rfl, rfl, rfl⟩

/-- State.setForm changes forms alone. -/
@[simp] theorem State.setForm_frame (s : State) (f : Nat) (x : Form) :
    (State.setForm s f x).pending = s.pending ∧ (State.setForm s f x).regs = s.regs ∧ (State.setForm s f x).snaps = s.snaps ∧
    (State.setForm s f x).out = s.out ∧ (State.setForm s f x).freeCtr = s.freeCtr ∧ (State.setForm s f x).resetN = s.resetN ∧
    (State.setForm s f x).power = s.power ∧ (State.setForm s f x).fuses = s.fuses ∧ (State.setForm s f x).grants = s.grants ∧
    (State.setForm s f x).queueAux = s.queueAux ∧ (State.setForm s f x).waiters = s.waiters ∧ (State.setForm s f x).rasters = s.rasters ∧
    (State.setForm s f x).cores = s.cores ∧ (State.setForm s f x).noBand = s.noBand ∧ (State.setForm s f x).engines = s.engines ∧
    (State.setForm s f x).lib = s.lib ∧ (State.setForm s f x).locker = s.locker ∧ (State.setForm s f x).desk = s.desk ∧
    (State.setForm s f x).istore = s.istore ∧ (State.setForm s f x).dram = s.dram ∧ (State.setForm s f x).host = s.host ∧
    (State.setForm s f x).flash = s.flash ∧ (State.setForm s f x).ecc = s.ecc ∧ (State.setForm s f x).pages = s.pages ∧
    (State.setForm s f x).priOn = s.priOn ∧ (State.setForm s f x).shelfTags = s.shelfTags ∧ (State.setForm s f x).shelfSlots = s.shelfSlots ∧
    (State.setForm s f x).shelfLru = s.shelfLru ∧ (State.setForm s f x).xlate = s.xlate ∧ (State.setForm s f x).lastMap = s.lastMap ∧
    (State.setForm s f x).fills = s.fills ∧ (State.setForm s f x).late = s.late ∧ (State.setForm s f x).bandRecs = s.bandRecs ∧
    (State.setForm s f x).corr = s.corr ∧ (State.setForm s f x).completions = s.completions ∧ (State.setForm s f x).pipes = s.pipes ∧
    (State.setForm s f x).bandEnts = s.bandEnts ∧ (State.setForm s f x).subJobs = s.subJobs ∧ (State.setForm s f x).bells = s.bells ∧
    (State.setForm s f x).swap = s.swap ∧ (State.setForm s f x).commitSlots = s.commitSlots ∧ (State.setForm s f x).accepted = s.accepted ∧
    (State.setForm s f x).glActive = s.glActive ∧ (State.setForm s f x).glHidden = s.glHidden ∧ (State.setForm s f x).canvasMeta = s.canvasMeta ∧
    (State.setForm s f x).flat = s.flat ∧ (State.setForm s f x).flatLines = s.flatLines ∧ (State.setForm s f x).asked = s.asked ∧
    (State.setForm s f x).protects = s.protects ∧ (State.setForm s f x).ports = s.ports ∧ (State.setForm s f x).pclk = s.pclk ∧
    (State.setForm s f x).trackers = s.trackers ∧ (State.setForm s f x).models = s.models ∧ (State.setForm s f x).loaded = s.loaded ∧
    (State.setForm s f x).runs = s.runs ∧ (State.setForm s f x).walks = s.walks ∧ (State.setForm s f x).hostFrame = s.hostFrame ∧
    (State.setForm s f x).parts = s.parts ∧ (State.setForm s f x).prepared = s.prepared ∧ (State.setForm s f x).shown = s.shown ∧
    (State.setForm s f x).formTiers = s.formTiers ∧ (State.setForm s f x).handoffs = s.handoffs ∧ (State.setForm s f x).hw = s.hw ∧
    (State.setForm s f x).ckpts = s.ckpts ∧ (State.setForm s f x).journal = s.journal ∧ (State.setForm s f x).saves = s.saves ∧
    (State.setForm s f x).scopedHouses = s.scopedHouses ∧ (State.setForm s f x).deviceOpen = s.deviceOpen ∧ (State.setForm s f x).jtag = s.jtag ∧
    (State.setForm s f x).gpio = s.gpio ∧ (State.setForm s f x).service = s.service := by
  refine ⟨rfl, rfl, rfl, rfl, rfl, rfl, rfl, rfl, rfl, rfl, rfl, rfl, rfl, rfl, rfl, rfl, rfl, rfl, rfl, rfl, rfl, rfl, rfl, rfl, rfl, rfl, rfl, rfl, rfl, rfl, rfl, rfl, rfl, rfl, rfl, rfl, rfl, rfl, rfl, rfl, rfl, rfl, rfl, rfl, rfl, rfl, rfl, rfl, rfl, rfl, rfl, rfl, rfl, rfl, rfl, rfl, rfl, rfl, rfl, rfl, rfl, rfl, rfl, rfl, rfl, rfl, rfl, rfl, rfl, rfl, rfl⟩

/-- State.setEng changes engines alone. -/
@[simp] theorem State.setEng_frame (s : State) (e : Nat) (x : DmaEng) :
    (State.setEng s e x).pending = s.pending ∧ (State.setEng s e x).regs = s.regs ∧ (State.setEng s e x).snaps = s.snaps ∧
    (State.setEng s e x).out = s.out ∧ (State.setEng s e x).freeCtr = s.freeCtr ∧ (State.setEng s e x).resetN = s.resetN ∧
    (State.setEng s e x).power = s.power ∧ (State.setEng s e x).fuses = s.fuses ∧ (State.setEng s e x).grants = s.grants ∧
    (State.setEng s e x).queueAux = s.queueAux ∧ (State.setEng s e x).waiters = s.waiters ∧ (State.setEng s e x).rasters = s.rasters ∧
    (State.setEng s e x).cores = s.cores ∧ (State.setEng s e x).forms = s.forms ∧ (State.setEng s e x).noBand = s.noBand ∧
    (State.setEng s e x).lib = s.lib ∧ (State.setEng s e x).locker = s.locker ∧ (State.setEng s e x).desk = s.desk ∧
    (State.setEng s e x).istore = s.istore ∧ (State.setEng s e x).dram = s.dram ∧ (State.setEng s e x).host = s.host ∧
    (State.setEng s e x).flash = s.flash ∧ (State.setEng s e x).ecc = s.ecc ∧ (State.setEng s e x).pages = s.pages ∧
    (State.setEng s e x).priOn = s.priOn ∧ (State.setEng s e x).shelfTags = s.shelfTags ∧ (State.setEng s e x).shelfSlots = s.shelfSlots ∧
    (State.setEng s e x).shelfLru = s.shelfLru ∧ (State.setEng s e x).xlate = s.xlate ∧ (State.setEng s e x).lastMap = s.lastMap ∧
    (State.setEng s e x).fills = s.fills ∧ (State.setEng s e x).late = s.late ∧ (State.setEng s e x).bandRecs = s.bandRecs ∧
    (State.setEng s e x).corr = s.corr ∧ (State.setEng s e x).completions = s.completions ∧ (State.setEng s e x).pipes = s.pipes ∧
    (State.setEng s e x).bandEnts = s.bandEnts ∧ (State.setEng s e x).subJobs = s.subJobs ∧ (State.setEng s e x).bells = s.bells ∧
    (State.setEng s e x).swap = s.swap ∧ (State.setEng s e x).commitSlots = s.commitSlots ∧ (State.setEng s e x).accepted = s.accepted ∧
    (State.setEng s e x).glActive = s.glActive ∧ (State.setEng s e x).glHidden = s.glHidden ∧ (State.setEng s e x).canvasMeta = s.canvasMeta ∧
    (State.setEng s e x).flat = s.flat ∧ (State.setEng s e x).flatLines = s.flatLines ∧ (State.setEng s e x).asked = s.asked ∧
    (State.setEng s e x).protects = s.protects ∧ (State.setEng s e x).ports = s.ports ∧ (State.setEng s e x).pclk = s.pclk ∧
    (State.setEng s e x).trackers = s.trackers ∧ (State.setEng s e x).models = s.models ∧ (State.setEng s e x).loaded = s.loaded ∧
    (State.setEng s e x).runs = s.runs ∧ (State.setEng s e x).walks = s.walks ∧ (State.setEng s e x).hostFrame = s.hostFrame ∧
    (State.setEng s e x).parts = s.parts ∧ (State.setEng s e x).prepared = s.prepared ∧ (State.setEng s e x).shown = s.shown ∧
    (State.setEng s e x).formTiers = s.formTiers ∧ (State.setEng s e x).handoffs = s.handoffs ∧ (State.setEng s e x).hw = s.hw ∧
    (State.setEng s e x).ckpts = s.ckpts ∧ (State.setEng s e x).journal = s.journal ∧ (State.setEng s e x).saves = s.saves ∧
    (State.setEng s e x).scopedHouses = s.scopedHouses ∧ (State.setEng s e x).deviceOpen = s.deviceOpen ∧ (State.setEng s e x).jtag = s.jtag ∧
    (State.setEng s e x).gpio = s.gpio ∧ (State.setEng s e x).service = s.service := by
  refine ⟨rfl, rfl, rfl, rfl, rfl, rfl, rfl, rfl, rfl, rfl, rfl, rfl, rfl, rfl, rfl, rfl, rfl, rfl, rfl, rfl, rfl, rfl, rfl, rfl, rfl, rfl, rfl, rfl, rfl, rfl, rfl, rfl, rfl, rfl, rfl, rfl, rfl, rfl, rfl, rfl, rfl, rfl, rfl, rfl, rfl, rfl, rfl, rfl, rfl, rfl, rfl, rfl, rfl, rfl, rfl, rfl, rfl, rfl, rfl, rfl, rfl, rfl, rfl, rfl, rfl, rfl, rfl, rfl, rfl, rfl, rfl⟩

/-- State.hostWrite changes host alone. -/
@[simp] theorem State.hostWrite_frame (s : State) (fn a : Nat) (bs : List Byte) :
    (State.hostWrite s fn a bs).pending = s.pending ∧ (State.hostWrite s fn a bs).regs = s.regs ∧ (State.hostWrite s fn a bs).snaps = s.snaps ∧
    (State.hostWrite s fn a bs).out = s.out ∧ (State.hostWrite s fn a bs).freeCtr = s.freeCtr ∧ (State.hostWrite s fn a bs).resetN = s.resetN ∧
    (State.hostWrite s fn a bs).power = s.power ∧ (State.hostWrite s fn a bs).fuses = s.fuses ∧ (State.hostWrite s fn a bs).grants = s.grants ∧
    (State.hostWrite s fn a bs).queueAux = s.queueAux ∧ (State.hostWrite s fn a bs).waiters = s.waiters ∧
    (State.hostWrite s fn a bs).rasters = s.rasters ∧ (State.hostWrite s fn a bs).cores = s.cores ∧ (State.hostWrite s fn a bs).forms = s.forms ∧
    (State.hostWrite s fn a bs).noBand = s.noBand ∧ (State.hostWrite s fn a bs).engines = s.engines ∧ (State.hostWrite s fn a bs).lib = s.lib ∧
    (State.hostWrite s fn a bs).locker = s.locker ∧ (State.hostWrite s fn a bs).desk = s.desk ∧ (State.hostWrite s fn a bs).istore = s.istore ∧
    (State.hostWrite s fn a bs).dram = s.dram ∧ (State.hostWrite s fn a bs).flash = s.flash ∧ (State.hostWrite s fn a bs).ecc = s.ecc ∧
    (State.hostWrite s fn a bs).pages = s.pages ∧ (State.hostWrite s fn a bs).priOn = s.priOn ∧
    (State.hostWrite s fn a bs).shelfTags = s.shelfTags ∧ (State.hostWrite s fn a bs).shelfSlots = s.shelfSlots ∧
    (State.hostWrite s fn a bs).shelfLru = s.shelfLru ∧ (State.hostWrite s fn a bs).xlate = s.xlate ∧
    (State.hostWrite s fn a bs).lastMap = s.lastMap ∧ (State.hostWrite s fn a bs).fills = s.fills ∧ (State.hostWrite s fn a bs).late = s.late ∧
    (State.hostWrite s fn a bs).bandRecs = s.bandRecs ∧ (State.hostWrite s fn a bs).corr = s.corr ∧
    (State.hostWrite s fn a bs).completions = s.completions ∧ (State.hostWrite s fn a bs).pipes = s.pipes ∧
    (State.hostWrite s fn a bs).bandEnts = s.bandEnts ∧ (State.hostWrite s fn a bs).subJobs = s.subJobs ∧
    (State.hostWrite s fn a bs).bells = s.bells ∧ (State.hostWrite s fn a bs).swap = s.swap ∧
    (State.hostWrite s fn a bs).commitSlots = s.commitSlots ∧ (State.hostWrite s fn a bs).accepted = s.accepted ∧
    (State.hostWrite s fn a bs).glActive = s.glActive ∧ (State.hostWrite s fn a bs).glHidden = s.glHidden ∧
    (State.hostWrite s fn a bs).canvasMeta = s.canvasMeta ∧ (State.hostWrite s fn a bs).flat = s.flat ∧
    (State.hostWrite s fn a bs).flatLines = s.flatLines ∧ (State.hostWrite s fn a bs).asked = s.asked ∧
    (State.hostWrite s fn a bs).protects = s.protects ∧ (State.hostWrite s fn a bs).ports = s.ports ∧ (State.hostWrite s fn a bs).pclk = s.pclk ∧
    (State.hostWrite s fn a bs).trackers = s.trackers ∧ (State.hostWrite s fn a bs).models = s.models ∧
    (State.hostWrite s fn a bs).loaded = s.loaded ∧ (State.hostWrite s fn a bs).runs = s.runs ∧ (State.hostWrite s fn a bs).walks = s.walks ∧
    (State.hostWrite s fn a bs).hostFrame = s.hostFrame ∧ (State.hostWrite s fn a bs).parts = s.parts ∧
    (State.hostWrite s fn a bs).prepared = s.prepared ∧ (State.hostWrite s fn a bs).shown = s.shown ∧
    (State.hostWrite s fn a bs).formTiers = s.formTiers ∧ (State.hostWrite s fn a bs).handoffs = s.handoffs ∧
    (State.hostWrite s fn a bs).hw = s.hw ∧ (State.hostWrite s fn a bs).ckpts = s.ckpts ∧ (State.hostWrite s fn a bs).journal = s.journal ∧
    (State.hostWrite s fn a bs).saves = s.saves ∧ (State.hostWrite s fn a bs).scopedHouses = s.scopedHouses ∧
    (State.hostWrite s fn a bs).deviceOpen = s.deviceOpen ∧ (State.hostWrite s fn a bs).jtag = s.jtag ∧
    (State.hostWrite s fn a bs).gpio = s.gpio ∧ (State.hostWrite s fn a bs).service = s.service := by
  refine ⟨rfl, rfl, rfl, rfl, rfl, rfl, rfl, rfl, rfl, rfl, rfl, rfl, rfl, rfl, rfl, rfl, rfl, rfl, rfl, rfl, rfl, rfl, rfl, rfl, rfl, rfl, rfl, rfl, rfl, rfl, rfl, rfl, rfl, rfl, rfl, rfl, rfl, rfl, rfl, rfl, rfl, rfl, rfl, rfl, rfl, rfl, rfl, rfl, rfl, rfl, rfl, rfl, rfl, rfl, rfl, rfl, rfl, rfl, rfl, rfl, rfl, rfl, rfl, rfl, rfl, rfl, rfl, rfl, rfl, rfl, rfl⟩

/-- State.setPage changes pages alone. -/
@[simp] theorem State.setPage_frame (s : State) (fn a v : Nat) :
    (State.setPage s fn a v).pending = s.pending ∧ (State.setPage s fn a v).regs = s.regs ∧ (State.setPage s fn a v).snaps = s.snaps ∧
    (State.setPage s fn a v).out = s.out ∧ (State.setPage s fn a v).freeCtr = s.freeCtr ∧ (State.setPage s fn a v).resetN = s.resetN ∧
    (State.setPage s fn a v).power = s.power ∧ (State.setPage s fn a v).fuses = s.fuses ∧ (State.setPage s fn a v).grants = s.grants ∧
    (State.setPage s fn a v).queueAux = s.queueAux ∧ (State.setPage s fn a v).waiters = s.waiters ∧
    (State.setPage s fn a v).rasters = s.rasters ∧ (State.setPage s fn a v).cores = s.cores ∧ (State.setPage s fn a v).forms = s.forms ∧
    (State.setPage s fn a v).noBand = s.noBand ∧ (State.setPage s fn a v).engines = s.engines ∧ (State.setPage s fn a v).lib = s.lib ∧
    (State.setPage s fn a v).locker = s.locker ∧ (State.setPage s fn a v).desk = s.desk ∧ (State.setPage s fn a v).istore = s.istore ∧
    (State.setPage s fn a v).dram = s.dram ∧ (State.setPage s fn a v).host = s.host ∧ (State.setPage s fn a v).flash = s.flash ∧
    (State.setPage s fn a v).ecc = s.ecc ∧ (State.setPage s fn a v).priOn = s.priOn ∧ (State.setPage s fn a v).shelfTags = s.shelfTags ∧
    (State.setPage s fn a v).shelfSlots = s.shelfSlots ∧ (State.setPage s fn a v).shelfLru = s.shelfLru ∧
    (State.setPage s fn a v).xlate = s.xlate ∧ (State.setPage s fn a v).lastMap = s.lastMap ∧ (State.setPage s fn a v).fills = s.fills ∧
    (State.setPage s fn a v).late = s.late ∧ (State.setPage s fn a v).bandRecs = s.bandRecs ∧ (State.setPage s fn a v).corr = s.corr ∧
    (State.setPage s fn a v).completions = s.completions ∧ (State.setPage s fn a v).pipes = s.pipes ∧
    (State.setPage s fn a v).bandEnts = s.bandEnts ∧ (State.setPage s fn a v).subJobs = s.subJobs ∧ (State.setPage s fn a v).bells = s.bells ∧
    (State.setPage s fn a v).swap = s.swap ∧ (State.setPage s fn a v).commitSlots = s.commitSlots ∧
    (State.setPage s fn a v).accepted = s.accepted ∧ (State.setPage s fn a v).glActive = s.glActive ∧
    (State.setPage s fn a v).glHidden = s.glHidden ∧ (State.setPage s fn a v).canvasMeta = s.canvasMeta ∧
    (State.setPage s fn a v).flat = s.flat ∧ (State.setPage s fn a v).flatLines = s.flatLines ∧ (State.setPage s fn a v).asked = s.asked ∧
    (State.setPage s fn a v).protects = s.protects ∧ (State.setPage s fn a v).ports = s.ports ∧ (State.setPage s fn a v).pclk = s.pclk ∧
    (State.setPage s fn a v).trackers = s.trackers ∧ (State.setPage s fn a v).models = s.models ∧ (State.setPage s fn a v).loaded = s.loaded ∧
    (State.setPage s fn a v).runs = s.runs ∧ (State.setPage s fn a v).walks = s.walks ∧ (State.setPage s fn a v).hostFrame = s.hostFrame ∧
    (State.setPage s fn a v).parts = s.parts ∧ (State.setPage s fn a v).prepared = s.prepared ∧ (State.setPage s fn a v).shown = s.shown ∧
    (State.setPage s fn a v).formTiers = s.formTiers ∧ (State.setPage s fn a v).handoffs = s.handoffs ∧ (State.setPage s fn a v).hw = s.hw ∧
    (State.setPage s fn a v).ckpts = s.ckpts ∧ (State.setPage s fn a v).journal = s.journal ∧ (State.setPage s fn a v).saves = s.saves ∧
    (State.setPage s fn a v).scopedHouses = s.scopedHouses ∧ (State.setPage s fn a v).deviceOpen = s.deviceOpen ∧
    (State.setPage s fn a v).jtag = s.jtag ∧ (State.setPage s fn a v).gpio = s.gpio ∧ (State.setPage s fn a v).service = s.service := by
  refine ⟨rfl, rfl, rfl, rfl, rfl, rfl, rfl, rfl, rfl, rfl, rfl, rfl, rfl, rfl, rfl, rfl, rfl, rfl, rfl, rfl, rfl, rfl, rfl, rfl, rfl, rfl, rfl, rfl, rfl, rfl, rfl, rfl, rfl, rfl, rfl, rfl, rfl, rfl, rfl, rfl, rfl, rfl, rfl, rfl, rfl, rfl, rfl, rfl, rfl, rfl, rfl, rfl, rfl, rfl, rfl, rfl, rfl, rfl, rfl, rfl, rfl, rfl, rfl, rfl, rfl, rfl, rfl, rfl, rfl, rfl, rfl⟩

/-- State.libWrite changes lib alone. -/
@[simp] theorem State.libWrite_frame (s : State) (a : Nat) (bs : List Byte) :
    (State.libWrite s a bs).pending = s.pending ∧ (State.libWrite s a bs).regs = s.regs ∧ (State.libWrite s a bs).snaps = s.snaps ∧
    (State.libWrite s a bs).out = s.out ∧ (State.libWrite s a bs).freeCtr = s.freeCtr ∧ (State.libWrite s a bs).resetN = s.resetN ∧
    (State.libWrite s a bs).power = s.power ∧ (State.libWrite s a bs).fuses = s.fuses ∧ (State.libWrite s a bs).grants = s.grants ∧
    (State.libWrite s a bs).queueAux = s.queueAux ∧ (State.libWrite s a bs).waiters = s.waiters ∧ (State.libWrite s a bs).rasters = s.rasters ∧
    (State.libWrite s a bs).cores = s.cores ∧ (State.libWrite s a bs).forms = s.forms ∧ (State.libWrite s a bs).noBand = s.noBand ∧
    (State.libWrite s a bs).engines = s.engines ∧ (State.libWrite s a bs).locker = s.locker ∧ (State.libWrite s a bs).desk = s.desk ∧
    (State.libWrite s a bs).istore = s.istore ∧ (State.libWrite s a bs).dram = s.dram ∧ (State.libWrite s a bs).host = s.host ∧
    (State.libWrite s a bs).flash = s.flash ∧ (State.libWrite s a bs).ecc = s.ecc ∧ (State.libWrite s a bs).pages = s.pages ∧
    (State.libWrite s a bs).priOn = s.priOn ∧ (State.libWrite s a bs).shelfTags = s.shelfTags ∧
    (State.libWrite s a bs).shelfSlots = s.shelfSlots ∧ (State.libWrite s a bs).shelfLru = s.shelfLru ∧ (State.libWrite s a bs).xlate = s.xlate ∧
    (State.libWrite s a bs).lastMap = s.lastMap ∧ (State.libWrite s a bs).fills = s.fills ∧ (State.libWrite s a bs).late = s.late ∧
    (State.libWrite s a bs).bandRecs = s.bandRecs ∧ (State.libWrite s a bs).corr = s.corr ∧ (State.libWrite s a bs).completions = s.completions ∧
    (State.libWrite s a bs).pipes = s.pipes ∧ (State.libWrite s a bs).bandEnts = s.bandEnts ∧ (State.libWrite s a bs).subJobs = s.subJobs ∧
    (State.libWrite s a bs).bells = s.bells ∧ (State.libWrite s a bs).swap = s.swap ∧ (State.libWrite s a bs).commitSlots = s.commitSlots ∧
    (State.libWrite s a bs).accepted = s.accepted ∧ (State.libWrite s a bs).glActive = s.glActive ∧
    (State.libWrite s a bs).glHidden = s.glHidden ∧ (State.libWrite s a bs).canvasMeta = s.canvasMeta ∧ (State.libWrite s a bs).flat = s.flat ∧
    (State.libWrite s a bs).flatLines = s.flatLines ∧ (State.libWrite s a bs).asked = s.asked ∧ (State.libWrite s a bs).protects = s.protects ∧
    (State.libWrite s a bs).ports = s.ports ∧ (State.libWrite s a bs).pclk = s.pclk ∧ (State.libWrite s a bs).trackers = s.trackers ∧
    (State.libWrite s a bs).models = s.models ∧ (State.libWrite s a bs).loaded = s.loaded ∧ (State.libWrite s a bs).runs = s.runs ∧
    (State.libWrite s a bs).walks = s.walks ∧ (State.libWrite s a bs).hostFrame = s.hostFrame ∧ (State.libWrite s a bs).parts = s.parts ∧
    (State.libWrite s a bs).prepared = s.prepared ∧ (State.libWrite s a bs).shown = s.shown ∧ (State.libWrite s a bs).formTiers = s.formTiers ∧
    (State.libWrite s a bs).handoffs = s.handoffs ∧ (State.libWrite s a bs).hw = s.hw ∧ (State.libWrite s a bs).ckpts = s.ckpts ∧
    (State.libWrite s a bs).journal = s.journal ∧ (State.libWrite s a bs).saves = s.saves ∧
    (State.libWrite s a bs).scopedHouses = s.scopedHouses ∧ (State.libWrite s a bs).deviceOpen = s.deviceOpen ∧
    (State.libWrite s a bs).jtag = s.jtag ∧ (State.libWrite s a bs).gpio = s.gpio ∧ (State.libWrite s a bs).service = s.service := by
  refine ⟨rfl, rfl, rfl, rfl, rfl, rfl, rfl, rfl, rfl, rfl, rfl, rfl, rfl, rfl, rfl, rfl, rfl, rfl, rfl, rfl, rfl, rfl, rfl, rfl, rfl, rfl, rfl, rfl, rfl, rfl, rfl, rfl, rfl, rfl, rfl, rfl, rfl, rfl, rfl, rfl, rfl, rfl, rfl, rfl, rfl, rfl, rfl, rfl, rfl, rfl, rfl, rfl, rfl, rfl, rfl, rfl, rfl, rfl, rfl, rfl, rfl, rfl, rfl, rfl, rfl, rfl, rfl, rfl, rfl, rfl, rfl⟩

/-- State.setTag changes shelfTags alone. -/
@[simp] theorem State.setTag_frame (s : State) (i : Nat) (t : Option (Nat × Bool)) :
    (State.setTag s i t).pending = s.pending ∧ (State.setTag s i t).regs = s.regs ∧ (State.setTag s i t).snaps = s.snaps ∧
    (State.setTag s i t).out = s.out ∧ (State.setTag s i t).freeCtr = s.freeCtr ∧ (State.setTag s i t).resetN = s.resetN ∧
    (State.setTag s i t).power = s.power ∧ (State.setTag s i t).fuses = s.fuses ∧ (State.setTag s i t).grants = s.grants ∧
    (State.setTag s i t).queueAux = s.queueAux ∧ (State.setTag s i t).waiters = s.waiters ∧ (State.setTag s i t).rasters = s.rasters ∧
    (State.setTag s i t).cores = s.cores ∧ (State.setTag s i t).forms = s.forms ∧ (State.setTag s i t).noBand = s.noBand ∧
    (State.setTag s i t).engines = s.engines ∧ (State.setTag s i t).lib = s.lib ∧ (State.setTag s i t).locker = s.locker ∧
    (State.setTag s i t).desk = s.desk ∧ (State.setTag s i t).istore = s.istore ∧ (State.setTag s i t).dram = s.dram ∧
    (State.setTag s i t).host = s.host ∧ (State.setTag s i t).flash = s.flash ∧ (State.setTag s i t).ecc = s.ecc ∧
    (State.setTag s i t).pages = s.pages ∧ (State.setTag s i t).priOn = s.priOn ∧ (State.setTag s i t).shelfSlots = s.shelfSlots ∧
    (State.setTag s i t).shelfLru = s.shelfLru ∧ (State.setTag s i t).xlate = s.xlate ∧ (State.setTag s i t).lastMap = s.lastMap ∧
    (State.setTag s i t).fills = s.fills ∧ (State.setTag s i t).late = s.late ∧ (State.setTag s i t).bandRecs = s.bandRecs ∧
    (State.setTag s i t).corr = s.corr ∧ (State.setTag s i t).completions = s.completions ∧ (State.setTag s i t).pipes = s.pipes ∧
    (State.setTag s i t).bandEnts = s.bandEnts ∧ (State.setTag s i t).subJobs = s.subJobs ∧ (State.setTag s i t).bells = s.bells ∧
    (State.setTag s i t).swap = s.swap ∧ (State.setTag s i t).commitSlots = s.commitSlots ∧ (State.setTag s i t).accepted = s.accepted ∧
    (State.setTag s i t).glActive = s.glActive ∧ (State.setTag s i t).glHidden = s.glHidden ∧ (State.setTag s i t).canvasMeta = s.canvasMeta ∧
    (State.setTag s i t).flat = s.flat ∧ (State.setTag s i t).flatLines = s.flatLines ∧ (State.setTag s i t).asked = s.asked ∧
    (State.setTag s i t).protects = s.protects ∧ (State.setTag s i t).ports = s.ports ∧ (State.setTag s i t).pclk = s.pclk ∧
    (State.setTag s i t).trackers = s.trackers ∧ (State.setTag s i t).models = s.models ∧ (State.setTag s i t).loaded = s.loaded ∧
    (State.setTag s i t).runs = s.runs ∧ (State.setTag s i t).walks = s.walks ∧ (State.setTag s i t).hostFrame = s.hostFrame ∧
    (State.setTag s i t).parts = s.parts ∧ (State.setTag s i t).prepared = s.prepared ∧ (State.setTag s i t).shown = s.shown ∧
    (State.setTag s i t).formTiers = s.formTiers ∧ (State.setTag s i t).handoffs = s.handoffs ∧ (State.setTag s i t).hw = s.hw ∧
    (State.setTag s i t).ckpts = s.ckpts ∧ (State.setTag s i t).journal = s.journal ∧ (State.setTag s i t).saves = s.saves ∧
    (State.setTag s i t).scopedHouses = s.scopedHouses ∧ (State.setTag s i t).deviceOpen = s.deviceOpen ∧ (State.setTag s i t).jtag = s.jtag ∧
    (State.setTag s i t).gpio = s.gpio ∧ (State.setTag s i t).service = s.service := by
  refine ⟨rfl, rfl, rfl, rfl, rfl, rfl, rfl, rfl, rfl, rfl, rfl, rfl, rfl, rfl, rfl, rfl, rfl, rfl, rfl, rfl, rfl, rfl, rfl, rfl, rfl, rfl, rfl, rfl, rfl, rfl, rfl, rfl, rfl, rfl, rfl, rfl, rfl, rfl, rfl, rfl, rfl, rfl, rfl, rfl, rfl, rfl, rfl, rfl, rfl, rfl, rfl, rfl, rfl, rfl, rfl, rfl, rfl, rfl, rfl, rfl, rfl, rfl, rfl, rfl, rfl, rfl, rfl, rfl, rfl, rfl, rfl⟩

/-- State.setPipe changes pipes alone. -/
@[simp] theorem State.setPipe_frame (s : State) (p : Nat) (x : Pipe) :
    (State.setPipe s p x).pending = s.pending ∧ (State.setPipe s p x).regs = s.regs ∧ (State.setPipe s p x).snaps = s.snaps ∧
    (State.setPipe s p x).out = s.out ∧ (State.setPipe s p x).freeCtr = s.freeCtr ∧ (State.setPipe s p x).resetN = s.resetN ∧
    (State.setPipe s p x).power = s.power ∧ (State.setPipe s p x).fuses = s.fuses ∧ (State.setPipe s p x).grants = s.grants ∧
    (State.setPipe s p x).queueAux = s.queueAux ∧ (State.setPipe s p x).waiters = s.waiters ∧ (State.setPipe s p x).rasters = s.rasters ∧
    (State.setPipe s p x).cores = s.cores ∧ (State.setPipe s p x).forms = s.forms ∧ (State.setPipe s p x).noBand = s.noBand ∧
    (State.setPipe s p x).engines = s.engines ∧ (State.setPipe s p x).lib = s.lib ∧ (State.setPipe s p x).locker = s.locker ∧
    (State.setPipe s p x).desk = s.desk ∧ (State.setPipe s p x).istore = s.istore ∧ (State.setPipe s p x).dram = s.dram ∧
    (State.setPipe s p x).host = s.host ∧ (State.setPipe s p x).flash = s.flash ∧ (State.setPipe s p x).ecc = s.ecc ∧
    (State.setPipe s p x).pages = s.pages ∧ (State.setPipe s p x).priOn = s.priOn ∧ (State.setPipe s p x).shelfTags = s.shelfTags ∧
    (State.setPipe s p x).shelfSlots = s.shelfSlots ∧ (State.setPipe s p x).shelfLru = s.shelfLru ∧ (State.setPipe s p x).xlate = s.xlate ∧
    (State.setPipe s p x).lastMap = s.lastMap ∧ (State.setPipe s p x).fills = s.fills ∧ (State.setPipe s p x).late = s.late ∧
    (State.setPipe s p x).bandRecs = s.bandRecs ∧ (State.setPipe s p x).corr = s.corr ∧ (State.setPipe s p x).completions = s.completions ∧
    (State.setPipe s p x).bandEnts = s.bandEnts ∧ (State.setPipe s p x).subJobs = s.subJobs ∧ (State.setPipe s p x).bells = s.bells ∧
    (State.setPipe s p x).swap = s.swap ∧ (State.setPipe s p x).commitSlots = s.commitSlots ∧ (State.setPipe s p x).accepted = s.accepted ∧
    (State.setPipe s p x).glActive = s.glActive ∧ (State.setPipe s p x).glHidden = s.glHidden ∧ (State.setPipe s p x).canvasMeta = s.canvasMeta ∧
    (State.setPipe s p x).flat = s.flat ∧ (State.setPipe s p x).flatLines = s.flatLines ∧ (State.setPipe s p x).asked = s.asked ∧
    (State.setPipe s p x).protects = s.protects ∧ (State.setPipe s p x).ports = s.ports ∧ (State.setPipe s p x).pclk = s.pclk ∧
    (State.setPipe s p x).trackers = s.trackers ∧ (State.setPipe s p x).models = s.models ∧ (State.setPipe s p x).loaded = s.loaded ∧
    (State.setPipe s p x).runs = s.runs ∧ (State.setPipe s p x).walks = s.walks ∧ (State.setPipe s p x).hostFrame = s.hostFrame ∧
    (State.setPipe s p x).parts = s.parts ∧ (State.setPipe s p x).prepared = s.prepared ∧ (State.setPipe s p x).shown = s.shown ∧
    (State.setPipe s p x).formTiers = s.formTiers ∧ (State.setPipe s p x).handoffs = s.handoffs ∧ (State.setPipe s p x).hw = s.hw ∧
    (State.setPipe s p x).ckpts = s.ckpts ∧ (State.setPipe s p x).journal = s.journal ∧ (State.setPipe s p x).saves = s.saves ∧
    (State.setPipe s p x).scopedHouses = s.scopedHouses ∧ (State.setPipe s p x).deviceOpen = s.deviceOpen ∧ (State.setPipe s p x).jtag = s.jtag ∧
    (State.setPipe s p x).gpio = s.gpio ∧ (State.setPipe s p x).service = s.service := by
  refine ⟨rfl, rfl, rfl, rfl, rfl, rfl, rfl, rfl, rfl, rfl, rfl, rfl, rfl, rfl, rfl, rfl, rfl, rfl, rfl, rfl, rfl, rfl, rfl, rfl, rfl, rfl, rfl, rfl, rfl, rfl, rfl, rfl, rfl, rfl, rfl, rfl, rfl, rfl, rfl, rfl, rfl, rfl, rfl, rfl, rfl, rfl, rfl, rfl, rfl, rfl, rfl, rfl, rfl, rfl, rfl, rfl, rfl, rfl, rfl, rfl, rfl, rfl, rfl, rfl, rfl, rfl, rfl, rfl, rfl, rfl, rfl⟩

/-- State.setBandRec changes bandRecs alone. -/
@[simp] theorem State.setBandRec_frame (s : State) (p b : Nat) (r : BandRec) :
    (State.setBandRec s p b r).pending = s.pending ∧ (State.setBandRec s p b r).regs = s.regs ∧ (State.setBandRec s p b r).snaps = s.snaps ∧
    (State.setBandRec s p b r).out = s.out ∧ (State.setBandRec s p b r).freeCtr = s.freeCtr ∧ (State.setBandRec s p b r).resetN = s.resetN ∧
    (State.setBandRec s p b r).power = s.power ∧ (State.setBandRec s p b r).fuses = s.fuses ∧ (State.setBandRec s p b r).grants = s.grants ∧
    (State.setBandRec s p b r).queueAux = s.queueAux ∧ (State.setBandRec s p b r).waiters = s.waiters ∧
    (State.setBandRec s p b r).rasters = s.rasters ∧ (State.setBandRec s p b r).cores = s.cores ∧ (State.setBandRec s p b r).forms = s.forms ∧
    (State.setBandRec s p b r).noBand = s.noBand ∧ (State.setBandRec s p b r).engines = s.engines ∧ (State.setBandRec s p b r).lib = s.lib ∧
    (State.setBandRec s p b r).locker = s.locker ∧ (State.setBandRec s p b r).desk = s.desk ∧ (State.setBandRec s p b r).istore = s.istore ∧
    (State.setBandRec s p b r).dram = s.dram ∧ (State.setBandRec s p b r).host = s.host ∧ (State.setBandRec s p b r).flash = s.flash ∧
    (State.setBandRec s p b r).ecc = s.ecc ∧ (State.setBandRec s p b r).pages = s.pages ∧ (State.setBandRec s p b r).priOn = s.priOn ∧
    (State.setBandRec s p b r).shelfTags = s.shelfTags ∧ (State.setBandRec s p b r).shelfSlots = s.shelfSlots ∧
    (State.setBandRec s p b r).shelfLru = s.shelfLru ∧ (State.setBandRec s p b r).xlate = s.xlate ∧
    (State.setBandRec s p b r).lastMap = s.lastMap ∧ (State.setBandRec s p b r).fills = s.fills ∧ (State.setBandRec s p b r).late = s.late ∧
    (State.setBandRec s p b r).corr = s.corr ∧ (State.setBandRec s p b r).completions = s.completions ∧
    (State.setBandRec s p b r).pipes = s.pipes ∧ (State.setBandRec s p b r).bandEnts = s.bandEnts ∧
    (State.setBandRec s p b r).subJobs = s.subJobs ∧ (State.setBandRec s p b r).bells = s.bells ∧ (State.setBandRec s p b r).swap = s.swap ∧
    (State.setBandRec s p b r).commitSlots = s.commitSlots ∧ (State.setBandRec s p b r).accepted = s.accepted ∧
    (State.setBandRec s p b r).glActive = s.glActive ∧ (State.setBandRec s p b r).glHidden = s.glHidden ∧
    (State.setBandRec s p b r).canvasMeta = s.canvasMeta ∧ (State.setBandRec s p b r).flat = s.flat ∧
    (State.setBandRec s p b r).flatLines = s.flatLines ∧ (State.setBandRec s p b r).asked = s.asked ∧
    (State.setBandRec s p b r).protects = s.protects ∧ (State.setBandRec s p b r).ports = s.ports ∧ (State.setBandRec s p b r).pclk = s.pclk ∧
    (State.setBandRec s p b r).trackers = s.trackers ∧ (State.setBandRec s p b r).models = s.models ∧
    (State.setBandRec s p b r).loaded = s.loaded ∧ (State.setBandRec s p b r).runs = s.runs ∧ (State.setBandRec s p b r).walks = s.walks ∧
    (State.setBandRec s p b r).hostFrame = s.hostFrame ∧ (State.setBandRec s p b r).parts = s.parts ∧
    (State.setBandRec s p b r).prepared = s.prepared ∧ (State.setBandRec s p b r).shown = s.shown ∧
    (State.setBandRec s p b r).formTiers = s.formTiers ∧ (State.setBandRec s p b r).handoffs = s.handoffs ∧
    (State.setBandRec s p b r).hw = s.hw ∧ (State.setBandRec s p b r).ckpts = s.ckpts ∧ (State.setBandRec s p b r).journal = s.journal ∧
    (State.setBandRec s p b r).saves = s.saves ∧ (State.setBandRec s p b r).scopedHouses = s.scopedHouses ∧
    (State.setBandRec s p b r).deviceOpen = s.deviceOpen ∧ (State.setBandRec s p b r).jtag = s.jtag ∧ (State.setBandRec s p b r).gpio = s.gpio ∧
    (State.setBandRec s p b r).service = s.service := by
  refine ⟨rfl, rfl, rfl, rfl, rfl, rfl, rfl, rfl, rfl, rfl, rfl, rfl, rfl, rfl, rfl, rfl, rfl, rfl, rfl, rfl, rfl, rfl, rfl, rfl, rfl, rfl, rfl, rfl, rfl, rfl, rfl, rfl, rfl, rfl, rfl, rfl, rfl, rfl, rfl, rfl, rfl, rfl, rfl, rfl, rfl, rfl, rfl, rfl, rfl, rfl, rfl, rfl, rfl, rfl, rfl, rfl, rfl, rfl, rfl, rfl, rfl, rfl, rfl, rfl, rfl, rfl, rfl, rfl, rfl, rfl, rfl⟩

/-- State.setTracker changes trackers alone. -/
@[simp] theorem State.setTracker_frame (s : State) (t : Nat) (x : Tracker) :
    (State.setTracker s t x).pending = s.pending ∧ (State.setTracker s t x).regs = s.regs ∧ (State.setTracker s t x).snaps = s.snaps ∧
    (State.setTracker s t x).out = s.out ∧ (State.setTracker s t x).freeCtr = s.freeCtr ∧ (State.setTracker s t x).resetN = s.resetN ∧
    (State.setTracker s t x).power = s.power ∧ (State.setTracker s t x).fuses = s.fuses ∧ (State.setTracker s t x).grants = s.grants ∧
    (State.setTracker s t x).queueAux = s.queueAux ∧ (State.setTracker s t x).waiters = s.waiters ∧
    (State.setTracker s t x).rasters = s.rasters ∧ (State.setTracker s t x).cores = s.cores ∧ (State.setTracker s t x).forms = s.forms ∧
    (State.setTracker s t x).noBand = s.noBand ∧ (State.setTracker s t x).engines = s.engines ∧ (State.setTracker s t x).lib = s.lib ∧
    (State.setTracker s t x).locker = s.locker ∧ (State.setTracker s t x).desk = s.desk ∧ (State.setTracker s t x).istore = s.istore ∧
    (State.setTracker s t x).dram = s.dram ∧ (State.setTracker s t x).host = s.host ∧ (State.setTracker s t x).flash = s.flash ∧
    (State.setTracker s t x).ecc = s.ecc ∧ (State.setTracker s t x).pages = s.pages ∧ (State.setTracker s t x).priOn = s.priOn ∧
    (State.setTracker s t x).shelfTags = s.shelfTags ∧ (State.setTracker s t x).shelfSlots = s.shelfSlots ∧
    (State.setTracker s t x).shelfLru = s.shelfLru ∧ (State.setTracker s t x).xlate = s.xlate ∧ (State.setTracker s t x).lastMap = s.lastMap ∧
    (State.setTracker s t x).fills = s.fills ∧ (State.setTracker s t x).late = s.late ∧ (State.setTracker s t x).bandRecs = s.bandRecs ∧
    (State.setTracker s t x).corr = s.corr ∧ (State.setTracker s t x).completions = s.completions ∧ (State.setTracker s t x).pipes = s.pipes ∧
    (State.setTracker s t x).bandEnts = s.bandEnts ∧ (State.setTracker s t x).subJobs = s.subJobs ∧ (State.setTracker s t x).bells = s.bells ∧
    (State.setTracker s t x).swap = s.swap ∧ (State.setTracker s t x).commitSlots = s.commitSlots ∧
    (State.setTracker s t x).accepted = s.accepted ∧ (State.setTracker s t x).glActive = s.glActive ∧
    (State.setTracker s t x).glHidden = s.glHidden ∧ (State.setTracker s t x).canvasMeta = s.canvasMeta ∧
    (State.setTracker s t x).flat = s.flat ∧ (State.setTracker s t x).flatLines = s.flatLines ∧ (State.setTracker s t x).asked = s.asked ∧
    (State.setTracker s t x).protects = s.protects ∧ (State.setTracker s t x).ports = s.ports ∧ (State.setTracker s t x).pclk = s.pclk ∧
    (State.setTracker s t x).models = s.models ∧ (State.setTracker s t x).loaded = s.loaded ∧ (State.setTracker s t x).runs = s.runs ∧
    (State.setTracker s t x).walks = s.walks ∧ (State.setTracker s t x).hostFrame = s.hostFrame ∧ (State.setTracker s t x).parts = s.parts ∧
    (State.setTracker s t x).prepared = s.prepared ∧ (State.setTracker s t x).shown = s.shown ∧
    (State.setTracker s t x).formTiers = s.formTiers ∧ (State.setTracker s t x).handoffs = s.handoffs ∧ (State.setTracker s t x).hw = s.hw ∧
    (State.setTracker s t x).ckpts = s.ckpts ∧ (State.setTracker s t x).journal = s.journal ∧ (State.setTracker s t x).saves = s.saves ∧
    (State.setTracker s t x).scopedHouses = s.scopedHouses ∧ (State.setTracker s t x).deviceOpen = s.deviceOpen ∧
    (State.setTracker s t x).jtag = s.jtag ∧ (State.setTracker s t x).gpio = s.gpio ∧ (State.setTracker s t x).service = s.service := by
  refine ⟨rfl, rfl, rfl, rfl, rfl, rfl, rfl, rfl, rfl, rfl, rfl, rfl, rfl, rfl, rfl, rfl, rfl, rfl, rfl, rfl, rfl, rfl, rfl, rfl, rfl, rfl, rfl, rfl, rfl, rfl, rfl, rfl, rfl, rfl, rfl, rfl, rfl, rfl, rfl, rfl, rfl, rfl, rfl, rfl, rfl, rfl, rfl, rfl, rfl, rfl, rfl, rfl, rfl, rfl, rfl, rfl, rfl, rfl, rfl, rfl, rfl, rfl, rfl, rfl, rfl, rfl, rfl, rfl, rfl, rfl, rfl⟩

/-- State.setPort changes ports alone. -/
@[simp] theorem State.setPort_frame (s : State) (n : Nat) (x : Port) :
    (State.setPort s n x).pending = s.pending ∧ (State.setPort s n x).regs = s.regs ∧ (State.setPort s n x).snaps = s.snaps ∧
    (State.setPort s n x).out = s.out ∧ (State.setPort s n x).freeCtr = s.freeCtr ∧ (State.setPort s n x).resetN = s.resetN ∧
    (State.setPort s n x).power = s.power ∧ (State.setPort s n x).fuses = s.fuses ∧ (State.setPort s n x).grants = s.grants ∧
    (State.setPort s n x).queueAux = s.queueAux ∧ (State.setPort s n x).waiters = s.waiters ∧ (State.setPort s n x).rasters = s.rasters ∧
    (State.setPort s n x).cores = s.cores ∧ (State.setPort s n x).forms = s.forms ∧ (State.setPort s n x).noBand = s.noBand ∧
    (State.setPort s n x).engines = s.engines ∧ (State.setPort s n x).lib = s.lib ∧ (State.setPort s n x).locker = s.locker ∧
    (State.setPort s n x).desk = s.desk ∧ (State.setPort s n x).istore = s.istore ∧ (State.setPort s n x).dram = s.dram ∧
    (State.setPort s n x).host = s.host ∧ (State.setPort s n x).flash = s.flash ∧ (State.setPort s n x).ecc = s.ecc ∧
    (State.setPort s n x).pages = s.pages ∧ (State.setPort s n x).priOn = s.priOn ∧ (State.setPort s n x).shelfTags = s.shelfTags ∧
    (State.setPort s n x).shelfSlots = s.shelfSlots ∧ (State.setPort s n x).shelfLru = s.shelfLru ∧ (State.setPort s n x).xlate = s.xlate ∧
    (State.setPort s n x).lastMap = s.lastMap ∧ (State.setPort s n x).fills = s.fills ∧ (State.setPort s n x).late = s.late ∧
    (State.setPort s n x).bandRecs = s.bandRecs ∧ (State.setPort s n x).corr = s.corr ∧ (State.setPort s n x).completions = s.completions ∧
    (State.setPort s n x).pipes = s.pipes ∧ (State.setPort s n x).bandEnts = s.bandEnts ∧ (State.setPort s n x).subJobs = s.subJobs ∧
    (State.setPort s n x).bells = s.bells ∧ (State.setPort s n x).swap = s.swap ∧ (State.setPort s n x).commitSlots = s.commitSlots ∧
    (State.setPort s n x).accepted = s.accepted ∧ (State.setPort s n x).glActive = s.glActive ∧ (State.setPort s n x).glHidden = s.glHidden ∧
    (State.setPort s n x).canvasMeta = s.canvasMeta ∧ (State.setPort s n x).flat = s.flat ∧ (State.setPort s n x).flatLines = s.flatLines ∧
    (State.setPort s n x).asked = s.asked ∧ (State.setPort s n x).protects = s.protects ∧ (State.setPort s n x).pclk = s.pclk ∧
    (State.setPort s n x).trackers = s.trackers ∧ (State.setPort s n x).models = s.models ∧ (State.setPort s n x).loaded = s.loaded ∧
    (State.setPort s n x).runs = s.runs ∧ (State.setPort s n x).walks = s.walks ∧ (State.setPort s n x).hostFrame = s.hostFrame ∧
    (State.setPort s n x).parts = s.parts ∧ (State.setPort s n x).prepared = s.prepared ∧ (State.setPort s n x).shown = s.shown ∧
    (State.setPort s n x).formTiers = s.formTiers ∧ (State.setPort s n x).handoffs = s.handoffs ∧ (State.setPort s n x).hw = s.hw ∧
    (State.setPort s n x).ckpts = s.ckpts ∧ (State.setPort s n x).journal = s.journal ∧ (State.setPort s n x).saves = s.saves ∧
    (State.setPort s n x).scopedHouses = s.scopedHouses ∧ (State.setPort s n x).deviceOpen = s.deviceOpen ∧ (State.setPort s n x).jtag = s.jtag ∧
    (State.setPort s n x).gpio = s.gpio ∧ (State.setPort s n x).service = s.service := by
  refine ⟨rfl, rfl, rfl, rfl, rfl, rfl, rfl, rfl, rfl, rfl, rfl, rfl, rfl, rfl, rfl, rfl, rfl, rfl, rfl, rfl, rfl, rfl, rfl, rfl, rfl, rfl, rfl, rfl, rfl, rfl, rfl, rfl, rfl, rfl, rfl, rfl, rfl, rfl, rfl, rfl, rfl, rfl, rfl, rfl, rfl, rfl, rfl, rfl, rfl, rfl, rfl, rfl, rfl, rfl, rfl, rfl, rfl, rfl, rfl, rfl, rfl, rfl, rfl, rfl, rfl, rfl, rfl, rfl, rfl, rfl, rfl⟩

/-- State.setSlot changes commitSlots alone. -/
@[simp] theorem State.setSlot_frame (s : State) (i : Nat) (c : CommitSet) :
    (State.setSlot s i c).pending = s.pending ∧ (State.setSlot s i c).regs = s.regs ∧ (State.setSlot s i c).snaps = s.snaps ∧
    (State.setSlot s i c).out = s.out ∧ (State.setSlot s i c).freeCtr = s.freeCtr ∧ (State.setSlot s i c).resetN = s.resetN ∧
    (State.setSlot s i c).power = s.power ∧ (State.setSlot s i c).fuses = s.fuses ∧ (State.setSlot s i c).grants = s.grants ∧
    (State.setSlot s i c).queueAux = s.queueAux ∧ (State.setSlot s i c).waiters = s.waiters ∧ (State.setSlot s i c).rasters = s.rasters ∧
    (State.setSlot s i c).cores = s.cores ∧ (State.setSlot s i c).forms = s.forms ∧ (State.setSlot s i c).noBand = s.noBand ∧
    (State.setSlot s i c).engines = s.engines ∧ (State.setSlot s i c).lib = s.lib ∧ (State.setSlot s i c).locker = s.locker ∧
    (State.setSlot s i c).desk = s.desk ∧ (State.setSlot s i c).istore = s.istore ∧ (State.setSlot s i c).dram = s.dram ∧
    (State.setSlot s i c).host = s.host ∧ (State.setSlot s i c).flash = s.flash ∧ (State.setSlot s i c).ecc = s.ecc ∧
    (State.setSlot s i c).pages = s.pages ∧ (State.setSlot s i c).priOn = s.priOn ∧ (State.setSlot s i c).shelfTags = s.shelfTags ∧
    (State.setSlot s i c).shelfSlots = s.shelfSlots ∧ (State.setSlot s i c).shelfLru = s.shelfLru ∧ (State.setSlot s i c).xlate = s.xlate ∧
    (State.setSlot s i c).lastMap = s.lastMap ∧ (State.setSlot s i c).fills = s.fills ∧ (State.setSlot s i c).late = s.late ∧
    (State.setSlot s i c).bandRecs = s.bandRecs ∧ (State.setSlot s i c).corr = s.corr ∧ (State.setSlot s i c).completions = s.completions ∧
    (State.setSlot s i c).pipes = s.pipes ∧ (State.setSlot s i c).bandEnts = s.bandEnts ∧ (State.setSlot s i c).subJobs = s.subJobs ∧
    (State.setSlot s i c).bells = s.bells ∧ (State.setSlot s i c).swap = s.swap ∧ (State.setSlot s i c).accepted = s.accepted ∧
    (State.setSlot s i c).glActive = s.glActive ∧ (State.setSlot s i c).glHidden = s.glHidden ∧ (State.setSlot s i c).canvasMeta = s.canvasMeta ∧
    (State.setSlot s i c).flat = s.flat ∧ (State.setSlot s i c).flatLines = s.flatLines ∧ (State.setSlot s i c).asked = s.asked ∧
    (State.setSlot s i c).protects = s.protects ∧ (State.setSlot s i c).ports = s.ports ∧ (State.setSlot s i c).pclk = s.pclk ∧
    (State.setSlot s i c).trackers = s.trackers ∧ (State.setSlot s i c).models = s.models ∧ (State.setSlot s i c).loaded = s.loaded ∧
    (State.setSlot s i c).runs = s.runs ∧ (State.setSlot s i c).walks = s.walks ∧ (State.setSlot s i c).hostFrame = s.hostFrame ∧
    (State.setSlot s i c).parts = s.parts ∧ (State.setSlot s i c).prepared = s.prepared ∧ (State.setSlot s i c).shown = s.shown ∧
    (State.setSlot s i c).formTiers = s.formTiers ∧ (State.setSlot s i c).handoffs = s.handoffs ∧ (State.setSlot s i c).hw = s.hw ∧
    (State.setSlot s i c).ckpts = s.ckpts ∧ (State.setSlot s i c).journal = s.journal ∧ (State.setSlot s i c).saves = s.saves ∧
    (State.setSlot s i c).scopedHouses = s.scopedHouses ∧ (State.setSlot s i c).deviceOpen = s.deviceOpen ∧ (State.setSlot s i c).jtag = s.jtag ∧
    (State.setSlot s i c).gpio = s.gpio ∧ (State.setSlot s i c).service = s.service := by
  refine ⟨rfl, rfl, rfl, rfl, rfl, rfl, rfl, rfl, rfl, rfl, rfl, rfl, rfl, rfl, rfl, rfl, rfl, rfl, rfl, rfl, rfl, rfl, rfl, rfl, rfl, rfl, rfl, rfl, rfl, rfl, rfl, rfl, rfl, rfl, rfl, rfl, rfl, rfl, rfl, rfl, rfl, rfl, rfl, rfl, rfl, rfl, rfl, rfl, rfl, rfl, rfl, rfl, rfl, rfl, rfl, rfl, rfl, rfl, rfl, rfl, rfl, rfl, rfl, rfl, rfl, rfl, rfl, rfl, rfl, rfl, rfl⟩

/-- State.setHw changes hw alone. -/
@[simp] theorem State.setHw_frame (s : State) (m : Nat) (x : Hw) :
    (State.setHw s m x).pending = s.pending ∧ (State.setHw s m x).regs = s.regs ∧ (State.setHw s m x).snaps = s.snaps ∧
    (State.setHw s m x).out = s.out ∧ (State.setHw s m x).freeCtr = s.freeCtr ∧ (State.setHw s m x).resetN = s.resetN ∧
    (State.setHw s m x).power = s.power ∧ (State.setHw s m x).fuses = s.fuses ∧ (State.setHw s m x).grants = s.grants ∧
    (State.setHw s m x).queueAux = s.queueAux ∧ (State.setHw s m x).waiters = s.waiters ∧ (State.setHw s m x).rasters = s.rasters ∧
    (State.setHw s m x).cores = s.cores ∧ (State.setHw s m x).forms = s.forms ∧ (State.setHw s m x).noBand = s.noBand ∧
    (State.setHw s m x).engines = s.engines ∧ (State.setHw s m x).lib = s.lib ∧ (State.setHw s m x).locker = s.locker ∧
    (State.setHw s m x).desk = s.desk ∧ (State.setHw s m x).istore = s.istore ∧ (State.setHw s m x).dram = s.dram ∧
    (State.setHw s m x).host = s.host ∧ (State.setHw s m x).flash = s.flash ∧ (State.setHw s m x).ecc = s.ecc ∧
    (State.setHw s m x).pages = s.pages ∧ (State.setHw s m x).priOn = s.priOn ∧ (State.setHw s m x).shelfTags = s.shelfTags ∧
    (State.setHw s m x).shelfSlots = s.shelfSlots ∧ (State.setHw s m x).shelfLru = s.shelfLru ∧ (State.setHw s m x).xlate = s.xlate ∧
    (State.setHw s m x).lastMap = s.lastMap ∧ (State.setHw s m x).fills = s.fills ∧ (State.setHw s m x).late = s.late ∧
    (State.setHw s m x).bandRecs = s.bandRecs ∧ (State.setHw s m x).corr = s.corr ∧ (State.setHw s m x).completions = s.completions ∧
    (State.setHw s m x).pipes = s.pipes ∧ (State.setHw s m x).bandEnts = s.bandEnts ∧ (State.setHw s m x).subJobs = s.subJobs ∧
    (State.setHw s m x).bells = s.bells ∧ (State.setHw s m x).swap = s.swap ∧ (State.setHw s m x).commitSlots = s.commitSlots ∧
    (State.setHw s m x).accepted = s.accepted ∧ (State.setHw s m x).glActive = s.glActive ∧ (State.setHw s m x).glHidden = s.glHidden ∧
    (State.setHw s m x).canvasMeta = s.canvasMeta ∧ (State.setHw s m x).flat = s.flat ∧ (State.setHw s m x).flatLines = s.flatLines ∧
    (State.setHw s m x).asked = s.asked ∧ (State.setHw s m x).protects = s.protects ∧ (State.setHw s m x).ports = s.ports ∧
    (State.setHw s m x).pclk = s.pclk ∧ (State.setHw s m x).trackers = s.trackers ∧ (State.setHw s m x).models = s.models ∧
    (State.setHw s m x).loaded = s.loaded ∧ (State.setHw s m x).runs = s.runs ∧ (State.setHw s m x).walks = s.walks ∧
    (State.setHw s m x).hostFrame = s.hostFrame ∧ (State.setHw s m x).parts = s.parts ∧ (State.setHw s m x).prepared = s.prepared ∧
    (State.setHw s m x).shown = s.shown ∧ (State.setHw s m x).formTiers = s.formTiers ∧ (State.setHw s m x).handoffs = s.handoffs ∧
    (State.setHw s m x).ckpts = s.ckpts ∧ (State.setHw s m x).journal = s.journal ∧ (State.setHw s m x).saves = s.saves ∧
    (State.setHw s m x).scopedHouses = s.scopedHouses ∧ (State.setHw s m x).deviceOpen = s.deviceOpen ∧ (State.setHw s m x).jtag = s.jtag ∧
    (State.setHw s m x).gpio = s.gpio ∧ (State.setHw s m x).service = s.service := by
  refine ⟨rfl, rfl, rfl, rfl, rfl, rfl, rfl, rfl, rfl, rfl, rfl, rfl, rfl, rfl, rfl, rfl, rfl, rfl, rfl, rfl, rfl, rfl, rfl, rfl, rfl, rfl, rfl, rfl, rfl, rfl, rfl, rfl, rfl, rfl, rfl, rfl, rfl, rfl, rfl, rfl, rfl, rfl, rfl, rfl, rfl, rfl, rfl, rfl, rfl, rfl, rfl, rfl, rfl, rfl, rfl, rfl, rfl, rfl, rfl, rfl, rfl, rfl, rfl, rfl, rfl, rfl, rfl, rfl, rfl, rfl, rfl⟩

/-- The free value read and the counter that moves on; everything else is as before (log 3). -/
@[simp] theorem State.free_eq (s : State) : s.free = (Config.freeWord s.freeCtr, { s with freeCtr := s.freeCtr + 1 }) := rfl

/-! ### Registers -/

/-- A register written reads back. -/
@[simp] theorem State.rd_wr_same (s : State) (r : Nat) (v : Word) : (s.wr r v).rd r = v := mapGet_mapSet_same regReset s.regs r v

/-- Every other register reads as before. -/
theorem State.rd_wr_ne (s : State) {r q : Nat} (v : Word) (h : q ≠ r) : (s.wr r v).rd q = s.rd q := mapGet_mapSet_ne regReset s.regs v h

/-- A field written reads back. -/
@[simp] theorem State.rdF_wrF_same (s : State) (r : Nat) {hi lo : Nat} (v : Nat) (h : hi < 32) :
    (s.wrF r hi lo v).rdF r hi lo = v % 2 ^ (hi + 1 - lo) := by
  unfold State.rdF State.wrF
  rw [State.rd_wr_same, fld_setFld_same _ _ h]

/-- Another field of the register reads as before. -/
theorem State.rdF_wrF_field (s : State) (r : Nat) {hi lo hi' lo' : Nat} (v : Nat) (h : hi' < 32) (q : hi' < lo ∨ hi < lo') :
    (s.wrF r hi lo v).rdF r hi' lo' = s.rdF r hi' lo' := by
  unfold State.rdF State.wrF
  rw [State.rd_wr_same, fld_setFld_ne _ _ h q]

/-- Every other register reads as before. -/
theorem State.rd_wrF_ne (s : State) {r q : Nat} (hi lo v : Nat) (h : q ≠ r) : (s.wrF r hi lo v).rd q = s.rd q := State.rd_wr_ne s _ h

/-- Every other register reads as before. -/
theorem State.rd_wr64_ne (s : State) {lo hi q : Nat} (v : Nat) (h : q ≠ lo) (h' : q ≠ hi) : (s.wr64 lo hi v).rd q = s.rd q := by
  unfold State.wr64
  rw [State.rd_wr_ne _ _ h', State.rd_wr_ne _ _ h]

/-! ### Cores, rasters, forms, engines -/

/-- The core replaced reads back. -/
@[simp] theorem State.core_setCore_same (s : State) (c : Nat) (k : Core) : (s.setCore c k).core c = k :=
  mapGet_mapSet_same _ s.cores c k
/-- Every other core is as before. -/
theorem State.core_setCore_ne (s : State) {c d : Nat} (k : Core) (h : d ≠ c) : (s.setCore c k).core d = s.core d :=
  mapGet_mapSet_ne _ s.cores k h
/-- The core that a function has been applied to. -/
@[simp] theorem State.core_onCore_same (s : State) (c : Nat) (f : Core → Core) : (s.onCore c f).core c = f (s.core c) :=
  State.core_setCore_same s c _
/-- Every other core is as before. -/
theorem State.core_onCore_ne (s : State) {c d : Nat} (f : Core → Core) (h : d ≠ c) : (s.onCore c f).core d = s.core d :=
  State.core_setCore_ne s _ h
/-- The raster replaced reads back. -/
@[simp] theorem State.raster_setRaster_same (s : State) (n : Nat) (r : RasterAux) : (s.setRaster n r).raster n = r :=
  mapGet_mapSet_same _ s.rasters n r
/-- Every other raster is as before. -/
theorem State.raster_setRaster_ne (s : State) {n m : Nat} (r : RasterAux) (h : m ≠ n) : (s.setRaster n r).raster m = s.raster m :=
  mapGet_mapSet_ne _ s.rasters r h
/-- The form replaced reads back. -/
@[simp] theorem State.form_setForm_same (s : State) (f : Nat) (x : Form) : (s.setForm f x).form f = x :=
  mapGet_mapSet_same _ s.forms f x
/-- Every other form is as before. -/
theorem State.form_setForm_ne (s : State) {f g : Nat} (x : Form) (h : g ≠ f) : (s.setForm f x).form g = s.form g :=
  mapGet_mapSet_ne _ s.forms x h
/-- The engine replaced reads back. -/
@[simp] theorem State.eng_setEng_same (s : State) (e : Nat) (x : DmaEng) : (s.setEng e x).eng e = x :=
  mapGet_mapSet_same _ s.engines e x
/-- Every other engine is as before. -/
theorem State.eng_setEng_ne (s : State) {e d : Nat} (x : DmaEng) (h : d ≠ e) : (s.setEng e x).eng d = s.eng d :=
  mapGet_mapSet_ne _ s.engines x h

/-! ### Core registers (R65) -/

/-- g0 reads 0. -/
@[simp] theorem Core.G_zero (k : Core) : k.G 0 = 0 := rfl
/-- A write to g0 is discarded. -/
@[simp] theorem Core.setG_zero (k : Core) (v : Word) : k.setG 0 v = k := rfl
/-- p0 reads 1. -/
@[simp] theorem Core.P_zero (k : Core) : k.P 0 = true := rfl
/-- A write to p0 is discarded. -/
@[simp] theorem Core.setP_zero (k : Core) (b : Bool) : k.setP 0 b = k := rfl
/-- A scalar register written reads back. -/
theorem Core.G_setG_same (k : Core) {r : Nat} (h : r ≠ 0) (v : Word) : (k.setG r v).G r = v := by
  simp only [Core.G, Core.setG, if_neg h]
  exact mapGet_mapSet_same _ k.g r v
/-- Every other scalar register reads as before. -/
theorem Core.G_setG_ne (k : Core) {r q : Nat} (v : Word) (h : q ≠ r) : (k.setG r v).G q = k.G q := by
  unfold Core.setG
  split
  · rfl
  · simp only [Core.G]
    split
    · rfl
    · exact mapGet_mapSet_ne _ k.g v h

end Sys2Proof.Machine
end

