-- ==== Sys2Proof/Laws/Issue.lean ====
section
/-! SUPPORT. The laws of a bundle with one slot: its OP reads back, it is the only slot that runs, and what its issue does as a whole. -/
namespace Sys2Proof.Machine
open Claim

/-- A slot word as a number. -/
theorem toNat_slotWord (op pg : Nat) (pn : Bool) (b : BitVec 54) :
    (slotWord op pg pn b).toNat = (op % 64 * 2 ^ 4 + pg % 8 * 2 + pn.toNat) * 2 ^ 54 + b.toNat := by
  have h1 : pg % 2 ^ 3 < 2 ^ 3 := Nat.mod_lt _ (by omega)
  have h2 : pn.toNat < 2 ^ 1 := Bool.toNat_lt pn
  simp only [slotWord, BitVec.toNat_append, BitVec.toNat_ofNat, BitVec.toNat_ofBool]
  rw [← Nat.shiftLeft_add_eq_or_of_lt h1, ← Nat.shiftLeft_add_eq_or_of_lt h2, ← Nat.shiftLeft_add_eq_or_of_lt b.isLt]
  simp only [Nat.shiftLeft_eq]
  omega

/-- OP of a slot word. -/
@[simp] theorem sOp_slotWord (op pg : Nat) (pn : Bool) (b : BitVec 54) : sOp (slotWord op pg pn b) = op % 64 := by
  have h := b.isLt
  have h1 : op % 64 < 64 := Nat.mod_lt _ (by omega)
  have h2 : pg % 8 < 8 := Nat.mod_lt _ (by omega)
  have h3 : pn.toNat < 2 := Bool.toNat_lt pn
  simp only [sOp, fld, toNat_slotWord, Nat.shiftRight_eq_div_pow]
  omega

/-- The one slot of a bundle. -/
theorem usedSlots_bundle1 {i : Nat} (hi : i < 8) {w : SlotW} (h : w ≠ 0) : usedSlots (bundle1 i w) = [(i, w)] := by
  have : i = 0 ∨ i = 1 ∨ i = 2 ∨ i = 3 ∨ i = 4 ∨ i = 5 ∨ i = 6 ∨ i = 7 := by omega
  have r : List.range 8 = [0, 1, 2, 3, 4, 5, 6, 7] := rfl
  rcases this with q | q | q | q | q | q | q | q <;> subst q <;>
    simp [usedSlots, slotsOf, bundle1, r, List.filter_cons] <;> exact h

/-- The one slot that executes. -/
theorem runSlots_bundle1 {k : Core} {i : Nat} (hi : i < 8) {w : SlotW} (h : sOp w ≠ 0) (g : k.guard w = true) :
    runSlots k (bundle1 i w) = [(i, w)] := by
  have : w ≠ 0 := fun q => h (by rw [q]; rfl)
  simp [runSlots, usedSlots_bundle1 hi this, g, h]

/-- The issue of a one-slot bundle that meets Issues: it issues, and its slot acts. -/
theorem issue_bundle1 {s : State} {c i : Nat} {w : SlotW} (h : Issues s c i w) (hi : i < 8) (ho : sOp w ≠ 0) :
    s.issue c (bundle1 i w) = issued s c i w (fun k t =>
      (if i ≤ 1 ∧ sOp w = 0x29 then t.onCore c (csrwRun k w) else t).slotRun k c (i, w)) := by
  obtain ⟨⟨h1, h2, h3, h4, h5, h6⟩, h7⟩ := h
  simp only [State.issue, h1, h2, h3, h4, h5, h6, State.runBundle, issued, runSlots_bundle1 hi ho h7, Bool.not_true, Bool.false_eq_true, if_false]
  congr 1
  by_cases q : i ≤ 1 ∧ sOp w = 0x29 <;> simp [q]

end Sys2Proof.Machine
end

