-- ==== Sys2Proof/WellFormed.lean ====
section
/-! DEFINITION. Well-formed commands: what the type of an operand does not say. A predicate of the syntax; exec takes every term. -/
namespace Sys2Proof

/-- An access of 1, 2, 4 or 8 bytes at a multiple of its size (R13). -/
def wfAccess (off : Fin 33554432) (size : Nat) : Bool := [1, 2, 4, 8].contains size && decide (off.val % size = 0)

/-- The address of a host page of 4 KiB (R203). -/
def wfPage (page : Nat) : Bool := decide (page % 4096 = 0) && decide (page < 2 ^ 64)

/-- A run of the address generator names lanes, arrays, Desk rows and a kernel that exist. -/
def AgRun.wf (a : AgRun) : Bool :=
  decide (0 < a.kw) && decide (0 < a.kh) && decide (0 < a.sx) && decide (0 < a.sy) && decide (0 < a.dx) && decide (0 < a.dy) &&
  decide (a.lane < 32) && decide (a.array < 2) && decide (a.irow < 128) && decide (a.zcode < 256) &&
  (match a.pass with | some (p, n) => decide (p < 8192) && decide (n < 65536) | none => true)

/-- A command record has its fourteen arguments (Table 14.1). -/
def DeanCmd.wf (d : DeanCmd) : Bool := decide (d.args.length = 14)

/-- The command is well formed. -/
def Instr.wf : Instr → Bool
  | .resetAssert => true
  | .resetRelease .. => true
  | .perst => true
  | .registerWrite _ off size _ => wfAccess off size
  | .pairSnapshotRead _ off size => wfAccess off size
  | .apertureAccess _ _ size write => decide (0 < size) && decide (size ≤ 4096) && (match write with | some bs => decide (bs.length = size) | none => true)
  | .lineStart .. => true
  | .frameDone _ upsets => upsets.all (fun x => decide (x.2 < 2 ^ 32))
  | .protectRewrite .. => true
  | .referenceInstant .. => true
  | .holdover .. => true
  | .slipHoldLimit .. => true
  | .teEdge .. => true
  | .teMiss .. => true
  | .vrrTimeout .. => true
  | .relockComplete .. => true
  | .bellSwapComplete => true
  | .bellNop .. => true
  | .progStart .. => true
  | .dmaStart .. => true
  | .bellCommit .. => true
  | .warn .. => true
  | .late .. => true
  | .hostEvt .. => true
  | .wake .. => true
  | .handoff .. => true
  | .inputFrameStart .. => true
  | .inputWrap .. => true
  | .sourceTimeout .. => true
  | .repeatEnd .. => true
  | .inputLineCaptured _ planes => decide (planes.length ≤ 3) && planes.all (fun p => p.all (fun x => decide (x < 4096)))
  | .streamFormat _ _ _ _ _ _ kpix _ _ => decide (kpix < 2 ^ 32)
  | .msaChange _ _ _ _ _ _ kpix _ _ => decide (kpix < 2 ^ 32)
  | .sinkLinkLost .. => true
  | .sinkRetrain .. => true
  | .sinkLinkTrained .. => true
  | .dscDecodeError .. => true
  | .sinkHdcpFail .. => true
  | .portHpdLoss .. => true
  | .portLinkTrained n lines => match lines with | some n => decide (n < 65536) | none => true
  | .portHdcpLoss .. => true
  | .scanoutUnderrun .. => true
  | .psrEnter .. => true
  | .psrSelectiveUpdate .. => true
  | .psrExit .. => true
  | .add .. => true
  | .sub_ .. => true
  | .and_ .. => true
  | .or_ .. => true
  | .xor_ .. => true
  | .sll .. => true
  | .srl .. => true
  | .sra .. => true
  | .mul_ .. => true
  | .mulh .. => true
  | .mulhu .. => true
  | .min_ .. => true
  | .max_ .. => true
  | .minu .. => true
  | .maxu .. => true
  | .addi .. => true
  | .andi .. => true
  | .ori .. => true
  | .xori .. => true
  | .slli .. => true
  | .srli .. => true
  | .srai .. => true
  | .li .. => true
  | .muli .. => true
  | .adds .. => true
  | .clz .. => true
  | .popc .. => true
  | .cmp .. => true
  | .csrr .. => true
  | .csrw .. => true
  | .br .. => true
  | .brl .. => true
  | .jr .. => true
  | .ld .. => true
  | .lds .. => true
  | .st .. => true
  | .ldbc .. => true
  | .pref .. => true
  | .loadReturn .. => true
  | .gatherFlushTimeout .. => true
  | .vadd .. => true
  | .vsub .. => true
  | .vmul .. => true
  | .vfma .. => true
  | .vmin .. => true
  | .vmax .. => true
  | .vand .. => true
  | .vor .. => true
  | .vxor .. => true
  | .vshl .. => true
  | .vshr .. => true
  | .vshli .. => true
  | .vshri .. => true
  | .vcmp .. => true
  | .vsel .. => true
  | .vcvt .. => true
  | .vredadd .. => true
  | .vredmax .. => true
  | .vperm .. => true
  | .vslide .. => true
  | .vbcast .. => true
  | .vext .. => true
  | .vins .. => true
  | .vmov .. => true
  | .vabs .. => true
  | .vany .. => true
  | .vall .. => true
  | .vmulh .. => true
  | .wld .. => true
  | .mstream .. => true
  | .mdst .. => true
  | .mdrain .. => true
  | .mzero .. => true
  | .msr .. => true
  | .mrs .. => true
  | .mscl .. => true
  | .arrayCommandStart .. => true
  | .arrayCommandComplete .. => true
  | .keeperTimeout .. => true
  | .governorGrant .. => true
  | .dmv .. => true
  | .dmvr .. => true
  | .csend .. => true
  | .mvl .. => true
  | .mvlResult .. => true
  | .dmak .. => true
  | .transferCommandComplete .. => true
  | .corridorLanding .. => true
  | .bwait .. => true
  | .iwait .. => true
  | .hsig .. => true
  | .hwait .. => true
  | .fenceSl .. => true
  | .fenceSs .. => true
  | .fenceAll .. => true
  | .fenceM0 .. => true
  | .fenceM1 .. => true
  | .fenceM .. => true
  | .fenceX .. => true
  | .roll .. => true
  | .tdone .. => true
  | .done_ .. => true
  | .pset .. => true
  | .pand .. => true
  | .por .. => true
  | .pxor .. => true
  | .pnot .. => true
  | .loop_ .. => true
  | .cwait .. => true
  | .trap .. => true
  | .deanFaultNotice .. => true
  | .tileFaultResponse .. => true
  | .breakpoint .. => true
  | .shapeWordRead .. => true
  | .handoverComplete .. => true
  | .shelfFill _ line => decide (line % 64 = 0)
  | .libraryScrub .. => true
  | .libraryUncResponse .. => true
  | .marchComplete .. => true
  | .dmaChainStart .. => true
  | .descNop .. => true
  | .copy .. => true
  | .skew .. => true
  | .fill .. => true
  | .descPref .. => true
  | .descriptorComplete .. => true
  | .priResponse _ page _ => wfPage page
  | .abort_ .. => true
  | .atsInvalidation _ page _ => wfPage page
  | .ffSlotStart => true
  | .jobWalkStart .. => true
  | .jobNop .. => true
  | .edgeIn .. => true
  | .edgeOut .. => true
  | .crop .. => true
  | .jobComplete .. => true
  | .addressGeneratorRun _ a => a.wf
  | .subJobStart .. => true
  | .subJobReady .. => true
  | .thermalSample .. => true
  | .heatTierDecay .. => true
  | .homeworkSample _ motion => decide (motion.length ≤ 65536)
  | .homeworkDeal .. => true
  | .grad .. => true
  | .update .. => true
  | .homeworkCopy .. => true
  | .eval .. => true
  | .deploy .. => true
  | .roundEvaluate .. => true
  | .checkpointPeriod .. => true
  | .commitApply .. => true
  | .dirty .. => true
  | .mbxDoorbell .. => true
  | .queTail .. => true
  | .queHead .. => true
  | .hpsSignal .. => true
  | .evtCMask .. => true
  | .perfWrap .. => true
  | .deanSlot .. => true
  | .nop d => d.wf
  | .queueCreate d => d.wf
  | .queueDestroy d => d.wf
  | .houseGrant d => d.wf
  | .bankHandover d => d.wf
  | .pipeCreate d => d.wf
  | .pipeDestroy d => d.wf
  | .modelLoad d => d.wf
  | .modelUnload d => d.wf
  | .routeSet d => d.wf
  | .commit d => d.wf
  | .commitBell d => d.wf
  | .commitCut d => d.wf
  | .commitClear d => d.wf
  | .modeSet d => d.wf
  | .portSet d => d.wf
  | .canvasSet d => d.wf
  | .vlayerSet d => d.wf
  | .protectSet d => d.wf
  | .tierFloor d => d.wf
  | .coreRetire d => d.wf
  | .coreRejoin d => d.wf
  | .marchRun d => d.wf
  | .fwStage d => d.wf
  | .fwSwap d => d.wf
  | .debugSet d => d.wf
  | .adaptPolicy d => d.wf
  | .bandStatus d => d.wf
  | .pipeStatus d => d.wf
  | .hwStatus d => d.wf
  | .hpassSet d => d.wf
  | .hpassWait d => d.wf
  | .dmaRun d => d.wf
  | .shelfFlush d => d.wf
  | .flr .. => true
  | .vinHfTail .. => true
  | .hfRingEnable .. => true
  | .hfRingDisable .. => true
  | .hostFrameDescriptor => true
  | .hostFrameGroup .. => true
  | .dramRetrain .. => true
  | .halt .. => true
  | .step_ .. => true
  | .resume .. => true
  | .lcReq _ _ token => decide (token.isEmpty) || decide (256 ≤ token.length)
  | .hdcpProvision => true
  | .idcode => true
  | .bypass .. => true
  | .samplePreload .. => true
  | .extest .. => true
  | .intest .. => true
  | .tcdAccess .. => true
  | .rollbackRaise .. => true
  | .pwrReqFull => true
  | .pwrReqEco => true
  | .pwrReqStandby => true
  | .pf0D3hot => true
  | .pf0D0 => true
  | .standbyEntry .. => true
  | .powerTransitionComplete .. => true
  | .governorTick _ _ pa => decide (0 < pa)
  | .vcoreAdjust .. => true
  | .vcoreRegulatorTimeout => true
  | .thermalRestart .. => true
  | .holdupWarning .. => true
  | .pwrsagGlitch => true
  | .saveSealed .. => true
  | .holdupResume .. => true
  | .powerOff => true
  | .fwSwapHandover => true
  | .fwWatchdog => true
  | .fwBootConfirm => true
  | .pllRecalibrate .. => true
  | .sensorCalibrate .. => true
  | .sinkHdcpAuthenticated .. => true
  | .portHdcpAuthenticated .. => true
  | .portHpdReturn .. => true
  | .pwrsagNHigh .. => true
  | .gpioInterrupt .. => true

end Sys2Proof
end

