-- ==== Sys2Proof/Tests/Slice0.lean ====
section
/-! SUPPORT. Own tests: ill-formed commands that WellFormed refuses; the spec's worked examples; and for each statement with hypotheses a concrete state
that meets them (test_meets_...). -/
open Sys2Proof Sys2Proof.Machine Sys2Proof.Machine.Claim
namespace Sys2Proof.Tests

/-! ### Well-formedness: one ill-formed term for each check -/

/-- An address-generator run that is well formed. -/
def agRun : AgRun :=
  { locker := none, src := 0, linePitch := 64, width := 4, height := 1, kw := 1, kh := 1, sx := 1, sy := 1, dx := 1, dy := 1, padL := 0, padT := 0,
    padR := 0, padB := 0, line := 0, first := 0, count := 2, zcode := 0, lane := 0, array := 0, irow := 0, pass := none }

theorem test_wf_access_size : (Instr.registerWrite 0 0 3 0).wf = false ∧ (Instr.registerWrite 0 0 4 0).wf = true := by decide
theorem test_wf_access_alignment : (Instr.pairSnapshotRead 0 2 4).wf = false ∧ (Instr.pairSnapshotRead 0 2 2).wf = true := by decide
theorem test_wf_aperture : (Instr.apertureAccess 0 0 0 none).wf = false ∧ (Instr.apertureAccess 0 0 4097 none).wf = false ∧
    (Instr.apertureAccess 0 0 2 (some [1])).wf = false ∧ (Instr.apertureAccess 0 0 1 (some [1])).wf = true := by decide
theorem test_wf_frame_done : (Instr.frameDone 0 [(0, 4294967296)]).wf = false ∧ (Instr.frameDone 0 [(0, 4294967295)]).wf = true := by decide
theorem test_wf_input_line : (Instr.inputLineCaptured 0 [[], [], [], []]).wf = false ∧ (Instr.inputLineCaptured 0 [[4096]]).wf = false ∧
    (Instr.inputLineCaptured 0 [[4095]]).wf = true := by decide
theorem test_wf_stream : (Instr.streamFormat 0 1 1 1 1 0 4294967296 false false).wf = false ∧
    (Instr.msaChange 0 1 1 1 1 0 4294967296 false false).wf = false ∧ (Instr.msaChange 0 1 1 1 1 0 4294967295 false false).wf = true := by decide
theorem test_wf_link : (Instr.portLinkTrained 0 (some 65536)).wf = false ∧ (Instr.portLinkTrained 0 (some 65535)).wf = true := by decide
theorem test_wf_fill : (Instr.shelfFill 0 65).wf = false ∧ (Instr.shelfFill 0 64).wf = true := by decide
theorem test_wf_page : (Instr.priResponse 0 4095 true).wf = false ∧ (Instr.atsInvalidation 0 18446744073709551616 0).wf = false ∧
    (Instr.atsInvalidation 0 4096 0).wf = true := by decide
theorem test_wf_ag_kernel : ({ agRun with kw := 0 } : AgRun).wf = false ∧ ({ agRun with kh := 0 } : AgRun).wf = false ∧
    ({ agRun with sx := 0 } : AgRun).wf = false ∧ ({ agRun with sy := 0 } : AgRun).wf = false ∧ ({ agRun with dx := 0 } : AgRun).wf = false ∧
    ({ agRun with dy := 0 } : AgRun).wf = false ∧ agRun.wf = true := by decide
theorem test_wf_ag_place : ({ agRun with lane := 32 } : AgRun).wf = false ∧ ({ agRun with array := 2 } : AgRun).wf = false ∧
    ({ agRun with irow := 128 } : AgRun).wf = false ∧ ({ agRun with zcode := 256 } : AgRun).wf = false ∧
    ({ agRun with pass := some (8192, 1) } : AgRun).wf = false ∧ ({ agRun with pass := some (0, 65536) } : AgRun).wf = false := by decide
theorem test_wf_sample : (Instr.homeworkSample 0 (List.replicate 65537 0)).wf = false := by
  simp only [Instr.wf, List.length_replicate]; decide
theorem test_wf_record : (Instr.nop (cmd 0 none 0 (List.replicate 13 0))).wf = false ∧ (Instr.nop (cmd 0 none 0 (List.replicate 14 0))).wf = true := by decide
theorem test_wf_token : (Instr.lcReq 3 0 [0]).wf = false ∧ (Instr.lcReq 3 0 []).wf = true := by decide
theorem test_wf_governor : (Instr.governorTick 0 0 0).wf = false ∧ (Instr.governorTick 0 0 1).wf = true := by decide

/-! ### Worked examples of the spec -/

/-- The slot words of bundle 0x0100 in the worked example of chapter 3: ADDI g4, g4, 128; LD v1, [h3 + g4 + 0], vector; ROLL g7, p1. -/
theorem test_slot_words :
    slotWord 0x10 0 false 0x0008400000000080 = 0x4008400000000080 ∧ sA 0x4008400000000080 = 4 ∧ sB 0x4008400000000080 = 4 ∧
    sImm 0x4008400000000080 = 0x80 ∧ slotLegal 0 0 0x4008400000000080 = true ∧
    sOp 0x040240E000000000 = 1 ∧ s2H 0x040240E000000000 = 3 ∧ sSize 0x040240E000000000 = 128 ∧ sA 0x040240E000000000 = 1 ∧
    slotLegal 0 2 0x040240E000000000 = true ∧
    sOp 0x180E400000000000 = 6 ∧ sA 0x180E400000000000 = 7 ∧ fld (0x180E400000000000 : SlotW) 48 46 = 1 ∧
    slotLegal 0 7 0x180E400000000000 = true := by decide

/-! ### Chapters 3 to 6: states in which the rows of the tile cores issue -/

/-- The hypotheses of `Issues` as a test. -/
def issuesB (s : State) (c i : Nat) (w : SlotW) : Bool :=
  let p := s.progress c
  let k := p.core c
  p.canIssue c && !k.atBreak && !k.stepping && !p.depStall k c (bundle1 i w) && !p.queueStall k c (bundle1 i w) &&
    (p.bundleFault k c (bundle1 i w)).isNone && k.guard w

theorem issues_of (s : State) (c i : Nat) (w : SlotW) (h : issuesB s c i w = true) : Issues s c i w := by
  simp only [issuesB, Bool.and_eq_true, Bool.not_eq_true', Option.isNone_iff_eq_none] at h
  obtain ⟨⟨⟨⟨⟨⟨a, b⟩, c⟩, d⟩, e⟩, f⟩, g⟩ := h
  exact ⟨⟨a, b, c, d, e, f⟩, g⟩

/-- A core of House 0 that runs, with handle 0 for its whole Locker (readable and writable), hall pass 0 in the House's range, and the header of a 1 by 1 lane block at the start of its Locker. -/
def running : State :=
  ({ State.reset with locker := [(0, 1), (2, 1), (6, 4)] }.wr (Reg.HPS_HRANGEh 0) 0x10000).setCore 0
    { idle := false, handles := [(2, 0x10000), (3, 0x98000000)], g := [(3, 2)] }

theorem test_meets_quiet : Quiet running 0 := ⟨by decide, by decide, by decide⟩
theorem test_meets_scalar_rows :
    ∀ l ∈ [0, 1], ∀ op ∈ [1, 2, 3, 4, 5, 6, 7, 8, 9, 0xA, 0xB, 0xC, 0xD, 0xE, 0xF, 0x10, 0x11, 0x12, 0x13, 0x14, 0x15, 0x16, 0x17, 0x18, 0x19, 0x1A, 0x1B, 0x20, 0x28],
      issuesB running 0 l (slotWord op 0 false 0) = true := by decide
theorem test_meets_branch_rows : (∀ op ∈ [0x30, 0x31, 0x32], issuesB running 0 0 (slotWord op 0 false 0) = true) ∧
    ∀ l ∈ [0, 1], issuesB running 0 l (slotWord 0x29 0 false 8) = true := by decide
theorem test_meets_locker_rows : ∀ op ∈ [1, 2, 3, 4, 5], issuesB running 0 2 (slotWord op 0 false 0) = true := by decide
theorem test_meets_vector_rows : ∀ op ∈ (List.range 28).map (· + 1), issuesB running 0 3 (slotWord op 0 false 0) = true := by decide
theorem test_meets_matrix_rows :
    ∀ i ∈ [4, 5], (∀ op ∈ [1, 2, 3, 4, 5, 6, 7], issuesB running 0 i (slotWord op 0 false 0) = true) ∧
      issuesB running 0 i (slotWord 8 0 false (0x10 * 2 ^ 40)) = true := by decide
theorem test_meets_transfer_rows : ∀ op ∈ [1, 2, 3, 4, 5], issuesB running 0 6 (slotWord op 0 false 0) = true := by decide
theorem test_meets_control_rows : (∀ op ∈ [1, 2, 4, 6, 7, 8], issuesB running 0 7 (slotWord op 0 false 0) = true) ∧
    ∀ op ∈ [9, 0xA, 0xB, 0xC, 0xD, 0xF], issuesB running 0 7 (slotWord op 0 false 0) = true := by decide
theorem test_meets_signal : issuesB running 0 7 (slotWord 3 0 false 1) = true := by decide
theorem test_meets_fence_sl : issuesB running 0 7 (slotWord 5 0 false 1) = true := by decide
theorem test_meets_fence_ss : issuesB running 0 7 (slotWord 5 0 false 2) = true := by decide
theorem test_meets_fence_all : issuesB running 0 7 (slotWord 5 0 false 3) = true := by decide
theorem test_meets_fence_m0 : issuesB running 0 7 (slotWord 5 0 false 4) = true := by decide
theorem test_meets_fence_m1 : issuesB running 0 7 (slotWord 5 0 false 5) = true := by decide
theorem test_meets_fence_m : issuesB running 0 7 (slotWord 5 0 false 6) = true := by decide
theorem test_meets_fence_x : issuesB running 0 7 (slotWord 5 0 false 7) = true := by decide
theorem test_meets_loop : issuesB running 0 7 (slotWord 0xE 0 false 1) = true ∧ issuesB running 0 7 (slotWord 0xE 0 false (3 * 2 ^ 49 + 8191)) = true ∧
    sA (slotWord 0xE 0 false (3 * 2 ^ 49 + 8191)) = 3 ∧ (running.core 0).G 3 = 2 := by decide
/-- The guard p1 reads 0: the bundle issues and its slot does nothing. -/
theorem test_meets_ready_off : Ready running 0 0 (slotWord 1 1 false 0) ∧ ((running.progress 0).core 0).guard (slotWord 1 1 false 0) = false :=
  ⟨⟨by decide, by decide, by decide, by decide, by decide, by decide⟩, by decide⟩
theorem test_meets_no_issue : (State.reset.progress 0).canIssue 0 = false := by decide
theorem test_meets_break :
    let s := running.setCore 0 { idle := false, bp := 0x80000000 }
    (s.progress 0).canIssue 0 = true ∧ ((s.progress 0).core 0).atBreak = true := by decide
theorem test_meets_stalls :
    let s := running.setCore 0 { idle := false, waits := [.bell 5], loads := [⟨false, 0, 0, 4, .scalar 4 false, none⟩] }
    let p := s.progress 0
    let k := p.core 0
    p.canIssue 0 = true ∧ k.atBreak = false ∧ p.depStall k 0 (bundle1 0 (slotWord 1 0 false (4 * 2 ^ 49))) = true ∧
    p.depStall k 0 (bundle1 0 (slotWord 1 0 false 0)) = false ∧ p.queueStall k 0 (bundle1 0 (slotWord 1 0 false 0)) = true := by decide
theorem test_meets_fault :
    let p := running.progress 0
    let k := p.core 0
    let w := slotWord 0x10 0 false 0xFFFF
    p.canIssue 0 = true ∧ k.atBreak = false ∧ p.depStall k 0 (bundle1 7 w) = false ∧ p.queueStall k 0 (bundle1 7 w) = false ∧ k.guard w = true ∧
    fld w 53 16 = 0 ∧ k.stepping = false ∧ p.bundleFault k 0 (bundle1 7 w) = some (7, ⟨9, 0xFFFF, 0⟩) ∧ bit (k.C 0x10) 31 = false := by decide
theorem test_meets_fault_multi : bit (((running.setCore 0 { idle := false, csr := [(0x10, 0x80000009)] }).core 0).C 0x10) 31 = true := by decide
theorem test_meets_illegal : slotLegal 0 0 (slotWord 0x3F 0 false 0) = false ∧ scalarLegal (slotWord 0x30 0 false 0) = true ∧
    bundleClash (bundle1 1 (slotWord 0x30 0 false 0)) ≠ none := by decide
theorem test_meets_loops :
    let s := fun pc (is : List Loop) => running.setCore 0 { idle := false, pc := pc, loops := is }
    (issuesB (s 5 [⟨2, 5, 2⟩]) 0 0 (slotWord 1 0 false 0) = true ∧ ((s 5 [⟨2, 5, 2⟩]).progress 0).core 0 = { idle := false, pc := 5, loops := [⟨2, 5, 2⟩] }) ∧
    issuesB (s 5 [⟨2, 5, 1⟩]) 0 1 (slotWord 1 0 false 0) = true ∧ issuesB (s 4 [⟨2, 5, 1⟩]) 0 0 (slotWord 1 0 false 0) = true := by decide
theorem test_meets_locker_store : ((running.core 0).handle (s2H (slotWord 3 0 false 0))).kind = 0 := by decide
/-- A load and a store entry in flight in House 0's bank 3. -/
def flying : State :=
  (State.reset.wr (Reg.LIB_BANKb 3) 0).setCore 0
    { idle := false, gather := [⟨false, 0, 0xC0000, [(4, 7), (5, 0)]⟩] }
theorem test_meets_load_return :
    let l : OutLoad := ⟨false, 0, 0xC0000, 4, .scalar 4 false, none⟩
    let s := flying.setCore 0 { loads := [l] }
    (s.core 0).loads[0]? = some l ∧ (∀ x ∈ linesOf l.addr l.size, s.bankBusy (bankOf x) = false) ∧ (∀ x ∈ wordsTouched l.addr l.size, s.eccOf .lib x = 0) ∧
    (∃ x ∈ linesOf l.addr l.size, (s.wr (Reg.LIB_BANKb 3) 0x40000000).bankBusy (bankOf x) = true) := by decide
theorem test_meets_gather_flush :
    let e : GatherEntry := ⟨false, 0, 0xC0000, [(4, 7), (5, 0)]⟩
    (flying.core 0).gather[0]? = some e ∧ (flying.core 0).gather[1]? = none ∧
    (flying.core 0).gather.find? (fun g => g.shelf = e.shelf && decide (g.line = e.line)) = some e ∧ runsOf e.bytes = [(4, [7, 0])] ∧
    (flying.core 0).loads = [] ∧ flying.banksOk e.house (e.line + 4) 2 = true ∧ flying.bankBusy (bankOf (e.line + 4)) = false := by decide
/-- Core 0 with matrix array 0 as given. -/
def arrayAt (y : Arr) : State := State.reset.setCore 0 { m0 := y }
theorem test_meets_array_heads :
    State.reset.coresOn = true ∧ State.reset.fold 0 = false ∧
    (∀ o ∈ [ArrOp.msr 0xE 0xFFFFFFFF, .msr 8 0, .mdst 63 5, .mrs 31 0x10, .wld 1],
      (((arrayAt { queue := [⟨o, 3⟩] }).core 0).arr 0).queue = [⟨o, 3⟩] ∧ (((arrayAt { queue := [⟨o, 3⟩] }).core 0).arr 0).running = []) ∧
    aRegListed 0x10 = true ∧ fld (0xFFFFFFFF : Word) 31 28 ≠ 2 := by decide
theorem test_meets_array_complete :
    let a := arrayAt { running := [{ op := .mrs 31 5, seq := 3, value := 7 }] }
    let b := arrayAt { running := [{ op := .mdrain 0 1, seq := 3, writes := [⟨0, false, 65534, [1, 2]⟩] }] }
    ((a.core 0).arr 0).running = [{ op := .mrs 31 5, seq := 3, value := 7, flags := 0 }] ∧
    ((b.core 0).arr 0).running = [{ op := .mdrain 0 1, seq := 3, writes := [⟨0, false, 65534, [1, 2]⟩], flags := 0 }] := by decide
theorem test_meets_weight_stream :
    let o := ArrOp.mstream 0 0 1 0 0
    let a := arrayAt { queue := [⟨o, 3⟩], warmth := .warm, shadow := some [(0, 1)] }
    let b := arrayAt { queue := [⟨o, 3⟩], warmth := .warm, running := [{ op := .wld 1, seq := 2 }] }
    ((a.core 0).arr 0).queue = [⟨o, 3⟩] ∧ ((a.core 0).arr 0).running = [] ∧ ((a.core 0).arr 0).warmth ≠ .cold ∧
    (∃ h q, { op := .wld h, seq := q } ∈ ((b.core 0).arr 0).running) := ⟨by decide, by decide, by decide, 1, 2, by decide⟩
theorem test_meets_keeper : (((arrayAt { warmth := .warm }).core 0).arr 0).warmth = .warm ∧ (((arrayAt { warmth := .warm }).core 0).arr 0).pendFault = none ∧
    ((State.reset.core 0).arr 0).warmth ≠ .warm := by decide
theorem test_meets_governor : ((State.reset.core 0).arr 1).warmth = .cold ∧ State.reset.powerHigh = false ∧
    State.reset.rd64 Reg.PWR_GRANT_LO Reg.PWR_GRANT_HI + 1 < 2 ^ 48 ∧ (State.reset.wr Reg.PWR_PNOW 0xFFFF).powerHigh = true ∧
    (((arrayAt { warmth := .releasing }).core 0).arr 0).warmth = .releasing := by decide
/-- Core 0 with a transfer at the head of its queue. -/
def transferAt (o : XferOp) : State := State.reset.setCore 0 { xfer := [(o, 4)] }
theorem test_meets_lane :
    let l : LaneCmd := { vd := 31, n := 1, seq := 2, results := some [5], flags := 0 }
    let b : LaneCmd := { vd := 31, n := 1, seq := 2, results := none, flags := 0 }
    ((State.reset.setCore 0 { lane := [l] }).core 0).lane = [l] ∧ ((State.reset.setCore 0 { lane := [b] }).core 0).lane = [b] := ⟨rfl, rfl⟩
theorem test_meets_transfers :
    let r : List Byte := List.replicate 64 9
    (∀ o ∈ [XferOp.dmv 1 2 false 0 255 [some r], .csend true 0 1 64 [some r], .dmak 1 0x40], ((transferAt o).core 0).xfer = [(o, 4)]) ∧
    r.length = 64 ∧ CoreWait.fence true ∉ ((transferAt (.dmak 1 0x40)).core 0).waits ∧ ((transferAt (.dmak 1 0x40)).eng 1).starts.length < 4 := by decide
theorem test_meets_corridor :
    let u : CorrUnit := ⟨0, true, 1, 0, 0, 65472, List.replicate 64 3⟩
    let s := { running with corr := [u] }
    Quiet s (neighbour 0 (!true)) ∧ s.corr.find? (fun q => decide (q.core = 0) && q.up = true) = some u ∧ s.coreLive 0 = true ∧ landingOk (s.core 0) u = true ∧
    (s.setCore 0 { retired := true }).coreLive 0 = false := ⟨⟨by decide, by decide, by decide⟩, by decide, by decide, by decide, by decide⟩

/-! ### Chapters 0, 14: register accesses, doorbells, hall passes, counters -/

theorem test_meets_up : Up State.reset ∧ Link State.reset ∧ Link { State.reset with power := .standby } ∧ ¬ Link { State.reset with power := .holdup } := by
  refine ⟨⟨rfl, rfl⟩, ⟨rfl, .inl rfl⟩, ⟨rfl, .inr rfl⟩, ?_⟩
  rintro ⟨-, h | h⟩ <;> cases h
/-- House 3 holds a grant, its ranges of queues, hall passes and bells, an output, an input, a layer and bank 5. -/
def granted : State :=
  ({ State.reset with grants := [(3, { given := true, cbase := 0, outputs := 1, inputs := 7, glayers := 2, forms := 1, quota := 2 })] } : State)
    |>.wr (Reg.QUE_HRANGEh 3) 0x100040 |>.wr (Reg.HPS_HRANGEh 3) 0x101FF0 |>.wr (Reg.RAS_HRANGEh 3) 0x100FF0 |>.wr (Reg.LIB_BANKb 5) 3
    |>.wr (Reg.own 3 Reg.LIB_APBASE) 5
theorem test_meets_not_seen : State.reset.sees 3 0x100004 = false ∧ upperOf (0x100004 - 4) ≠ some 0x100004 := by decide
theorem test_meets_access_codes :
    granted.sees 3 0x101000 = true ∧ (∃ r, regRow? 0x101000 = some r ∧ r.ovf = false) ∧
    State.reset.sees 0 (Reg.RASn_CTRL 7) = true ∧ (∃ r, regRow? (Reg.RASn_CTRL 7) = some r ∧ r.ovf = false) := by decide
theorem test_meets_words : upperOf 0x10000 = none ∧ upperOf (0x10000 - 4) ≠ some 0x10000 ∧ regRow? 0xFFFFFC = none ∧ upperOf Reg.PWR_STRUS_LO = some (Reg.PWR_STRUS_LO + 4) ∧
    mapGet (fun _ => none) State.reset.snaps (Reg.own 0 (Reg.PWR_STRUS_LO + 4)) = none := by decide
theorem test_meets_aperture :
    granted.granted 3 = true ∧ 0x3FFFF % 0x40000 + 1 ≤ 0x40000 ∧ granted.bankOk 3 (bankOf (granted.apertureAddr 3 0x3FFFF)) = true ∧
    granted.bankBusy (bankOf (granted.apertureAddr 3 0x3FFFF)) = false ∧ granted.ecc = [] ∧ granted.bankOk 3 (bankOf (granted.apertureAddr 3 0x40000)) = false := by decide
theorem test_meets_doorbells :
    granted.mbxBusy 3 = false ∧ (granted.wr (Reg.own 3 Reg.MBX_STATUS) 1).mbxBusy 3 = true ∧ granted.queueHouse 0x4F = some 3 ∧
    (let s := granted.wr (Reg.QUE_q_CFG 0x4F) 0x800C0000
     s.queueKind 0x4F = 0 ∧ s.queueOn 0x4F = true ∧ s.queueLen 0x4F = 4096 ∧
     (s.queueTail 0x4F + 4096 - s.queueHead 0x4F) % 4096 + (4095 + 4096 - s.queueTail 0x4F) % 4096 < 4096 ∧
     let t := (s.wr (Reg.QUE_q_TAIL 0x4F) 2).wr (Reg.QUE_q_HEAD 0x4F) 1
     4096 ≤ (t.queueTail 0x4F + 4096 - t.queueHead 0x4F) % 4096 + (1 + 4096 - t.queueTail 0x4F) % 4096) := by decide
theorem test_meets_event_head :
    let s := granted.wr (Reg.QUE_q_CFG 0x4F) 0xC08C0000
    s.queueKind 0x4F ≠ 0 ∧ s.queueOn 0x4F = true ∧ s.queueTail 0x4F = 0 ∧ bit (s.rd (Reg.QUE_q_CFG 0x4F)) 30 = true := by decide
theorem test_meets_mask :
    let s := (granted.wr (Reg.own 3 Reg.EVT_C_STATUS) 1).wr (Reg.own 3 Reg.EVT_C_IRQ) 0x40
    2 &&& ~~~(s.rd (Reg.own 3 Reg.EVT_C_MASK)) &&& s.rd (Reg.own 3 Reg.EVT_C_STATUS) = 0 ∧
    1 &&& ~~~(s.rd (Reg.own 3 Reg.EVT_C_MASK)) &&& s.rd (Reg.own 3 Reg.EVT_C_STATUS) ≠ 0 ∧ bit (s.rd (Reg.own 3 Reg.EVT_C_IRQ)) 6 = true := by decide
theorem test_meets_pass_signal :
    granted.passHouse 8191 = some 3 ∧ granted.passHouse 0x1FEF = none ∧ granted.waiters = [] ∧ granted.passVal 8191 + 65535 < 2 ^ 32 ∧
    2 ^ 32 ≤ (granted.wr (Reg.HPS_p_VALUE 8191) 0xFFFFFFFF).passVal 8191 + 1 ∧
    (let w : HpWaiter := ⟨8191, 5, .core 7⟩
     let s := { granted with waiters := [w] }
     s.waiters = w :: [] ∧ w.count ≤ s.passVal 8191 + 5 ∧ s.passVal 8191 + 4 < w.count) := by decide
theorem test_meets_counter_end :
    let s := (State.reset.wr Reg.PWR_STRUS_LO 0xFFFFFFFF).wr (Reg.PWR_STRUS_LO + 4) 0xFFFF
    s.rd64 Reg.PWR_STRUS_LO (Reg.PWR_STRUS_LO + 4) = 2 ^ 48 - 1 ∧ State.reset.rd64 Reg.PWR_STRUS_LO (Reg.PWR_STRUS_LO + 4) ≠ 2 ^ 48 - 1 ∧
    (let k := (State.reset.setCore 1023 { csr := [(0x1E, 0xFFFFFFFF), (0x1F, 0xFFFF)] }).core 1023
     (k.C 0x1E).toNat + 2 ^ 32 * (k.C (0x1E + 1)).toNat = 2 ^ 48 - 1) := by decide
theorem test_meets_dirty : granted.ownsLayer 3 1 = true ∧ granted.ownsLayer 3 0 = false := by decide

/-! ### Chapters 6, 8 to 10: roll counters, faults, debug, banks, marches -/

/-- The rolls of form 1 over two tiles: its shape word waits at the start of House 3's bank 5. -/
def shaped : State := ({ granted with lib := [(5 * 2 ^ 18, 2)] } : State).setForm 1 { shape := some (5 * 2 ^ 18, 3) }
theorem test_meets_shape :
    (shaped.form 0).shape = none ∧ (shaped.form 1).shape = some (5 * 2 ^ 18, 3) ∧ shaped.banksOk 3 (5 * 2 ^ 18) 4 = true ∧
    shaped.bankBusy (bankOf (5 * 2 ^ 18)) = false ∧ (shaped.wr (Reg.LIB_BANKb 5) 0x40000003).bankBusy (bankOf (5 * 2 ^ 18)) = true ∧ shaped.ecc = [] ∧
    memLe shaped.lib (5 * 2 ^ 18) 4 ≤ 4096 ∧ 4096 < memLe [(5 * 2 ^ 18 + 1, 17)] (5 * 2 ^ 18) 4 ∧ shaped.banksOk 4 (5 * 2 ^ 18) 4 = false := by decide
theorem test_meets_roll_over : State.reset.rollOver 1 = true ∧ (State.reset.form 1).rolls = [] ∧ (State.reset.form 1).shape = none := by decide
/-- Form 1 armed with two tiles, in draw mode (deal mode with bit 1), lanes 0 and 1. -/
def armed (ctrl : Word) (x : Form) : State := (((State.reset.wr (Reg.RC_CTRL 1) ctrl).wr (Reg.RC_NT 1) 2).wr (Reg.RC_LANES 1) 3).setForm 1 x
theorem test_meets_roll_draw :
    let s := armed 1 { dealt := 1 }
    s.rollOver 1 = false ∧ s.rcDeal 1 = false ∧ 1 < s.rcNT 1 ∧ Nat.testBit (s.form 1).dealt 1 = false ∧ (∀ j, j < 1 → Nat.testBit (s.form 1).dealt j = true) := by decide
theorem test_meets_roll_deal :
    let s := armed 3 {}
    s.rollOver 1 = false ∧ s.rcDeal 1 = true ∧ (s.rcLanes 1).contains 1 = true ∧
    mapGet (fun _ => 0) (s.form 1).draws 1 * (s.rcLanes 1).length + ((s.rcLanes 1).filter (fun k => decide (k < 1))).length < s.rcNT 1 := by decide
theorem test_meets_tdone :
    let s := armed 1 { dealt := 3, held := [(1, [1])] }
    bit (s.rd (Reg.RC_CTRL 1)) 0 = true ∧ 1 < s.rcNT 1 ∧ 1 ∈ mapGet (fun _ => []) (s.form 1).held 1 ∧ Nat.testBit (s.form 1).complete 1 = false := by decide
/-- Core 5 holds a fault record of a cause and info, and the Dean has not answered it. -/
def faulted (cause info : Word) : State :=
  ({ State.reset with pipes := [(0, { valid := true, raster := 0 })] } : State).setCore 5
    { respond := true, stopped := true, csr := [(0x10, 0x80000000 ||| cause), (0x12, info)] }
theorem test_meets_fault_notice :
    bit ((State.reset.core 5).C 0x10) 31 = false ∧ (State.reset.core 5).respond = false ∧
    bit (((faulted 9 0).core 5).C 0x10) 31 = true ∧ ((faulted 9 0).pipe (fld (((faulted 9 0).core 5).C 3) 17 16)).valid = true := by decide
theorem test_meets_fault_response :
    ((faulted 9 0).core 5).respond = true ∧ fld (((faulted 9 0).core 5).C 0x10) 7 0 = 9 ∧ fld (((faulted 0xB 1).core 5).C 0x10) 7 0 = 0xB ∧
    fld (((faulted 0xA 0).core 5).C 0x10) 7 0 = 0xA ∧ fld (((faulted 0xA 0).core 5).C 0x12) 2 0 = 0 ∧ fld (((faulted 0xA 3).core 5).C 0x12) 2 0 = 3 := by decide
theorem test_meets_no_band : bit (State.reset.rd (Reg.RC_CTRL 0)) 0 = false := by decide
theorem test_meets_folded : (faulted 0xB 1).fold 5 = false ∧
    ({ faulted 0xB 1 with fuses := { State.reset.fuses with arraysOff := [10] } } : State).fold 5 = true := ⟨rfl, rfl⟩
theorem test_meets_debug :
    let s := { State.reset with deviceOpen := true }
    State.reset.tcdOpen 0 5 = false ∧ s.tcdOpen 0 5 = true ∧ ({ State.reset with scopedHouses := 1 } : State).tcdOpen 0 5 = true ∧
    (s.setCore 5 { idle := false, halted := true }).tcdOpen 0 5 = true ∧ ((s.setCore 5 { idle := false, halted := true }).core 5).waits = [] ∧
    (s.setCore 5 { idle := false, halted := true }).coreLive 5 = true ∧ s.istore = [] ∧ s.ecc = [] ∧ s.handoffs = [] := by decide
theorem test_meets_handover :
    let s := granted.wr (Reg.LIB_BANKb 5) 0x40000203
    let t := { s with late := [(0, 5 * 2 ^ 18, [1])] }
    s.bankBusy 5 = true ∧ s.inMarch 5 = false ∧ (∀ x ∈ s.late, bankOf x.2.1 ≠ 5) ∧ bankOf (5 * 2 ^ 18) = 5 ∧ t.bankBusy 5 = true ∧ t.inMarch 5 = false ∧
    granted.bankBusy 5 = false := by decide
/-- House 3 with bank 6 as its shelf and a line of its memory asked for. -/
def shelved : State :=
  ({ granted with shelfSlots := (List.range 64).map (fun i => (3 * 64 + i, 6)), xlate := [(3 * 2 ^ 12, 0x80000001)], fills := [(3, 0)] } : State)
    |>.wr (Reg.LIB_BANKb 6) 0x103
theorem test_meets_fill : (3, 64 / 64 * 64) ∉ shelved.fills ∧ (3, 63 / 64 * 64) ∈ shelved.fills ∧ shelved.slotBank 3 (0 / 64 % 64) < 512 ∧ shelved.hasLine 3 0 = false := by decide
theorem test_meets_mapped : shelved.firstUnmapped 3 0 1 = none := by decide
theorem test_meets_scrub :
    let s := granted.wr Reg.LIB_SCRUB 1
    bit (s.rd Reg.LIB_SCRUB) 0 = true ∧ bit (granted.rd Reg.LIB_SCRUB) 0 = false ∧ s.bankBusy 5 = false ∧ s.bankUnit 5 ≠ 3 ∧
    ∀ x ∈ wordsTouched (5 * 2 ^ 18) 64, s.eccOf .lib x ≤ 1 := by decide
theorem test_meets_unc :
    let s : State := { granted with service := { granted.service with uncTold := [5] } }
    let u : State := { s with service := { s.service with uncTold := [] } }
    s.service.uncTold.contains 5 = true ∧ s.bankRetired 5 = false ∧ s.bankUnit 5 ≠ 3 ∧ s.bankBusy 5 = false ∧ s.bankOwner 5 < 8 ∧ s.service.uncTold.contains 6 = false ∧
    u.bankWorn 5 = false ∧ ({ u with service := { u.service with bankErrors := [(5, 3)] } } : State).bankWorn 5 = true ∧ State.reset.bankOwner 7 = 8 := by decide
theorem test_meets_spare : granted.spareFor 5 = some 0 := by
  have h : (decide (0 ≠ 5) && granted.isSpare 0) = true := by decide
  simp only [State.spareFor, List.find?_range_eq_some]
  exact ⟨h, List.mem_range.2 (by decide), fun j hj => absurd hj (Nat.not_lt_zero j)⟩
theorem test_meets_no_spare :
    State.spareFor { granted with service := { granted.service with marches := (List.range 512).map (fun b => ⟨false, b, false, none⟩) } } 5 = none := by
  simp only [State.spareFor, List.find?_eq_none, List.mem_range]
  intro x hx
  have h : State.inMarch { granted with service := { granted.service with marches := (List.range 512).map (fun b => ⟨false, b, false, none⟩) } } x = true := by
    simp [State.inMarch, hx]
  simp [State.isSpare, h]
theorem test_meets_march :
    let m : March := { core := false, unit := 7, preserving := false, waiter := none }
    let s : State := { State.reset with service := { State.reset.service with marches := [m] } }
    State.reset.service.marches = [] ∧ s.service.marches = [m] ∧ m.unit ∉ s.service.retiredBanks ∧
    m.unit ∈ ({ s with service := { s.service with retiredBanks := [7] } } : State).service.retiredBanks := by decide

/-! ### Chapters 14 and 15: the Dean's commands -/

/-- The Dean runs. -/
def dean : State := granted.wr Reg.MBX_DEAN 2
theorem test_meets_takes : Takes dean 3 none ∧ Takes dean 0 none := ⟨⟨rfl, rfl, by decide, by decide⟩, rfl, rfl, by decide, by decide⟩
theorem test_meets_takes_queue : Takes (dean.wr (Reg.QUE_q_CFG 0x4F) 0x800C0000) 3 (some 0x4F) := ⟨rfl, rfl, by decide, by decide⟩
theorem test_meets_not_taken :
    State.reset.takesFrom 3 none = false ∧ State.reset.rdF Reg.MBX_DEAN 3 0 ≠ 2 ∧ State.reset.rdF Reg.MBX_DEAN 3 0 ≠ 4 ∧
    deanRow (.houseGrant (cmd 3 none 0 [])) = some (cmd 3 none 0 [], 4, true, true) := ⟨by decide, by decide, by decide, rfl⟩
theorem test_meets_queue_create : dean.queueHouse 0x4F = some 3 ∧ dean.queueOn 0x4F = false ∧ dean.queueHouse 0x50 ≠ some 3 ∧
    (dean.wr (Reg.QUE_q_CFG 0x4F) 0x80840000).queueOn 0x4F = true ∧ (dean.wr (Reg.QUE_q_CFG 0x4F) 0x80840000).queueKind 0x4F = 2 := by decide
theorem test_meets_pass_commands : dean.passHouse 8191 = some 3 ∧ dean.passHouse 0 ≠ some 3 ∧ dean.waiters = [] ∧ dean.cmdWaits 3 < 256 ∧
    dean.passVal 8191 < (1 : Word).toNat := by decide
theorem test_meets_dma_run : (dean.eng (64 + 8 * 3 + 3)).starts.length < 4 ∧
    4 ≤ ((dean.setEng 91 { starts := List.replicate 4 { addr := 0, house := 3 } }).eng (64 + 8 * 3 + 3)).starts.length ∧ (2 ^ 27 - 64) % 64 = 0 := by decide
/-- Pipeline 2 of House 3 on raster 0, and a model of House 3 on form 31. -/
def loaded : State :=
  { dean with pipes := [(2, { valid := true, house := 3, source := 1 })]
              models := [{ handle := 9, house := 3, key := 0, svn := 0, images :=
                [{ house := 3, tier := 0, lowLat := false, formMask := 2 ^ 31, arraysMin := 0, cclkPlan := 0, pipes := [], bands := [], bells := [], istore := [], handles := [],
                   libmap := [], init := [] }] }] }
theorem test_meets_pipe_status : loaded.ownsPipe 3 2 = true ∧ loaded.ownsPipe 3 1 = false ∧ loaded.loadedForm 3 31 = true := by decide
theorem test_meets_core_commands :
    (dean.core 7).retired = false ∧ ((dean.setCore 7 { retired := true, marched := true }).core 7).retired = true ∧
    ((dean.setCore 7 { retired := true, marched := true }).core 7).marched = true ∧ dean.arrayOn 7 1 = true ∧ dean.fold 7 = false ∧
    dean.bankBusy 9 = false ∧ dean.bankOwner 9 = 8 := by decide
theorem test_meets_bank_handover :
    dean.bankRetired 9 = false ∧ dean.bankBusy 9 = false ∧ dean.bankShelf 9 = false ∧ dean.bankOwner 9 ≠ 3 ∧ dean.quotaOf 3 = 2 ∧
    (dean.wr (Reg.LIB_BANKb 9) 0x40000008).bankBusy 9 = true := by decide
theorem test_meets_pipe_destroy : (loaded.pipe 2).valid = true ∧ (∀ m ∈ loaded.models, ∀ im ∈ m.images, ∀ e ∈ im.pipes, e.pipe ≠ 2) ∧ (loaded.pipe 0).valid = false := by decide
theorem test_meets_model_commands :
    loaded.models.find? (fun x => decide (x.handle = 9)) = loaded.models.head? ∧ loaded.modelActive 9 = false ∧ loaded.models.length < 2 ^ 32 ∧
    loaded.hostRanges 3 [(0, 256)] = .ok ∧ loaded.banksOk 3 (5 * 2 ^ 18) 64 = true ∧ loaded.ecc = [] ∧ loaded.modelCheck 3 9 2 = none ∧
    loaded.bankBusy (bankOf (5 * 2 ^ 18)) = false := by decide
theorem test_meets_no_error (block : Bool) (ts : List FieldTest) (h : ts.all (fun t => !t.bad) = true) : pickErr block ts = none := by
  have e : ts.filter (·.bad) = [] := by
    rw [List.filter_eq_nil_iff]
    intro t ht
    simpa using List.all_eq_true.1 h t ht
  simp [pickErr, e]
/-- House 5 is granted nothing: its grant block at 0 of House 0's host memory, a translation table of no entry at 0x1000. -/
def granting : State := { dean with host := [(0, 5), (31, 2), (45, 0x10), (0x1000, 0x48), (0x1001, 0x4E), (0x1002, 0x58), (0x1003, 0x4C)] }
/-- That block. -/
def block : GrantBlock :=
  { house := 5, qbase := 0, qcount := 0, hbase := 0, hcount := 0, bbase := 0, bcount := 0, cbase := 0, ccount := 0, outputs := 0, inputs := 0, glayers := 0, canvases := 0,
    forms := 0, share := 0, quota := 512, flashBase := 0, flashSize := 0, flashBps := 0, xlate := 0x1000, call := false }
theorem test_meets_house_grant :
    granting.hostRanges 0 [(0, 64)] = .ok ∧ granting.hostRanges 0 [(0x1000, 64)] = .ok ∧ num (granting.hostRead 0 0x1000 64) 4 2 = 0 ∧
    grantOf (granting.hostRead 0 0 64) = block ∧ (grantTests block.house (granting.hostRead 0 0 64)).all (fun t => !t.bad) = true ∧
    (xlateHeader (granting.hostRead 0 0x1000 64)).all (fun t => !t.bad) = true := by decide
theorem test_meets_grant_queues : ((List.range 16384).filter (fun q => decide (granting.queueHouse q = some block.house) && granting.queueOn q)) = [] := by
  rw [List.filter_eq_nil_iff]
  intro q _
  simp only [Bool.and_eq_true, decide_eq_true_eq, not_and]
  intro h
  have hr : inRange (granting.rd (Reg.QUE_HRANGEh 5)) 30 13 q = true := by simpa [block] using List.find?_some h
  have hz : granting.rd (Reg.QUE_HRANGEh 5) = 0 := by decide
  simp [hz, inRange, fld] at hr
theorem banks_reset_idle (k : Nat) (h : 0xa01000 ≤ k) (h' : k < 0xa01800) : bit (regReset k) 30 = false := by
  have t : regTable.all (fun r => (!r.reset.testBit 30 || decide (r.base + r.count * r.stride ≤ 0xa01000) || decide (0xa01800 ≤ r.base)) && decide (0 < r.stride)) = true := by decide
  have o : regOffset k = k := by unfold regOffset; split <;> omega
  have n : ∀ (c : Prop) [Decidable c] (a b : Word), ¬ c → (if c then a else b) = b := fun c _ a b hc => if_neg hc
  unfold regReset
  simp only [o]
  cases q : regRow? k with
  | none => simp [bit]
  | some r =>
    have hr := List.find?_some q
    have ht := List.all_eq_true.1 t r (List.mem_of_find?_eq_some q)
    simp only [RegRow.holds, Bool.and_eq_true, Bool.or_eq_true, Bool.not_eq_true', decide_eq_true_eq] at hr ht
    simp only []
    rw [n _ _ _ (by omega), n _ _ _ (by omega)]
    obtain ⟨ht, z⟩ := ht
    rcases ht with (e | e) | e
    · rw [bit, BitVec.getLsbD_ofNat, e]
      rfl
    · have h1 := Nat.div_add_mod (k - r.base) r.stride
      have h2 := Nat.mul_le_mul_right r.stride (Nat.succ_le_of_lt hr.2)
      have h3 := Nat.mod_lt (k - r.base) z
      rw [Nat.mul_comm] at h1
      rw [Nat.succ_mul] at h2
      omega
    · omega
theorem test_meets_grant_banks : (granting.houseBanks block.house).any granting.bankBusy = false := by
  have h : ∀ b, b < 512 → granting.bankBusy b = false := by
    intro b hb
    rcases eq_or_ne b 5 with rfl | h5
    · decide
    · have e : granting.bankReg b = regReset (Reg.LIB_BANKb b) := by
        have hk : Reg.LIB_BANKb b = 0xa01000 + 4 * b := rfl
        simp only [State.bankReg, State.rd, granting, dean, granted, State.wr]
        rw [mapGet_mapSet_ne, mapGet_mapSet_ne, mapGet_mapSet_ne, mapGet_mapSet_ne, mapGet_mapSet_ne, mapGet_mapSet_ne]
        · rfl
        all_goals
          rw [hk]
          simp only [Reg.own, Reg.LIB_APBASE, Reg.LIB_BANKb, Reg.RAS_HRANGEh, Reg.HPS_HRANGEh, Reg.QUE_HRANGEh, Reg.MBX_DEAN]
          omega
      have hk : Reg.LIB_BANKb b = 0xa01000 + 4 * b := rfl
      rw [State.bankBusy, e]
      exact banks_reset_idle _ (by omega) (by omega)
  rw [List.any_eq_false]
  intro b hb
  simp [h b (List.mem_range.1 (List.mem_filter.1 hb).1)]
theorem test_meets_grant_checks : granting.grantCheck block = none ∧ granting.xlateCheck 5 (xlateEntries (granting.hostRead 0 0x1000 64)) = none := by
  have hb : (granting.houseBanks block.house).length ≤ 512 := by
    simpa [State.houseBanks] using List.length_filter_le (fun b => decide (granting.bankOwner b = block.house)) (List.range 512)
  have h : (((List.range 8).filter (fun k => decide (k ≠ block.house))).flatMap (granting.grantMeets block)).all (fun t => !t.bad) = true := by decide
  have h2 : (granting.grantRemoves block).all (fun t => !t.bad) = true := by
    simp only [State.grantRemoves, test_meets_grant_queues, List.append_nil]
    have hq : (block.quota < (granting.houseBanks block.house).length) = False := by simpa [block] using hb
    simp only [hq]
    decide
  refine ⟨?_, by decide⟩
  have h3 : (1024 < block.share % 2048 + (((List.range 8).filter (fun k => decide (k ≠ block.house))).map (fun k => granting.rdF (Reg.DMA_SHAREh k) 10 0)).sum) = False := by decide
  simp only [State.grantCheck, test_meets_grant_banks, h3]
  rw [test_meets_no_error _ _ (by rw [List.all_append, h, h2]; rfl)]
  rfl
/-- A pipeline block of pipeline 0 for House 3 at 0 of House 0's host memory: input 1, 16 lines, ring and record in bank 5, slot 0, coefficients at 0x1000 with
a first tap of 16,384 in each phase. -/
def piping : State :=
  { dean with host := [(1, 3), (2, 1), (4, 16), (8, 5), (10, 5), (14, 1), (17, 0x10)] ++ (List.range 64).map (fun p => (0x1001 + 16 * p, 0x40)) }
theorem test_meets_pipe_create :
    let b := piping.hostRead 0 0 64
    (pipeTests b).all (fun t => !t.bad) = true ∧ num b 0 1 = 0 ∧ (piping.pipe 0).valid = false ∧ num b 1 1 = 3 ∧ piping.granted 3 = true ∧ num b 2 1 = 1 ∧
    piping.hasInput 3 1 = true ∧ num b 8 2 = 5 ∧ num b 10 2 = 5 ∧ piping.bankOk 3 5 = true ∧ num b 14 2 = 1 ∧ num b 16 8 = 0x1000 ∧
    ((List.range 4).any (fun p => (piping.pipe p).valid && decide ((piping.pipe p).slots &&& 1 ≠ 0))) = false := by decide
theorem test_meets_pipe_host : piping.hostRanges 0 [(0, 64)] = .ok ∧ piping.hostRanges 0 [(0x1000, 1024)] = .ok := by decide
theorem slice_read (m : Memory) (a o n k : Nat) (h : o + n ≤ k) : slice o n (memReadN m a k) = memReadN m (a + o) n := by
  unfold slice
  induction o generalizing a k with
  | zero =>
    induction n generalizing a k with
    | zero => simp [memReadN]
    | succ n ih =>
      obtain ⟨k, rfl⟩ : ∃ j, k = j + 1 := ⟨k - 1, by omega⟩
      have := ih (a + 1) k (by omega)
      simpa [memReadN] using this
  | succ o ih =>
    obtain ⟨k, rfl⟩ : ∃ j, k = j + 1 := ⟨k - 1, by omega⟩
    have := ih (a + 1) k (by omega)
    simpa [memReadN, Nat.add_assoc, Nat.add_comm 1 o] using this
theorem get_listed (d : Nat → Byte) (f : Nat → Nat) (v : Byte) (l : List Nat) (k : Nat) :
    mapGet d (l.map (fun p => (f p, v))) k = if k ∈ l.map f then v else d k := by
  induction l with
  | nil => rfl
  | cons p l ih =>
    by_cases h : k = f p
    · simp [mapGet, h]
    · simp [mapGet, h, ih]
theorem piping_read (p j : Nat) (hp : p < 64) (hj : j < 16) : memRead piping.host (0x1000 + 16 * p + j) = if j = 1 then 0x40 else 0 := by
  have e : (0x1000 + 16 * p + j ∈ (List.range 64).map (fun p => 0x1001 + 16 * p)) ↔ j = 1 := by
    simp only [List.mem_map, List.mem_range]
    constructor
    · rintro ⟨q, -, h⟩
      omega
    · rintro rfl
      exact ⟨p, hp, by omega⟩
  have m := get_listed memDefault (fun p => 0x1001 + 16 * p) 0x40 (List.range 64) (0x1000 + 16 * p + j)
  simp only [e] at m
  simp only [memRead, piping, List.cons_append, List.nil_append, mapGet]
  rw [if_neg (by omega), if_neg (by omega), if_neg (by omega), if_neg (by omega), if_neg (by omega), if_neg (by omega), if_neg (by omega), m]
  rfl
theorem test_meets_coefficients : coefOk (piping.hostRead 0 0x1000 1024) = true := by
  unfold coefOk
  rw [List.all_eq_true]
  intro p hp
  have hp := List.mem_range.1 hp
  have h : ∀ k, k < 8 → sgn 16 (num (piping.hostRead 0 0x1000 1024) (16 * p + 2 * k) 2) = if k = 0 then 16384 else 0 := by
    intro k hk
    have a := piping_read p (2 * k) hp (by omega)
    have b := piping_read p (2 * k + 1) hp (by omega)
    have n : hostKey 0 0x1000 = 0x1000 := rfl
    rw [num, State.hostRead, slice_read _ _ _ _ _ (by omega), n, memReadN, memReadN, memReadN, ← Nat.add_assoc, a, Nat.add_assoc _ (2 * k) 1, b, if_neg (by omega)]
    by_cases z : k = 0
    · subst z
      rfl
    · rw [if_neg (by omega), if_neg z]
      rfl
  rw [List.map_congr_left (fun k hk => h k (List.mem_range.1 hk))]
  rfl
/-- A policy in House 3's bank 5 for a model 9 that has homework. -/
def learning : State :=
  { loaded with models := loaded.models.map (fun m => { m with hw := some {} })
                lib := [(0, 9), (5, 1), (6, 1), (8, 1), (10, 2), (11, 32), (12, 8), (14, 4), (18, 0x80), (19, 0x3F), (30, 0x80), (31, 0x3F), (46, 0x80), (47, 0x3F), (48, 0x10), (49, 0x27),
                  (54, 1), (57, 0x10), (60, 1)].map (fun x => (5 * 2 ^ 18 + x.1, x.2)) }
theorem test_meets_policy :
    let p := learning.load .lib (5 * 2 ^ 18) 64
    (policyTests p).all (fun t => !t.bad) = true ∧ num p 0 4 = 9 ∧ learning.banksOk 3 (5 * 2 ^ 18) 64 = true ∧ learning.ecc = [] ∧ learning.policyRing 3 p = false ∧
    (∃ m, learning.models.find? (fun x => decide (x.handle = 9)) = some m ∧ m.house = 3 ∧ m.hw.isSome = true) :=
  ⟨by decide, by decide, by decide, by decide, by decide, _, rfl, rfl, rfl⟩
/-- Slot 7 of House 3, empty or armed; raster 0, which runs, is House 3's. -/
def staging (a : Option Arm) : State :=
  ({ loaded with grants := [(0, { given := true, cbase := 8, ccount := 1 }), (3, { given := true, cbase := 7, ccount := 1, outputs := 1, inputs := 2 })]
                 commitSlots := [(7, { route := [(2, 1)], armed := a })] } : State).wr (Reg.RASn_CTRL 0) 1
theorem test_meets_staging :
    (staging none).slotOf 3 7 = true ∧ ((staging none).slot 7).armed = none ∧ (staging none).ownsPipe 3 2 = true ∧ (staging none).hasInput 3 1 = true ∧
    (staging none).ownsPipe 3 0 = false ∧ (staging none).hasInput 3 0 = false ∧ ((staging (some ⟨3, 0, none⟩)).slot 7).armed ≠ none ∧ (staging none).slotOf 3 8 = false ∧
    (staging none).slotOf 0 8 = true := by decide
theorem test_meets_blocks :
    (modeTests [0, 0, 0, 0, 0x10000, 0x11] ++ gradeTests {} 1 [0, 0, 0, 0, 0x10000, 0x11]).all (fun t => !t.bad) = true ∧
    (portTests 0 0 []).all (fun t => !t.bad) = true ∧ (canvasTests [0, 0, 0, 0xFFFFFFFF, 0xFFFF]).all (fun t => !t.bad) = true ∧
    (vlayerTests [0, 0, 0, 0x400]).all (fun t => !t.bad) = true := by decide
theorem test_meets_staging_host : (staging none).hostRanges 0 [(0, 64)] = .ok ∧ (staging none).hostRanges 0 [(0, 256)] = .ok := by decide
theorem sort_one {xs : List Nat} {le : Nat → Nat → Bool} (h : xs = [0]) : xs.mergeSort le = [0] := by subst h; simp
theorem sort_none {xs : List Nat} {le : Nat → Nat → Bool} (h : xs = []) : xs.mergeSort le = [] := by subst h; simp
theorem test_meets_commit_rasters (a : Option Arm) : (staging a).setRasters { route := [(2, 1)] } 0 = [0] := by
  unfold State.setRasters
  apply sort_one
  rfl
theorem test_meets_commit :
    (staging none).slot 7 = { route := [(2, 1)] } ∧ (staging none).checkCommit 3 { route := [(2, 1)] } 0 true = .ok { rasters := [0] } ∧
    (staging none).rasterOn 0 = true := by
  refine ⟨rfl, ?_, by decide⟩
  simp only [State.checkCommit, State.setCheck, test_meets_commit_rasters]
  rfl
theorem test_meets_commit_error : ∃ e, (staging none).checkCommit 3 { route := [(2, 0)] } 0 true = .error e := by
  have h : (staging none).setRasters { route := [(2, 0)] } 0 = [0] := by
    unfold State.setRasters
    apply sort_one
    rfl
  simp only [State.checkCommit, State.setCheck, h]
  exact ⟨_, rfl⟩
theorem test_meets_cut_error : ∃ e, (staging none).checkCut 3 { route := [(2, 1)] } 0 {} 0 = .error e := ⟨{ status := 8 }, rfl⟩
/-- A model of House 3 with one PIPE entry, for pipeline 2 on raster 0 and input 1. -/
def cutModel : Model :=
  { handle := 9, house := 3, key := 0, svn := 0, images :=
      [{ house := 3, tier := 0, lowLat := false, formMask := 0, arraysMin := 0, cclkPlan := 0, bands := [], bells := [], istore := [], handles := [], libmap := [], init := []
         pipes := [{ pipe := 2, raster := 0, trk := 1, bandH := 8, inW := 1, inH := 1, outW := 1, outH := 0, vtotal := 0, htotal := 0, nbands := 0, retime := 0 }] }] }
/-- It is loaded: slot 7, with the new source, and slot 8, which is empty, make a cut. -/
def cutting : State :=
  { staging none with
      grants := [(3, { given := true, cbase := 7, ccount := 2, outputs := 1, inputs := 2, quota := 512 })]
      loaded := [(3, some 9)]
      models := [cutModel] }
theorem test_meets_cut_rasters : cutting.setRasters { route := [(2, 1)] } 0 = [0] ∧ cutting.setRasters {} 0 = [] := by
  unfold State.setRasters
  exact ⟨sort_one rfl, sort_none rfl⟩
theorem test_meets_cut_sets : cutting.setCheck { route := [(2, 1)] } 0 = none ∧ cutting.setCheck {} 0 = none := by
  simp only [State.setCheck, test_meets_cut_rasters]
  exact ⟨rfl, rfl⟩
theorem test_meets_cut_banks : cutting.libmapStatus 3 cutModel = 0 := by
  have hb : (cutting.houseBanks 3).length ≤ 512 := by
    simpa [State.houseBanks] using List.length_filter_le (fun b => decide (cutting.bankOwner b = 3)) (List.range 512)
  have hq : cutting.quotaOf 3 = 512 := by decide
  have e : (cutModel.images.flatMap (·.libmap)).eraseDups = [] := rfl
  unfold State.libmapStatus
  rw [e, hq]
  simp only [List.filter_nil, List.any_nil, List.length_nil]
  generalize (cutting.houseBanks 3).length = n at hb ⊢
  simp [Nat.not_lt.2 hb]
theorem test_meets_cut_timetable :
    cutting.swapRaster 3 cutModel = 0 ∧ (cutting.swapRasters 3 cutModel).length = 0 ∧ (cutting.swapModel 3) = some cutModel ∧ cutModel.pipes.any (fun x => !cutting.pipeEntOk 3 x) = false := by
  decide
theorem test_meets_cut_bells : cutting.swapCrowded 3 0 (cutting.swapFrame 0 cutModel) cutModel = false := by decide
theorem test_meets_cut_parts : partsTooBig (cutting.newParts 3 cutModel) = false := by decide
theorem test_meets_cut_forms : cutting.sharedFormsBad 3 cutModel = false := by
  have h : ∀ f, ((cutting.houseTables 3 cutModel).filter (fun x => (startForms x.2.1).contains f)).length ≤ 1 := by
    intro f
    have : (cutting.houseTables 3 cutModel).length = 1 := by decide
    exact this ▸ List.length_filter_le _ _
  simp only [State.sharedFormsBad, List.any_eq_false]
  intro f _
  rw [decide_eq_false (Nat.not_lt.2 (h f))]
  simp
theorem test_meets_cut_second : ∃ p, cutting.checkCommit 3 {} 0 true = .ok p ∧ p.swap = some (cutModel, 0, cutting.swapFrame 0 cutModel) := by
  have e : cutting.view {} 0 = cutting := rfl
  have j : ¬ 112 < cutting.service.journalPend + setEntries {} + ((cutting.accepted.map (·.entries)).sum) := by decide
  have b : ¬ (bit (cutting.rd Reg.RAS_BELLSTAT) 2 = true ∨ 1 < (cutting.swapRasters 3 cutModel).length) := by decide
  have t := test_meets_cut_timetable
  simp only [State.checkCommit, test_meets_cut_sets, test_meets_cut_rasters, e, if_neg j, if_true, t.2.2.1, if_neg b, t.1, t.2.2.2, test_meets_cut_bells, test_meets_cut_parts,
    test_meets_cut_forms, test_meets_cut_banks]
  exact ⟨_, rfl, rfl⟩
theorem test_meets_cut : ∃ p, cutting.checkCut 3 { route := [(2, 1)] } 4 {} 0 = .ok p := by
  obtain ⟨p, h, hs⟩ := test_meets_cut_second
  have a : ¬ (setEntries { route := [(2, 1)] } ≠ setEntries { route := [(2, 1)] } ∨
      (((List.range 4).filter (Nat.testBit 4)).any (fun p => !(([(2, 1)] : List (Nat × Nat)).any (fun x => x.1 = p))) : Bool) = true ∨
      (([(2, 1)] : List (Nat × Nat)).any (fun x => !((List.range 4).filter (Nat.testBit 4)).contains x.1) : Bool) = true) := by decide
  have b : ((List.range 4).filter (Nat.testBit 4)).any cutting.pipePending = false := by decide
  have c : ([(2, 1)] : List (Nat × Nat)).any (fun x => !(cutModel.pipes.any (fun e => decide (e.pipe = x.1) && decide (e.trk = x.2)))) = false := by decide
  refine ⟨p, ?_⟩
  unfold State.checkCut
  rw [if_neg a, if_neg (by rw [b]; decide), test_meets_cut_sets.1]
  simp only [h, hs]
  exact if_neg (by rw [c]; decide)

/-! ### Chapters 2, 7 and 12: bells, swaps, DMA engines, rasters, the protected region -/

/-- The kinds of a DMA descriptor of one row of two bytes in House 3's bank 5, in hand of engine 1. -/
def moving (kind : Nat) (x : DmaEng) : State :=
  let src := decide (kind = 1)
  let dst := decide (kind ≠ 0)
  granted.setEng 1 { x with house := 3, bytes := ([kind, 0, if src then 0x140000 else 0, 0, if dst then 0x140040 else 0, 0, if dst then 0x10002 else 0, if src then 2 else 0,
    if dst then 2 else 0].flatMap (leBytes 4)) ++ List.replicate 28 0 }
/-- A bell of an action is being dispatched on raster 2; the bells are House 3's. -/
def ringing (kind : Nat) (w2 w3 : Word) : State :=
  granted.setRaster 2 { due := [⟨0xFF0, { w1 := BitVec.ofNat 32 (kind + 16), w2 := w2, w3 := w3 }, 7⟩] }
theorem test_meets_bells : ∀ k ∈ [0, 1, 2, 3, 4, 5, 6, 7],
    ((ringing k 0 0).raster 2).due.find? (fun d => decide (d.entry = 0xFF0) && decide (fld d.bell.w1 3 0 = k)) ≠ none ∧ (ringing k 0 0).bellHouse 0xFF0 = some 3 ∧
    (granted.raster 2).due.find? (fun d => decide (d.entry = 0xFF0) && decide (fld d.bell.w1 3 0 = k)) = none := by decide
theorem test_meets_bell_targets :
    granted.queueHouse 0x40 = some 3 ∧ granted.queueHouse 0 ≠ some 3 ∧ (granted.slot 7).armed = none ∧ Nat.testBit (granted.grant 3).forms (1 / 2) = true ∧
    (∀ a ∈ granted.accepted, a.swap = none) ∧ (granted.core 31).waits.contains (.bell 5) = false ∧ (granted.core 31).latches.length < 8 ∧
    ((granted.setCore 31 { waits := [.bell 5] }).core 31).waits.contains (.bell 5) = true ∧
    8 ≤ ((granted.setCore 31 { latches := List.replicate 8 5 }).core 31).latches.length := by decide
theorem test_meets_armed_bell :
    let s := { staging (some ⟨3, 0, none⟩) with models := [] }
    (s.slot 7).armed = some ⟨3, 0, none⟩ ∧ s.slotOf 3 7 = true := by decide
/-- The band that a WARN or LATE bell of raster 2 names: band 6 of pipeline 1, target frame 7. -/
def banded (q : BandRec) : State :=
  { ringing 5 0 0x10000 with pipes := [(1, { valid := true, house := 3, raster := 2 })], bandRecs := [(2048, { q with tframe := 7 })] }
theorem test_meets_bands :
    ((banded {}).pipe 1).valid = true ∧ ((banded {}).pipe 1).house = 3 ∧ ((banded {}).pipe 1).cut = none ∧ ((banded {}).bandRec 1 0).tframe = 7 ∧
    ((banded {}).bandRec 1 0).nstate ≠ .complete ∧ ((banded {}).bandRec 1 0).sstate ≠ .ready ∧ ((banded { nstate := .complete }).bandRec 1 0).nstate = .complete ∧
    ((banded { sstate := .ready }).bandRec 1 0).sstate = .ready := by decide
theorem test_meets_swap :
    let s := { granted.wr (Reg.RASn_CTRL 2) 1 with swap := some (2, 3) }
    s.swap = some (2, 3) ∧ s.rasterOn 2 = true ∧ s.swapT ≤ (s.raster 2).frame.toNat ∧ ((s.wr Reg.RAS_SWAP_T_LO 1).raster 2).frame.toNat < (s.wr Reg.RAS_SWAP_T_LO 1).swapT := by decide
theorem test_meets_handoff :
    let x : Handoff := { w0 := 0x20000, forms := 1, house := 3 }
    let s := { granted.wr (Reg.RASn_CTRL 2) 1 with handoffs := [(63, x)] }
    s.handoff 63 = x ∧ x.forms ≠ 0 ∧ s.rasterOn (fld x.w0 18 16) = true ∧
    bellFires x.w0 (fld x.w0 18 16) (s.raster 2).frame.toNat (s.raster 2).line = true ∧ (s.handoff 0).forms = 0 := by decide
theorem test_meets_descriptors : ∀ k ∈ [0, 1, 3],
    ((moving k { phase := .ready }).eng 1).phase = .ready ∧ (descOf ((moving k {}).eng 1).bytes).kind = k ∧
    (moving k { phase := .ready }).descCheck 1 ((moving k { phase := .ready }).eng 1) = none := by decide
theorem test_meets_other_descriptors : ∀ k ∈ [2, 4], (descOf ((moving k {}).eng 1).bytes).kind = k ∧
    ((moving k { phase := .ready, begun := true }).eng 1).begun = true := by decide
theorem test_meets_descriptor_refused : ∃ f, State.descCheck { moving 1 { phase := .ready } with regs := [] } 1 ((moving 1 { phase := .ready }).eng 1) = some f := ⟨_, rfl⟩
theorem test_meets_copy_row :
    let s := moving 1 { phase := .ready }
    let x := s.eng 1
    let d := descOf x.bytes
    d.height = 1 ∧ 0 < d.width ∧ d.rot = 0 ∧ d.mirror = false ∧ d.gate = false ∧ d.dspace = 0 ∧ s.bankBusy (bankOf d.daddr) = false ∧
    s.rd64 (Reg.DMA_En_BYTES_LO 1) (Reg.DMA_En_BYTES_HI 1) + d.width < 2 ^ 48 := by decide
theorem test_meets_row_ok :
    let s := moving 3 { phase := .ready, begun := true }
    s.rowFail 1 (s.eng 1) (descOf (s.eng 1).bytes) none = none := by decide
theorem test_meets_chain_start :
    let st : DmaStart := { addr := 0x140000, house := 3 }
    let s : State := granted.setEng 95 { starts := [st] }
    (s.eng 95).phase = .idle ∧ (s.eng 95).starts = [st] ∧ st.addr % 64 = 0 ∧ s.banksOk st.house st.addr 64 = true ∧ s.ecc = [] ∧
    (descOf (s.load .lib st.addr 64)).kind ≤ 4 ∧ (granted.eng 95).starts = [] := by decide
theorem test_meets_descriptor_end :
    let d := fun x => descOf ((moving 0 x).eng 1).bytes
    ((moving 0 { phase := .moved }).eng 1).phase = .moved ∧ (d {}).hsig = false ∧ (d {}).evt = false ∧ (d {}).chain = false ∧
    (descOf ((granted.setEng 1 { phase := .moved, house := 3, bytes := leBytes 4 0x90000 ++ List.replicate 60 0 }).eng 1).bytes).hsig = true ∧
    granted.passHouse 0 ≠ some 3 ∧ (descOf (leBytes 4 0x10000 ++ List.replicate 60 0)).chain = true := by decide
theorem test_meets_abort : ((moving 0 { phase := .halted, page := 0x1000 }).eng 1).phase = .halted ∧ granted.dmaHouse 64 = 0 ∧ granted.dmaHouse 95 = 7 ∧
    ((granted.setEng (64 + 8 * 3 + 3) { phase := .halted, page := 0x1000 }).eng (64 + 8 * 3 + 3)).page = 0x1FFF / 4096 * 4096 := by decide
/-- Raster 2 runs with 10 of 12 lines active, 20 at most, and takes the reference as CTRL says. -/
def rastered (ctrl : Word) (x : RasterAux) : State :=
  ((((granted.wr (Reg.RASn_CTRL 2) ctrl).wr (Reg.RASn_VTIMING 2) 0xC000A).wr (Reg.RASn_VTIMING2 2) 0x14000A).wr (Reg.RASn_HTIMING 2) 0x200010).setRaster 2 x
theorem test_meets_lines :
    let s := rastered 1
    (s {}).rasterOn 2 = true ∧ bit ((s {}).rd (Reg.RASn_STATUS 2)) 6 = false ∧ ((s {}).raster 2).hold = none ∧ ((s {}).raster 2).line + 1 < (s {}).vtotal 2 ∧
    (s {}).vtotal 2 ≤ ((s { line := 11 }).raster 2).line + 1 ∧ ((s { hold := some .te }).raster 2).hold = some .te ∧ (s {}).held 2 < (s {}).holdRoom 2 ∧
    (s {}).holdRoom 2 ≤ ((s {}).wr (Reg.RASn_STRETCH 2) 8).held 2 ∧ granted.rasterOn 2 = false ∧ bit (((s {}).wr (Reg.RASn_STATUS 2) 0x40).rd (Reg.RASn_STATUS 2)) 6 = true := by decide
theorem test_meets_references :
    let s := rastered 0x9 {}
    s.rasterOn 2 = true ∧ s.slews 2 = true ∧ (s.raster 2).refCount % max 1 (s.rdF (Reg.RASn_RATIO 2) 7 4) = 0 ∧ bit (s.rd (Reg.RASn_STATUS 2)) 1 = false ∧
    (reduceErr (s.rdF (Reg.RASn_RATIO 2) 3 0 * s.vtotal 2 * s.htotal 2) 64).natAbs ≤ s.rdF (Reg.RASn_PHASE 2) 23 16 * s.htotal 2 ∧
    s.rdF (Reg.RASn_PHASE 2) 23 16 * s.htotal 2 < (reduceErr (s.rdF (Reg.RASn_RATIO 2) 3 0 * s.vtotal 2 * s.htotal 2) 65).natAbs ∧ (rastered 1 {}).slews 2 = false := by decide
theorem test_meets_holds :
    let s := fun h => (rastered 0xD { hold := some h }).wr (Reg.RASn_STRETCH 2) 8
    (∀ h ∈ [Hold.te, .vrr, .slip 5], ((s h).raster 2).hold = some h ∧ (s h).holdRoom 2 ≤ (s h).held 2) ∧ (s .te).rasterOn 2 = true ∧ (s .te).lockSel 2 = 3 ∧
    bit ((s .te).rd (Reg.RASn_CTRL 2)) 14 = false ∧ fld ((s .te).rd (Reg.RASn_CTRL 2)) 13 12 = 0 := by decide
/-- Raster 2 at its first blank line, with a protected region. -/
def watched (due : Bool) : State :=
  { rastered 1 { line := 10 } with protects := [(2, { tmpl := some { xfer := 0, prim := 0, rep := 1, fill := 0, w := 0, h := 0, words := [] }, due := due })] }
theorem test_meets_frame_done :
    (watched true).rasterOn 2 = true ∧ (watched true).vactive 2 ≤ ((watched true).raster 2).line ∧ ((watched true).protect 2).tmpl ≠ none ∧ ((watched true).protect 2).due = true ∧
    ((watched false).protect 2).due = false ∧ ((rastered 1 { line := 9 }).raster 2).line < (rastered 1 { line := 9 }).vactive 2 ∧ ((rastered 1 { line := 10 }).protect 2).tmpl = none ∧
    bit ((watched true).rd (Reg.CMP_PRr_STAT 2)) 1 = false ∧ bit (((watched true).wr (Reg.CMP_PRr_STAT 2) 2).rd (Reg.CMP_PRr_STAT 2)) 1 = true := by decide

/-! ### Chapters 9 to 13: ports, sinks, host frames, fixed functions, homework -/

theorem test_meets_port :
    let x : Port := { fifo := [1, 2], up := true, same := 4, psr := 3 }
    let s := (granted.setPort 7 x).wr (Reg.SCOn_CTRL 7) 0x40003
    bit (s.rd (Reg.SCOn_CTRL 7)) 0 = true ∧ 1 < (s.port 7).fifo.length ∧ bit (granted.rd (Reg.SCOn_CTRL 7)) 0 = false ∧ bit (s.rd (Reg.SCOn_CTRL 7)) 18 = true ∧
    s.hdcpUsable = true ∧ s.psrPort 7 = true ∧ s.inBlank 7 = true ∧ (s.port 7).psrOn = false ∧ 4 ≤ (s.port 7).same ∧ (s.port 7).torn = false ∧
    (granted.port 7).same < 4 := by decide
theorem test_meets_port_refresh :
    let x : Port := { up := false, training := true, psr := 3, psrOn := true, changed := [4, 6], changedRun := 1 }
    let s := (granted.setPort 7 x).wr (Reg.SCOn_CTRL 7) 2
    (s.port 7).up = false ∧ (s.port 7).training = true ∧ (s.port 7).changed = 4 :: [6] ∧ s.psrPort 7 = true ∧ s.inBlank 7 = true ∧ (s.port 7).psrOn = true ∧
    (s.port 7).changedRun = 1 ∧ bit (s.port 7).psr 1 = true ∧ 2 ≤ ((s.setPort 7 { x with changedRun := 2 }).port 7).changedRun := by decide
/-- Pipeline 1 of House 3 takes sink 1, whose link is up and whose stream has been accepted. -/
def streaming (x : Tracker) (p : Pipe) : State :=
  (({ granted with pipes := [(1, { p with valid := true, house := 3, source := 1, raster := 2 })] }.wr (Reg.VIN_Ss_STATUS 1) 2).wr (Reg.VIN_Ss_VTIM 1) 2).setTracker 1 x
theorem test_meets_input :
    let s := streaming { ok := true, open_ := true } {}
    s.sinkOn 1 = true ∧ bit (s.rd (Reg.VIN_Ss_STATUS 1)) 1 = true ∧ (s.tracker 1).ok = true ∧ s.inFrame 1 ≠ 0xFFFFFFFF ∧
    (s.wr (Reg.RAS_INs_FRAME 1) 0xFFFFFFFF).inFrame 1 = 0xFFFFFFFF ∧ granted.sinkOn 1 = false ∧ (s.tracker 1).open_ = true ∧
    (s.tracker 1).lines < s.rdF (Reg.VIN_Ss_VTIM 1) 15 0 ∧ (s.sinkFmt 1).sub ≠ 2 ∧ (granted.tracker 1).open_ = false := by decide
theorem test_meets_input_pairs :
    let s := streaming { ok := true, open_ := true, lines := 1 } { ringFmt := 2 }
    (∃ p ∈ s.sourcePipes 1, (s.pipe p).fmt.sub = 2) ∧ (s.tracker 1).lines % 2 = 1 ∧ (s.tracker 1).lines + 1 = s.rdF (Reg.VIN_Ss_VTIM 1) 15 0 := by decide
theorem test_meets_sink :
    let s := streaming { have_ := true, open_ := true } {}
    (s.tracker 1).have_ = true ∧ (s.tracker 1).due = none ∧ bit (s.rd (Reg.VIN_Ss_STATUS 1)) 1 = true ∧ (s.tracker 1).black = false ∧
    bit ((s.wr (Reg.VIN_Ss_STATUS 1) 0x12).rd (Reg.VIN_Ss_STATUS 1)) 4 = true ∧ s.rd (Reg.VIN_Ss_HTIM 1) = 0 ∧ s.rd (Reg.VIN_Ss_VTIM 1) = 2 ∧
    s.hdcpUsable = true ∧ (granted.tracker 1).have_ = false ∧ bit (granted.rd (Reg.VIN_Ss_STATUS 1)) 1 = false := by decide
theorem test_meets_repeat_end :
    let s := streaming {} { repeats := some (5, 0), recs := [⟨5, 0, 0, false, false⟩] }
    (s.pipe 1).valid = true ∧ (s.pipe 1).repeats ≠ none ∧ (s.raster 2).line = s.vactive 2 ∧ (s.pipe 1).discDue = false ∧ (s.pipe 1).anchorDone = true ∧
    (s.tracker 1).due = none := by decide
/-- House 3's ring of two host frames, at 0 of its memory; the entry at HEAD as given. -/
def hosting (host : Memory) (x : Option HostFrame) : State :=
  ({ granted with host := host.map (fun (c : Nat × Byte) => (3 * 2 ^ 64 + c.1, c.2)), hostFrame := x }.wr Reg.VIN_HF_CTRL 1).wr Reg.VIN_HF_SIZE 2
theorem test_meets_ring :
    let s := hosting [] none
    s.hfHouse = some 3 ∧ s.hfHouse ≠ some 4 ∧ s.hfOn = true ∧ granted.hfOn = false ∧ s.hfSize = 2 ∧ s.hfHead = s.hfTail ∧
    (s.hfTail + s.hfSize - s.hfHead) % s.hfSize + (1 + s.hfSize - s.hfTail % s.hfSize) % s.hfSize < s.hfSize ∧ s.hfSize ≤ 2 ∧
    (s.wr Reg.VIN_HF_TAIL 1).hfHead ≠ (s.wr Reg.VIN_HF_TAIL 1).hfTail ∧ s.hostRanges 3 [(s.hfAddr s.hfHead, 64)] = .ok := by decide
theorem test_meets_host_frame :
    let bytes : Memory := [(4, 1), (6, 1), (40, 64), (44, 64)]
    let d := fun (s : State) => ({ words := (List.range 16).map (fun i => BitVec.ofNat 32 (num (s.hostRead 3 (s.hfAddr s.hfHead) 64) (4 * i) 4)), group := 0 } : HostFrame)
    (d (hosting bytes none)).ok = true ∧ (d (hosting [] none)).ok = false := by decide
theorem test_meets_host_group :
    let x : HostFrame := { words := [0, 0x20001, 0, 0, 0, 0, 0, 0, 0, 0, 64, 64, 0, 0, 0, 0], group := 1 }
    let s := (hosting [] (some x)).setTracker 2 { open_ := true, lines := 1 }
    s.hostFrame = some x ∧ x.fmt.sub ≠ 2 ∧ (s.tracker 2).open_ = true ∧ (s.tracker 2).lines = x.group ∧ x.group < x.height ∧ x.group + 1 = x.height ∧
    s.hostRanges 3 ((x.addr 0 + x.group * x.w 10, x.rowBytes 0) :: [1, 2].map (fun k => (x.addr k + x.group * x.w 11, x.rowBytes k))) = .ok := by decide
/-- Pipeline 1 walks a list of one job, whose first word is given, in House 3's bank 5; the present slot is the pipeline's; bank 6 holds edge-layer weights. -/
def walking (w0 : Nat) (w : Walk) : State :=
  let job := ([w0, 0, 0x142000, 0, 0, 0x143000, 0, 0, 0x10001, 0, 0x180000, 0, 0, 0, 0, 0].flatMap (leBytes 4))
  (((((({ rastered 1 {} with
      pipes := [(1, { valid := true, house := 3, raster := 2, outH := 1 })], walks := [(1, { w with base := 0x140000, njobs := 1 })]
      lib := (List.range 64).map (fun i => (0x140010 + i, job.getD i 0)) } : State).wr (Reg.LIB_BANKb 5) 3).wr (Reg.LIB_BANKb 6) 9).wr (Reg.FFJ_Pp_LIST 1) 0x140000).wr
    Reg.FFJ_SLOTEN 0x8000).wr Reg.FFJ_SLOTS 0x40000000)
theorem test_meets_walk_start :
    let s := walking 0 {}
    (s.pipe 1).valid = true ∧ (s.rd (Reg.FFJ_Pp_LIST 1)).toNat = 0x140000 ∧ s.rasterOn 2 = true ∧ s.banksOk 3 0x140000 16 = true ∧ s.firstBad .lib 0x140000 16 = none ∧
    (s.raster 2).line = memLe s.lib (0x140000 + 4) 4 % 65536 ∧ (s.pipe 0).valid = false ∧ s.service.slotDue = none ∧
    ({ s with service := { s.service with slotDue := some (1, 2) } } : State).service.slotDue = some (1, 2) := by decide
theorem test_meets_next_job :
    (walking 0x10 {}).inSlot 1 = true ∧ (walking 0x10 {}).inSlot 0 = false ∧ (walking 0x10 {}).nextJob 1 0 = none ∧ (walking 0 {}).nextJob 1 2 = some 0 ∧
    (walking 0x11 {}).nextJob 1 0 = some 0 ∧ ((walking 0x11 {}).ffJob 1 0).kind = 1 ∧ ((walking 0x11 {}).ffJob 1 0).ok = true := by decide
theorem test_meets_job_gates :
    ((walking 1 {}).ffJob 1 0).ok = false ∧ ((walking 0x11 {}).ffJob 1 0).gate = 0 ∧ ((walking 0x400011 {}).ffJob 1 0).gate = 2 ∧ ((walking 0x200011 {}).ffJob 1 0).gate = 1 ∧
    mapGet (fun _ => none) ((walking 0x200011 { joined := [(0, some 0)] }).walk 1).joined 0 = some 0 ∧ ((walking 0x11 {}).ffJob 1 0).done = false := by decide
theorem test_meets_job_places :
    let s := walking 0x11 {}
    let j := s.ffJob 1 0
    s.banksOk 3 (s.ffJobAt 1 0) 64 = true ∧ s.firstBad .lib (s.ffJobAt 1 0) 64 = none ∧ (banksOf (j.w 10) j.weightBytes).all s.edgeBank = true ∧
    s.ffReadable 3 j.edgeReads = (true, none) ∧ s.firstBad .lib (j.w 10) j.weightBytes = none ∧ s.edgeWritable 1 j = true := by decide
theorem test_meets_job_end : ((walking 0x11 { edge := some 0 }).walk 1).edge = some 0 ∧ ((walking 0x11 {}).walk 1).crop = none := by decide
theorem test_meets_generator : agOk agRun = true ∧ agOk { agRun with irow := 128 } = false ∧ agOk { agRun with pass := some (0, 1) } = true := by decide
/-- A preparation job of band 0 of pipeline 1 for frame 7, and its band. -/
def subJob (phase : Nat) : SubJob :=
  { house := 3, pipe := 1, band := 0, target := 7, onCall := false, due := 0, bytes := 8388608, phase := phase, cut := false }
def band : BandEnt :=
  { form := 0, row0 := 0, rows := 1, deal := false, shape := false, nt := 0, ntMax := 0, startBell := 0, warnBell := 0, lateBell := 0, window := 0, plan := 0, shapeAddr := 0,
    tileAddr := 0 }
/-- It waits or runs; the record of its pipeline names frame `rf`. -/
def preparing (phase : Nat) (rf : Byte) : State :=
  { walking 0 {} with
      subJobs := [subJob phase], parts := [(3, (1, 8388608))], bandRecs := [(2048, { tframe := 7 })], lib := [(256 + 32 * 7 + 8, rf)], bandEnts := [(2048 * 4, some band)] }
theorem test_meets_sub_job :
    let s := preparing 0 0
    let j := subJob 0
    s.subJobs.find? (fun j => decide (j.pipe = 1) && decide (j.band = 0) && decide (j.phase = 0)) = some j ∧ (∀ j ∈ s.subJobs, j.cut = false) ∧
    (s.subJobs.filter (fun k => decide (k.pool = j.pool))) = [j] ∧ 0 < (s.poolSize j.pool).1 ∧ j.bytes ≤ (s.poolSize j.pool).2 ∧
    (s.bandRec 1 0).tframe = 7 ∧ (preparing 1 0).subJobs.find? (fun j => decide (j.pipe = 1) && decide (j.band = 0) && decide (j.phase = 0)) = none := by decide
theorem test_meets_sub_ready :
    (preparing 1 0).subJobs.find? (fun j => decide (j.pipe = 1) && decide (j.band = 0) && decide (j.phase = 1)) = some (subJob 1) ∧
    (preparing 1 0).anyEnt 1 0 = some band ∧ ((preparing 1 0).prepRead (subJob 1) band).isSome = true ∧ ((preparing 1 1).prepRead (subJob 1) band).isNone = true := by decide
/-- House 3's model 9 learns on form 4, whose control block lies in bank 5: its lane 0 has the unit numbered 1 in hand, of a kind, where one is given. -/
def adapting (kind : Option Nat) (x : Hw) : State :=
  let u : HwUnit := { form := 4, seq := 1, kind := kind.getD 0, layer := 0, sample := 0, step := 0, arg := 0 }
  ({ granted with
      models := [{ handle := 9, house := 3, images := [], key := 0, svn := 0, hw := some { ctrl := [(4, 0x140000, 0)], layers := [(1, 8, 8)] } }]
      runs := [(3, some 9)], lib := [(0x140000, 1), (0x140020, 1)], pipes := [(0, { valid := true, house := 3, inW := 32, inH := 32 })]
      grants := [(3, { given := true, flashSize := 1 })]
      hw := [(9, { x with enable := true, units := (kind.map (fun _ => u)).toList })] } : State).setCore 128 { csr := [(1, 3)] }
theorem test_meets_unit_here : ∀ k ∈ [1, 2, 3, 4, 5],
    (((adapting (some k) {}).hwOf 9).units.find? (fun u => decide (u.form = 4) && decide (u.kind = k) && !u.ended)).isSome = true ∧
    ((adapting (some k) {}).hwPlan? 9).isSome = true := by decide
/-- The model, its plan and the unit of that state. -/
def learner : Model := { handle := 9, house := 3, images := [], key := 0, svn := 0, hw := some { ctrl := [(4, 0x140000, 0)], layers := [(1, 8, 8)] } }
def plan : Config.HwPlan := { ctrl := [(4, 0x140000, 0)], layers := [(1, 8, 8)] }
def unit (k : Nat) : HwUnit := { form := 4, seq := 1, kind := k, layer := 0, sample := 0, step := 0, arg := 0 }
theorem test_meets_grad_unit : UnitHere (adapting (some 1) {}) 9 4 1 learner plan (unit 1) 0x140000 0 :=
  ⟨rfl, rfl, rfl, by decide, by decide, by decide, by decide, by decide⟩
theorem test_meets_update_unit : UnitHere (adapting (some 2) {}) 9 4 2 learner plan (unit 2) 0x140000 0 :=
  ⟨rfl, rfl, rfl, by decide, by decide, by decide, by decide, by decide⟩
theorem test_meets_copy_unit : UnitHere (adapting (some 3) {}) 9 4 3 learner plan (unit 3) 0x140000 0 :=
  ⟨rfl, rfl, rfl, by decide, by decide, by decide, by decide, by decide⟩
theorem test_meets_eval_unit : UnitHere (adapting (some 4) {}) 9 4 4 learner plan (unit 4) 0x140000 0 :=
  ⟨rfl, rfl, rfl, by decide, by decide, by decide, by decide, by decide⟩
theorem test_meets_deploy_unit : UnitHere (adapting (some 5) {}) 9 4 5 learner plan (unit 5) 0x140000 0 :=
  ⟨rfl, rfl, rfl, by decide, by decide, by decide, by decide, by decide⟩
/-- A policy with 2 samples a step, patches of 32, pools of 8 and of 1, and a margin of 1. -/
def policy : List Byte := [0, 0, 0, 0, 1, 2, 1, 0, 1, 0, 2, 32, 8, 0, 1, 0] ++ List.replicate 28 0 ++ [0, 0, 0x80, 0x3F] ++ List.replicate 4 0 ++ [100, 0, 3, 0] ++ List.replicate 8 0
theorem test_meets_deal :
    let s := adapting none { state := 2, grads := [0], policy := policy }
    let y := (s.hwOf 9).settle plan
    s.hwPlan? 9 = some (learner, plan) ∧ plan.ctrl.find? (fun c => decide (c.1 = 4)) = some (4, 0x140000, 0) ∧ s.hwRuns learner y = true ∧ s.hwIdleForm 4 = true ∧
    (∀ u ∈ y.units, u.form ≠ 4 ∧ u.ended = false) ∧ s.liveLanes 4 ≠ 0 ∧ s.nextUnit 3 y = some (1, 0, 0, 1) ∧ (s.setFormTier 4 { heat := 1 }).hwIdleForm 4 = false := by decide
theorem test_meets_sample :
    let q : HwSample := { frame := 1, x := 0, y := 0, lines := 63, bytes := [] }
    let x : Hw := { state := 1, policy := policy, sample := some q }
    let s := adapting none x
    s.hwRuns learner (s.hwOf 9) = true ∧ (s.hwOf 9).state ≠ 0 ∧ (s.hwOf 9).patch plan ≤ (s.pipe plan.pipe).inW ∧ (s.hwOf 9).patch plan ≤ (s.pipe plan.pipe).inH ∧
    q.lines < 2 * (s.hwOf 9).patch plan ∧ s.gateOpen (s.pipe 0).source ((q.frame + q.lines / 32) % 2 ^ 32) (q.y + q.lines % 32) = false ∧
    2 * (s.hwOf 9).patch plan = 64 := by decide
theorem test_meets_sample_end :
    let recs : List InRec := [⟨1, 0, 0, false, true⟩, ⟨2, 0, 0, false, true⟩, ⟨3, 1, 0, false, true⟩]
    let at_ := fun (f : Nat) => recs.find? (fun r => decide (r.frame = f) && r.complete)
    at_ 1 = some ⟨1, 0, 0, false, true⟩ ∧ at_ 2 = some ⟨2, 0, 0, false, true⟩ ∧ at_ 3 = some ⟨3, 1, 0, false, true⟩ ∧
    ¬ 1 / max 1 (pol policy 8 2) % max 1 (pol policy 10 1) = 0 ∧ 2 / max 1 (pol policy 8 2) % max 1 (pol policy 10 1) = 0 := by decide
theorem test_meets_round :
    let x : Hw := { state := 3, deployed := true, val := 1, policy := policy, evals := [(0, some 0x3F000000), (1, some 0x3F800000)] }
    let s := adapting none x
    s.hwRuns learner (s.hwOf 9) = true ∧ (s.hwOf 9).state = 3 ∧ (s.hwOf 9).deployed = true ∧
    (∀ j, j < 2 * (s.hwOf 9).valCount → mapGet (fun _ => none) (s.hwOf 9).evals j ≠ none) ∧ (s.hwOf 9).valCount = pol (s.hwOf 9).policy 14 2 ∧
    bit (s.rd Reg.RAS_BELLSTAT) 2 = false ∧ bit ((s.wr Reg.RAS_BELLSTAT 4).rd Reg.RAS_BELLSTAT) 2 = true ∧ (s.hwOf 9).next = [] ∧
    (s.hwOf 9).rejects + 1 < pol (s.hwOf 9).policy 54 1 ∧ pol (s.hwOf 9).policy 54 1 ≤ 2 + 1 := by decide
theorem test_meets_round_good :
    let x : Hw := { state := 3, deployed := true, val := 1, policy := policy, evals := [(0, some 0x3F000000), (1, some 0x3F800000)] }
    (f32 (x.lossSum 0)).isNan = false ∧ (f32 (x.lossSum 1)).isNan = false ∧ fvLt (f32 (x.lossSum 0)) (f32 (f32Mul (x.lossSum 1) (pol x.policy 44 4))) = true ∧
    fvLt (f32 (x.lossSum 1)) (f32 (f32Mul (x.lossSum 0) (pol x.policy 44 4))) = false := by decide
theorem test_meets_checkpoint :
    let s := adapting none { state := 2, policy := policy }
    (s.hwOf 9).enable = true ∧ pol (s.hwOf 9).policy 52 2 ≠ 0 ∧ (s.grant 3).flashSize ≠ 0 ∧ s.houseCkpts 3 = [] ∧ (s.hwOf 9).pendLayers = [] ∧
    (s.hwOf 9).epochDue = false ∧ (s.hwOf 9).sealedGen = (s.hwOf 9).gen ∧ (granted.hwOf 9).enable = false := by decide

/-! ### Chapters 15 and 16: reset, power, heat, firmware, debug and JTAG -/

/-- The state after reset with other always-on words. -/
def served (f : Service → Service) (p : Power) : State := { State.reset with power := p, service := f State.reset.service }
theorem test_meets_reset :
    let r : SaveRec := { seq := 0, cause := 0, torn := 0, fw := 0, frames := [], inFrames := [], applied := [], commitSeq := 0, nj := 0, ckpt := [], evtSeq := [], banks := [],
                         cores := [], arrays := [] }
    let s := served (fun v => { v with save := some r }) .holdup
    s.power = .holdup ∧ s.service.save ≠ none ∧ s.service.saved = false ∧ s.service.resetHeld = false ∧ ¬ (State.reset.power = .holdup) ∧
    (dean.resetN = true ∧ dean.power = .on ∧ dean.started = true) := by decide
theorem test_meets_start :
    let s : State := { State.reset with resetN := false }
    let u : StartUp := { aOk := true, bOk := false, banks := [], cores := [], arrays := [], forms := [], eco := 0, ssc := 0, lsio := 0, gpio := 0, vcore := 0 }
    let b := State.bootFuses { s with resetN := true, power := .on }
    s.resetN = false ∧ b.bootImage u = some false ∧ b.bootImage { u with aOk := false } = none ∧ s.journal = {} ∧ s.saves = [] ∧ s.service.lcReq = none ∧ s.grants = [] ∧ s.regs = [] ∧
    (served (fun v => { v with startHeld := some 1 }) .on).service.startHeld = some 1 := by decide
theorem test_meets_power :
    State.reset.service.trans = none ∧ State.reset.powerState = 0 ∧ State.reset.ecoTooSlow = false ∧ (State.reset.wr Reg.PWR_STATE 1).powerState = 1 ∧
    (State.reset.wr Reg.PWR_STATE 2).powerState = 2 ∧ (served (fun v => { v with trans := some 2 }) .on).service.trans = some 2 ∧
    (served (fun v => { v with trans := some 0 }) .standby).service.heldReq = none ∧ State.reset.accepted = [] ∧ mapSorted State.reset.cores = true := by decide
theorem test_meets_eco_refused :
    let im : Image := { house := 3, tier := 0, lowLat := false, formMask := 0, arraysMin := 0, cclkPlan := 256, pipes := [], bands := [], bells := [], istore := [], handles := [],
                        libmap := [], init := [] }
    ({ State.reset with models := [{ handle := 9, house := 3, images := [im], key := 0, svn := 0 }], runs := [(3, some 9)] } : State).ecoTooSlow = true := by decide
theorem test_meets_holdup :
    dean.started = true ∧ dean.rdF Reg.MBX_DEAN 3 0 ≠ 4 ∧ State.reset.started = false ∧ (served (fun v => { v with saved := true }) .holdup).service.tripped = false ∧
    (served (fun v => { v with saved := true, tripped := true }) .holdup).service.tripped = true := by decide
theorem test_meets_heat :
    (State.reset.formTier 31).trip = false ∧ ((State.reset.setFormTier 31 { trip := true, heat := 3, cool := 10000 }).formTier 31).trip = true ∧
    ((State.reset.setFormTier 31 { trip := true, heat := 3, cool := 10000 }).formTier 31).cool = 10000 ∧ heatLevel 98 ≤ 3 ∧ State.reset.service.tick < 9 ∧
    9 ≤ (served (fun v => { v with tick := 9 }) .on).service.tick ∧ State.reset.rdF Reg.PWR_STRETCH 5 0 ≤ 48 := by decide
theorem test_meets_governor_calm :
    let s := State.reset.wr Reg.PWR_PNOW 0xFFFF
    s.burstStep.powerHigh = true ∧ State.reset.burstStep.powerHigh = false := by decide
theorem test_meets_swap_firmware :
    (served (fun v => { v with swap := .pending }) .on).service.swap = .pending ∧ (served (fun v => { v with swap := .gap, swapWaiter := some (none, 5) }) .on).service.swap = .gap ∧
    dean.rdF Reg.MBX_DEAN 3 0 = 2 ∧ State.reset.service.swap ≠ .pending ∧
    loaded.models.find? (fun x => decide (x.handle = (9 : Word).toNat)) = loaded.models.head? ∧ (∀ x ∈ loaded.models, x.committed = false) := by decide
theorem test_meets_firmware_stage :
    dean.service.swap = .none ∧ dean.service.staged = false ∧ dean.hostRanges 0 [(0, 256)] = .ok ∧ dean.openDevice = false ∧ dean.fuses.life = 2 ∧ dean.service.permit = false ∧
    ({ dean with deviceOpen := true } : State).openDevice = true := by decide
theorem test_meets_dean_slot :
    let s := (dean.wr (Reg.own 3 Reg.MBX_STATUS) 1).wr (Reg.own 3 (Reg.MBX_CMDn 0)) 0x50001
    s.completions = [] ∧ s.service.journalPend = 0 ∧ s.service.swap = .none ∧ s.service.rescue = false ∧ bit (s.rd (Reg.own 3 Reg.MBX_IRQ)) 6 = false ∧
    s.mbxBusy 3 = true ∧ s.rd (Reg.own 3 (Reg.MBX_CMDn 0)) = BitVec.ofNat 32 (0x01 + 65536 * 5) ∧
    (∀ i, i < 16 → i ≠ 0 → s.rd (Reg.own 3 (Reg.MBX_CMDn i)) = 0) ∧ dean.mbxBusy 3 = false := by decide
theorem test_meets_dean_turn : dean.turnQueues 4 = [] ∧ State.reset.turnQueues 3 = [] := by decide
theorem test_meets_flr : granted.granted 3 = true ∧ loaded.ownsPipe 3 2 = true ∧ inRange (granted.rd (Reg.QUE_HRANGEh 3)) 30 13 0x4F = true := by decide
theorem test_meets_jtag :
    State.reset.resetN = true ∧ State.reset.power ≠ .off ∧ State.reset.power ≠ .holdup ∧
    ({ State.reset with fuses := { State.reset.fuses with life := 1 } } : State).fuses.life ≤ 1 ∧
    ({ State.reset with fuses := { State.reset.fuses with life := 0 } } : State).openDevice = true ∧ State.reset.openDevice = false ∧ State.reset.service.hdcpKeys = true ∧
    State.reset.fuses.life = 2 ∧ gpioMeets 1 false true = true ∧ gpioMeets 0 false true = false := by decide
theorem test_meets_steps : State.reset.wf ∧ step State.reset = .next State.reset ∧ State.reset.pending = [] := by
  refine ⟨?_, rfl, rfl⟩
  unfold State.wf
  decide
theorem test_meets_fuses : State.reset.fusesLegal ∧ step State.reset = .next State.reset := by
  refine ⟨⟨by decide, by decide, fun _ => by simp [State.counter, State.reset, mapGet], ?_⟩, rfl⟩
  intro dst slots h
  cases h
end Sys2Proof.Tests
end

section
/-! PROOFS. Accesses of one aligned word through BAR0 (R8 to R14, R58), and what a register block shows to a function. -/
namespace Sys2Proof.Machine
open Claim

/-! ### Accesses of one aligned word -/

/-- A linked device carries out a command of the host link. -/
theorem State.linked_of_link {s : State} (h : Link s) (f : State → State) : s.linked f = f s := by
  obtain ⟨hreset, hpower⟩ := h
  rcases hpower with hp | hp <;> simp [State.linked, hreset, hp]

/-- The write row over a live link. -/
theorem exec_registerWrite_of_link {s : State} (h : Link s) (fn : Fin 8) (off : Fin 33554432) (n : Nat) (v : BitVec 64) :
    exec (.registerWrite fn off n v) s = .next (s.barWrite fn off n v) :=
  congrArg _ (State.linked_of_link h _)

/-- The read row over a live link. -/
theorem exec_pairSnapshotRead_of_link {s : State} (h : Link s) (fn : Fin 8) (off : Fin 33554432) (n : Nat) :
    exec (.pairSnapshotRead fn off n) s = .next (s.barRead fn off n) :=
  congrArg _ (State.linked_of_link h _)

/-- A 32-bit access at an aligned offset writes that word alone (R13). -/
theorem State.barWrite_word (s : State) (fn : Nat) {off : Nat} (v : BitVec 64) (h : off % 4 = 0) :
    s.barWrite fn off 4 v = s.write32 fn off (BitVec.ofNat 32 v.toNat) := by
  have aligned : off / 4 * 4 = off := by omega
  simp [State.barWrite, aligned]

/-- A 32-bit access at an aligned offset reads that word alone (R13). -/
theorem State.barRead_word (s : State) (fn : Nat) {off : Nat} (h : off % 4 = 0) :
    s.barRead fn off 4 = (s.read32 fn off).2.emit (.readData fn off (s.read32 fn off).1.toNat) := by
  have aligned : off / 4 * 4 = off := by omega
  have whole : (s.read32 fn off).1.toNat % 4294967296 = (s.read32 fn off).1.toNat := Nat.mod_eq_of_lt (s.read32 fn off).1.isLt
  simp [State.barRead, aligned, h, whole]

/-- A word that is no upper word of a pair reads its live value, and at most snapshots change (R58). -/
theorem State.read32_live (s : State) (fn : Nat) {off : Nat} (h : upperOf (off - 4) ≠ some off) :
    ∃ m, s.read32 fn off = (s.barValue fn off, { s with snaps := m }) := by
  unfold State.read32
  split
  · exact ⟨_, rfl⟩
  · refine ⟨s.snaps, ?_⟩
    simp only [h, decide_false]
    cases mapGet (fun _ => none) s.snaps (Reg.own fn off) <;> rfl

/-- Such a word read by a function over a live link: its live value goes out, and at most snapshots change beside that. -/
theorem exec_read_live {s : State} (hlink : Link s) (fn : Fin 8) {off : Fin 33554432} (haligned : off.val % 4 = 0)
    (h : upperOf (off - 4) ≠ some off.val) :
    ∃ m, exec (.pairSnapshotRead fn off 4) s = .next ({ s with snaps := m }.emit (.readData fn off (s.barValue fn off).toNat)) := by
  obtain ⟨m, hread⟩ := s.read32_live fn h
  exact ⟨m, by rw [exec_pairSnapshotRead_of_link hlink, State.barRead_word _ _ haligned, hread]⟩

/-! ### What a function does not see -/

/-- A write of a register that the function does not see is discarded. -/
theorem State.write32_of_not_sees {s : State} {fn off : Nat} (v : Word) (hoff : off < 0x1000000) (h : s.sees fn off = false) :
    s.write32 fn off v = s := by
  simp [State.write32, hoff, h]

/-- A register that the function does not see has the value 0 for it. -/
theorem State.barValue_of_not_sees {s : State} {fn off : Nat} (hoff : off < 0x1000000) (h : s.sees fn off = false) :
    s.barValue fn off = 0 := by
  simp [State.barValue, hoff, h]

/-! ### Writes under the access codes -/

/-- An offset outside a window has no index in it. -/
theorem window_eq_none {base size n off : Nat} (h : off < base ∨ base + size * n ≤ off) : window base size n off = none :=
  if_neg (by omega)

/-- All functions share the registers of the raster block. -/
theorem keyFor_raster (fn : Nat) {off : Nat} (hlo : 0x100000 ≤ off) (hhi : off < 0x140000) : keyFor fn off = off := by
  have hown : ownCopy off = false := by
    simp only [ownCopy, Bool.or_eq_false_iff, Bool.and_eq_false_iff, decide_eq_false_iff_not]
    simp only [Reg.LIB_APBASE, Reg.LIB_APERR, Reg.LIB_APERR_ADDR, Reg.CMP_SHSTAT]
    omega
  simp [keyFor, hown]

/-- A register of the raster block is written under its access codes and nothing else. -/
theorem State.regWrite_raster (s : State) (fn : Nat) {off : Nat} {r : RegRow} (v : Word) (hlo : 0x100000 ≤ off) (hhi : off < 0x140000)
    (hrow : regRow? off = some r) : s.regWrite fn off v = s.codeWrite off r v false := by
  have hplain : ¬ (0x10000 ≤ off ∧ off < 0x10040) ∧ off ≠ Reg.MBX_DOORBELL ∧ off ≠ Reg.EVT_C_MASK ∧ off ≠ Reg.VIN_HF_TAIL ∧
      off ≠ Reg.VIN_HF_CTRL ∧ ¬ (off = Reg.VIN_HF_BASE_LO ∨ off = Reg.VIN_HF_BASE_HI ∨ off = Reg.VIN_HF_SIZE) ∧ off ≠ Reg.PWR_REQ := by
    simp only [Reg.MBX_DOORBELL, Reg.EVT_C_MASK, Reg.VIN_HF_TAIL, Reg.VIN_HF_CTRL, Reg.VIN_HF_BASE_LO, Reg.VIN_HF_BASE_HI, Reg.VIN_HF_SIZE,
      Reg.PWR_REQ]
    omega
  obtain ⟨hcmd, hdoorbell, hmask, htail, hctrl, hring, hreq⟩ := hplain
  simp only [State.regWrite, hrow, keyFor_raster fn hlo hhi,
    window_eq_none (base := 0x500000) (size := 16) (n := 16384) (off := off) (by omega),
    window_eq_none (base := 0x600000) (size := 16) (n := 8192) (off := off) (by omega),
    window_eq_none (base := 0x901000) (size := 0x40) (n := 96) (off := off) (by omega),
    window_eq_none (base := 0x200400) (size := 0x40) (n := 8) (off := off) (by omega), if_neg hcmd, if_neg hdoorbell, if_neg hmask,
    if_neg htail, if_neg hctrl, if_neg hring, if_neg hreq]

/-- The word that a write of `v` leaves in a register whose RWL fields are open: RW and RWL bits taken, W1C bits cleared, W1S bits set (Table 0.6). -/
def codedWord (r : RegRow) (old v : Word) : Word :=
  let m := BitVec.ofNat 32
  (((old &&& ~~~(m r.rw ||| m r.rwl)) ||| (v &&& (m r.rw ||| m r.rwl))) &&& ~~~(v &&& m r.w1c)) ||| (v &&& m r.w1s)

/-- A write under the access codes of a row without OVF, its RWL fields open, is the write of one coded word. -/
theorem State.codeWrite_open (s : State) (key : Nat) {r : RegRow} (v : Word) (h : r.ovf = false) :
    s.codeWrite key r v false = s.wr key (codedWord r (s.rd key) v) := by
  simp [State.codeWrite, codedWord, h]

/-- A command that ends in the write of one register sets that register alone. -/
theorem setsRegs_of_wr {j : Instr} {s : State} {key : Nat} {v : Word} (h : exec j s = .next (s.wr key v)) : SetsRegs j s [(key, v)] := by
  refine ⟨s.wr key v, h, rfl, by simp, fun q hq => ?_⟩
  exact State.rd_wr_ne s v (hq (key, v) (by simp)).symm

/-- Settles O15: an unseen register is filtered out before the access codes, and a raster register has no behaviour beside them. -/
theorem registerAccessesFollowTheAccessCodes : Obligations.RegisterAccessesFollowTheAccessCodes := by
  intro s fn off v hlink haligned hoff
  refine ⟨fun hunseen => ⟨?write, fun hupper => ?read⟩, fun r hlo hhi hsees hrow hovf => ?coded⟩
  case write =>
    rw [exec_registerWrite_of_link hlink, State.barWrite_word _ _ _ haligned, State.write32_of_not_sees _ hoff hunseen]
  case read =>
    obtain ⟨m, hread⟩ := exec_read_live hlink fn haligned hupper
    rw [State.barValue_of_not_sees hoff hunseen] at hread
    exact ⟨_, hread, rfl, rfl⟩
  case coded =>
    apply setsRegs_of_wr
    rw [exec_registerWrite_of_link hlink, State.barWrite_word _ _ _ haligned, State.write32, if_pos hoff, if_pos hsees,
      State.regWrite_raster _ _ _ hlo hhi hrow, State.codeWrite_open _ _ _ hovf]
    rfl

end Sys2Proof.Machine
end

section
/-! PROOFS. The bell table in BAR0 (R41, R57): its entries read back, though no row of the register tables holds their offsets. -/
namespace Sys2Proof.Machine
open Claim

/-- The fuses give no register between the identity registers and PWR_LIMITS. -/
theorem Fuses.reg_eq_none (f : Fuses) {off : Nat} (hlo : Reg.DEV_UID_HI < off) (hhi : off < Reg.PWR_LIMITS) : f.reg off = none := by
  have hne : off ≠ Reg.DEV_ID ∧ off ≠ Reg.DEV_GRADE ∧ off ≠ Reg.DEV_ARRAYS ∧ off ≠ Reg.DEV_CANVAS ∧ off ≠ Reg.DEV_PIXRATE ∧
      off ≠ Reg.DEV_REFRESH ∧ off ≠ Reg.DEV_UID_LO ∧ off ≠ Reg.DEV_UID_HI ∧ off ≠ Reg.PWR_LIMITS := by
    simp only [Reg.DEV_UID_HI, Reg.PWR_LIMITS] at hlo hhi
    simp only [Reg.DEV_ID, Reg.DEV_GRADE, Reg.DEV_ARRAYS, Reg.DEV_CANVAS, Reg.DEV_PIXRATE, Reg.DEV_REFRESH, Reg.DEV_UID_LO, Reg.DEV_UID_HI,
      Reg.PWR_LIMITS]
    omega
  simp [Fuses.reg, hne]

/-- A granted function sees the bell entries of its House's range (R57). -/
theorem State.sees_bellEntry {s : State} {fn e off : Nat} (hgrant : s.granted fn = true) (hhouse : s.bellHouse e = some fn)
    (hwin : window 0x140000 16 4096 off = some e) (hlo : 0x140000 ≤ off) (hhi : off < 0x150000) : s.sees fn off = true := by
  have hras : s.seesRas fn off = true := by simp [State.seesRas, inWindow, hwin, hhouse]
  simp only [State.sees, hgrant, hras, Bool.true_and]
  rw [if_neg (by omega), if_neg (by omega), if_pos (by omega), Bool.or_true]

/-- Word `i` of bell entry `e`, as the function whose range holds the entry reads it. -/
theorem State.barValue_bellEntry {s : State} {fn e i : Nat} (hgrant : s.granted fn = true) (hhouse : s.bellHouse e = some fn) (he : e < 4096)
    (hi : i < 4) : s.barValue fn (0x140000 + 16 * e + 4 * i) = s.bellWord e i := by
  have hentry : (0x140000 + 16 * e + 4 * i - 0x140000) / 16 = e := by omega
  have hword : (0x140000 + 16 * e + 4 * i) % 16 / 4 = i := by omega
  generalize hoff : 0x140000 + 16 * e + 4 * i = off at hentry hword
  have hin : 0x140000 ≤ off ∧ off < 0x150000 := by omega
  have hwin : window 0x140000 16 4096 off = some e := by rw [window, if_pos hin, hentry]
  have hfuse : s.fuses.reg off = none := s.fuses.reg_eq_none (by simp only [Reg.DEV_UID_HI]; omega) (by simp only [Reg.PWR_LIMITS]; omega)
  have hvalue : s.regValue fn off = s.bellWord e i := by
    simp only [State.regValue, hfuse, window_eq_none (base := 0x101000) (size := 0x100) (n := 8) (off := off) (by omega), if_pos hin, hentry,
      hword]
  rw [State.barValue, if_pos (by omega), if_pos (State.sees_bellEntry hgrant hhouse hwin hin.1 hin.2), hvalue]

/-- A linked device whose bell entry 0 lies in the range of House 0 and holds 1 in word 0. -/
def bellEntryStored : State := { State.reset.wr (Reg.RAS_HRANGEh 0) 0x10000 with bells := [(0, { w0 := 1 })] }

/-- The link to that device is up. -/
theorem link_bellEntryStored : Link bellEntryStored := ⟨rfl, .inl rfl⟩

/-- Function 0 reads 1 at the offset of that word. -/
theorem exec_read_bellEntryStored : ∃ m, exec (.pairSnapshotRead 0 0x140000 4) bellEntryStored =
    .next ({ bellEntryStored with snaps := m }.emit (.readData 0 0x140000 1)) := by
  have hvalue : bellEntryStored.barValue 0 0x140000 = 1 := State.barValue_bellEntry (e := 0) (i := 0) rfl (by decide) (by decide) (by decide)
  obtain ⟨m, hread⟩ := exec_read_live link_bellEntryStored 0 (off := 0x140000) (by decide) (by decide)
  exact ⟨m, hread.trans (by rw [show bellEntryStored.barValue (0 : Fin 8) (0x140000 : Fin 33554432) = 1 from hvalue]; rfl)⟩

/-- Refutes O16: its clause on unassigned offsets takes each offset below the TCD block that no RegRow holds for one that reads 0. The bell table
at 0x140000 has no RegRow and is read all the same (R57): function 0 reads the 1 of `bellEntryStored`. -/
theorem not_functionsReadAndWriteWords : ¬ Obligations.FunctionsReadAndWriteWords := by
  intro h
  obtain ⟨-, -, -, -, hunassigned, -⟩ := h bellEntryStored 0 link_bellEntryStored
  obtain ⟨hzero, -⟩ := hunassigned 0x140000 0 (by decide) (.inl ⟨by decide, by decide⟩)
  obtain ⟨m, hone⟩ := exec_read_bellEntryStored
  have hout := congrArg State.out (Host.Outcome.next.inj (hzero.symm.trans hone))
  simp [State.emit] at hout

end Sys2Proof.Machine
end

section
/-! PROOFS. What the registers read after reset (Tables 0.4 to 16.12). -/
namespace Sys2Proof.Machine

/-- After reset a register reads its table's reset value. -/
theorem State.rd_reset (key : Nat) : State.reset.rd key = regReset key := rfl

/-- The registers of a row lie at distinct offsets. -/
theorem regTable_stride_pos : ∀ r ∈ regTable, 0 < r.stride := by
  have hall : regTable.all (fun r => decide (0 < r.stride)) = true := by decide
  simpa only [List.all_eq_true, decide_eq_true_eq] using hall

/-- A row holds offsets of its window alone. -/
theorem RegRow.within_of_holds {r : RegRow} {off : Nat} (hmem : r ∈ regTable) (h : r.holds off = true) :
    r.base ≤ off ∧ off < r.base + r.stride * r.count := by
  simp only [RegRow.holds, Bool.and_eq_true, decide_eq_true_eq] at h
  obtain ⟨⟨hbase, hmul⟩, hcount⟩ := h
  have hdiv := Nat.div_add_mod (off - r.base) r.stride
  have hstep := Nat.mul_lt_mul_of_pos_left hcount (regTable_stride_pos r hmem)
  omega

/-- The windows of two rows do not meet. -/
def RegRow.apart (q r : RegRow) : Bool := decide (q.base + q.stride * q.count ≤ r.base) || decide (r.base + r.stride * r.count ≤ q.base)

/-- A row whose window meets no other row's is the row of each offset that it holds. -/
theorem regRow?_eq_of_apart {r : RegRow} {off : Nat} (hmem : r ∈ regTable)
    (hapart : regTable.all (fun q => q.apart r || decide (q = r)) = true) (hholds : r.holds off = true) : regRow? off = some r := by
  obtain ⟨q, hq⟩ : ∃ q, regRow? off = some q := Option.isSome_iff_exists.mp (List.find?_isSome.mpr ⟨r, hmem, hholds⟩)
  have hqmem := List.mem_of_find?_eq_some hq
  have hrwin := RegRow.within_of_holds hmem hholds
  have hqwin := RegRow.within_of_holds hqmem (List.find?_some (p := fun x : RegRow => x.holds off) hq)
  have hqr := List.all_eq_true.mp hapart q hqmem
  simp only [RegRow.apart, Bool.or_eq_true, decide_eq_true_eq] at hqr
  rcases hqr with hdisjoint | rfl
  · omega
  · exact hq

/-- After reset a register that all functions share reads its row's value; the ports' SCOn_CTRL and MBX_HOUSE have values of their own. -/
theorem regReset_of_row {off : Nat} {r : RegRow} (hrow : regRow? off = some r) (hoff : off < 2 ^ 32) (hport : off < 0x300100 ∨ 0x300300 ≤ off)
    (hhouse : off ≠ 0x100C4) : regReset off = BitVec.ofNat 32 r.reset := by
  have hkey : regOffset off = off := by rw [regOffset, if_pos (by omega), Nat.mod_eq_of_lt hoff]
  simp only [regReset, hkey, hrow, if_neg hhouse]
  exact if_neg (by omega)

/-- After reset a bank of the Library has owner code 8, no House's, and is neither shelf nor busy (Table 6.11). -/
theorem regReset_bank {b : Nat} (h : b < 512) : regReset (Reg.LIB_BANKb b) = 8 := by
  generalize hoff : Reg.LIB_BANKb b = off
  rw [Reg.LIB_BANKb] at hoff
  have hrow : regRow? off = some ⟨"LIB_BANKb", 0xa01000, 512, 4, 8, 0, 0, 0, 0, false⟩ := by
    refine regRow?_eq_of_apart (by decide) (by decide) ?_
    simp only [RegRow.holds, Bool.and_eq_true, decide_eq_true_eq]
    omega
  exact regReset_of_row hrow (by omega) (by omega) (by omega)

/-- Settles O57: the register file is empty after reset, so each register reads its row's reset value; the 512 banks share one row. -/
theorem resetLeavesTheTablesValues : Obligations.ResetLeavesTheTablesValues := by
  iterate 13 refine ⟨by decide, ?_⟩
  refine ⟨by decide, by decide, fun b => ?bank, fun c => ⟨rfl, rfl, rfl, rfl, rfl, rfl⟩, rfl, rfl, rfl, rfl, rfl⟩
  case bank =>
    have hreg : State.reset.bankReg b = 8 := (State.rd_reset _).trans (regReset_bank b.isLt)
    simp only [State.bankOwner, State.bankBusy, State.bankShelf, hreg]
    decide

end Sys2Proof.Machine
end

section
/-! PROOFS. Rows of a powered device, and the bells that a raster dispatches (R43 to R46). -/
namespace Sys2Proof.Machine
open Claim

/-- A powered device carries a command out (Table 16.2). -/
theorem State.powered_of_up {s : State} (h : Up s) (f : State → State) : s.powered f = f s := by
  obtain ⟨hreset, hpower⟩ := h
  simp [State.powered, hreset, hpower]

/-- A row that acts on a powered device acts on one that is up. -/
theorem exec_of_up {i : Instr} {s : State} {f : State → State} (h : Up s) (hrow : exec i s = .next (s.powered f)) :
    exec i s = .next (f s) := by
  rw [hrow, State.powered_of_up h]

/-! ### Registers -/

/-- A register of which a field has been written. -/
@[simp] theorem State.rd_wrF_same (s : State) (key hi lo v : Nat) : (s.wrF key hi lo v).rd key = setFld (s.rd key) hi lo v :=
  State.rd_wr_same s key _

/-- An error register that has counted. -/
@[simp] theorem State.rd_countErr_same (s : State) (key : Nat) : (s.countErr key).rd key = bumpErr (s.rd key) :=
  State.rd_wr_same s key _

/-- Every other register reads as before. -/
theorem State.rd_countErr_ne (s : State) {key q : Nat} (h : q ≠ key) : (s.countErr key).rd q = s.rd q :=
  State.rd_wr_ne s _ h

/-! ### Dispatched bells -/

/-- The bell of an entry that a raster dispatches with an action code. -/
def State.dueBell (s : State) (r e action : Nat) : Option DueBell :=
  (s.raster r).due.find? (fun d => decide (d.entry = e) && decide (fld d.bell.w1 3 0 = action))

/-- A raster has dispatched a bell. -/
def State.takeBell (s : State) (r : Nat) (d : DueBell) : State :=
  s.setRaster r { s.raster r with due := (s.raster r).due.erase d }

/-- An entry that is not being dispatched with the action of a row has no effect. -/
theorem State.onBell_of_idle {s : State} {r e action : Nat} (f : State → Nat → DueBell → State) (h : s.dueBell r e action = none) :
    s.onBell r e action f = s := by
  simp only [State.dueBell] at h
  simp only [State.onBell, h]

/-- A bell acts for the House whose range holds its entry, and is dispatched no more. -/
theorem State.onBell_of_due {s : State} {r e action h : Nat} {d : DueBell} (f : State → Nat → DueBell → State)
    (hdue : s.dueBell r e action = some d) (hhouse : s.bellHouse e = some h) : s.onBell r e action f = f (s.takeBell r d) h d := by
  simp only [State.dueBell] at hdue
  have hsame : (s.setRaster r { s.raster r with due := (s.raster r).due.erase d }).bellHouse e = some h := hhouse
  simp only [State.onBell, hdue, hsame, State.takeBell]

/-- A bell row with nothing to dispatch leaves the state as it is. -/
theorem exec_bell_of_idle {i : Instr} {s : State} {r e action : Nat} {f : State → Nat → DueBell → State} (hup : Up s)
    (hrow : exec i s = .next (s.powered (fun s => s.onBell r e action f))) (h : s.dueBell r e action = none) : exec i s = .next s := by
  rw [exec_of_up hup hrow, State.onBell_of_idle f h]

/-- A bell row acts for its bell. -/
theorem exec_bell_of_due {i : Instr} {s : State} {r e action h : Nat} {f : State → Nat → DueBell → State} {d : DueBell} (hup : Up s)
    (hhouse : s.bellHouse e = some h) (hrow : exec i s = .next (s.powered (fun s => s.onBell r e action f)))
    (hdue : s.dueBell r e action = some d) : exec i s = .next (f (s.takeBell r d) h d) := by
  rw [exec_of_up hup hrow, State.onBell_of_due f hdue hhouse]

/-! ### What the bells of Table 2.5 do -/

/-- A HOST_EVT bell posts to a queue of its House. -/
theorem State.hostEvt_of_own {s : State} {h r : Nat} {d : DueBell} (hqueue : s.queueHouse (fld d.bell.w2 13 0) = some h) :
    s.hostEvt h r d = s.postTo h (fld d.bell.w2 13 0) 0x10 0 (some r) [d.bell.w3.toNat, d.entry] :=
  if_pos hqueue

/-- A HOST_EVT bell posts to no other House's queue. -/
theorem State.hostEvt_of_foreign {s : State} {h r : Nat} {d : DueBell} (hqueue : s.queueHouse (fld d.bell.w2 13 0) ≠ some h) :
    s.hostEvt h r d = s :=
  if_neg hqueue

/-- A COMMIT bell leaves a slot that is not armed alone. -/
theorem State.bellCommit_of_unarmed {s : State} {h i : Nat} (harmed : (s.slot i).armed = none) : s.bellCommit h i = s := by
  simp only [State.bellCommit, harmed]

/-- A COMMIT bell accepts the set that its House armed in the slot. -/
theorem State.bellCommit_of_armed {s : State} {h i : Nat} {a : Arm} {p : CommitPlan} (harmed : (s.slot i).armed = some a)
    (hself : a.house = h) (hplain : a.cut = none) (howns : s.slotOf h i = true) (hok : s.checkCommit h (s.slot i) a.gl true = .ok p) :
    s.bellCommit h i = s.accept h i (s.slot i) a.gl p := by
  have hmine : a.house = h ∧ s.slotOf h i = true := ⟨hself, howns⟩
  simp only [State.bellCommit, harmed, if_pos hmine, hplain, hok]

/-! ### DMA starts (R190, R191) -/

/-- The window that a DMA_START bell of a House names. -/
def bellWindow (n h : Nat) : Nat := if n < 64 then n else 64 + 8 * (n - 64) + h

/-- A bell for a form engine of a form of the House, or for a system engine, starts a chain on its window. -/
theorem State.bellDma_of_granted {s : State} {h : Nat} {d : DueBell}
    (hgrant : (fld d.bell.w2 6 0 < 64 ∧ Nat.testBit (s.grant h).forms (fld d.bell.w2 6 0 / 2) = true) ∨
      (64 ≤ fld d.bell.w2 6 0 ∧ fld d.bell.w2 6 0 < 68)) :
    s.bellDma h d = s.dmaBell (bellWindow (fld d.bell.w2 6 0) h) d.bell.w3.toNat h := by
  rcases hgrant with ⟨hform, hbit⟩ | ⟨hlo, hhi⟩
  · simp [State.bellDma, bellWindow, hform, hbit]
  · simp [State.bellDma, bellWindow, Nat.not_lt.mpr hlo, hhi]

/-- A start joins a queue with room at its back. -/
theorem State.starts_dmaBell_of_room {s : State} {e addr house : Nat} (h : (s.eng e).starts.length < 4) :
    ((s.dmaBell e addr house).eng e).starts = (s.eng e).starts ++ [{ addr := addr, house := house }] := by
  have heng (t : State) : (t.dmaDepth e).eng e = t.eng e := rfl
  simp [State.dmaBell, State.dmaPush, h, heng]

/-- A start at a full queue is dropped, flagged and counted. -/
theorem State.dmaBell_of_full {s : State} {e addr house : Nat} (h : 4 ≤ (s.eng e).starts.length) :
    (s.dmaBell e addr house).eng e = s.eng e ∧ (s.dmaBell e addr house).rdF (Reg.DMA_En_STATUS e) 8 8 = 1 ∧
      (s.dmaBell e addr house).rd (Reg.DMA_En_DROPCNT e) = bumpErr (s.rd (Reg.DMA_En_DROPCNT e)) := by
  have hkeys : Reg.DMA_En_STATUS e ≠ Reg.DMA_En_DROPCNT e := by simp [Reg.DMA_En_STATUS, Reg.DMA_En_DROPCNT]
  have hdrop : s.dmaBell e addr house = (s.wrF (Reg.DMA_En_STATUS e) 8 8 1).countErr (Reg.DMA_En_DROPCNT e) := by
    simp [State.dmaBell, State.dmaPush, Nat.not_lt.mpr h]
  rw [hdrop]
  refine ⟨rfl, ?flag, ?count⟩
  case flag => exact (congrArg (fld · 8 8) (State.rd_countErr_ne _ hkeys)).trans (State.rdF_wrF_same s _ 1 (by decide))
  case count => rw [State.rd_countErr_same, State.rd_wrF_ne _ _ _ _ hkeys.symm]

/-- Settles O33: each bell row is one use of `onBell`, and its bell acts once the raster has dispatched it. -/
theorem bellsActOnce : Obligations.BellsActOnce := by
  intro s r e hup due rows
  refine ⟨?idle, ?act⟩
  case idle =>
    intro x hx hnone
    simp only [rows, List.mem_cons, List.not_mem_nil, or_false] at hx
    rcases hx with rfl | rfl | rfl | rfl | rfl | rfl | rfl | rfl <;> exact exec_bell_of_idle hup rfl hnone
  case act =>
    intro h d hhouse u
    refine ⟨?nop, ?post, ?foreign, ?unarmed, ?commit, ?dma⟩
    case nop => exact fun hdue => exec_bell_of_due (f := fun s _ _ => s) hup hhouse rfl hdue
    case post =>
      exact fun hdue hqueue => (exec_bell_of_due hup hhouse rfl hdue).trans (congrArg _ (State.hostEvt_of_own (s := u) hqueue))
    case foreign =>
      exact fun hdue hqueue => (exec_bell_of_due hup hhouse rfl hdue).trans (congrArg _ (State.hostEvt_of_foreign (s := u) hqueue))
    case unarmed =>
      exact fun hdue harmed => (exec_bell_of_due hup hhouse rfl hdue).trans (congrArg _ (State.bellCommit_of_unarmed (s := u) harmed))
    case commit =>
      exact fun a p hdue harmed hself hplain howns hok =>
        (exec_bell_of_due hup hhouse rfl hdue).trans (congrArg _ (State.bellCommit_of_armed (s := u) harmed hself hplain howns hok))
    case dma =>
      intro n g hdue hgrant
      have hstart : u.bellDma h d = u.dmaBell g d.bell.w3.toNat h := State.bellDma_of_granted hgrant
      refine ⟨u.dmaBell g d.bell.w3.toNat h, (exec_bell_of_due hup hhouse rfl hdue).trans (congrArg _ hstart), ?room, ?full⟩
      case room => exact fun hroom => State.starts_dmaBell_of_room (s := u) hroom
      case full => exact fun hfull => State.dmaBell_of_full (s := u) hfull

end Sys2Proof.Machine
end

section
/-! PROOFS. What an event leaves as it was (R400, R410, R411). -/
namespace Sys2Proof.Machine
open Claim

/-- Each step of a fold keeps what `g` reads, so the fold keeps it. -/
theorem foldl_keeps {σ α β : Type} {g : σ → β} {f : σ → α → σ} (h : ∀ s x, g (f s x) = g s) (l : List α) (s : σ) :
    g (l.foldl f s) = g s :=
  List.foldlRecOn l f (motive := fun t => g t = g s) rfl (fun t ht x _ => (h t x).trans ht)

/-- Each step of a fold keeps a fact about the state, so the fold keeps it. -/
theorem foldl_holds {α : Type} {P : State → Prop} {f : State → α → State} (h : ∀ s x, P s → P (f s x)) (l : List α)
    {s : State} (hs : P s) :
    P (l.foldl f s) :=
  List.foldlRecOn l f hs (fun t ht x _ => h t x ht)

/-- A state differs from another by what events write: registers from the queues on, the rings' memory, and what has been sent out. -/
structure EventsOnly (t s : State) : Prop where
  frame : t = { s with regs := t.regs, lib := t.lib, host := t.host, out := t.out }
  low : ∀ key < 0x500000, t.rd key = s.rd key

/-- No event. -/
theorem EventsOnly.refl (s : State) : EventsOnly s s := ⟨rfl, fun _ _ => rfl⟩

/-- Events after events. -/
theorem EventsOnly.trans {u t s : State} (h : EventsOnly u t) (h' : EventsOnly t s) : EventsOnly u s := by
  refine ⟨h.frame.trans ?_, fun key hkey => (h.low key hkey).trans (h'.low key hkey)⟩
  rw [h'.frame]

/-- A fold of events. -/
theorem EventsOnly.foldl {α : Type} {f : State → α → State} (h : ∀ s x, EventsOnly (f s x) s) (l : List α) (s : State) :
    EventsOnly (l.foldl f s) s :=
  foldl_holds (P := fun t => EventsOnly t s) (fun t x ht => (h t x).trans ht) l (.refl s)

/-- A register from the queues on is written. -/
theorem State.wr_eventsOnly (s : State) {key : Nat} (v : Word) (h : 0x500000 ≤ key) : EventsOnly (s.wr key v) s :=
  ⟨rfl, fun _ hq => State.rd_wr_ne s v (by omega)⟩

/-- A queue's message. -/
theorem State.queueMsg_eventsOnly (s : State) (h q : Nat) : EventsOnly (s.queueMsg h q) s := by
  unfold State.queueMsg
  split
  · exact ⟨rfl, fun _ _ => rfl⟩
  · exact .refl s

/-- A record in a queue's ring. -/
theorem State.queueStore_eventsOnly (s : State) (h q i : Nat) (bs : List Byte) : EventsOnly (s.queueStore h q i bs) s := by
  unfold State.queueStore
  split <;> exact ⟨rfl, fun _ _ => rfl⟩

/-- A record put in a queue. -/
theorem State.queuePut_eventsOnly (s : State) (h q : Nat) (bs : List Byte) : EventsOnly (s.queuePut h q bs) s := by
  have hput (t : State) (v : Word) : EventsOnly (t.wr (Reg.QUE_q_TAIL q) v) t := t.wr_eventsOnly v (by simp only [Reg.QUE_q_TAIL]; omega)
  unfold State.queuePut
  dsimp only
  split
  · exact (State.queueMsg_eventsOnly _ h q).trans ((hput _ _).trans (s.queueStore_eventsOnly h q _ bs))
  · exact (hput _ _).trans (s.queueStore_eventsOnly h q _ bs)

/-- A lost event. -/
theorem State.eventLost_eventsOnly (s : State) (h : Nat) : EventsOnly (s.eventLost h) s :=
  s.wr_eventsOnly _ (by simp only [Reg.EVT_LOSTh]; omega)

/-- A record offered to an event queue. -/
theorem State.eventPut_eventsOnly (s : State) (h q : Nat) (bs : List Byte) : EventsOnly (s.eventPut h q bs) s := by
  unfold State.eventPut
  split
  · have htail : EventsOnly (s.countFld (Reg.QUE_q_TAIL q) 31 16) s := s.wr_eventsOnly _ (by simp only [Reg.QUE_q_TAIL]; omega)
    have hhead (t : State) : EventsOnly (t.wrF (Reg.QUE_q_HEAD q) 16 16 1) t := t.wr_eventsOnly _ (by simp only [Reg.QUE_q_HEAD]; omega)
    exact (State.eventLost_eventsOnly _ h).trans ((hhead _).trans htail)
  · exact s.queuePut_eventsOnly h q bs

/-- An event posted to a House. -/
theorem State.post_eventsOnly (s : State) (h code tag : Nat) (own : Option Nat) (detail : List Nat) :
    EventsOnly (s.post h code tag own detail) s := by
  have hseq : EventsOnly (s.eventSeq h) s := s.wr_eventsOnly _ (by simp only [Reg.EVT_SEQh]; omega)
  unfold State.post
  dsimp only
  split
  · exact (State.eventLost_eventsOnly _ h).trans hseq
  · exact (EventsOnly.foldl (fun t q => t.eventPut_eventsOnly h q _) _ _).trans hseq

/-- An event posted to several Houses. -/
theorem State.postAll_eventsOnly (s : State) (hs : List Nat) (code tag : Nat) (own : Option Nat) (detail : List Nat) :
    EventsOnly (s.postAll hs code tag own detail) s :=
  EventsOnly.foldl (fun t h => t.post_eventsOnly h code tag own detail) _ s

/-- Events leave the tables of rasters, cores, engines, trackers, pipelines and protected regions alone. -/
theorem EventsOnly.tables {t s : State} (h : EventsOnly t s) :
    t.rasters = s.rasters ∧ t.cores = s.cores ∧ t.engines = s.engines ∧ t.trackers = s.trackers ∧ t.pipes = s.pipes ∧
      t.protects = s.protects :=
  ⟨(congrArg State.rasters h.frame :), (congrArg State.cores h.frame :), (congrArg State.engines h.frame :), (congrArg State.trackers h.frame :),
    (congrArg State.pipes h.frame :), (congrArg State.protects h.frame :)⟩

/-- An event posted to a House changes none of those tables. -/
@[simp] theorem State.post_tables (s : State) (h code tag : Nat) (own : Option Nat) (detail : List Nat) :
    (s.post h code tag own detail).rasters = s.rasters ∧ (s.post h code tag own detail).cores = s.cores ∧
      (s.post h code tag own detail).engines = s.engines ∧ (s.post h code tag own detail).trackers = s.trackers ∧
      (s.post h code tag own detail).pipes = s.pipes ∧ (s.post h code tag own detail).protects = s.protects :=
  (s.post_eventsOnly h code tag own detail).tables

/-- A register below the queues reads as before an event. -/
theorem State.rd_post (s : State) (h code tag : Nat) (own : Option Nat) (detail : List Nat) {key : Nat} (hkey : key < 0x500000) :
    (s.post h code tag own detail).rd key = s.rd key :=
  (s.post_eventsOnly h code tag own detail).low key hkey

/-- A register below the queues reads as before an event for several Houses. -/
theorem State.rd_postAll (s : State) (hs : List Nat) (code tag : Nat) (own : Option Nat) (detail : List Nat) {key : Nat} (hkey : key < 0x500000) :
    (s.postAll hs code tag own detail).rd key = s.rd key :=
  (s.postAll_eventsOnly hs code tag own detail).low key hkey

end Sys2Proof.Machine
end

section
/-! PROOFS. The swap of the bell banks, the parts of a commit, and the hand-off of cores (R48, R336, R424). -/
namespace Sys2Proof.Machine
open Claim

/-! ### The swap -/

/-- A pending swap turns the banks once frame T has begun. -/
theorem State.swapDone_of_begun {s : State} {r h : Nat} (hswap : s.swap = some (r, h)) (hon : s.rasterOn r = true)
    (hbegun : s.swapT ≤ (s.raster r).frame.toNat) : s.swapDone = { s.wrF Reg.RAS_BELLSTAT 2 0 (1 - s.bellBank) with swap := none } := by
  simp [State.swapDone, hswap, hon, hbegun]

/-- Before frame T the swap waits. -/
theorem State.swapDone_of_early {s : State} {r h : Nat} (hswap : s.swap = some (r, h)) (hearly : (s.raster r).frame.toNat < s.swapT) :
    s.swapDone = s := by
  simp [State.swapDone, hswap, Nat.not_le.mpr hearly]

/-- The bank that is active is 0 or 1. -/
theorem State.bellBank_lt (s : State) : s.bellBank < 2 := fld_lt (s.rd Reg.RAS_BELLSTAT) 0 0

/-- A field of which a wider field has been written. -/
theorem fld_setFld_sub {w : Nat} (x : BitVec w) {hi low top lo v : Nat} (hlow : lo ≤ low) (hhi : hi ≤ top) (htop : top < w) :
    fld (setFld x top lo v) hi low = v / 2 ^ (low - lo) % 2 ^ (hi + 1 - low) := by
  apply Nat.eq_of_testBit_eq
  intro i
  rw [testBit_fld, Nat.testBit_mod_two_pow, Nat.testBit_div_two_pow]
  by_cases h : i < hi + 1 - low
  · rw [bit_setFld _ _ _ (by omega), if_pos (by omega), show low + i - lo = i + (low - lo) by omega]
  · simp [h]

/-! ### The hand-off -/

/-- A core in the hands of a House, stopped and empty (R424). -/
structure Handed (k : Core) (house : Nat) : Prop where
  house : k.house = house
  idle : k.idle = true
  latches : k.latches = []
  waits : k.waits = []
  g : k.g = []
  queue : k.m0.queue = []

/-- An engine with no chain and no start. -/
def DmaEng.AtRest (x : DmaEng) : Prop := x.starts = [] ∧ x.phase = .idle

/-- What an operation keeps and one of a fold's operations brings about holds after the fold. -/
theorem foldl_brings {α : Type} {P : State → Prop} {f : State → α → State} {l : List α} {x : α} (hx : x ∈ l)
    (hkeep : ∀ s y, P s → P (f s y)) (hmake : ∀ s, P (f s x)) (s : State) : P (l.foldl f s) := by
  induction l generalizing s with
  | nil => cases hx
  | cons y l ih =>
    rcases List.mem_cons.mp hx with rfl | hmem
    · exact foldl_holds hkeep l (hmake s)
    · exact ih hmem _

/-- One engine of a form ends its chain with ABORT and forgets its starts. -/
def State.handEngine (s : State) (e : Nat) : State := ((s.setEng e { s.eng e with starts := [] }).dmaAbort e).dmaDepth e

theorem State.handEngines_eq (s : State) (f : Nat) : s.handEngines f = [2 * f, 2 * f + 1].foldl State.handEngine s := rfl

/-- One form passes to a House. -/
def State.handForm (s : State) (f house : Nat) : State :=
  (formCores f).foldl (fun s c => s.handCore c house) ((((s.handEngines f).closeBand f).hwEnd f).dropTdones f)

/-- The WAKE bells of a line for the forms that are handed off are discarded. -/
def State.dropWakes (s : State) (x : Handoff) (r : Nat) : State :=
  (List.range 8).foldl (fun s n =>
    let y := s.raster n
    s.setRaster n { y with due := y.due.map (fun d =>
      if n = r ∧ fld d.bell.w1 3 0 = 7 then { d with bell := { d.bell with w2 := d.bell.w2 &&& ~~~x.forms } } else d) }) s

/-- An entry that is empty, or whose line has not come, has no effect. -/
theorem State.fireHandoff_of_idle {s : State} {i : Nat}
    (h : (s.handoff i).forms = 0 ∨ bellFires (s.handoff i).w0 (fld (s.handoff i).w0 18 16) (s.raster (fld (s.handoff i).w0 18 16)).frame.toNat
      (s.raster (fld (s.handoff i).w0 18 16)).line = false) : s.fireHandoff i = s := by
  unfold State.fireHandoff
  rcases h with h | h <;> simp [h]

/-- An entry that fires hands its forms over, one after another. -/
theorem State.fireHandoff_of_fires {s : State} {i : Nat} (hforms : (s.handoff i).forms ≠ 0)
    (hon : s.rasterOn (fld (s.handoff i).w0 18 16) = true)
    (hfires : bellFires (s.handoff i).w0 (fld (s.handoff i).w0 18 16) (s.raster (fld (s.handoff i).w0 18 16)).frame.toNat
      (s.raster (fld (s.handoff i).w0 18 16)).line = true) :
    s.fireHandoff i = ((List.range 32).filter (fun f => bit (s.handoff i).forms f)).foldl (fun t f => t.handForm f (s.handoff i).house)
      (s.dropWakes (s.handoff i) (fld (s.handoff i).w0 18 16)) := by
  have hgo : ¬ ((s.handoff i).forms = 0 ∨ (!s.rasterOn (fld (s.handoff i).w0 18 16)) = true ∨ (!bellFires (s.handoff i).w0
      (fld (s.handoff i).w0 18 16) (s.raster (fld (s.handoff i).w0 18 16)).frame.toNat (s.raster (fld (s.handoff i).w0 18 16)).line) = true) := by
    rintro (hnone | hoff | hquiet)
    · exact hforms hnone
    · simp [hon] at hoff
    · simp [hfires] at hquiet
  exact if_neg hgo

/-! ### Ends of chains leave the cores and the other engines alone -/

@[simp] theorem State.dramWrite_tables (s : State) (h a : Nat) (bs : List Byte) :
    (s.dramWrite h a bs).cores = s.cores ∧ (s.dramWrite h a bs).engines = s.engines := by
  induction bs generalizing s a with
  | nil => exact ⟨rfl, rfl⟩
  | cons b bs ih =>
    unfold State.dramWrite
    split <;> simp [ih]

@[simp] theorem State.libError_tables (s : State) (unc : Bool) (a : Nat) :
    (s.libError unc a).cores = s.cores ∧ (s.libError unc a).engines = s.engines := by
  cases unc <;> exact ⟨rfl, rfl⟩

@[simp] theorem State.evict_tables (s : State) (h i : Nat) : (s.evict h i).cores = s.cores ∧ (s.evict h i).engines = s.engines := by
  unfold State.evict
  split
  · exact ⟨rfl, rfl⟩
  · simp only [State.setTag_frame]
    (repeat' split) <;> simp

@[simp] theorem State.flushRange_tables (s : State) (h a n : Nat) (inval : Bool) :
    (s.flushRange h a n inval).cores = s.cores ∧ (s.flushRange h a n inval).engines = s.engines := by
  refine ⟨foldl_keeps (g := State.cores) (fun t e => ?cores) _ s, foldl_keeps (g := State.engines) (fun t e => ?engines) _ s⟩ <;>
  · (repeat' split) <;> simp

@[simp] theorem State.dmaFlush_tables (s : State) (e : Nat) : (s.dmaFlush e).cores = s.cores ∧ (s.dmaFlush e).engines = s.engines := by
  unfold State.dmaFlush
  dsimp only
  split <;> simp

/-- The end of a chain leaves the window's engine with its starts alone. -/
theorem State.dmaEnd_tables (s : State) (e st : Nat) :
    (s.dmaEnd e st).cores = s.cores ∧ (s.dmaEnd e st).engines = (s.setEng e { starts := (s.eng e).starts }).engines := by
  unfold State.dmaEnd State.dmaAnswer
  dsimp only
  split <;> exact ⟨rfl, rfl⟩

/-- A fault ends the chain. -/
theorem State.dmaFault_tables (s : State) (e cause addr : Nat) :
    (s.dmaFault e cause addr).cores = s.cores ∧ (s.dmaFault e cause addr).engines = (s.setEng e { starts := (s.eng e).starts }).engines := by
  unfold State.dmaFault
  simp [State.dmaEnd_tables, State.setDmaState, State.setEng, State.eng]

/-- An abort leaves the cores alone. -/
@[simp] theorem State.dmaAbort_cores (s : State) (e : Nat) : (s.dmaAbort e).cores = s.cores := by
  unfold State.dmaAbort
  dsimp only
  split
  · rfl
  · exact (s.dmaFault_tables e _ _).1

/-- An engine whose starts are forgotten is at rest after an abort. -/
theorem State.atRest_dmaAbort {s : State} {e : Nat} (h : (s.eng e).starts = []) : ((s.dmaAbort e).eng e).AtRest := by
  unfold State.dmaAbort
  dsimp only
  split
  case isTrue hidle => exact ⟨h, hidle⟩
  case isFalse =>
    have hend (cause addr : Nat) : (s.dmaFault e cause addr).eng e = { starts := (s.eng e).starts } := by
      rw [State.eng, (s.dmaFault_tables e cause addr).2]
      exact State.eng_setEng_same s e _
    rw [hend]
    exact ⟨h, rfl⟩

/-- An abort leaves every other engine alone. -/
theorem State.eng_dmaAbort_ne {s : State} {e d : Nat} (h : d ≠ e) : (s.dmaAbort e).eng d = s.eng d := by
  unfold State.dmaAbort
  dsimp only
  split
  · rfl
  · rw [State.eng, (s.dmaFault_tables e _ _).2]
    exact State.eng_setEng_ne s _ h

/-! ### What a hand-off of one form does -/

/-- Handing an engine over leaves the cores alone. -/
@[simp] theorem State.handEngine_cores (s : State) (e : Nat) : (s.handEngine e).cores = s.cores := by
  simp [State.handEngine, State.dmaDepth]

/-- The depth of a start queue is shown in a register. -/
@[simp] theorem State.eng_dmaDepth (s : State) (e d : Nat) : (s.dmaDepth e).eng d = s.eng d := rfl

/-- The engine is at rest. -/
theorem State.atRest_handEngine_same (s : State) (e : Nat) : ((s.handEngine e).eng e).AtRest := by
  rw [State.handEngine, State.eng_dmaDepth]
  exact State.atRest_dmaAbort (by rw [State.eng_setEng_same])

/-- Every other engine is as before. -/
theorem State.eng_handEngine_ne (s : State) {e d : Nat} (h : d ≠ e) : (s.handEngine e).eng d = s.eng d := by
  rw [State.handEngine, State.eng_dmaDepth, State.eng_dmaAbort_ne h, State.eng_setEng_ne _ _ h]

/-- Any engine at rest stays so. -/
theorem State.atRest_handEngine {s : State} {d : Nat} (e : Nat) (h : (s.eng d).AtRest) : ((s.handEngine e).eng d).AtRest := by
  by_cases hde : d = e
  · exact hde ▸ s.atRest_handEngine_same d
  · rw [s.eng_handEngine_ne hde]
    exact h

@[simp] theorem State.handEngines_cores (s : State) (f : Nat) : (s.handEngines f).cores = s.cores :=
  foldl_keeps (g := State.cores) State.handEngine_cores _ s

@[simp] theorem State.closeBand_tables (s : State) (f : Nat) : (s.closeBand f).cores = s.cores ∧ (s.closeBand f).engines = s.engines := by
  unfold State.closeBand
  dsimp only
  (repeat' split) <;> simp

theorem State.hwEnd_tables (s : State) (f : Nat) : (s.hwEnd f).cores = s.cores ∧ (s.hwEnd f).engines = s.engines := ⟨rfl, rfl⟩

/-- The TDONEs of a lane are discarded and counted. -/
def State.dropLane (s : State) (f l : Nat) : State :=
  if (s.core (32 * f + l)).tdones.isEmpty then s
  else (List.replicate (s.core (32 * f + l)).tdones.length ()).foldl (fun s _ => s.countErr (Reg.RC_ERR f))
    (s.setCore (32 * f + l) { s.core (32 * f + l) with tdones := [] })

theorem State.dropTdones_eq (s : State) (f : Nat) : s.dropTdones f = (List.range 32).foldl (fun t l => t.dropLane f l) s := rfl

/-- Counting in registers changes neither cores nor engines. -/
theorem foldl_countErr_tables {α : Type} (key : Nat) (l : List α) (s : State) :
    (l.foldl (fun s _ => s.countErr key) s).cores = s.cores ∧ (l.foldl (fun s _ => s.countErr key) s).engines = s.engines :=
  ⟨foldl_keeps (g := State.cores) (f := fun s _ => s.countErr key) (fun _ _ => rfl) l s,
    foldl_keeps (g := State.engines) (f := fun s _ => s.countErr key) (fun _ _ => rfl) l s⟩

@[simp] theorem State.dropTdones_engines (s : State) (f : Nat) : (s.dropTdones f).engines = s.engines := by
  refine foldl_keeps (g := State.engines) (fun t l => ?_) _ s
  show (t.dropLane f l).engines = t.engines
  unfold State.dropLane
  split
  · rfl
  · exact (foldl_countErr_tables _ _ _).2

@[simp] theorem State.handCore_engines (s : State) (c house : Nat) : (s.handCore c house).engines = s.engines := by
  simp only [State.handCore, State.zeroArrays, State.dropRolls, State.unwait, State.onCore_frame, State.setForm_frame]

/-- TDONEs that are discarded do not take a core out of a House's hands. -/
theorem State.handed_dropTdones {s : State} {c house : Nat} (f : Nat) (h : Handed (s.core c) house) :
    Handed ((s.dropTdones f).core c) house := by
  refine foldl_holds (P := fun t => Handed (t.core c) house) (fun t l ht => ?_) _ h
  show Handed ((t.dropLane f l).core c) house
  unfold State.dropLane
  split
  · exact ht
  · rw [State.core, (foldl_countErr_tables _ _ _).1]
    by_cases hc : c = 32 * f + l
    · subst hc
      rw [← State.core, State.core_setCore_same]
      exact ⟨ht.house, ht.idle, ht.latches, ht.waits, ht.g, ht.queue⟩
    · rw [← State.core, State.core_setCore_ne _ _ hc]
      exact ht

/-- A CSR written reads back. -/
theorem Core.csr_setC_same (k : Core) (n : Nat) (v : Word) : mapGet (fun _ => (0 : Word)) (k.setC n v).csr n = v :=
  mapGet_mapSet_same _ k.csr n v

/-- A core that passes to a House is in its hands. -/
theorem State.handed_handCore_same (s : State) (c : Nat) {house : Nat} (h : house < 8) : Handed ((s.handCore c house).core c) house := by
  unfold State.handCore
  rw [State.core_onCore_same, State.zeroArrays, State.core_onCore_same]
  refine ⟨?_, rfl, rfl, rfl, rfl, rfl⟩
  simp only [Core.house, Core.csr_setC_same, fld, BitVec.toNat_ofNat]
  omega

/-- Every other core is as before. -/
theorem State.core_handCore_ne (s : State) {c d : Nat} (house : Nat) (h : d ≠ c) : (s.handCore c house).core d = s.core d := by
  unfold State.handCore
  rw [State.core_onCore_ne _ _ h, State.zeroArrays, State.core_onCore_ne _ _ h]
  rfl

/-- A core in the hands of a House stays there when a core passes to it. -/
theorem State.handed_handCore {s : State} {d house : Nat} (c : Nat) (hhouse : house < 8) (h : Handed (s.core d) house) :
    Handed ((s.handCore c house).core d) house := by
  by_cases hdc : d = c
  · exact hdc ▸ s.handed_handCore_same d hhouse
  · exact (s.core_handCore_ne house hdc).symm ▸ h

/-- Of a form that passes on, the hand-off of its engines alone changes engines. -/
theorem State.handForm_engines (s : State) (f house : Nat) : (s.handForm f house).engines = (s.handEngines f).engines := by
  have hclose : (((s.handEngines f).closeBand f).hwEnd f).engines = (s.handEngines f).engines :=
    (State.hwEnd_tables _ f).2.trans (State.closeBand_tables _ f).2
  exact (foldl_keeps (g := State.engines) (f := fun t c => t.handCore c house) (fun t c => t.handCore_engines c house) _ _).trans
    ((State.dropTdones_engines _ f).trans hclose)

/-- A form that passes to a House keeps the cores in that House's hands there. -/
theorem State.handed_handForm {s : State} {c house : Nat} (f : Nat) (hhouse : house < 8) (h : Handed (s.core c) house) :
    Handed ((s.handForm f house).core c) house := by
  have hcores : (((s.handEngines f).closeBand f).hwEnd f).cores = s.cores :=
    (State.hwEnd_tables _ f).1.trans ((State.closeBand_tables _ f).1.trans (s.handEngines_cores f))
  have hbefore : Handed ((((s.handEngines f).closeBand f).hwEnd f).core c) house := by
    rw [State.core, hcores]
    exact h
  unfold State.handForm
  exact foldl_holds (P := fun t => Handed (t.core c) house) (fun t d => State.handed_handCore d hhouse) _ (State.handed_dropTdones f hbefore)

/-- The cores of a form pass to the House. -/
theorem State.handed_handForm_same (s : State) {c house : Nat} (hhouse : house < 8) : Handed ((s.handForm (c / 32) house).core c) house := by
  unfold State.handForm
  refine foldl_brings (x := c) (P := fun t => Handed (t.core c) house) ?_ (fun t d => State.handed_handCore d hhouse)
    (fun t => t.handed_handCore_same c hhouse) _
  simp only [formCores, List.mem_map, List.mem_range]
  exact ⟨c % 32, by omega, by omega⟩

/-- An engine at rest stays so when a form passes on. -/
theorem State.atRest_handForm {s : State} {e : Nat} (f house : Nat) (h : (s.eng e).AtRest) : ((s.handForm f house).eng e).AtRest := by
  have hengines : (([2 * f, 2 * f + 1].foldl State.handEngine s).eng e).AtRest :=
    foldl_holds (P := fun t => (t.eng e).AtRest) (f := State.handEngine) (fun t d => State.atRest_handEngine d) _ h
  rw [State.eng, State.handForm_engines, State.handEngines_eq, ← State.eng]
  exact hengines

/-- The engines of a form are at rest once it has passed on. -/
theorem State.atRest_handForm_same (s : State) (e house : Nat) : ((s.handForm (e / 2) house).eng e).AtRest := by
  have hmem : e ∈ [2 * (e / 2), 2 * (e / 2) + 1] := by
    simp only [List.mem_cons, List.not_mem_nil, or_false]
    omega
  have hengines : (([2 * (e / 2), 2 * (e / 2) + 1].foldl State.handEngine s).eng e).AtRest :=
    foldl_brings (P := fun t => (t.eng e).AtRest) (f := State.handEngine) hmem (fun t d => State.atRest_handEngine d)
      (fun t => t.atRest_handEngine_same e) s
  rw [State.eng, State.handForm_engines, State.handEngines_eq, ← State.eng]
  exact hengines

/-- Settles O35: the swap by its frame T; each part by its boundary; a hand-off by what the passing of one form does and every other keeps. -/
theorem swapsPartsAndHandoffsHappenInTime : Obligations.SwapsPartsAndHandoffsHappenInTime := by
  intro s hup
  refine ⟨?swap, ?early, ?none, ?parts, ?handoff⟩
  case swap =>
    intro r h hswap hon hbegun
    refine ⟨_, (exec_of_up hup rfl).trans (congrArg _ (State.swapDone_of_begun hswap hon hbegun)), rfl, ?bank, ?pending, rfl⟩
    all_goals
      have hbank := s.bellBank_lt
      refine (congrArg (fld · _ _) (s.rd_wrF_same Reg.RAS_BELLSTAT 2 0 (1 - s.bellBank))).trans
        ((fld_setFld_sub _ (by decide) (by decide) (by decide)).trans ?_)
      omega
  case early => exact fun r h hswap hearly => (exec_of_up hup rfl).trans (congrArg _ (State.swapDone_of_early hswap hearly))
  case none => exact fun hnone => (exec_of_up hup rfl).trans (congrArg _ (by simp only [State.swapDone, hnone]))
  case parts => exact fun r => exec_of_up (f := fun s => (s.applyDue r).quietSinks) hup rfl
  case handoff =>
    intro i x q
    refine ⟨fun hidle => (exec_of_up hup rfl).trans (congrArg _ (State.fireHandoff_of_idle hidle)), fun hforms hon hfires => ?fires⟩
    refine ⟨_, (exec_of_up hup rfl).trans (congrArg _ (State.fireHandoff_of_fires hforms hon hfires)), ?cores, ?engines⟩
    case cores =>
      intro c hc hform hhouse
      have hmem : c / 32 ∈ (List.range 32).filter (fun f => bit x.forms f) := by simp [hform]; omega
      obtain ⟨h1, h2, h3, h4, h5, h6⟩ := foldl_brings (P := fun t => Handed (t.core c) x.house) hmem (fun t f => State.handed_handForm f hhouse)
        (fun t => t.handed_handForm_same hhouse) (s.dropWakes x (fld x.w0 18 16))
      exact ⟨h1, h2, h3, h4, h5, h6⟩
    case engines =>
      intro e he hform
      have hmem : e / 2 ∈ (List.range 32).filter (fun f => bit x.forms f) := by simp [hform]; omega
      exact foldl_brings (P := fun t => (t.eng e).AtRest) hmem (fun t f => State.atRest_handForm f x.house)
        (fun t => t.atRest_handForm_same e x.house) (s.dropWakes x (fld x.w0 18 16))

end Sys2Proof.Machine
end

section
/-! PROOFS. Input frames and their lines (R34, R35, R264, R358, R361). -/
namespace Sys2Proof.Machine
open Claim

/-! ### Writes at the Library's banks -/

@[simp] theorem State.eccMerge_frame (s : State) (sp : Space) (a n : Nat) :
    (s.eccMerge sp a n).regs = s.regs ∧ (s.eccMerge sp a n).rasters = s.rasters ∧ (s.eccMerge sp a n).trackers = s.trackers ∧
      (s.eccMerge sp a n).pipes = s.pipes := by
  refine ⟨foldl_keeps (g := State.regs) (fun t k => ?_) _ s, foldl_keeps (g := State.rasters) (fun t k => ?_) _ s,
    foldl_keeps (g := State.trackers) (fun t k => ?_) _ s, foldl_keeps (g := State.pipes) (fun t k => ?_) _ s⟩ <;>
  · (repeat' split) <;> rfl

/-- A write for a House at a bank is kept in the Library or behind a busy bank. -/
@[simp] theorem State.bankWriteFor_frame (s : State) (req h a : Nat) (bs : List Byte) :
    (s.bankWriteFor req h a bs).regs = s.regs ∧ (s.bankWriteFor req h a bs).rasters = s.rasters ∧
      (s.bankWriteFor req h a bs).trackers = s.trackers ∧ (s.bankWriteFor req h a bs).pipes = s.pipes := by
  unfold State.bankWriteFor State.bankWrite State.store
  (repeat' split) <;> simp [State.setBytes]

@[simp] theorem State.writeRecord_frame (s : State) (p : Nat) (r : InRec) (reason : Nat) :
    (s.writeRecord p r reason).regs = s.regs ∧ (s.writeRecord p r reason).rasters = s.rasters ∧
      (s.writeRecord p r reason).trackers = s.trackers ∧ (s.writeRecord p r reason).pipes = s.pipes :=
  s.bankWriteFor_frame _ _ _ _

@[simp] theorem State.ringWrite_frame (s : State) (p c l : Nat) (xs : List Nat) :
    (s.ringWrite p c l xs).regs = s.regs ∧ (s.ringWrite p c l xs).rasters = s.rasters ∧
      (s.ringWrite p c l xs).trackers = s.trackers ∧ (s.ringWrite p c l xs).pipes = s.pipes :=
  s.bankWriteFor_frame _ _ _ _

/-- The rings of a source take a line. -/
@[simp] theorem State.captureFor_frame (s : State) (p j height : Nat) (f : PixFmt) (planes prev : List (List Nat)) (black : Bool) :
    (s.captureFor p j height f planes prev black).regs = s.regs ∧ (s.captureFor p j height f planes prev black).trackers = s.trackers ∧
      (s.captureFor p j height f planes prev black).pipes = s.pipes := by
  refine ⟨(foldl_keeps (g := State.regs) (fun t c => ?_) _ _).trans (s.ringWrite_frame p 0 j _).1,
    (foldl_keeps (g := State.trackers) (fun t c => ?_) _ _).trans (s.ringWrite_frame p 0 j _).2.2.1,
    (foldl_keeps (g := State.pipes) (fun t c => ?_) _ _).trans (s.ringWrite_frame p 0 j _).2.2.2⟩ <;>
  · dsimp only
    (repeat' split) <;> simp only [State.ringWrite_frame]

/-- The records of a frame in capture say that it is complete. -/
@[simp] theorem State.endFrame_trackers (s : State) (t : Nat) : (s.endFrame t).trackers = s.trackers := by
  refine foldl_keeps (g := State.trackers) (fun u p => ?_) _ s
  dsimp only
  (repeat' split) <;> simp

/-! ### The start of a frame -/

/-- An input frame is counted, the wrap of its counter flagged and posted, and the source present (R34, R35). -/
def State.countFrame (s : State) (t : Nat) : State :=
  let s' := (s.wr (Reg.RAS_INs_FRAME t) (BitVec.ofNat 32 ((s.inFrame t + 1) % 2 ^ 32))).wr (Reg.RAS_INs_LINE t) 0
  let s' := if (s.inFrame t + 1) % 2 ^ 32 = 0 then
      let s' := s'.wrF (Reg.RAS_INs_STATUS t) 2 2 1
      match s'.inputHouse t with
      | some h => s'.post h 0x15 0 none [t]
      | none => s'
    else s'
  s'.wrF (Reg.RAS_INs_STATUS t) 0 0 1

/-- The frame is stamped, its period measured against the stamp of the frame before (R34). -/
def State.stampFrame (s : State) (t stamp last : Nat) (x : Tracker) : State :=
  let s' := if t < 2 && x.have_ && x.due.isNone then
      let per := (stampDiff (s.vtotal (s.mapOf t)) stamp last).toNat
      let vin := s.rdF (Reg.VIN_Ss_VTIM t) 31 16
      (s.wr (Reg.RAS_INs_PERIOD t) (BitVec.ofNat 32 per)).wr (Reg.RAS_INs_LPERIOD t) (BitVec.ofNat 32 (if vin = 0 then 0 else per / vin))
    else s
  s'.wr64 (Reg.RAS_INs_LAST_LO t) (Reg.RAS_INs_LAST_HI t) stamp

/-- The pipelines of the source record the frame (R264). -/
def State.recordFrame (s : State) (t n stamp : Nat) (due : Option Nat) : State :=
  (s.sourcePipes t).foldl (fun s p =>
    let y := s.pipe p
    let anchor := due.isSome || y.recs.isEmpty
    let seq := if due.isSome then y.seq + 1 else y.seq
    let r : InRec := { frame := n, seq := seq, stamp := stamp, anchor := anchor, complete := false }
    let s := s.setPipe p { y with seq := seq, recs := if anchor then [r] else (r :: y.recs).take 16 }
    s.writeRecord p r (due.getD 0)) s

/-- A tracker whose frame starts. -/
def Tracker.begun (x : Tracker) (last : Nat) : Tracker :=
  { x with have_ := true, due := none, prev := last, open_ := true, lines := 0, lastC := [], black := false, dscBad := 0 }

/-- A frame that begins at a sink is counted, stamped and recorded. -/
theorem State.beginFrame_of_sink (s : State) {t : Nat} (stamp : Nat) (ht : t < 2) :
    s.beginFrame t stamp =
      (((s.countFrame t).stampFrame t stamp (s.rd64 (Reg.RAS_INs_LAST_LO t) (Reg.RAS_INs_LAST_HI t)) (s.tracker t)).setTracker t
        ((s.tracker t).begun (s.rd64 (Reg.RAS_INs_LAST_LO t) (Reg.RAS_INs_LAST_HI t)))).recordFrame t ((s.inFrame t + 1) % 2 ^ 32) stamp
          (s.tracker t).due := by
  have hsink : (decide (t = 2) && (s.tracker t).have_ && (s.tracker t).due.isNone &&
      !rtsEarlier (s.rd64 (Reg.RAS_INs_LAST_LO t) (Reg.RAS_INs_LAST_HI t)) stamp) = false := by
    simp [Nat.ne_of_lt ht]
  unfold State.beginFrame
  simp only [hsink, Bool.false_eq_true, if_false]
  rfl

/-- Counting a frame touches three registers of its tracker below the queues. -/
theorem State.rd_countFrame (s : State) (t : Nat) {key : Nat} (hlow : key < 0x500000) (hstatus : key ≠ Reg.RAS_INs_STATUS t) :
    (s.countFrame t).rd key =
      ((s.wr (Reg.RAS_INs_FRAME t) (BitVec.ofNat 32 ((s.inFrame t + 1) % 2 ^ 32))).wr (Reg.RAS_INs_LINE t) 0).rd key := by
  unfold State.countFrame
  dsimp only
  rw [State.rd_wrF_ne _ _ _ _ hstatus]
  split
  · split
    · rw [State.rd_post _ _ _ _ _ _ hlow, State.rd_wrF_ne _ _ _ _ hstatus]
    · rw [State.rd_wrF_ne _ _ _ _ hstatus]
  · rfl

@[simp] theorem State.countFrame_trackers (s : State) (t : Nat) : (s.countFrame t).trackers = s.trackers := by
  unfold State.countFrame
  dsimp only
  (repeat' split) <;> simp

/-- A bit of a register of which a field has been written. -/
theorem State.bit_rd_wrF (s : State) (key hi lo v : Nat) {i : Nat} (h : i < 32) :
    bit ((s.wrF key hi lo v).rd key) i = if lo ≤ i ∧ i < hi + 1 then Nat.testBit v (i - lo) else bit (s.rd key) i := by
  rw [State.rd_wrF_same, bit_setFld _ _ _ h]

/-- A counted frame says that the source is present. -/
theorem State.present_countFrame (s : State) (t : Nat) : bit ((s.countFrame t).rd (Reg.RAS_INs_STATUS t)) 0 = true := by
  unfold State.countFrame
  dsimp only
  rw [State.bit_rd_wrF _ _ _ _ _ (by decide)]
  rfl

/-- A counter that wraps sets its flag. -/
theorem State.wrapped_countFrame {s : State} {t : Nat} (ht : t < 3) (h : s.inFrame t = 0xFFFFFFFF) :
    bit ((s.countFrame t).rd (Reg.RAS_INs_STATUS t)) 2 = true := by
  have hlow : Reg.RAS_INs_STATUS t < 0x500000 := by simp only [Reg.RAS_INs_STATUS]; omega
  have hzero : (s.inFrame t + 1) % 2 ^ 32 = 0 := by rw [h]; decide
  unfold State.countFrame
  dsimp only
  rw [if_pos hzero, State.bit_rd_wrF _ _ _ _ _ (by decide), if_neg (by decide)]
  split
  · rw [State.rd_post _ _ _ _ _ _ hlow, State.bit_rd_wrF _ _ _ _ _ (by decide)]
    rfl
  · rw [State.bit_rd_wrF _ _ _ _ _ (by decide)]
    rfl

/-- Stamping a frame touches the period and the stamp of its tracker alone. -/
theorem State.rd_stampFrame (s : State) (t stamp last : Nat) (x : Tracker) {key : Nat}
    (h : key ≠ Reg.RAS_INs_PERIOD t ∧ key ≠ Reg.RAS_INs_LPERIOD t ∧ key ≠ Reg.RAS_INs_LAST_LO t ∧ key ≠ Reg.RAS_INs_LAST_HI t) :
    (s.stampFrame t stamp last x).rd key = s.rd key := by
  obtain ⟨hperiod, hline, hlo, hhi⟩ := h
  unfold State.stampFrame
  dsimp only
  rw [State.rd_wr64_ne _ _ hlo hhi]
  split
  · rw [State.rd_wr_ne _ _ hline, State.rd_wr_ne _ _ hperiod]
  · rfl

@[simp] theorem State.stampFrame_trackers (s : State) (t stamp last : Nat) (x : Tracker) :
    (s.stampFrame t stamp last x).trackers = s.trackers := by
  unfold State.stampFrame
  dsimp only
  split <;> simp

/-- A pair of registers written as a whole reads back. -/
theorem State.rd64_wr64 (s : State) {lo hi : Nat} (v : Nat) (h : lo ≠ hi) : (s.wr64 lo hi v).rd64 lo hi = v % 2 ^ 64 := by
  simp only [State.rd64, State.wr64, State.rd_wr_same, State.rd_wr_ne _ _ h, BitVec.toNat_ofNat]
  omega

/-- The stamp reads back. -/
theorem State.last_stampFrame (s : State) (t stamp last : Nat) (x : Tracker) :
    (s.stampFrame t stamp last x).rd64 (Reg.RAS_INs_LAST_LO t) (Reg.RAS_INs_LAST_HI t) = stamp % 2 ^ 64 :=
  State.rd64_wr64 _ _ (by simp [Reg.RAS_INs_LAST_LO, Reg.RAS_INs_LAST_HI])

/-- Records lie in the Library and in the pipelines. -/
@[simp] theorem State.recordFrame_frame (s : State) (t n stamp : Nat) (due : Option Nat) :
    (s.recordFrame t n stamp due).regs = s.regs ∧ (s.recordFrame t n stamp due).trackers = s.trackers := by
  constructor
  · exact foldl_keeps (g := State.regs) (fun u p => by simp) _ s
  · exact foldl_keeps (g := State.trackers) (fun u p => by simp) _ s

/-- A tracker replaced reads back. -/
@[simp] theorem State.tracker_setTracker_same (s : State) (t : Nat) (x : Tracker) : (s.setTracker t x).tracker t = x :=
  mapGet_mapSet_same _ s.trackers t x

/-- Trackers are no registers. -/
@[simp] theorem State.rd_setTracker (s : State) (t : Nat) (x : Tracker) (key : Nat) : (s.setTracker t x).rd key = s.rd key := rfl

/-- What a frame that begins at a sink leaves in its tracker and registers. -/
structure FrameBegun (s u : State) (t stamp : Nat) : Prop where
  frame : u.inFrame t = (s.inFrame t + 1) % 2 ^ 32
  line : u.rd (Reg.RAS_INs_LINE t) = 0
  last : u.rd64 (Reg.RAS_INs_LAST_LO t) (Reg.RAS_INs_LAST_HI t) = stamp % 2 ^ 64
  present : bit (u.rd (Reg.RAS_INs_STATUS t)) 0 = true
  wrapped : s.inFrame t = 0xFFFFFFFF → bit (u.rd (Reg.RAS_INs_STATUS t)) 2 = true
  tracker : u.tracker t = (s.tracker t).begun (s.rd64 (Reg.RAS_INs_LAST_LO t) (Reg.RAS_INs_LAST_HI t))

/-- A register reads alike where the register files are alike. -/
theorem State.rd_congr {s t : State} (h : t.regs = s.regs) (key : Nat) : t.rd key = s.rd key := by
  rw [State.rd, h, State.rd]

/-- A frame that begins at a sink. -/
theorem State.frameBegun_beginFrame (s : State) {t : Nat} (stamp : Nat) (ht : t < 2) : FrameBegun s (s.beginFrame t stamp) t stamp := by
  rw [s.beginFrame_of_sink stamp ht]
  generalize hprev : s.rd64 (Reg.RAS_INs_LAST_LO t) (Reg.RAS_INs_LAST_HI t) = prev
  generalize hv : (s.countFrame t).stampFrame t stamp prev (s.tracker t) = v
  generalize hu : (v.setTracker t ((s.tracker t).begun prev)).recordFrame t ((s.inFrame t + 1) % 2 ^ 32) stamp (s.tracker t).due = u
  have hrd (key : Nat) : u.rd key = v.rd key := State.rd_congr (by simp [← hu]) key
  have hcount {key : Nat} (h : key = Reg.RAS_INs_FRAME t ∨ key = Reg.RAS_INs_LINE t ∨ key = Reg.RAS_INs_STATUS t) :
      u.rd key = (s.countFrame t).rd key := by
    rw [hrd, ← hv]
    apply State.rd_stampFrame
    simp only [Reg.RAS_INs_FRAME, Reg.RAS_INs_LINE, Reg.RAS_INs_STATUS] at h
    simp only [Reg.RAS_INs_PERIOD, Reg.RAS_INs_LPERIOD, Reg.RAS_INs_LAST_LO, Reg.RAS_INs_LAST_HI]
    omega
  have hkeys : Reg.RAS_INs_FRAME t < 0x500000 ∧ Reg.RAS_INs_LINE t < 0x500000 ∧ Reg.RAS_INs_FRAME t ≠ Reg.RAS_INs_STATUS t ∧
      Reg.RAS_INs_LINE t ≠ Reg.RAS_INs_STATUS t ∧ Reg.RAS_INs_FRAME t ≠ Reg.RAS_INs_LINE t := by
    simp only [Reg.RAS_INs_FRAME, Reg.RAS_INs_LINE, Reg.RAS_INs_STATUS]
    omega
  obtain ⟨hframeLow, hlineLow, hframeStatus, hlineStatus, hframeLine⟩ := hkeys
  refine ⟨?frame, ?line, ?stamped, ?present, fun h => ?wrapped, ?tracker⟩
  case frame =>
    rw [State.inFrame, hcount (.inl rfl), State.rd_countFrame _ _ hframeLow hframeStatus, State.rd_wr_ne _ _ hframeLine, State.rd_wr_same,
      BitVec.toNat_ofNat, Nat.mod_mod]
  case line => rw [hcount (.inr (.inl rfl)), State.rd_countFrame _ _ hlineLow hlineStatus, State.rd_wr_same]
  case stamped => rw [State.rd64, hrd, hrd, ← State.rd64, ← hv, State.last_stampFrame]
  case present => rw [hcount (.inr (.inr rfl)), State.present_countFrame]
  case wrapped => rw [hcount (.inr (.inr rfl)), State.wrapped_countFrame (by omega) h]
  case tracker =>
    have htracker : u.trackers = (v.setTracker t ((s.tracker t).begun prev)).trackers := by rw [← hu, (State.recordFrame_frame _ _ _ _ _).2]
    rw [State.tracker, htracker, ← State.tracker, State.tracker_setTracker_same, hprev]

/-! ### A frame at a sink -/

/-- A sink takes a frame: a pipeline takes the sink, its link is up, and the stream is accepted. -/
def State.Takes (s : State) (k : Nat) : Prop := s.sinkOn k = true ∧ bit (s.rd (Reg.VIN_Ss_STATUS k)) 1 = true ∧ (s.tracker k).ok = true

/-- A frame in the clear or encrypted shows so, counts where it is not authenticated, and where a ring has another matrix (R359, R361). -/
def State.markFrame (s : State) (k : Nat) (bad : Bool) : State :=
  let s := if bad then s.countErr (Reg.VIN_Ss_HDCPERR k) else s
  let f := s.sinkFmt k
  if (s.sourcePipes k).any (fun p => (s.pipe p).fmt.ycc != f.ycc) then
    (if s.rdF (Reg.VIN_Ss_ERR k) 15 8 = 0xFF then s.wrF (Reg.VIN_Ss_ERR k) 16 16 1 else s.countFld (Reg.VIN_Ss_ERR k) 15 8)
  else s

/-- The encryption of a frame shows in its sink. -/
def State.showEnc (s : State) (k enc : Nat) : State := s.wrF (Reg.VIN_Ss_STATUS k) 4 4 (if enc = 0 then 0 else 1)

/-- The frame is encrypted and its sink not authenticated. -/
def State.encBad (s : State) (k enc : Nat) : Bool := decide (enc ≠ 0) && !bit (s.rd (Reg.VIN_Ss_STATUS k)) 3

/-- What a sink notes of a frame. -/
def State.noteFrame (s : State) (k enc : Nat) : State :=
  let s := s.showEnc k enc
  let t := s.markFrame k (s.encBad k enc)
  t.setTracker k { t.tracker k with prot := decide (enc ≠ 0), type1 := decide (enc = 2), black := s.encBad k enc }

/-- A sink that does not take the frame does nothing. -/
theorem State.sinkFrame_of_not_takes {s : State} {k : Nat} (frac enc : Nat) (h : ¬ s.Takes k) : s.sinkFrame k frac enc = s := by
  refine if_pos ?_
  simp only [State.Takes, not_and_or, Bool.not_eq_true] at h
  rcases h with h | h | h <;> simp [h]

/-- A sink that takes the frame begins it and notes its encryption. -/
theorem State.sinkFrame_of_takes {s : State} {k : Nat} (frac enc : Nat) (h : s.Takes k) :
    s.sinkFrame k frac enc = (s.beginFrame k (s.rts (s.mapOf k) + frac)).noteFrame k enc := by
  obtain ⟨hon, hlink, hok⟩ := h
  exact if_neg (by simp [hon, hlink, hok])

/-- Registers below those of the sinks read as before. -/
theorem State.rd_markFrame (s : State) (k : Nat) (bad : Bool) {key : Nat} (h : key < 0x400000) : (s.markFrame k bad).rd key = s.rd key := by
  have hkeys : key ≠ Reg.VIN_Ss_HDCPERR k ∧ key ≠ Reg.VIN_Ss_ERR k := by
    simp only [Reg.VIN_Ss_HDCPERR, Reg.VIN_Ss_ERR]
    omega
  obtain ⟨hhdcp, herr⟩ := hkeys
  have hbad : (if bad then s.countErr (Reg.VIN_Ss_HDCPERR k) else s).rd key = s.rd key := by
    split
    · exact State.rd_countErr_ne s hhdcp
    · rfl
  unfold State.markFrame
  dsimp only
  generalize (if bad then s.countErr (Reg.VIN_Ss_HDCPERR k) else s) = u at hbad ⊢
  split
  · split
    · rw [State.rd_wrF_ne _ _ _ _ herr, hbad]
    · exact (State.rd_wr_ne u _ herr).trans hbad
  · exact hbad

@[simp] theorem State.markFrame_trackers (s : State) (k : Nat) (bad : Bool) : (s.markFrame k bad).trackers = s.trackers := by
  unfold State.markFrame
  dsimp only
  (repeat' split) <;> rfl

/-- What is noted of a frame stands in the registers of the sink. -/
theorem State.rd_noteFrame (s : State) (k enc : Nat) {key : Nat} (h : key < 0x400000) : (s.noteFrame k enc).rd key = s.rd key := by
  have hkey : key ≠ Reg.VIN_Ss_STATUS k := by simp only [Reg.VIN_Ss_STATUS]; omega
  rw [State.noteFrame, State.rd_setTracker, State.rd_markFrame _ k _ h, State.showEnc, State.rd_wrF_ne _ _ _ _ hkey]

/-- The tracker holds the frame's encryption. -/
theorem State.tracker_noteFrame (s : State) (k enc : Nat) : (s.noteFrame k enc).tracker k =
    { s.tracker k with prot := decide (enc ≠ 0), type1 := decide (enc = 2), black := (s.showEnc k enc).encBad k enc } := by
  have hmark : ((s.showEnc k enc).markFrame k ((s.showEnc k enc).encBad k enc)).tracker k = s.tracker k := by
    rw [State.tracker, State.markFrame_trackers, State.tracker]
    rfl
  rw [State.noteFrame, State.tracker_setTracker_same, hmark]

/-! ### A line -/

/-- The lines of a frame are counted in pairs: chroma of the stream or of a ring comes with every other line (R358). -/
def State.paired (s : State) (t : Nat) (f : PixFmt) : Bool :=
  decide (f.sub = 2) || (s.sourcePipes t).any (fun p => decide ((s.pipe p).fmt.sub = 2))

/-- A line outside a frame is not taken. -/
theorem State.captureLine_of_closed {s : State} {t height : Nat} (f : PixFmt) (planes : List (List Nat))
    (h : (s.tracker t).open_ = false ∨ height ≤ (s.tracker t).lines) : s.captureLine t height f planes = s := by
  refine if_pos ?_
  rcases h with h | h <;> simp [h]

/-- The count that a line leaves: the line before where its chroma is still to come. -/
def State.lineCount (s : State) (t height : Nat) (f : PixFmt) : Nat :=
  if s.paired t f && decide ((s.tracker t).lines % 2 = 0) && decide ((s.tracker t).lines + 1 < height) then (s.tracker t).lines
  else (s.tracker t).lines + 1

/-- A line goes to the rings of the source. -/
def State.ringLineIn (s : State) (t height : Nat) (f : PixFmt) (planes : List (List Nat)) : State :=
  (s.sourcePipes t).foldl (fun u p => u.captureFor p (s.tracker t).lines height f planes (s.tracker t).lastC
    ((s.tracker t).black || decide (0 < (s.tracker t).dscBad))) s

@[simp] theorem State.ringLineIn_pipes (s : State) (t height : Nat) (f : PixFmt) (planes : List (List Nat)) :
    (s.ringLineIn t height f planes).pipes = s.pipes :=
  foldl_keeps (g := State.pipes) (fun u p => (u.captureFor_frame p _ height f planes _ _).2.2) _ s

/-- A line of a frame goes to the rings, and is counted once its chroma is there. -/
theorem State.captureLine_of_open {s : State} {t height : Nat} (f : PixFmt) (planes : List (List Nat)) (hopen : (s.tracker t).open_ = true)
    (hline : (s.tracker t).lines < height) :
    let u := (s.ringLineIn t height f planes).setTracker t
      { s.tracker t with lines := (s.tracker t).lines + 1, lastC := planes, dscBad := (s.tracker t).dscBad - 1 }
    s.captureLine t height f planes =
      (if s.lineCount t height f = height then u.endFrame t else u).wr (Reg.RAS_INs_LINE t) (BitVec.ofNat 32 (s.lineCount t height f)) := by
  intro u
  have hgo : ¬ (!(s.tracker t).open_ || decide (height ≤ (s.tracker t).lines)) = true := by simp [hopen, hline]
  have hpipe (p : Nat) : u.pipe p = s.pipe p := by
    rw [State.pipe, State.pipe, ← s.ringLineIn_pipes t height f planes]
    rfl
  have hpaired : s.paired t f = (decide (f.sub = 2) || (s.sourcePipes t).any (fun p => decide ((u.pipe p).fmt.sub = 2))) := by
    simp only [State.paired, hpipe]
  rw [State.lineCount, hpaired]
  exact if_neg hgo

/-- A line of a frame moves its tracker on by one line. -/
theorem State.lines_captureLine {s : State} {t height : Nat} (f : PixFmt) (planes : List (List Nat)) (hopen : (s.tracker t).open_ = true)
    (hline : (s.tracker t).lines < height) : ((s.captureLine t height f planes).tracker t).lines = (s.tracker t).lines + 1 := by
  have hend (c : Prop) [Decidable c] (u : State) : ((if c then u.endFrame t else u).wr (Reg.RAS_INs_LINE t) (BitVec.ofNat 32
      (s.lineCount t height f))).tracker t = u.tracker t := by
    split
    · exact congrArg (mapGet (fun _ => {}) · t) (u.endFrame_trackers t)
    · rfl
  rw [State.captureLine_of_open f planes hopen hline, hend, State.tracker_setTracker_same]

/-- Settles O42: a frame that a sink takes is begun and noted, and each of its lines counted with its chroma. -/
theorem inputFramesAndLinesAreCounted : Obligations.InputFramesAndLinesAreCounted := by
  intro s k frac enc hup takes
  refine ⟨?idle, ?frame, ?wrap, ?nowrap, ?lines⟩
  case idle => exact fun h => (exec_of_up (f := fun s => s.sinkFrame k frac enc) hup rfl).trans (congrArg _ (State.sinkFrame_of_not_takes _ _ h))
  case frame =>
    intro h
    refine ⟨_, (exec_of_up (f := fun s => s.sinkFrame k frac enc) hup rfl).trans (congrArg _ (State.sinkFrame_of_takes _ _ h)), ?_⟩
    have hbegun := s.frameBegun_beginFrame (s.rts (s.mapOf k) + frac) k.isLt
    generalize s.beginFrame k (s.rts (s.mapOf k) + frac) = u at hbegun ⊢
    have hkeys : Reg.RAS_INs_FRAME k < 0x400000 ∧ Reg.RAS_INs_LINE k < 0x400000 ∧ Reg.RAS_INs_LAST_LO k < 0x400000 ∧
        Reg.RAS_INs_LAST_HI k < 0x400000 ∧ Reg.RAS_INs_STATUS k < 0x400000 := by
      simp only [Reg.RAS_INs_FRAME, Reg.RAS_INs_LINE, Reg.RAS_INs_LAST_LO, Reg.RAS_INs_LAST_HI, Reg.RAS_INs_STATUS]
      omega
    obtain ⟨hframe, hline, hlo, hhi, hstatus⟩ := hkeys
    simp only [State.inFrame, State.rd64, u.rd_noteFrame k enc hframe, u.rd_noteFrame k enc hline, u.rd_noteFrame k enc hlo,
      u.rd_noteFrame k enc hhi, u.rd_noteFrame k enc hstatus, u.tracker_noteFrame k enc, hbegun.tracker]
    exact ⟨hbegun.frame, hbegun.line, hbegun.last, hbegun.present, rfl, rfl, rfl, rfl, trivial, hbegun.wrapped⟩
  case wrap =>
    intro h
    exact (exec_of_up (f := fun s => if s.inFrame k = 0xFFFFFFFF then s.sinkFrame k frac enc else s) hup rfl).trans
      ((congrArg _ (if_pos h)).trans (exec_of_up (f := fun s => s.sinkFrame k frac enc) hup rfl).symm)
  case nowrap =>
    intro h
    exact (exec_of_up (f := fun s => if s.inFrame k = 0xFFFFFFFF then s.sinkFrame k frac enc else s) hup rfl).trans (congrArg _ (if_neg h))
  case lines =>
    intro planes x height pairs
    have hrow : exec (.inputLineCaptured k planes) s = .next (s.captureLine k height (s.sinkFmt k) planes) :=
      exec_of_up (f := fun s => s.captureLine k (s.rdF (Reg.VIN_Ss_VTIM k) 15 0) (s.sinkFmt k) planes) hup rfl
    refine ⟨fun h => hrow.trans (congrArg _ (State.captureLine_of_closed _ _ h)), fun hopen hline => ⟨_, hrow, ?moved, ?whole, ?half⟩⟩
    case moved => exact State.lines_captureLine _ _ hopen hline
    all_goals
      have hcount := congrArg (State.rd · (Reg.RAS_INs_LINE k)) (State.captureLine_of_open (s.sinkFmt k) planes hopen hline)
      rw [State.rd_wr_same] at hcount
      have hpairs : s.paired k (s.sinkFmt k) = true ↔ pairs := by simp [State.paired, pairs]
    case whole =>
      intro h
      refine hcount.trans (congrArg (BitVec.ofNat 32) (if_neg ?_))
      simp only [Bool.and_eq_true, decide_eq_true_eq, hpairs]
      rintro ⟨⟨hpair, heven⟩, hmore⟩
      rcases h with h | h | h
      · exact h hpair
      · exact absurd (h.symm.trans heven) (by decide)
      · exact absurd h (Nat.ne_of_lt hmore)
    case half =>
      intro hpair heven hmore
      refine hcount.trans (congrArg (BitVec.ofNat 32) (if_pos ?_))
      simp only [Bool.and_eq_true, decide_eq_true_eq, hpairs]
      exact ⟨⟨hpair, heven⟩, hmore⟩

end Sys2Proof.Machine
end

section
/-! PROOFS. Streams, links and sessions of the sinks; discontinuities; the end of repeating (R36, R37, R355 to R361). -/
namespace Sys2Proof.Machine
open Claim

/-- Registers do not hold the trackers. -/
@[simp] theorem State.tracker_wrF (s : State) (key hi lo v t : Nat) : (s.wrF key hi lo v).tracker t = s.tracker t := rfl
@[simp] theorem State.tracker_wr (s : State) (key : Nat) (v : Word) (t : Nat) : (s.wr key v).tracker t = s.tracker t := rfl
@[simp] theorem State.tracker_countErr (s : State) (key t : Nat) : (s.countErr key).tracker t = s.tracker t := rfl

/-! ### Discontinuities (R36, R37) -/

/-- The state `t` differs from `s` by a discontinuity that tracker `k` declares. -/
structure Declared (s t : State) (k why : Nat) : Prop where
  reason : t.rdF (Reg.RAS_INs_STATUS k) 4 3 = why
  flag : bit (t.rd (Reg.RAS_INs_STATUS k)) 1 = true
  count : t.rd (Reg.RAS_INs_DISCNT k) = bumpErr (s.rd (Reg.RAS_INs_DISCNT k))
  due : (t.tracker k).due = some why

/-- A frame that carries a discontinuity carries no second one (log 45). -/
theorem State.declareDisc_of_due {s : State} {k : Nat} (why : Nat) (h : (s.tracker k).due ≠ none) : s.declareDisc k why = s :=
  if_pos (Option.isSome_iff_ne_none.mpr h)

/-- The registers and the tracker of a source that declares a discontinuity. -/
def State.noteDisc (s : State) (k why : Nat) : State :=
  let s := (s.wr (Reg.RAS_INs_STATUS k) (setBit (setFld (s.rd (Reg.RAS_INs_STATUS k)) 4 3 why) 1 true)).countErr (Reg.RAS_INs_DISCNT k)
  s.setTracker k { s.tracker k with due := some why }

/-- A pipeline is to repeat from the next boundary on. -/
def State.tellPipe (s : State) (p : Nat) : State :=
  s.setPipe p { s.pipe p with discDue := true, old := if (s.pipe p).repeats.isSome then (s.pipe p).old else (s.pipe p).lastGood.or (s.pipe p).old }

/-- A discontinuity is noted, and the pipelines of the source told. -/
theorem State.declareDisc_of_none {s : State} {k : Nat} (why : Nat) (h : (s.tracker k).due = none) :
    s.declareDisc k why = ((s.noteDisc k why).sourcePipes k).foldl State.tellPipe (s.noteDisc k why) := by
  unfold State.declareDisc
  rw [if_neg (by simp [h])]
  rfl

/-- What the pipelines are told stands in no register and in no tracker. -/
theorem State.declareDisc_frame {s : State} {k : Nat} (why : Nat) (h : (s.tracker k).due = none) :
    (s.declareDisc k why).regs = (s.noteDisc k why).regs ∧ (s.declareDisc k why).trackers = (s.noteDisc k why).trackers := by
  rw [State.declareDisc_of_none why h]
  exact ⟨foldl_keeps (g := State.regs) (f := State.tellPipe) (fun _ _ => rfl) _ _,
    foldl_keeps (g := State.trackers) (f := State.tellPipe) (fun _ _ => rfl) _ _⟩

/-- The tracker of a source that declares a discontinuity. -/
theorem State.tracker_declareDisc {s : State} {k : Nat} (why : Nat) (h : (s.tracker k).due = none) :
    (s.declareDisc k why).tracker k = { s.tracker k with due := some why } := by
  rw [State.tracker, (State.declareDisc_frame why h).2, ← State.tracker, State.noteDisc,
    State.tracker_setTracker_same, State.tracker_countErr, State.tracker_wr]

/-- The status of a source that declares a discontinuity. -/
theorem State.status_declareDisc {s : State} {k : Nat} (why : Nat) (h : (s.tracker k).due = none) :
    (s.declareDisc k why).rd (Reg.RAS_INs_STATUS k) = setBit (setFld (s.rd (Reg.RAS_INs_STATUS k)) 4 3 why) 1 true := by
  have hkeys : Reg.RAS_INs_STATUS k ≠ Reg.RAS_INs_DISCNT k := by simp [Reg.RAS_INs_STATUS, Reg.RAS_INs_DISCNT]
  rw [State.rd_congr (State.declareDisc_frame why h).1, State.noteDisc, State.rd_setTracker, State.rd_countErr_ne _ hkeys, State.rd_wr_same]

/-- A discontinuity is declared where none is due. -/
theorem State.declared_declareDisc {s : State} {k why : Nat} (h : (s.tracker k).due = none) (hwhy : why < 4) :
    Declared s (s.declareDisc k why) k why := by
  have hkeys : Reg.RAS_INs_DISCNT k ≠ Reg.RAS_INs_STATUS k := by simp [Reg.RAS_INs_STATUS, Reg.RAS_INs_DISCNT]
  refine ⟨?reason, ?flag, ?count, ?due⟩
  case reason =>
    rw [State.rdF, State.status_declareDisc why h, setBit, fld_setFld_ne _ _ (by decide) (by decide), fld_setFld_same _ _ (by decide)]
    exact Nat.mod_eq_of_lt hwhy
  case flag => rw [State.status_declareDisc why h, bit_setBit_same _ _ (by decide)]
  case count =>
    rw [State.rd_congr (State.declareDisc_frame why h).1, State.noteDisc, State.rd_setTracker, State.rd_countErr_same, State.rd_wr_ne _ _ hkeys]
  case due => rw [State.tracker_declareDisc why h]

/-- Whether the source is present is another bit of its status. -/
theorem State.present_declareDisc (s : State) (k why : Nat) :
    bit ((s.declareDisc k why).rd (Reg.RAS_INs_STATUS k)) 0 = bit (s.rd (Reg.RAS_INs_STATUS k)) 0 := by
  by_cases h : (s.tracker k).due = none
  · rw [State.status_declareDisc why h, bit_setBit_ne _ _ (by decide) (by decide), bit_setFld _ _ _ (by decide), if_neg (by decide)]
  · rw [State.declareDisc_of_due why h]

/-- A discontinuity is noted in two registers of the tracker. -/
theorem State.rd_declareDisc (s : State) (k why : Nat) {key : Nat} (hstatus : key ≠ Reg.RAS_INs_STATUS k) (hcount : key ≠ Reg.RAS_INs_DISCNT k) :
    (s.declareDisc k why).rd key = s.rd key := by
  by_cases h : (s.tracker k).due = none
  · rw [State.rd_congr (State.declareDisc_frame why h).1, State.noteDisc, State.rd_setTracker, State.rd_countErr_ne _ hcount,
      State.rd_wr_ne _ _ hstatus]
  · rw [State.declareDisc_of_due why h]

/-- Of its tracker a discontinuity changes what is due alone. -/
theorem State.open_declareDisc (s : State) (k why : Nat) : ((s.declareDisc k why).tracker k).open_ = (s.tracker k).open_ := by
  by_cases h : (s.tracker k).due = none
  · rw [State.tracker_declareDisc why h]
  · rw [State.declareDisc_of_due why h]

/-- A declaration counts against any earlier state with the same count. -/
theorem Declared.of_count {s u t : State} {k why : Nat} (h : Declared u t k why)
    (hcount : u.rd (Reg.RAS_INs_DISCNT k) = s.rd (Reg.RAS_INs_DISCNT k)) : Declared s t k why :=
  ⟨h.reason, h.flag, hcount ▸ h.count, h.due⟩

/-! ### Links (R356, R360) -/

/-- A source that has sent frames and stops. -/
theorem State.sourceTimeout_of_present {s : State} {k : Nat} (hhave : (s.tracker k).have_ = true) (hdue : (s.tracker k).due = none) :
    s.sourceTimeout k = (s.wrF (Reg.RAS_INs_STATUS k) 0 0 0).declareDisc k 2 :=
  if_pos (by simp [hhave, hdue])

/-- A source that has sent none, or whose next frame carries a discontinuity already. -/
theorem State.sourceTimeout_of_absent {s : State} {k : Nat} (h : (s.tracker k).have_ = false ∨ (s.tracker k).due ≠ none) :
    s.sourceTimeout k = s := by
  refine if_neg ?_
  rcases h with h | h <;> simp [h]

/-- The link of a sink is down, its session ended, its source absent and its frame closed. -/
def State.dropLink (s : State) (k : Nat) : State :=
  let s := ((s.wrF (Reg.VIN_Ss_STATUS k) 1 1 0).wrF (Reg.VIN_Ss_STATUS k) 3 3 0).wrF (Reg.RAS_INs_STATUS k) 0 0 0
  s.setTracker k { s.tracker k with open_ := false }

/-- A link that is lost is a discontinuity where frames have come and none is due. -/
theorem State.sinkLost_of_link {s : State} {k : Nat} (h : bit (s.rd (Reg.VIN_Ss_STATUS k)) 1 = true) :
    s.sinkLost k = if ((s.dropLink k).tracker k).have_ && ((s.dropLink k).tracker k).due.isNone then (s.dropLink k).declareDisc k 2
      else s.dropLink k := by
  unfold State.sinkLost
  rw [if_neg (by simp [h])]
  rfl

/-- No link, nothing to lose. -/
theorem State.sinkLost_of_no_link {s : State} {k : Nat} (h : bit (s.rd (Reg.VIN_Ss_STATUS k)) 1 = false) : s.sinkLost k = s :=
  if_pos (by simp [h])

/-- The sink's status is no register of its tracker. -/
theorem sinkStatus_ne (k : Nat) : Reg.VIN_Ss_STATUS k ≠ Reg.RAS_INs_STATUS k ∧ Reg.VIN_Ss_STATUS k ≠ Reg.RAS_INs_DISCNT k := by
  simp only [Reg.VIN_Ss_STATUS, Reg.RAS_INs_STATUS, Reg.RAS_INs_DISCNT]
  omega

/-- The status of a sink whose link is down. -/
theorem State.status_dropLink (s : State) (k : Nat) :
    (s.dropLink k).rd (Reg.VIN_Ss_STATUS k) = setFld (setFld (s.rd (Reg.VIN_Ss_STATUS k)) 1 1 0) 3 3 0 := by
  rw [State.dropLink, State.rd_setTracker, State.rd_wrF_ne _ _ _ _ (sinkStatus_ne k).1, State.rd_wrF_same, State.rd_wrF_same]

/-- The tracker of a sink whose link is down. -/
theorem State.tracker_dropLink (s : State) (k : Nat) : (s.dropLink k).tracker k = { s.tracker k with open_ := false } := by
  simp only [State.dropLink, State.tracker_setTracker_same, State.tracker_wrF]

/-- A lost link counts no discontinuity by itself. -/
theorem State.discnt_dropLink (s : State) (k : Nat) : (s.dropLink k).rd (Reg.RAS_INs_DISCNT k) = s.rd (Reg.RAS_INs_DISCNT k) := by
  have hkeys : Reg.RAS_INs_DISCNT k ≠ Reg.RAS_INs_STATUS k := by simp [Reg.RAS_INs_STATUS, Reg.RAS_INs_DISCNT]
  rw [State.dropLink, State.rd_setTracker, State.rd_wrF_ne _ _ _ _ hkeys, State.rd_wrF_ne _ _ _ _ (sinkStatus_ne k).2.symm,
    State.rd_wrF_ne _ _ _ _ (sinkStatus_ne k).2.symm]

/-- A link that is down, its session ended. -/
theorem State.link_dropLink (s : State) (k : Nat) :
    bit ((s.dropLink k).rd (Reg.VIN_Ss_STATUS k)) 1 = false ∧ bit ((s.dropLink k).rd (Reg.VIN_Ss_STATUS k)) 3 = false := by
  simp [s.status_dropLink k, bit_setFld]

/-- A lost link with frames behind it and no discontinuity due declares one. -/
theorem State.sinkLost_of_present {s : State} {k : Nat} (h : bit (s.rd (Reg.VIN_Ss_STATUS k)) 1 = true) (hhave : (s.tracker k).have_ = true)
    (hdue : (s.tracker k).due = none) : s.sinkLost k = (s.dropLink k).declareDisc k 2 := by
  rw [State.sinkLost_of_link h, if_pos (by simp [s.tracker_dropLink k, hhave, hdue])]

/-- Besides its discontinuity, a lost link leaves the registers of a link that is down. -/
theorem State.rd_sinkLost {s : State} {k key : Nat} (h : bit (s.rd (Reg.VIN_Ss_STATUS k)) 1 = true) (hstatus : key ≠ Reg.RAS_INs_STATUS k)
    (hcount : key ≠ Reg.RAS_INs_DISCNT k) : (s.sinkLost k).rd key = (s.dropLink k).rd key := by
  rw [State.sinkLost_of_link h]
  split
  · exact State.rd_declareDisc _ _ _ hstatus hcount
  · rfl

/-- A lost link closes the frame. -/
theorem State.open_sinkLost {s : State} {k : Nat} (h : bit (s.rd (Reg.VIN_Ss_STATUS k)) 1 = true) : ((s.sinkLost k).tracker k).open_ = false := by
  have hopen : ((s.dropLink k).tracker k).open_ = false := by rw [s.tracker_dropLink k]
  rw [State.sinkLost_of_link h]
  split
  · rw [State.open_declareDisc, hopen]
  · exact hopen

/-- The link of a sink retrains: it counts, is down, and its frame is cut short. -/
def State.cutLink (s : State) (k : Nat) : State :=
  let s := (s.countErr (Reg.VIN_Ss_RETRAIN k)).wrF (Reg.VIN_Ss_STATUS k) 1 1 0
  s.setTracker k { s.tracker k with open_ := false }

/-- A sink that is on retrains with a discontinuity. -/
theorem State.sinkRetrain_of_on {s : State} {k : Nat} (h : s.sinkOn k = true) : s.sinkRetrain k = (s.cutLink k).declareDisc k 3 := by
  unfold State.sinkRetrain
  rw [if_neg (by simp [h])]
  rfl

/-- A sink that is off has no link to retrain. -/
theorem State.sinkRetrain_of_off {s : State} {k : Nat} (h : s.sinkOn k = false) : s.sinkRetrain k = s :=
  if_pos (by simp [h])

/-- What a retraining leaves in the registers and the tracker. -/
theorem State.cutLink_facts (s : State) (k : Nat) :
    (s.cutLink k).rd (Reg.VIN_Ss_RETRAIN k) = bumpErr (s.rd (Reg.VIN_Ss_RETRAIN k)) ∧ bit ((s.cutLink k).rd (Reg.VIN_Ss_STATUS k)) 1 = false ∧
      (s.cutLink k).rd (Reg.RAS_INs_DISCNT k) = s.rd (Reg.RAS_INs_DISCNT k) ∧
      (s.cutLink k).tracker k = { s.tracker k with open_ := false } := by
  have hkeys : Reg.VIN_Ss_RETRAIN k ≠ Reg.VIN_Ss_STATUS k ∧ Reg.RAS_INs_DISCNT k ≠ Reg.VIN_Ss_RETRAIN k := by
    simp only [Reg.VIN_Ss_STATUS, Reg.RAS_INs_DISCNT, Reg.VIN_Ss_RETRAIN]
    omega
  refine ⟨?_, ?_, ?_, by simp only [State.cutLink, State.tracker_setTracker_same, State.tracker_wrF, State.tracker_countErr]⟩
  · rw [State.cutLink, State.rd_setTracker, State.rd_wrF_ne _ _ _ _ hkeys.1, State.rd_countErr_same]
  · rw [State.cutLink, State.rd_setTracker, State.bit_rd_wrF _ _ _ _ _ (by decide)]
    rfl
  · rw [State.cutLink, State.rd_setTracker, State.rd_wrF_ne _ _ _ _ (sinkStatus_ne k).2.symm, State.rd_countErr_ne _ hkeys.2]

/-! ### Streams (R355, R359, R360) -/

/-- A stream that no sink takes (R355). -/
def StreamAttr.big (a : StreamAttr) : Bool := decide (7680 < a.hactive) || decide (4320 < a.vactive) || decide (3981312 < a.kpix)

/-- The attributes of a stream in the registers of its sink, and whether it is accepted in its tracker. -/
def State.takeFormat (s : State) (k : Nat) (a : StreamAttr) : State :=
  let s := s.wr (Reg.VIN_Ss_HTIM k) (BitVec.ofNat 32 (a.htotal * 65536 + a.hactive))
  let s := s.wr (Reg.VIN_Ss_VTIM k) (BitVec.ofNat 32 (a.vtotal * 65536 + a.vactive))
  let s := s.wr (Reg.VIN_Ss_FMT k) (BitVec.ofNat 32 (a.fmt % 1024))
  let s := (s.wrF (Reg.VIN_Ss_STATUS k) 5 5 a.dsc.toNat).wrF (Reg.VIN_Ss_STATUS k) 4 4 a.enc.toNat
  s.setTracker k { s.tracker k with ok := !a.big }

/-- An oversize stream is flagged, its source absent, and the Houses of the sink told. -/
def State.refuseFormat (s : State) (k : Nat) : State :=
  let s := (s.wrF (Reg.VIN_Ss_STATUS k) 7 7 1).wrF (Reg.RAS_INs_STATUS k) 0 0 0
  s.postAll (0 :: (s.inputHouse k).toList) 0x17 0 none
    [k, (s.rd (Reg.VIN_Ss_STATUS k)).toNat, (s.rd (Reg.VIN_Ss_HTIM k)).toNat, (s.rd (Reg.VIN_Ss_VTIM k)).toNat]

/-- A sink with a link takes the attributes of a stream, and refuses one that is oversize. -/
theorem State.streamFormat_of_link {s : State} {k : Nat} (a : StreamAttr) (hon : s.sinkOn k = true)
    (hlink : bit (s.rd (Reg.VIN_Ss_STATUS k)) 1 = true) :
    s.streamFormat k a = if a.big then (s.takeFormat k a).refuseFormat k else s.takeFormat k a := by
  unfold State.streamFormat
  rw [if_neg (by simp [hon, hlink])]
  rfl

/-- What a sink holds of a stream whose attributes it has taken. -/
structure FormatTaken (s t : State) (k : Nat) (a : StreamAttr) : Prop where
  htim : t.rd (Reg.VIN_Ss_HTIM k) = BitVec.ofNat 32 (a.htotal * 65536 + a.hactive)
  vtim : t.rd (Reg.VIN_Ss_VTIM k) = BitVec.ofNat 32 (a.vtotal * 65536 + a.vactive)
  fmt : t.rd (Reg.VIN_Ss_FMT k) = BitVec.ofNat 32 (a.fmt % 1024)
  dsc : bit (t.rd (Reg.VIN_Ss_STATUS k)) 5 = a.dsc
  enc : bit (t.rd (Reg.VIN_Ss_STATUS k)) 4 = a.enc
  count : t.rd (Reg.RAS_INs_DISCNT k) = s.rd (Reg.RAS_INs_DISCNT k)
  tracker : t.tracker k = { s.tracker k with ok := !a.big }

/-- The registers of a stream are taken. -/
theorem State.formatTaken_takeFormat (s : State) (k : Nat) (a : StreamAttr) : FormatTaken s (s.takeFormat k a) k a := by
  have hstatus {key : Nat} (h : key ≠ Reg.VIN_Ss_STATUS k) : (s.takeFormat k a).rd key =
      (((s.wr (Reg.VIN_Ss_HTIM k) (BitVec.ofNat 32 (a.htotal * 65536 + a.hactive))).wr (Reg.VIN_Ss_VTIM k)
        (BitVec.ofNat 32 (a.vtotal * 65536 + a.vactive))).wr (Reg.VIN_Ss_FMT k) (BitVec.ofNat 32 (a.fmt % 1024))).rd key := by
    rw [State.takeFormat, State.rd_setTracker, State.rd_wrF_ne _ _ _ _ h, State.rd_wrF_ne _ _ _ _ h]
  have hkeys : Reg.VIN_Ss_HTIM k ≠ Reg.VIN_Ss_STATUS k ∧ Reg.VIN_Ss_VTIM k ≠ Reg.VIN_Ss_STATUS k ∧
      Reg.VIN_Ss_FMT k ≠ Reg.VIN_Ss_STATUS k ∧ Reg.VIN_Ss_HTIM k ≠ Reg.VIN_Ss_VTIM k ∧ Reg.VIN_Ss_HTIM k ≠ Reg.VIN_Ss_FMT k ∧
      Reg.VIN_Ss_VTIM k ≠ Reg.VIN_Ss_FMT k := by
    simp [Reg.VIN_Ss_HTIM, Reg.VIN_Ss_VTIM, Reg.VIN_Ss_FMT, Reg.VIN_Ss_STATUS]
  have hdisc : Reg.RAS_INs_DISCNT k ≠ Reg.VIN_Ss_HTIM k ∧ Reg.RAS_INs_DISCNT k ≠ Reg.VIN_Ss_VTIM k ∧
      Reg.RAS_INs_DISCNT k ≠ Reg.VIN_Ss_FMT k := by
    simp only [Reg.VIN_Ss_HTIM, Reg.VIN_Ss_VTIM, Reg.VIN_Ss_FMT, Reg.RAS_INs_DISCNT]
    omega
  obtain ⟨hhs, hvs, hfs, hhv, hhf, hvf⟩ := hkeys
  obtain ⟨hdh, hdv, hdf⟩ := hdisc
  refine ⟨?_, ?_, ?_, ?_, ?_, ?_, by
    rw [State.takeFormat, State.tracker_setTracker_same, State.tracker_wrF, State.tracker_wrF, State.tracker_wr, State.tracker_wr,
      State.tracker_wr]⟩
  · rw [hstatus hhs, State.rd_wr_ne _ _ hhf, State.rd_wr_ne _ _ hhv, State.rd_wr_same]
  · rw [hstatus hvs, State.rd_wr_ne _ _ hvf, State.rd_wr_same]
  · rw [hstatus hfs, State.rd_wr_same]
  · rw [State.takeFormat, State.rd_setTracker, State.bit_rd_wrF _ _ _ _ _ (by decide), if_neg (by decide), State.bit_rd_wrF _ _ _ _ _ (by decide)]
    cases a.dsc <;> rfl
  · rw [State.takeFormat, State.rd_setTracker, State.bit_rd_wrF _ _ _ _ _ (by decide)]
    cases a.enc <;> rfl
  · rw [hstatus (sinkStatus_ne k).2.symm, State.rd_wr_ne _ _ hdf, State.rd_wr_ne _ _ hdv, State.rd_wr_ne _ _ hdh]

/-- The refusal of a stream touches two status registers below the queues. -/
theorem State.rd_refuseFormat (s : State) (k : Nat) {key : Nat} (hlow : key < 0x500000) : (s.refuseFormat k).rd key =
    ((s.wrF (Reg.VIN_Ss_STATUS k) 7 7 1).wrF (Reg.RAS_INs_STATUS k) 0 0 0).rd key :=
  State.rd_postAll _ _ _ _ _ _ hlow

/-- The trackers are as before a refusal. -/
theorem State.tracker_refuseFormat (s : State) (k t : Nat) : (s.refuseFormat k).tracker t = s.tracker t := by
  have htrackers : (s.refuseFormat k).trackers = s.trackers := (State.postAll_eventsOnly _ _ _ _ _ _).tables.2.2.2.1
  rw [State.tracker, htrackers, State.tracker]

/-- A stream that is refused is flagged, its source absent. -/
theorem State.flags_refuseFormat (s : State) {k : Nat} (hk : k < 2) : bit ((s.refuseFormat k).rd (Reg.VIN_Ss_STATUS k)) 7 = true ∧
    bit ((s.refuseFormat k).rd (Reg.RAS_INs_STATUS k)) 0 = false := by
  have hlow : Reg.VIN_Ss_STATUS k < 0x500000 ∧ Reg.RAS_INs_STATUS k < 0x500000 := by
    simp only [Reg.VIN_Ss_STATUS, Reg.RAS_INs_STATUS]
    omega
  constructor
  · rw [s.rd_refuseFormat k hlow.1, State.rd_wrF_ne _ _ _ _ (sinkStatus_ne k).1, State.bit_rd_wrF _ _ _ _ _ (by decide)]
    rfl
  · rw [s.rd_refuseFormat k hlow.2, State.bit_rd_wrF _ _ _ _ _ (by decide)]
    rfl

/-- A stream that is refused has been taken all the same. -/
theorem FormatTaken.refuseFormat {s t : State} {k : Nat} {a : StreamAttr} (h : FormatTaken s t k a) (hk : k < 2) :
    FormatTaken s (t.refuseFormat k) k a := by
  have hrd {key : Nat} (hlow : key < 0x500000) (hsink : key ≠ Reg.VIN_Ss_STATUS k) (htrk : key ≠ Reg.RAS_INs_STATUS k) :
      (t.refuseFormat k).rd key = t.rd key := by
    rw [t.rd_refuseFormat k hlow, State.rd_wrF_ne _ _ _ _ htrk, State.rd_wrF_ne _ _ _ _ hsink]
  have hflag {i : Nat} (hi : i < 7) : bit ((t.refuseFormat k).rd (Reg.VIN_Ss_STATUS k)) i = bit (t.rd (Reg.VIN_Ss_STATUS k)) i := by
    rw [t.rd_refuseFormat k (by simp only [Reg.VIN_Ss_STATUS]; omega), State.rd_wrF_ne _ _ _ _ (sinkStatus_ne k).1,
      State.bit_rd_wrF _ _ _ _ _ (by omega), if_neg (by omega)]
  have hkeys : ∀ key ∈ [Reg.VIN_Ss_HTIM k, Reg.VIN_Ss_VTIM k, Reg.VIN_Ss_FMT k, Reg.RAS_INs_DISCNT k],
      key < 0x500000 ∧ key ≠ Reg.VIN_Ss_STATUS k ∧ key ≠ Reg.RAS_INs_STATUS k := by
    simp only [List.forall_mem_cons, List.not_mem_nil, false_implies, implies_true, and_true, Reg.VIN_Ss_HTIM, Reg.VIN_Ss_VTIM, Reg.VIN_Ss_FMT,
      Reg.RAS_INs_DISCNT, Reg.VIN_Ss_STATUS, Reg.RAS_INs_STATUS]
    omega
  have hsame {key : Nat} (hmem : key ∈ [Reg.VIN_Ss_HTIM k, Reg.VIN_Ss_VTIM k, Reg.VIN_Ss_FMT k, Reg.RAS_INs_DISCNT k]) :
      (t.refuseFormat k).rd key = t.rd key := hrd (hkeys key hmem).1 (hkeys key hmem).2.1 (hkeys key hmem).2.2
  refine ⟨?_, ?_, ?_, ?_, ?_, ?_, ?_⟩
  · rw [hsame (by simp), h.htim]
  · rw [hsame (by simp), h.vtim]
  · rw [hsame (by simp), h.fmt]
  · rw [hflag (by decide), h.dsc]
  · rw [hflag (by decide), h.enc]
  · rw [hsame (by simp), h.count]
  · rw [State.tracker_refuseFormat, h.tracker]

/-- A sink with a link takes the attributes of every stream. -/
theorem State.formatTaken_streamFormat {s : State} {k : Nat} (a : StreamAttr) (hk : k < 2) (hon : s.sinkOn k = true)
    (hlink : bit (s.rd (Reg.VIN_Ss_STATUS k)) 1 = true) : FormatTaken s (s.streamFormat k a) k a := by
  rw [State.streamFormat_of_link a hon hlink]
  split
  · exact (s.formatTaken_takeFormat k a).refuseFormat hk
  · exact s.formatTaken_takeFormat k a

/-- The frame of a source is closed. -/
def State.closeFrame (s : State) (k : Nat) : State := s.setTracker k { s.tracker k with open_ := false }

/-- A closed frame is in the tracker alone. -/
theorem State.rd_closeFrame (s : State) (k key : Nat) : (s.closeFrame k).rd key = s.rd key := rfl

theorem State.tracker_closeFrame (s : State) (k : Nat) : (s.closeFrame k).tracker k = { s.tracker k with open_ := false } :=
  s.tracker_setTracker_same k _

/-- The attributes that a sink shows are those of the stream. -/
def State.sameTiming (s : State) (k : Nat) (a : StreamAttr) : Prop :=
  s.rd (Reg.VIN_Ss_HTIM k) = BitVec.ofNat 32 (a.htotal * 65536 + a.hactive) ∧
    s.rd (Reg.VIN_Ss_VTIM k) = BitVec.ofNat 32 (a.vtotal * 65536 + a.vactive)

/-- A change of format alone is no discontinuity (R359). -/
theorem State.msaChange_of_same {s : State} {k : Nat} {a : StreamAttr} (hon : s.sinkOn k = true)
    (hlink : bit (s.rd (Reg.VIN_Ss_STATUS k)) 1 = true) (h : s.sameTiming k a) : s.msaChange k a = s.streamFormat k a := by
  obtain ⟨hh, hv⟩ := h
  exact (if_neg (by simp [hon, hlink])).trans (if_pos (by simp [hh, hv]))

/-- Another active size or total closes the frame and is a discontinuity (R36, R360). -/
theorem State.msaChange_of_other {s : State} {k : Nat} {a : StreamAttr} (hon : s.sinkOn k = true)
    (hlink : bit (s.rd (Reg.VIN_Ss_STATUS k)) 1 = true) (h : ¬ s.sameTiming k a) :
    s.msaChange k a = ((s.streamFormat k a).closeFrame k).declareDisc k 1 := by
  refine (if_neg (by simp [hon, hlink])).trans (if_neg ?_)
  simpa [State.sameTiming] using h

/-- A register write changes nothing but registers. -/
theorem State.withRegs_wrF (s : State) (key hi lo v : Nat) (regs : Map Word) :
    { s.wrF key hi lo v with regs := regs } = { s with regs := regs } := rfl

/-- A sink that is on shows the rate and the lanes of its trained link (R356). -/
theorem State.sinkTrained_of_on {s : State} {k : Nat} (rate lanes : Nat) (h : s.sinkOn k = true) : s.sinkTrained k rate lanes =
    ((s.wrF (Reg.VIN_Ss_STATUS k) 1 1 1).wrF (Reg.VIN_Ss_STATUS k) 11 8 lanes).wrF (Reg.VIN_Ss_STATUS k) 15 12 rate := by
  rw [State.sinkTrained, if_pos h]

/-- A sink that is off trains no link. -/
theorem State.sinkTrained_of_off {s : State} {k : Nat} (rate lanes : Nat) (h : s.sinkOn k = false) : s.sinkTrained k rate lanes = s := by
  rw [State.sinkTrained, if_neg (by simp [h])]

/-- A DSC slice fails within a frame (R360). -/
theorem State.dscError_of_open {s : State} {k : Nat} (n : Nat) (h : (s.tracker k).open_ = true) :
    s.dscError k n = (s.countErr (Reg.VIN_Ss_DSCERR k)).setTracker k { s.tracker k with dscBad := n } := by
  rw [State.dscError, if_pos h]

/-- No frame, no slice. -/
theorem State.dscError_of_closed {s : State} {k : Nat} (n : Nat) (h : (s.tracker k).open_ = false) : s.dscError k n = s := by
  rw [State.dscError, if_neg (by simp [h])]

/-! ### HDCP (R361) -/

/-- A session that fails within an encrypted frame turns it black and counts. -/
theorem State.sinkHdcpFail_of_encrypted {s : State} {k : Nat} (hopen : (s.tracker k).open_ = true)
    (henc : bit (s.rd (Reg.VIN_Ss_STATUS k)) 4 = true) (hblack : (s.tracker k).black = false) :
    s.sinkHdcpFail k =
      ((s.wrF (Reg.VIN_Ss_STATUS k) 3 3 0).countErr (Reg.VIN_Ss_HDCPERR k)).setTracker k { s.tracker k with black := true } := by
  have hkept : bit ((s.wrF (Reg.VIN_Ss_STATUS k) 3 3 0).rd (Reg.VIN_Ss_STATUS k)) 4 = true := by
    rw [State.bit_rd_wrF _ _ _ _ _ (by decide), if_neg (by decide), henc]
  unfold State.sinkHdcpFail
  dsimp only
  rw [State.tracker_wrF, if_pos (by simp only [hopen, hkept, hblack]; rfl)]

/-- A session that fails has ended. -/
theorem State.ended_sinkHdcpFail (s : State) (k : Nat) : bit ((s.sinkHdcpFail k).rd (Reg.VIN_Ss_STATUS k)) 3 = false := by
  have hended : bit ((s.wrF (Reg.VIN_Ss_STATUS k) 3 3 0).rd (Reg.VIN_Ss_STATUS k)) 3 = false := by
    rw [State.bit_rd_wrF _ _ _ _ _ (by decide)]
    rfl
  have hkeys : Reg.VIN_Ss_STATUS k ≠ Reg.VIN_Ss_HDCPERR k := by simp [Reg.VIN_Ss_HDCPERR, Reg.VIN_Ss_STATUS]
  unfold State.sinkHdcpFail
  dsimp only
  split
  · rw [State.rd_setTracker, State.rd_countErr_ne _ hkeys, hended]
  · exact hended

/-- An authenticated sink shows its pixels. -/
theorem State.sinkHdcpOk_of_link {s : State} {k : Nat} (hlink : bit (s.rd (Reg.VIN_Ss_STATUS k)) 1 = true) (husable : s.hdcpUsable = true) :
    s.sinkHdcpOk k = (s.wrF (Reg.VIN_Ss_STATUS k) 3 3 1).setTracker k { s.tracker k with black := false } := by
  rw [State.sinkHdcpOk, if_pos (by simp [hlink, husable])]

/-- Without a link or usable keys there is no session. -/
theorem State.sinkHdcpOk_of_none {s : State} {k : Nat} (h : bit (s.rd (Reg.VIN_Ss_STATUS k)) 1 = false ∨ s.hdcpUsable = false) :
    s.sinkHdcpOk k = s := by
  rw [State.sinkHdcpOk, if_neg]
  rcases h with h | h <;> simp [h]

/-! ### Repeating (R37) -/

/-- A pipeline that has been written. -/
@[simp] theorem State.pipe_setPipe_same (s : State) (p : Nat) (x : Pipe) : (s.setPipe p x).pipe p = x := by
  simp [State.setPipe, State.pipe]

/-- A pipeline that does not repeat, or whose raster is not at its boundary, repeats or not as before. -/
theorem State.repeatEnd_of_not_due {s : State} {p : Nat}
    (h : (s.pipe p).repeats = none ∨ (s.raster (s.pipe p).raster).line ≠ s.vactive (s.pipe p).raster) : s.repeatEnd p = s := by
  refine if_neg ?_
  rcases h with h | h <;> simp [h]

/-- With the anchor of its next frame done, a pipeline repeats no more. -/
theorem State.repeatStep_of_ready {s : State} {p : Nat} (hrep : (s.pipe p).repeats ≠ none) (hdisc : (s.pipe p).discDue = false)
    (hanchor : (s.pipe p).anchorDone = true) (hdue : (s.tracker (s.pipe p).source).due = none) :
    s.repeatStep p = s.setPipe p { s.pipe p with repeats := none } := by
  unfold State.repeatStep
  dsimp only
  rw [if_neg (by simp [hdisc]), if_pos (by simp [hanchor, hdue, Option.isSome_iff_ne_none, hrep])]

/-- A pipeline that repeats no more is retimed for the frame that its raster prepares. -/
theorem State.repeatEnd_of_ready {s : State} {p : Nat} (hvalid : (s.pipe p).valid = true) (hrep : (s.pipe p).repeats ≠ none)
    (hline : (s.raster (s.pipe p).raster).line = s.vactive (s.pipe p).raster) (hdisc : (s.pipe p).discDue = false)
    (hanchor : (s.pipe p).anchorDone = true) (hdue : (s.tracker (s.pipe p).source).due = none) :
    s.repeatEnd p = (s.setPipe p { s.pipe p with repeats := none }).retime p ((s.raster (s.pipe p).raster).frame.toNat + 4) := by
  unfold State.repeatEnd
  dsimp only
  rw [if_pos (by simp [hvalid, hline, Option.isSome_iff_ne_none, hrep]), State.repeatStep_of_ready hrep hdisc hanchor hdue,
    if_pos (by rw [State.pipe_setPipe_same]; rfl)]

/-! ### The obligation -/

/-- A stream that `StreamAttr.big` refuses, in the terms of R355. -/
theorem StreamAttr.big_iff (a : StreamAttr) : a.big = true ↔ 7680 < a.hactive ∨ 4320 < a.vactive ∨ 3981312 < a.kpix := by
  simp [StreamAttr.big, or_assoc]

/-- Settles O43: each event of a sink by its cases, a discontinuity by what `State.declareDisc` leaves. -/
theorem sinksTakeAndLoseTheirStreams : Obligations.SinksTakeAndLoseTheirStreams := by
  intro s k hup x link disc same
  have hdisc {u t : State} {why : Nat} (h : Declared u t k why) (hcount : u.rd (Reg.RAS_INs_DISCNT k) = s.rd (Reg.RAS_INs_DISCNT k)) :
      disc t why := by
    obtain ⟨hreason, hflag, hcount, hdue⟩ := h.of_count hcount
    exact ⟨hreason, hflag, hcount, hdue⟩
  refine ⟨?timeout, ?silent, ?lost, ?noLink, ?retrain, ?off, ?trained, ?untrained, ?stream,
    ?dscOpen, ?dscClosed, ?hdcpFail, ?hdcpOk, ?hdcpNone, ?repeats⟩
  case timeout =>
    intro hhave hdue
    refine ⟨_, (exec_of_up (f := fun s => s.sourceTimeout k) hup rfl).trans (congrArg _ (State.sourceTimeout_of_present hhave hdue)), ?_, ?_⟩
    · have hkeys : Reg.RAS_INs_DISCNT k ≠ Reg.RAS_INs_STATUS k := by simp [Reg.RAS_INs_STATUS, Reg.RAS_INs_DISCNT]
      exact hdisc (State.declared_declareDisc (by rw [State.tracker_wrF]; exact hdue) (by decide)) (State.rd_wrF_ne _ _ _ _ hkeys)
    · rw [State.present_declareDisc, State.bit_rd_wrF _ _ _ _ _ (by decide)]
      rfl
  case silent => exact fun h => (exec_of_up (f := fun s => s.sourceTimeout k) hup rfl).trans (congrArg _ (State.sourceTimeout_of_absent h))
  case lost =>
    intro h
    refine ⟨_, exec_of_up (f := fun s => s.sinkLost k) hup rfl, ?_, ?_, ?_, ?_⟩
    · rw [State.rd_sinkLost h (sinkStatus_ne k).1 (sinkStatus_ne k).2, (s.link_dropLink k).1]
    · rw [State.rd_sinkLost h (sinkStatus_ne k).1 (sinkStatus_ne k).2, (s.link_dropLink k).2]
    · rw [State.open_sinkLost h]
    · intro hhave hdue
      rw [State.sinkLost_of_present h hhave hdue]
      exact hdisc (State.declared_declareDisc (by rw [s.tracker_dropLink k]; exact hdue) (by decide)) (s.discnt_dropLink k)
  case noLink => exact fun h => (exec_of_up (f := fun s => s.sinkLost k) hup rfl).trans (congrArg _ (State.sinkLost_of_no_link h))
  case retrain =>
    intro h
    obtain ⟨hretrain, hlink, hcount, htracker⟩ := s.cutLink_facts k
    have hdue : ((s.cutLink k).tracker k).due = x.due := by rw [htracker]
    have hkeys : Reg.VIN_Ss_RETRAIN k ≠ Reg.RAS_INs_STATUS k ∧ Reg.VIN_Ss_RETRAIN k ≠ Reg.RAS_INs_DISCNT k := by
      simp only [Reg.VIN_Ss_RETRAIN, Reg.RAS_INs_STATUS, Reg.RAS_INs_DISCNT]
      omega
    refine ⟨_, (exec_of_up (f := fun s => s.sinkRetrain k) hup rfl).trans (congrArg _ (State.sinkRetrain_of_on h)), ?_, ?_, ?_, ?_, ?_⟩
    · exact fun hx => hdisc (State.declared_declareDisc (hdue.trans hx) (by decide)) hcount
    · intro hx
      rw [State.declareDisc_of_due 3 (by rw [hdue]; exact hx)]
      exact ⟨hcount, hdue⟩
    · rw [State.rd_declareDisc _ _ _ hkeys.1 hkeys.2, hretrain]
    · rw [State.rd_declareDisc _ _ _ (sinkStatus_ne k).1 (sinkStatus_ne k).2, hlink]
    · rw [State.open_declareDisc, htracker]
  case off => exact fun h => (exec_of_up (f := fun s => s.sinkRetrain k) hup rfl).trans (congrArg _ (State.sinkRetrain_of_off h))
  case trained =>
    intro rate lanes h
    refine ⟨_, (exec_of_up (f := fun s => s.sinkTrained k rate lanes) hup rfl).trans (congrArg _ (State.sinkTrained_of_on _ _ h)), ?_, ?_, ?_, by
      rw [State.withRegs_wrF, State.withRegs_wrF, State.withRegs_wrF]⟩
    · rw [State.bit_rd_wrF _ _ _ _ _ (by decide), if_neg (by decide), State.bit_rd_wrF _ _ _ _ _ (by decide), if_neg (by decide),
        State.bit_rd_wrF _ _ _ _ _ (by decide)]
      rfl
    · rw [State.rdF_wrF_field _ _ _ (by decide) (by decide), State.rdF_wrF_same _ _ _ (by decide)]
      exact Nat.mod_eq_of_lt lanes.isLt
    · rw [State.rdF_wrF_same _ _ _ (by decide)]
      exact Nat.mod_eq_of_lt rate.isLt
  case untrained =>
    exact fun rate lanes h => (exec_of_up (f := fun s => s.sinkTrained k rate lanes) hup rfl).trans
      (congrArg _ (State.sinkTrained_of_off _ _ h))
  case stream =>
    intro ha ht va vt fmt kpix dsc enc hon hlink big htim vtim
    let a : StreamAttr := { hactive := ha, htotal := ht, vactive := va, vtotal := vt, fmt := fmt, kpix := kpix, dsc := dsc, enc := enc }
    have hformat : exec (.streamFormat k ha ht va vt fmt kpix dsc enc) s = .next (s.streamFormat k a) :=
      exec_of_up (f := fun s => s.streamFormat k a) hup rfl
    have hmsa : exec (.msaChange k ha ht va vt fmt kpix dsc enc) s = .next (s.msaChange k a) :=
      exec_of_up (f := fun s => s.msaChange k a) hup rfl
    have htaken := State.formatTaken_streamFormat a k.isLt hon hlink
    refine ⟨⟨_, hformat, htaken.htim, htaken.vtim, ?fmt, htaken.dsc, htaken.enc, ?ok, ?refused⟩, ?same, ?other⟩
    case fmt =>
      rw [htaken.fmt]
      exact congrArg _ (Nat.mod_eq_of_lt fmt.isLt)
    case ok =>
      have hbig : a.big = true ↔ big := a.big_iff
      rw [htaken.tracker]
      simp only [← hbig, Bool.not_eq_true, Bool.decide_eq_false]
    case refused =>
      intro hbig
      rw [State.streamFormat_of_link a hon hlink, if_pos (a.big_iff.mpr hbig)]
      exact (s.takeFormat k a).flags_refuseFormat k.isLt
    case same =>
      intro hh hv
      have hsame : s.sameTiming k a := ⟨hh, hv⟩
      rw [hmsa, hformat, State.msaChange_of_same hon hlink hsame]
    case other =>
      intro hother
      have hnot : ¬ s.sameTiming k a := fun ⟨hh, hv⟩ => hother.elim (fun h => h hh) (fun h => h hv)
      refine ⟨_, hmsa, ?_⟩
      rw [State.msaChange_of_other hon hlink hnot]
      generalize s.streamFormat k a = u at htaken ⊢
      have hdue : ((u.closeFrame k).tracker k).due = x.due := by rw [u.tracker_closeFrame, htaken.tracker]
      have hkeys : ∀ key ∈ [Reg.VIN_Ss_HTIM k, Reg.VIN_Ss_VTIM k], key ≠ Reg.RAS_INs_STATUS k ∧ key ≠ Reg.RAS_INs_DISCNT k := by
        simp only [List.forall_mem_cons, List.not_mem_nil, false_implies, implies_true, and_true, Reg.VIN_Ss_HTIM, Reg.VIN_Ss_VTIM,
          Reg.RAS_INs_STATUS, Reg.RAS_INs_DISCNT]
        omega
      obtain ⟨hh, hv⟩ : _ ∧ _ := ⟨hkeys _ (by simp : Reg.VIN_Ss_HTIM k ∈ _), hkeys _ (by simp : Reg.VIN_Ss_VTIM k ∈ _)⟩
      refine ⟨?_, ?_, ?_, ?_, ?_⟩
      · exact fun hx => hdisc (State.declared_declareDisc (hdue.trans hx) (by decide)) htaken.count
      · intro hx
        rw [State.declareDisc_of_due 1 (by rw [hdue]; exact hx)]
        exact ⟨htaken.count, hdue⟩
      · rw [State.open_declareDisc, u.tracker_closeFrame]
      · rw [State.rd_declareDisc _ _ _ hh.1 hh.2, State.rd_closeFrame, htaken.htim]
      · rw [State.rd_declareDisc _ _ _ hv.1 hv.2, State.rd_closeFrame, htaken.vtim]
  case dscOpen => exact fun n h => (exec_of_up (f := fun s => s.dscError k n) hup rfl).trans (congrArg _ (State.dscError_of_open _ h))
  case dscClosed => exact fun n h => (exec_of_up (f := fun s => s.dscError k n) hup rfl).trans (congrArg _ (State.dscError_of_closed _ h))
  case hdcpFail =>
    refine ⟨_, exec_of_up (f := fun s => s.sinkHdcpFail k) hup rfl, State.ended_sinkHdcpFail s k, fun hopen henc hblack => ?_⟩
    have hkeys : Reg.VIN_Ss_HDCPERR k ≠ Reg.VIN_Ss_STATUS k := by simp [Reg.VIN_Ss_HDCPERR, Reg.VIN_Ss_STATUS]
    rw [State.sinkHdcpFail_of_encrypted hopen henc hblack, State.tracker_setTracker_same, State.rd_setTracker, State.rd_countErr_same,
      State.rd_wrF_ne _ _ _ _ hkeys]
    exact ⟨rfl, rfl⟩
  case hdcpOk =>
    intro hlink husable
    refine ⟨_, (exec_of_up (f := fun s => s.sinkHdcpOk k) hup rfl).trans (congrArg _ (State.sinkHdcpOk_of_link hlink husable)), ?_, ?_⟩
    · rw [State.rd_setTracker, State.bit_rd_wrF _ _ _ _ _ (by decide)]
      rfl
    · rw [State.tracker_setTracker_same]
  case hdcpNone => exact fun h => (exec_of_up (f := fun s => s.sinkHdcpOk k) hup rfl).trans (congrArg _ (State.sinkHdcpOk_of_none h))
  case repeats =>
    intro p y q
    constructor
    · exact fun h => (exec_of_up (f := fun s => s.repeatEnd p) hup rfl).trans (congrArg _ (State.repeatEnd_of_not_due h))
    · exact fun hvalid hrep hline hdisc hanchor hdue => (exec_of_up (f := fun s => s.repeatEnd p) hup rfl).trans
        (congrArg _ (State.repeatEnd_of_ready hvalid hrep hline hdisc hanchor hdue))

end Sys2Proof.Machine
end

section
/-! PROOFS. Holds of lock references on a raster table that lists a raster twice (R52), and the alarms of a protected region (R56, R345, R346). -/
namespace Sys2Proof.Machine
open Claim

/-- A device that is up and whose raster table lists raster 0 twice, the first entry in a slip hold: no command leads here, yet the statement is
about every state. -/
def twiceListed : State := { State.reset with rasters := [(0, { hold := some (.slip 1) }), (0, {})] }

/-- Refutes O39: the clause of the slip hold asks for the state after one write of the raster, and the model writes it twice, once to end the hold and
once to count the error. The first write leaves a reset entry and so removes both entries of `twiceListed`; one write keeps the second of them. -/
theorem not_referencesTrackJumpAndHold : ¬ Obligations.ReferencesTrackJumpAndHold := by
  intro h
  obtain ⟨-, -, -, hslip, -⟩ := h twiceListed 0 ⟨rfl, rfl⟩
  have hmodel := hslip 1 rfl (by decide)
  have hrasters := congrArg State.rasters (Host.Outcome.next.inj hmodel)
  revert hrasters
  decide

/-! ### The comparison of a region (R345) -/

/-- A protected region that has been written. -/
@[simp] theorem State.protect_setProtect_same (s : State) (r : Nat) (q : Protect) : (s.setProtect r q).protect r = q := by
  simp [State.setProtect, State.protect]

/-- Registers do not hold what a region shows. -/
theorem State.rd_setProtect (s : State) (r : Nat) (q : Protect) (key : Nat) : (s.setProtect r q).rd key = s.rd key := rfl
theorem State.protect_wrF (s : State) (key hi lo v r : Nat) : (s.wrF key hi lo v).protect r = s.protect r := rfl

/-- Before its last active line, or off, a raster ends no frame. -/
theorem State.frameDone_of_active {s : State} {r : Nat} (ups : List (Nat × Nat))
    (h : s.rasterOn r = false ∨ (s.raster r).line < s.vactive r) : s.frameDone r ups = s := by
  rw [State.frameDone, if_pos]
  rcases h with h | h <;> simp [h]

/-- A canvas without a protected region fires its event alone. -/
theorem State.frameDone_of_plain {s : State} {r : Nat} (ups : List (Nat × Nat)) (hon : s.rasterOn r = true)
    (hline : s.vactive r ≤ (s.raster r).line) (h : (s.protect r).tmpl = none) : s.frameDone r ups = s.compat r 2 := by
  rw [State.frameDone, if_neg (by simp [hon, hline]), if_neg (by simp [h])]

/-- A canvas with a protected region compares it at every port of its group. -/
theorem State.frameDone_of_protected {s : State} {r : Nat} (ups : List (Nat × Nat)) (hon : s.rasterOn r = true)
    (hline : s.vactive r ≤ (s.raster r).line) (h : (s.protect r).tmpl ≠ none) :
    s.frameDone r ups = ((s.groupPorts r).foldl
      (fun s p => s.regionDone r p (((ups.find? (fun u => decide (u.1 = p))).map (·.2)).getD 0)) s).compat r 2 := by
  rw [State.frameDone, if_neg (by simp [hon, hline]), if_pos (by simpa [Option.isSome_iff_ne_none] using h)]

/-- The CRC of a region whose frame has left a port. -/
def State.regionWord (s : State) (r p upset : Nat) : Word := BitVec.ofNat 32 (s.regionCrc p (s.protect r).fill ^^^ upset)

/-- A port whose region differs from what it should show. -/
def State.noteRegion (s : State) (r p : Nat) (crc : Word) : State :=
  let s := ((s.wr (Reg.SCOn_PCRC p) crc).countErr (Reg.SCOn_PMIS p)).wrF (Reg.CMP_PRr_STAT r) 3 3 1
  s.setProtect r { s.protect r with due := true }

/-- The CRC is no register that it is compared with or counted in. -/
theorem regionKeys_ne (p : Nat) : Reg.SCOn_PEXP p ≠ Reg.SCOn_PCRC p ∧ Reg.SCOn_PMIS p ≠ Reg.SCOn_PCRC p := by
  simp [Reg.SCOn_PEXP, Reg.SCOn_PCRC, Reg.SCOn_PMIS]

/-- A region that shows what it should raises no alarm. -/
theorem State.regionDone_of_same {s : State} {r p upset : Nat} (h : s.regionWord r p upset = s.rd (Reg.SCOn_PEXP p)) :
    s.regionDone r p upset = s.wr (Reg.SCOn_PCRC p) (s.regionWord r p upset) := by
  rw [State.regionDone, if_pos]
  · rfl
  · rw [State.rd_wr_ne _ _ (regionKeys_ne p).1, ← h, State.regionWord]

/-- The alarm of a region is a message: registers and regions are as noted. -/
theorem State.regionDone_of_other {s : State} {r p upset : Nat} (h : s.regionWord r p upset ≠ s.rd (Reg.SCOn_PEXP p)) :
    EventsOnly (s.regionDone r p upset) (s.noteRegion r p (s.regionWord r p upset)) := by
  rw [State.regionDone, if_neg]
  · exact State.post_eventsOnly _ _ _ _ _ _
  · rw [State.rd_wr_ne _ _ (regionKeys_ne p).1]
    exact h

/-- What is noted of a region that differs. -/
theorem State.noteRegion_facts (s : State) {r p : Nat} (crc : Word) (hr : r < 8) (hp : p < 8) :
    (s.noteRegion r p crc).rd (Reg.SCOn_PCRC p) = crc ∧ (s.noteRegion r p crc).rd (Reg.SCOn_PMIS p) = bumpErr (s.rd (Reg.SCOn_PMIS p)) ∧
      (s.noteRegion r p crc).rdF (Reg.CMP_PRr_STAT r) 3 3 = 1 ∧ ((s.noteRegion r p crc).protect r).due = true := by
  have hkeys : Reg.SCOn_PCRC p ≠ Reg.CMP_PRr_STAT r ∧ Reg.SCOn_PMIS p ≠ Reg.CMP_PRr_STAT r := by
    simp only [Reg.SCOn_PCRC, Reg.SCOn_PMIS, Reg.CMP_PRr_STAT]
    omega
  have hpcrc := (regionKeys_ne p).2
  refine ⟨?_, ?_, ?_, ?_⟩
  · rw [State.noteRegion, State.rd_setProtect, State.rd_wrF_ne _ _ _ _ hkeys.1, State.rd_countErr_ne _ hpcrc.symm, State.rd_wr_same]
  · rw [State.noteRegion, State.rd_setProtect, State.rd_wrF_ne _ _ _ _ hkeys.2, State.rd_countErr_same, State.rd_wr_ne _ _ hpcrc]
  · rw [State.noteRegion, State.rdF, State.rd_setProtect, ← State.rdF, State.rdF_wrF_same _ _ _ (by decide)]
    rfl
  · rw [State.noteRegion, State.protect_setProtect_same]

/-! ### The Proctor (R346) -/

/-- With no alarm the Proctor has nothing to rewrite. -/
theorem State.protectRewrite_of_quiet {s : State} {r : Nat} (h : (s.protect r).due = false) : s.protectRewrite r = s := by
  rw [State.protectRewrite, if_pos (by simp [h])]

/-- The Proctor answers an alarm in its next stage. -/
theorem State.protectRewrite_of_due {s : State} {r : Nat} (h : (s.protect r).due = true) :
    s.protectRewrite r = (s.setProtect r { s.protect r with due := false }).wrF (Reg.CMP_PRr_STAT r)
      (if bit (s.rd (Reg.CMP_PRr_STAT r)) 1 then 2 else 1) (if bit (s.rd (Reg.CMP_PRr_STAT r)) 1 then 2 else 1) 1 := by
  rw [State.protectRewrite, if_neg (by simp [h])]
  dsimp only
  rw [State.rd_setProtect]
  split <;> rfl

/-- Settles O40: the frame's end by the state of its raster and region, a port by its CRC, the Proctor by the stage that it is in. -/
theorem theProtectedRegionIsWatched : Obligations.TheProtectedRegionIsWatched := by
  intro s r ups hup q upset
  have hdone : exec (.frameDone r ups) s = .next (s.frameDone r (ups.map (fun u => (u.1.val, u.2)))) := by
    have hrow : exec (.frameDone r ups) s = .next (s.powered (fun s => s.frameDone r (ups.map (fun u => (u.1.val, u.2))))) := rfl
    rw [hrow, State.powered_of_up hup]
  have hrewrite : exec (.protectRewrite r) s = .next (s.protectRewrite r) := exec_of_up (f := fun s => s.protectRewrite r) hup rfl
  refine ⟨?active, ?plain, ?region, ?port, ?quiet, ?due⟩
  case active => exact fun h => by rw [hdone, State.frameDone_of_active _ h]
  case plain => exact fun hon hline h => by rw [hdone, State.frameDone_of_plain _ hon hline h]
  case region => exact fun hon hline h => by rw [hdone, State.frameDone_of_protected _ hon hline h]
  case port =>
    intro p u hp crc t
    have hcrc : crc = s.regionWord r p u := rfl
    refine ⟨fun h => ?_, fun h => ?_⟩
    · rw [hcrc] at h ⊢
      exact State.regionDone_of_same h
    have halarm : EventsOnly t (s.noteRegion r p crc) := State.regionDone_of_other h
    have hlow : Reg.SCOn_PCRC p < 0x500000 ∧ Reg.SCOn_PMIS p < 0x500000 ∧ Reg.CMP_PRr_STAT r < 0x500000 := by
      simp only [Reg.SCOn_PCRC, Reg.SCOn_PMIS, Reg.CMP_PRr_STAT]
      omega
    obtain ⟨hpcrc, hpmis, hstat⟩ := hlow
    obtain ⟨hword, hcount, hflag, hdue⟩ := s.noteRegion_facts crc r.isLt hp
    refine ⟨?_, ?_, ?_, ?_⟩
    · rw [halarm.low _ hpcrc, hword]
    · rw [halarm.low _ hpmis, hcount]
    · rw [State.rdF, halarm.low _ hstat]
      exact hflag
    · rw [State.protect, halarm.tables.2.2.2.2.2]
      exact hdue
  case quiet => exact fun h => by rw [hrewrite, State.protectRewrite_of_quiet h]
  case due =>
    intro h
    refine ⟨_, hrewrite, ?_⟩
    rw [State.protectRewrite_of_due h]
    refine ⟨by rw [State.protect_wrF, State.protect_setProtect_same], fun hstage => ?_, fun hstage => ?_⟩
    all_goals
      rw [hstage]
      exact State.rdF_wrF_same _ _ 1 (by decide)

end Sys2Proof.Machine
end

section
/-! PROOFS. Lines follow lines (R25, R39, R50, R52, R54). -/
namespace Sys2Proof.Machine
open Claim

/-- What the lines of a raster go by: where it stands, whether it holds there, and where it holds. -/
structure Beat where
  line : Nat
  frame : BitVec 64
  hold : Option Hold
  stretch : Word

/-- The beat of a raster. -/
def State.beat (s : State) (r : Nat) : Beat :=
  { line := (s.raster r).line, frame := (s.raster r).frame, hold := (s.raster r).hold, stretch := s.rd (Reg.RASn_VTIMING2 r) }

/-- Rasters and registers make the beat. -/
theorem State.beat_congr {t s : State} (hregs : t.regs = s.regs) (hrasters : t.rasters = s.rasters) (r : Nat) : t.beat r = s.beat r := by
  rw [State.beat, State.raster, hrasters, State.rd_congr hregs, ← State.raster, State.beat]

/-! ### Operations beside the beat -/

@[simp] theorem State.beat_setPort (s : State) (n : Nat) (x : Port) (r : Nat) : (s.setPort n x).beat r = s.beat r := rfl
@[simp] theorem State.beat_setPipe (s : State) (p : Nat) (x : Pipe) (r : Nat) : (s.setPipe p x).beat r = s.beat r := rfl
@[simp] theorem State.beat_setProtect (s : State) (n : Nat) (x : Protect) (r : Nat) : (s.setProtect n x).beat r = s.beat r := rfl
@[simp] theorem State.beat_emit (s : State) (o : Output) (r : Nat) : (s.emit o).beat r = s.beat r := rfl

/-- Any register but VTIMING2 is beside the beat. -/
theorem State.beat_wr (s : State) {key r : Nat} (v : Word) (h : Reg.RASn_VTIMING2 r ≠ key) : (s.wr key v).beat r = s.beat r :=
  congrArg (Beat.mk _ _ _) (State.rd_wr_ne s v h)

/-- The beat of a raster that has been written. -/
theorem State.beat_setRaster (s : State) (r : Nat) (x : RasterAux) :
    (s.setRaster r x).beat r = { line := x.line, frame := x.frame, hold := x.hold, stretch := (s.beat r).stretch } := by
  rw [State.beat, State.raster_setRaster_same]
  rfl

/-- A raster written with the same line, frame and hold keeps its beat. -/
theorem State.beat_setRaster_same {s : State} {r : Nat} {x : RasterAux} (hline : x.line = (s.raster r).line)
    (hframe : x.frame = (s.raster r).frame) (hhold : x.hold = (s.raster r).hold) : (s.setRaster r x).beat r = s.beat r := by
  rw [State.beat_setRaster, hline, hframe, hhold]
  rfl

/-- A port sends what its FIFO holds. -/
@[simp] theorem State.beat_sendLine (s : State) (p r : Nat) : (s.sendLine p).beat r = s.beat r := by
  unfold State.sendLine
  dsimp only
  (repeat' split) <;> simp only [State.beat_setPort, State.beat_emit]

@[simp] theorem State.beat_psrFrame (s : State) (p r : Nat) : (s.psrFrame p).beat r = s.beat r := by
  unfold State.psrFrame
  dsimp only
  (repeat' split) <;> rfl

@[simp] theorem State.beat_sendSdps (s : State) (q p r : Nat) : (s.sendSdps q p).beat r = s.beat r := by
  unfold State.sendSdps
  dsimp only
  (repeat' split) <;> rfl

@[simp] theorem State.beat_frameMark (s : State) (q n r : Nat) : (s.frameMark q n).beat r = s.beat r := by
  unfold State.frameMark
  split <;> rfl

@[simp] theorem State.beat_hideBoundary (s : State) (q r : Nat) : (s.hideBoundary q).beat r = s.beat r := rfl

@[simp] theorem State.beat_repeatStep (s : State) (p r : Nat) : (s.repeatStep p).beat r = s.beat r := by
  unfold State.repeatStep
  dsimp only
  (repeat' split) <;> rfl

/-- A re-timing record goes to a bank. -/
@[simp] theorem State.beat_writeRetime (s : State) (p n seq f w : Nat) (rep : Bool) (r : Nat) :
    (s.writeRetime p n seq f w rep).beat r = s.beat r := by
  obtain ⟨hregs, hrasters, -, -⟩ := s.bankWriteFor_frame 1024 (s.pipe p).house ((s.pipe p).recordBank * 2 ^ 18 + 256 + 32 * (n % 8))
    (leBytes 4 n ++ leBytes 4 seq ++ leBytes 4 f ++ leBytes 2 w ++ leBytes 1 rep.toNat ++ leBytes 17 0)
  exact State.beat_congr hregs hrasters r

@[simp] theorem State.beat_retime (s : State) (p n r : Nat) : (s.retime p n).beat r = s.beat r := by
  unfold State.retime
  dsimp only
  split
  · rw [State.beat_writeRetime]
  · split
    · rw [State.beat_writeRetime]
    · rfl

/-- A slip hold writes records of its pipelines. -/
@[simp] theorem State.beat_slipRepeat (s : State) (q r : Nat) : (s.slipRepeat q).beat r = s.beat r :=
  foldl_keeps (g := (State.beat · r)) (fun t p => t.beat_writeRetime p _ _ _ _ _ r) _ s

section
variable {r : Nat} (hr : r < 8)
include hr

/-- The registers above those of the rasters are beside the beat. -/
theorem State.beat_wr_above (s : State) {key : Nat} (v : Word) (h : 0x102000 ≤ key) : (s.wr key v).beat r = s.beat r :=
  s.beat_wr v (by simp only [Reg.RASn_VTIMING2]; omega)

theorem State.beat_wrF_above (s : State) {key : Nat} (hi lo v : Nat) (h : 0x102000 ≤ key) : (s.wrF key hi lo v).beat r = s.beat r :=
  s.beat_wr_above hr _ h

/-- Events are beside the beat. -/
theorem EventsOnly.beat {t s : State} (h : EventsOnly t s) : t.beat r = s.beat r := by
  rw [State.beat, State.raster, h.tables.1, h.low _ (by simp only [Reg.RASn_VTIMING2]; omega), ← State.raster, State.beat]

theorem State.beat_compat (s : State) (q e : Nat) : (s.compat q e).beat r = s.beat r := by
  refine foldl_keeps (g := (State.beat · r)) (fun t fn => ?_) _ s
  have hset (v : Word) : (t.wr (Reg.own fn Reg.EVT_C_STATUS) v).beat r = t.beat r :=
    t.beat_wr_above hr v (by simp only [Reg.own, Reg.EVT_C_STATUS]; omega)
  unfold State.compatSet1
  dsimp only
  split
  · split
    · rw [State.beat_emit, hset]
    · rw [hset]
  · rfl

theorem State.beat_flatBoundary (s : State) (q : Nat) : (s.flatBoundary q).beat r = s.beat r :=
  foldl_keeps (g := (State.beat · r)) (fun t g => t.beat_wrF_above hr _ _ _ (by simp only [Reg.CMP_GLg_CTRL]; omega)) _ _

theorem State.beat_setChipFloor (s : State) (v : Nat) : (s.setChipFloor v).beat r = s.beat r := by
  unfold State.setChipFloor
  split
  · rfl
  · rw [(State.post_eventsOnly _ _ _ _ _ _).beat hr, State.beat_wrF_above hr _ _ _ _ (by decide)]

theorem State.beat_chipFloor (s : State) : s.chipFloor.beat r = s.beat r := by
  have hflag := s.beat_wrF_above hr 5 5 s.service.stretched.toNat (key := Reg.DLN_CHIP) (by decide)
  unfold State.chipFloor
  dsimp only
  (repeat' split)
  · exact (State.beat_setChipFloor hr _ _).trans hflag
  · exact (State.beat_setChipFloor hr _ _).trans hflag
  · exact hflag

theorem State.beat_stretchPeak (s : State) : s.stretchPeak.beat r = s.beat r :=
  s.beat_wrF_above hr 13 8 s.service.smax (key := Reg.PWR_STRETCH) (by decide)

theorem State.beat_portFrame (s : State) (q p : Nat) : (s.portFrame q p).beat r = s.beat r := by
  unfold State.portFrame
  dsimp only
  (repeat' split) <;>
    simp only [(State.post_eventsOnly _ _ _ _ _ _).beat hr, (State.postAll_eventsOnly _ _ _ _ _ _).beat hr, State.beat_setPort, State.countFld,
      State.beat_wr_above hr _ _ (show 0x102000 ≤ Reg.VIN_PROTBLK p by simp only [Reg.VIN_PROTBLK]; omega)]

theorem State.beat_dropJob (s : State) (p b : Nat) (t : Word) : (s.dropJob p b t).beat r = s.beat r := by
  rw [State.dropJob, State.subStat, State.beat_wrF_above hr _ _ _ _ (by decide), State.beat_wrF_above hr _ _ _ _ (by decide)]
  rfl

theorem State.beat_freeSent (s : State) (q line frame : Nat) : (s.freeSent q line frame).beat r = s.beat r :=
  foldl_keeps (g := (State.beat · r)) (fun t _ => t.beat_dropJob hr _ _ _) _ s

/-! ### The compositor -/

theorem State.beat_glLine (s : State) (g : Nat) (x : GlCfg) (dy : Nat) : (s.glLine g x dy).1.beat r = s.beat r := by
  have herr (t : State) : (t.countFld (Reg.CMP_GLg_ERR g) 15 0).beat r = t.beat r :=
    t.beat_wr_above hr _ (by simp only [Reg.CMP_GLg_ERR]; omega)
  have hask (l : List Nat) : (l.foldl (fun s a => { s.emit (.pageRequest x.house a) with asked := hostKey x.house a :: s.asked }) s).beat r =
      s.beat r := by
    refine foldl_keeps (g := (State.beat · r)) (fun t a => ?_) l s
    exact t.beat_emit (.pageRequest x.house a) r
  unfold State.glLine
  dsimp only
  (repeat' split)
  · exact hask _
  · exact (herr _).trans (hask _)
  · exact herr s
  · exact (herr _).trans (s.beat_wr_above hr _ (by decide))
  · rfl

theorem State.beat_glRow (s : State) (q g y w : Nat) : (s.glRow q g y w).1.beat r = s.beat r := by
  unfold State.glRow
  dsimp only
  (repeat' split)
  · rfl
  · rfl
  · exact s.beat_glLine hr _ _ _
  · exact s.beat_glLine hr _ _ _

theorem State.beat_runRow (s : State) (q y w : Nat) (run : List Nat) : (s.runRow q y w run).1.beat r = s.beat r := by
  unfold State.runRow
  split
  · rfl
  · have hgroup := foldl_keeps (g := fun x : State × List APix => x.1.beat r) (fun x c => x.1.beat_glRow hr q (c % 16) y w) run
      (f := fun x c => ((x.1.glRow q (c % 16) y w).1, overRow (x.1.glRow q (c % 16) y w).2 x.2)) (s, List.replicate w ({} : APix))
    exact hgroup

theorem State.beat_canvasRow (s : State) (q n y : Nat) : (s.canvasRow q n y).1.beat r = s.beat r := by
  refine foldl_keeps (g := fun x : State × List APix => x.1.beat r) (fun x piece => ?_) _ _
  cases piece with
  | video v => rfl
  | gl g => exact x.1.beat_glRow hr _ _ _ _
  | run run => exact x.1.beat_runRow hr _ _ _ _

theorem State.beat_fillFifos (s : State) (q y : Nat) : (s.fillFifos q y).beat r = s.beat r := by
  unfold State.fillFifos
  dsimp only
  split
  · refine (foldl_keeps (g := (State.beat · r)) (fun u p => ?_) _ _).trans (s.beat_canvasRow hr q _ y)
    exact u.beat_setPort p _ r
  · refine foldl_keeps (g := (State.beat · r)) (fun u p => ?_) _ s
    exact u.beat_setPort p _ r

end

/-! ### The parts of a line -/

/-- A choice between two operations that keep the beat. -/
theorem State.beat_ite {c : Prop} [Decidable c] {a b s : State} {r : Nat} (ha : a.beat r = s.beat r) (hb : b.beat r = s.beat r) :
    (if c then a else b).beat r = s.beat r := by
  split
  · exact ha
  · exact hb

theorem State.beat_showPpm (s : State) (r : Nat) (d : Int) : (s.showPpm r d).beat r = s.beat r :=
  s.beat_wr _ (by simp [Reg.RASn_VTIMING2, Reg.RASn_SLEW])

theorem State.beat_rasBit (s : State) (r i : Nat) (b : Bool) : (s.rasBit r i b).beat r = s.beat r :=
  s.beat_wr _ (by simp [Reg.RASn_VTIMING2, Reg.RASn_STATUS])

theorem State.beat_slewLine (s : State) (r : Nat) : (s.slewLine r).beat r = s.beat r := by
  unfold State.slewLine
  dsimp only
  split
  · rfl
  · rw [State.beat_showPpm]
    exact State.beat_setRaster_same rfl rfl rfl

theorem State.beat_vrrFrame (s : State) (r : Nat) : (s.vrrFrame r).beat r = s.beat r := by
  have hkeys : Reg.RASn_VTIMING2 r ≠ Reg.RASn_SLEW r := by simp [Reg.RASn_VTIMING2, Reg.RASn_SLEW]
  unfold State.vrrFrame
  dsimp only
  split
  · rfl
  · rw [State.beat_rasBit, State.wrF, State.beat_wr _ _ hkeys]
    exact State.beat_setRaster_same rfl rfl rfl

theorem State.beat_ringLine (s : State) (r n l : Nat) : (s.ringLine r n l).beat r = s.beat r := by
  have hkeys : Reg.RASn_VTIMING2 r ≠ Reg.RAS_DISPERR := by simp only [Reg.RASn_VTIMING2, Reg.RAS_DISPERR]; omega
  delta State.ringLine
  extract_lets ms late x
  have hlate : late.beat r = s.beat r := foldl_keeps (g := (State.beat · r)) (fun t _ => t.beat_wr _ hkeys) _ s
  rw [← hlate]
  exact State.beat_setRaster_same rfl rfl rfl

/-- What a line does between its start and STRETCH_LINE. -/
def State.lineWork (s : State) (r l frame0 frame : Nat) : State :=
  let s := s.slewLine r
  let s := if l = 0 then (s.frameMark r frame0).atLine0 r else s
  let s := if l = s.vactive r then s.atVactive r else s
  let s := if bit (s.rd (Reg.RASn_LMATCH r)) 16 && decide (s.rdF (Reg.RASn_LMATCH r) 15 0 = l) then s.compat r 1 else s
  let s := s.freeSent r l frame
  let s := s.ringLine r frame l
  if l < s.vactive r then s.fillFifos r l else s

/-- A raster that stands at line l. -/
def RasterAux.goLine (x : RasterAux) (l : Nat) : RasterAux :=
  { x with line := l, frame := if l = 0 then x.frame + 1 else x.frame, vrrDue := x.vrrDue.map (· - 1) }

/-- A line that has started and worked, up to STRETCH_LINE. -/
def State.runLine (s : State) (r l : Nat) : State :=
  let s := (s.groupPorts r).foldl State.sendLine s
  (s.setRaster r ((s.raster r).goLine l)).lineWork r l (s.raster r).frame.toNat ((s.raster r).goLine l).frame.toNat

/-- A line starts and works, and at STRETCH_LINE the raster may hold. -/
theorem State.startLine_eq (s : State) (r l : Nat) :
    s.startLine r l = if l = (s.runLine r l).stretchLine r then (s.runLine r l).atStretch r else s.runLine r l := rfl

section
variable {r : Nat} (hr : r < 8)
include hr

theorem State.beat_atLine0 (s : State) : (s.atLine0 r).beat r = s.beat r := by
  delta State.atLine0
  extract_lets synced tested region shown
  have hsynced : synced.beat r = s.beat r := State.beat_ite (s.beat_vrrFrame r) rfl
  have htested : tested.beat r = synced.beat r := foldl_keeps (g := (State.beat · r)) (fun u p => u.beat_portFrame hr r p) _ synced
  have hshown : shown.beat r = tested.beat r := tested.beat_setProtect r _ r
  rw [← hsynced, ← htested, ← hshown]
  exact State.beat_ite rfl rfl

theorem State.beat_atVactive (s : State) : (s.atVactive r).beat r = s.beat r := by
  delta State.atVactive
  extract_lets sent drawn floored peaked
  have hsent : sent.beat r = s.beat r :=
    foldl_keeps (g := (State.beat · r)) (fun u p => by rw [State.beat_sendSdps, State.beat_psrFrame]) _ s
  have hdrawn : drawn.beat r = sent.beat r := by
    rw [State.beat_compat hr, State.beat_hideBoundary, State.beat_flatBoundary hr]
  have hfloored : floored.beat r = drawn.beat r := State.beat_ite (State.beat_chipFloor hr drawn) rfl
  have hpeaked : peaked.beat r = floored.beat r := State.beat_ite (State.beat_stretchPeak hr floored) rfl
  rw [← hsent, ← hdrawn, ← hfloored, ← hpeaked]
  exact foldl_keeps (g := (State.beat · r)) (fun u p => by rw [State.beat_retime, State.beat_repeatStep]) _ peaked

theorem State.beat_lineWork (s : State) (l frame0 frame : Nat) : (s.lineWork r l frame0 frame).beat r = s.beat r := by
  delta State.lineWork
  extract_lets slewed begun blanked fired freed rung
  have hslewed : slewed.beat r = s.beat r := s.beat_slewLine r
  have hbegun : begun.beat r = slewed.beat r :=
    State.beat_ite ((State.beat_atLine0 hr _).trans (slewed.beat_frameMark r frame0 r)) rfl
  have hblanked : blanked.beat r = begun.beat r := State.beat_ite (State.beat_atVactive hr begun) rfl
  have hfired : fired.beat r = blanked.beat r := State.beat_ite (State.beat_compat hr blanked r 1) rfl
  have hfreed : freed.beat r = fired.beat r := State.beat_freeSent hr fired r l frame
  have hrung : rung.beat r = freed.beat r := freed.beat_ringLine r frame l
  rw [← hslewed, ← hbegun, ← hblanked, ← hfired, ← hfreed, ← hrung]
  exact State.beat_ite (State.beat_fillFifos hr rung r l) rfl

/-- The beat of a line that runs. -/
theorem State.beat_runLine (s : State) (l : Nat) : (s.runLine r l).beat r =
    { s.beat r with line := l, frame := if l = 0 then (s.raster r).frame + 1 else (s.raster r).frame } := by
  delta State.runLine
  extract_lets sent
  have hsent : sent.beat r = s.beat r := foldl_keeps (g := (State.beat · r)) (fun t p => t.beat_sendLine p r) _ s
  have hframe : (sent.raster r).frame = (s.raster r).frame := congrArg Beat.frame hsent
  have hhold : (sent.raster r).hold = (s.raster r).hold := congrArg Beat.hold hsent
  rw [State.beat_lineWork hr, State.beat_setRaster, hsent, RasterAux.goLine]
  dsimp only
  rw [hframe, hhold]
  rfl

end

/-! ### STRETCH_LINE (R39, R50 to R52) -/

/-- Where a raster stands. -/
def State.place (s : State) (r : Nat) : Nat × BitVec 64 := ((s.raster r).line, (s.raster r).frame)

/-- The place is part of the beat. -/
theorem State.place_of_beat {t s : State} {r : Nat} (h : t.beat r = s.beat r) : t.place r = s.place r :=
  congrArg (fun b => (b.line, b.frame)) h

theorem State.place_rasBit (s : State) (r i : Nat) (b : Bool) : (s.rasBit r i b).place r = s.place r := rfl

/-- A raster written with the same line and frame stays in its place. -/
theorem State.place_setRaster {s : State} {r : Nat} {x : RasterAux} (hline : x.line = (s.raster r).line) (hframe : x.frame = (s.raster r).frame) :
    (s.setRaster r x).place r = s.place r := by
  rw [State.place, State.raster_setRaster_same, hline, hframe, State.place]

theorem State.place_endHold (s : State) (r : Nat) : (s.endHold r).place r = s.place r := State.place_setRaster rfl rfl

theorem State.place_teConsume (s : State) (r : Nat) : (s.teConsume r).place r = s.place r := by
  delta State.teConsume
  extract_lets x
  split <;> exact State.place_setRaster rfl rfl

theorem State.place_holdLimit (s : State) (r : Nat) : (s.holdLimit r).place r = s.place r := by
  delta State.holdLimit
  split
  next => rw [State.place_rasBit, State.place_endHold]
  next =>
    extract_lets ended x counted
    have hended : ended.place r = s.place r := by rw [State.place_rasBit, State.place_endHold]
    have hmissed : counted.place r = ended.place r := State.place_setRaster rfl rfl
    have hcounted : counted.place r = s.place r := hmissed.trans hended
    split
    · rw [State.place_rasBit, hcounted]
    · exact hcounted
  next =>
    extract_lets ended x
    rw [← s.place_endHold r]
    exact State.place_setRaster rfl rfl
  next => rfl

/-- A choice between two operations that keep the place. -/
theorem State.place_ite {c : Prop} [Decidable c] {a b s : State} {r : Nat} (ha : a.place r = s.place r) (hb : b.place r = s.place r) :
    (if c then a else b).place r = s.place r := by
  split
  · exact ha
  · exact hb

/-- A raster that reaches STRETCH_LINE stays in its place. -/
theorem State.place_atStretch (s : State) (r : Nat) : (s.atStretch r).place r = s.place r := by
  delta State.atStretch
  extract_lets cleared x held
  have hcleared : cleared.place r = s.place r := rfl
  rw [← hcleared]
  refine State.place_ite ?te (State.place_ite ?vrr ?slip)
  case te => exact State.place_ite (cleared.place_teConsume r) (State.place_ite rfl (State.place_setRaster rfl rfl))
  case vrr =>
    have hheld : held.place r = cleared.place r := State.place_setRaster rfl rfl
    exact State.place_ite rfl (State.place_ite ((held.place_holdLimit r).trans hheld) hheld)
  case slip =>
    split
    next n _ =>
      extract_lets shown repeated
      have hshown : shown.place r = cleared.place r := State.place_setRaster rfl rfl
      have hrepeated : repeated.place r = shown.place r := State.place_of_beat (shown.beat_slipRepeat r r)
      rw [← hshown, ← hrepeated]
      exact State.place_ite (repeated.place_holdLimit r) rfl
    next => rfl

/-- STRETCH_LINE is part of the beat. -/
theorem State.stretchLine_of_beat {t s : State} {r : Nat} (h : (t.beat r).stretch = (s.beat r).stretch) : t.stretchLine r = s.stretchLine r :=
  congrArg (fun w : Word => fld w 15 0) h

/-- A line that starts stands in its place. -/
theorem State.place_startLine (s : State) {r : Nat} (l : Nat) (hr : r < 8) :
    (s.startLine r l).place r = (l, if l = 0 then (s.raster r).frame + 1 else (s.raster r).frame) := by
  have hrun : (s.runLine r l).place r = (l, if l = 0 then (s.raster r).frame + 1 else (s.raster r).frame) :=
    congrArg (fun b => (b.line, b.frame)) (s.beat_runLine hr l)
  rw [State.startLine_eq]
  split
  · rw [State.place_atStretch, hrun]
  · exact hrun

/-- Away from STRETCH_LINE a line that starts holds as before. -/
theorem State.hold_startLine {s : State} {r l : Nat} (hr : r < 8) (h : l ≠ s.stretchLine r) :
    ((s.startLine r l).raster r).hold = (s.raster r).hold := by
  have hstretch : (s.runLine r l).stretchLine r = s.stretchLine r :=
    State.stretchLine_of_beat (by rw [s.beat_runLine hr l])
  rw [State.startLine_eq, hstretch, if_neg h]
  exact congrArg Beat.hold (s.beat_runLine hr l)

/-! ### The line periods -/

/-- A raster that does not run, or relocks, has no lines. -/
theorem State.lineStart_of_off {s : State} {r : Nat} (h : s.rasterOn r = false ∨ bit (s.rd (Reg.RASn_STATUS r)) 6 = true) : s.lineStart r = s := by
  rw [State.lineStart, if_pos]
  rcases h with h | h <;> simp [h]

/-- A raster that does not hold goes to its next line. -/
theorem State.lineStart_of_running {s : State} {r : Nat} (hon : s.rasterOn r = true) (hlock : bit (s.rd (Reg.RASn_STATUS r)) 6 = false)
    (hhold : (s.raster r).hold = none) :
    s.lineStart r = if (s.raster r).line + 1 < s.vtotal r then s.startLine r ((s.raster r).line + 1) else s.startLine r 0 := by
  rw [State.lineStart, if_neg (by simp [hon, hlock]), hhold]

/-- A raster that holds has a held line. -/
theorem State.lineStart_of_held {s : State} {r : Nat} {h : Hold} (hon : s.rasterOn r = true) (hlock : bit (s.rd (Reg.RASn_STATUS r)) 6 = false)
    (hhold : (s.raster r).hold = some h) : s.lineStart r = s.holdLine r h := by
  rw [State.lineStart, if_neg (by simp [hon, hlock]), hhold]

/-- A TE hold that reaches VTOTAL_MAX ends where it stands. -/
theorem State.beat_holdLimit_te {s : State} {r : Nat} (h : (s.raster r).hold = some .te) :
    (s.holdLimit r).beat r = { s.beat r with hold := none } := by
  rw [State.holdLimit, h]
  dsimp only
  rw [State.beat_rasBit, State.endHold, State.beat_setRaster]
  rfl

/-- A raster whose PLL relocks is at STRETCH_LINE of its new mode. -/
theorem State.relocked_of_relocking {s : State} {r : Nat} (h : bit (s.rd (Reg.RASn_STATUS r)) 6 = true) : s.relocked r =
    (s.wrF (Reg.RASn_STATUS r) 7 6 0).setRaster r { s.raster r with line := s.stretchLine r, hold := none } := by
  rw [State.relocked, if_pos h]

/-- A raster that does not relock ends no relock. -/
theorem State.relocked_of_locked {s : State} {r : Nat} (h : bit (s.rd (Reg.RASn_STATUS r)) 6 = false) : s.relocked r = s := by
  rw [State.relocked, if_neg (by simp [h])]

/-- Settles O38: a line goes by the beat of its raster, which all that it does keeps up to STRETCH_LINE. -/
theorem linesFollowLines : Obligations.LinesFollowLines := by
  intro s r hup x status
  have hline : exec (.lineStart r) s = .next (s.lineStart r) := exec_of_up (f := fun s => s.lineStart r) hup rfl
  have hrelock : exec (.relockComplete r) s = .next (s.relocked r) := exec_of_up (f := fun s => s.relocked r) hup rfl
  refine ⟨?off, ?running, ?held, ?limit, ?locked, ?relocked⟩
  case off => exact fun h => by rw [hline, State.lineStart_of_off h]
  case running =>
    intro hon hlock hhold
    have hstart := State.lineStart_of_running hon hlock hhold
    refine ⟨_, hline, fun hmore => ?_, fun hlast => ?_⟩
    · rw [hstart, if_pos hmore]
      have hplace := s.place_startLine ((s.raster r).line + 1) r.isLt
      rw [if_neg (Nat.succ_ne_zero _)] at hplace
      exact Prod.mk.inj hplace
    · rw [hstart, if_neg (Nat.not_lt.mpr hlast)]
      exact Prod.mk.inj (s.place_startLine 0 r.isLt)
  case held =>
    intro hon hlock hhold hroom
    rw [hline, State.lineStart_of_held hon hlock hhold, State.holdLine, if_neg (Nat.not_le.mpr hroom), State.holdMore]
  case limit =>
    intro hon hlock hhold hroom
    have hbeat := State.beat_holdLimit_te hhold
    have hstretch : (s.holdLimit r).stretchLine r = s.stretchLine r := State.stretchLine_of_beat (by rw [hbeat])
    refine ⟨_, hline, ?_⟩
    rw [State.lineStart_of_held hon hlock hhold, State.holdLine, if_pos hroom]
    have hplace := (s.holdLimit r).place_startLine (s.stretchLine r + 1) r.isLt
    refine ⟨(Prod.mk.inj hplace).1, ?_⟩
    rw [State.hold_startLine r.isLt (by rw [hstretch]; exact Nat.succ_ne_self _)]
    exact congrArg Beat.hold hbeat
  case locked => exact fun h => by rw [hrelock, State.relocked_of_locked h]
  case relocked =>
    intro h
    refine ⟨_, hrelock, ?_⟩
    rw [State.relocked_of_relocking h]
    refine ⟨?_, State.raster_setRaster_same _ _ _, fun q hq => State.raster_setRaster_ne _ _ hq⟩
    exact State.rdF_wrF_same s _ 0 (by decide)

end Sys2Proof.Machine
end

section
/-! PROOFS. What the rows of the tile cores do when their bundle issues (chapter 3, Tables 3.5 to 3.13). -/
namespace Sys2Proof.Machine
open Claim

/-! ### Rows as one-slot bundles -/

/-- Every tile-core row attempts to issue the bundle that holds it alone (log 8). -/
theorem exec_of_slotRow {j : Instr} {x : At} {i op : Nat} {b : BitVec 54} (h : slotRow j = some (x, i, op, b)) (s : State) :
    exec j s = .next (s.issue x.core (bundle1 i (slotWord op x.pg x.pn b))) := by
  cases j <;> cases h <;> rfl

/-- The slot of a row, and an OP that no NOP has. -/
theorem slotRow_bounds {j : Instr} {x : At} {i op : Nat} {b : BitVec 54} (h : slotRow j = some (x, i, op, b)) :
    i < 8 ∧ 0 < op ∧ op < 64 := by
  cases j <;> cases h <;> refine ⟨?_, by decide, by decide⟩ <;> omega

theorem sOp_of_slotRow {j : Instr} {x : At} {i op : Nat} {b : BitVec 54} (h : slotRow j = some (x, i, op, b)) :
    sOp (slotWord op x.pg x.pn b) = op := by
  obtain ⟨-, -, hop⟩ := slotRow_bounds h
  rw [sOp_slotWord, Nat.mod_eq_of_lt hop]

/-- A row other than CSRW has the effect of its slot. -/
theorem row_of_slotRun {s : State} {j : Instr} {x : At} {i op : Nat} {b : BitVec 54} {f : SlotW → Core → State → State}
    (hrow : slotRow j = some (x, i, op, b)) (hop : op ≠ 0x29)
    (hrun : ∀ k t, t.slotRun k x.core (i, slotWord op x.pg x.pn b) = f (slotWord op x.pg x.pn b) k t) : Row s x i op b j f := by
  intro hissues
  obtain ⟨hi, hpos, -⟩ := slotRow_bounds hrow
  have hword := sOp_of_slotRow hrow
  rw [exec_of_slotRow hrow, issue_bundle1 hissues hi (by omega)]
  simp only [issued, hword, hop, and_false, if_false, hrun]


/-! ### Scalar rows -/

section
variable {s : State} {x : At} {l : Fin 2} {b : BitVec 54} {j : Instr} {op : Nat}

/-- A row of a scalar slot has the effect of `scalarRun`. -/
theorem row_of_scalarRun {f : SlotW → Core → State → State} (hrow : slotRow j = some (x, l.val, op, b)) (hop : op ≠ 0x29)
    (hrun : ∀ w k t, sOp w = op → t.scalarRun k x.core w = f w k t) : Row s x l op b j f :=
  row_of_slotRun hrow hop fun k t => by
    have hl : l.val ≤ 1 := by omega
    simp only [State.slotRun, hl, if_true]
    exact hrun _ k t (sOp_of_slotRow hrow)

theorem State.scalarRun_of_alu {w : SlotW} (h : isAlu (sOp w) = true) (t : State) (k : Core) (c : Nat) :
    t.scalarRun k c w = t.onCore c (aluRun k w) := by
  simp [State.scalarRun, h]

theorem aluRun_of_ne {w : SlotW} (h : sOp w ≠ 0x19) (k y : Core) :
    aluRun k w y = y.setG (sA w) (aluOp (sOp w) (k.G (sB w)) (aluB k w)) := by
  simp [aluRun, h]

/-- An ALU row other than ADDS writes g[GD] alone: `src` is its second source, of which `aluOp` may need nothing. -/
theorem row_of_alu {f : Word → Word → Word} {src : SlotW → Core → Word} (hrow : slotRow j = some (x, l.val, op, b))
    (halu : isAlu op = true) (hop : op ≠ 0x19 ∧ op ≠ 0x29) (hres : ∀ w k p, sOp w = op → aluOp op p (aluB k w) = f p (src w k)) :
    Row s x l op b j (onC x.core (gd f src)) := by
  refine row_of_scalarRun hrow hop.2 fun w k t hw => ?_
  rw [State.scalarRun_of_alu (hw ▸ halu)]
  refine congrArg (t.onCore x.core) (funext fun y => ?_)
  rw [aluRun_of_ne (hw ▸ hop.1), hw, hres w k _ hw, gd]

/-- An ALU row of format R. -/
theorem row_of_alu_reg {f : Word → Word → Word} (hrow : slotRow j = some (x, l.val, op, b)) (hreg : isR2 op = true)
    (hop : op ≠ 0x19 ∧ op ≠ 0x29) (hres : ∀ p q, aluOp op p q = f p q) : Row s x l op b j (onC x.core (gd f rB)) :=
  row_of_alu hrow (by simp [isAlu, hreg]) hop fun w k p hw => by simp only [aluB, hw, hreg, if_true, hres, rB]

/-- An ALU row of format I. -/
theorem row_of_alu_imm {f : Word → Word → Word} (hrow : slotRow j = some (x, l.val, op, b)) (himm : 0x10 ≤ op ∧ op ≤ 0x18)
    (hres : ∀ p q, aluOp op p q = f p q) : Row s x l op b j (onC x.core (gd f iB)) := by
  have hreg : isR2 op = false := by simp [isR2]; omega
  exact row_of_alu hrow (by simp [isAlu, himm]) (by omega) fun w k p hw => by
    simp only [aluB, hw, hreg, Bool.false_eq_true, if_false, hres, iB]

end

/-- Settles O1: each row is one ALU operation with its sources in format R or format I. -/
theorem scalarResultsReachGD : Obligations.ScalarResultsReachGD := by
  intro s x l b
  have hreg {op j f} := @row_of_alu_reg s x l b j op f
  have himm {op j f} := @row_of_alu_imm s x l b j op f
  refine ⟨hreg rfl rfl (by decide) fun _ _ => rfl, hreg rfl rfl (by decide) fun _ _ => rfl, hreg rfl rfl (by decide) fun _ _ => rfl,
    hreg rfl rfl (by decide) fun _ _ => rfl, hreg rfl rfl (by decide) fun _ _ => rfl, hreg rfl rfl (by decide) fun _ _ => rfl,
    hreg rfl rfl (by decide) fun _ _ => rfl, hreg rfl rfl (by decide) fun _ _ => rfl, hreg rfl rfl (by decide) fun _ _ => rfl,
    hreg rfl rfl (by decide) fun _ _ => rfl, hreg rfl rfl (by decide) fun _ _ => rfl, hreg rfl rfl (by decide) fun _ _ => rfl,
    hreg rfl rfl (by decide) fun _ _ => rfl, hreg rfl rfl (by decide) fun _ _ => rfl, hreg rfl rfl (by decide) fun _ _ => rfl,
    himm rfl (by decide) fun _ _ => rfl, himm rfl (by decide) fun _ _ => rfl, himm rfl (by decide) fun _ _ => rfl,
    himm rfl (by decide) fun _ _ => rfl, himm rfl (by decide) fun _ _ => rfl, himm rfl (by decide) fun _ _ => rfl,
    himm rfl (by decide) fun _ _ => rfl, himm rfl (by decide) fun _ _ => rfl, himm rfl (by decide) fun _ _ => rfl, ?clz, ?popc⟩
  case clz =>
    refine row_of_alu rfl rfl (by decide) fun _ _ p _ => ?_
    simp only [aluOp, clz, apply_ite (BitVec.ofNat 32)]
    rfl
  case popc => exact row_of_alu rfl rfl (by decide) fun _ _ p _ => rfl

/-! ### ADDS, CMP, the CSR rows and the branches -/

/-- The clamped sum of ADDS. -/
theorem satAdd_eq (a b : Word) : satAdd a b =
    if a.toInt + b.toInt < -2 ^ 31 then (BitVec.ofInt 32 (-2 ^ 31), true)
    else if 2 ^ 31 - 1 < a.toInt + b.toInt then (BitVec.ofInt 32 (2 ^ 31 - 1), true)
    else (BitVec.ofInt 32 (a.toInt + b.toInt), false) := by
  have hmin : (-2 ^ 31 : Int) = -2147483648 := rfl
  have hmax : (2 ^ 31 - 1 : Int) = 2147483647 := rfl
  simp only [satAdd, clampI, ofI, hmin, hmax]
  split_ifs with hlow hhigh
  · simp only [Prod.mk.injEq, decide_eq_true_eq, true_and]; omega
  · simp only [Prod.mk.injEq, decide_eq_true_eq, true_and]; omega
  · simp

/-- Settles O2: each row by the branch of `scalarRun` that its OP takes; CSRW acts before the slots of its bundle. -/
theorem scalarFlagCompareCsrBranchRows : Obligations.ScalarFlagCompareCsrBranchRows := by
  intro s x l b
  refine ⟨?adds, ?cmp, ?csrr, ?csrw, ?br, ?brl, ?jr⟩
  case adds =>
    refine row_of_scalarRun rfl (by decide) fun w k t hw => ?_
    rw [State.scalarRun_of_alu (by rw [hw]; rfl)]
    refine congrArg (t.onCore x.core) (funext fun y => ?_)
    have hsrc : aluB k w = k.G (sC w) := by rw [aluB, hw]; rfl
    simp only [aluRun, hw, aluOp, hsrc, satAdd_eq]
    split
    · simp
    · split <;> simp
  case cmp =>
    refine row_of_scalarRun rfl (by decide) fun w k t hw => ?_
    simp only [State.scalarRun, hw]
    refine congrArg (t.onCore x.core) (funext fun y => ?_)
    rfl
  case csrr => exact row_of_scalarRun rfl (by decide) fun w k t hw => by simp only [State.scalarRun, hw]; rfl
  case csrw =>
    intro hissues
    have hl : l.val ≤ 1 := by omega
    rw [exec_of_slotRow rfl, issue_bundle1 hissues (by omega) (by simp)]
    simp [issued, State.slotRun, State.scalarRun, hl, isAlu, isR2, onC]
    rfl
  case br => exact row_of_scalarRun rfl (by decide) fun w k t hw => by simp only [State.scalarRun, hw]; rfl
  case brl => exact row_of_scalarRun rfl (by decide) fun w k t hw => by simp only [State.scalarRun, hw]; rfl
  case jr => exact row_of_scalarRun rfl (by decide) fun w k t hw => by simp only [State.scalarRun, hw]; rfl

/-! ### Locker rows -/

section
variable {s : State} {x : At} {b : BitVec 54} {j : Instr} {op : Nat}

/-- A row of S2 has the effect of `lockerRun`. -/
theorem row_of_lockerRun {f : SlotW → Core → State → State} (hrow : slotRow j = some (x, 2, op, b)) (hop : op ≠ 0x29)
    (hrun : ∀ w k t, sOp w = op → t.lockerRun k x.core w = f w k t) : Row s x 2 op b j f :=
  row_of_slotRun hrow hop fun k t => hrun _ k t (sOp_of_slotRow hrow)

/-- A load from the core's own Locker reads its bytes at once; any other goes out. -/
theorem State.lockerRun_of_load {w : SlotW} (h : sOp w = 1 ∨ sOp w = 2 ∨ sOp w = 4) (t : State) (k : Core) (c : Nat) :
    t.lockerRun k c w =
      if (k.handle (s2H w)).kind = 0 then
        (t.coreEcc c (t.corrected .locker (lockerKey c ((k.handle (s2H w)).base + s2Ofs k w)) (sSize w))).onCore c (fun y =>
          y.loadTo (loadDest w) (memReadN t.locker (lockerKey c ((k.handle (s2H w)).base + s2Ofs k w)) (sSize w)))
      else t.loadOut k c w := by
  have h0 : sOp w ≠ 0 := by omega
  have h3 : sOp w ≠ 3 := by omega
  have h5 : sOp w ≠ 5 := by omega
  simp only [State.lockerRun, h0, h3, h5, if_false]
  rfl

end

/-- Settles O3: the loads by where their handle points, the store by where it points and its size, PREF by its one test. -/
theorem lockerSlotRows : Obligations.LockerSlotRows := by
  intro s x b
  refine ⟨?ld, ?lds, ?ldbc, ?st, ?pref⟩
  case ld =>
    refine row_of_lockerRun rfl (by decide) fun w k t hw => ?_
    have hdest : loadDest w = if sSize w = 128 then .vector (sA w) else .scalar (sA w) false := by simp [loadDest, hw]
    rw [State.lockerRun_of_load (by omega), hdest]
  case lds =>
    refine row_of_lockerRun rfl (by decide) fun w k t hw => ?_
    have hdest : loadDest w = if sSize w = 128 then .vector (sA w) else .scalar (sA w) true := by simp [loadDest, hw]
    rw [State.lockerRun_of_load (by omega), hdest]
  case ldbc =>
    refine row_of_lockerRun rfl (by decide) fun w k t hw => ?_
    have hdest : loadDest w = .splat (sA w) := by simp [loadDest, hw]
    rw [State.lockerRun_of_load (by omega), hdest]
  case st =>
    refine row_of_lockerRun rfl (by decide) fun w k t hw => ?_
    by_cases hsize : sSize w = 128 <;> simp [State.lockerRun, hw, State.lockerStore, storeBytes, hsize]
  case pref =>
    refine row_of_lockerRun rfl (by decide) fun w k t hw => ?_
    simp only [State.lockerRun, hw]
    cases hline : t.hasLine k.house (((k.handle (s2H w)).base + s2Ofs k w) / 64 * 64) <;> simp

/-! ### Vector rows -/

section
variable {s : State} {x : At} {b : BitVec 54} {j : Instr} {op : Nat}

/-- A row of S3 has the effect of `vecRun` on its core. -/
theorem row_of_vecRun {f : SlotW → Core → Core → Core} (hrow : slotRow j = some (x, 3, op, b)) (hop : op ≠ 0x29)
    (hrun : ∀ w k y, sOp w = op → vecRun k w y = f w k y) : Row s x 3 op b j (onC x.core f) :=
  row_of_slotRun hrow hop fun k t => congrArg (t.onCore x.core) (funext fun y => hrun _ k y (sOp_of_slotRow hrow))

/-- The OPs of S3 whose result goes to v[VD]. -/
def writesV (op : Nat) : Bool := decide (op ≠ 0) && decide (op ≠ 0x16) && decide (op ≠ 0x1A) && decide (op ≠ 0x1B)

theorem vecRun_of_writesV {w : SlotW} (h : writesV (sOp w) = true) (k y : Core) :
    vecRun k w y = (y.setV (sA w) (vecOp k w).1).orFlags (vecOp k w).2 := by
  simp only [writesV, Bool.and_eq_true, decide_eq_true_eq] at h
  obtain ⟨⟨⟨h0, h16⟩, h1A⟩, h1B⟩ := h
  simp only [vecRun]

/-- A row that writes v[VD]: `res` is its result with the flags of all lanes. -/
theorem row_of_vecOp {res : SlotW → Core → VWord × Flags} (hrow : slotRow j = some (x, 3, op, b)) (hop : writesV op = true ∧ op ≠ 0x29)
    (hres : ∀ w k, sOp w = op → vecOp k w = res w k) :
    Row s x 3 op b j (onC x.core (fun w k y => (y.setV (sA w) (res w k).1).orFlags (res w k).2)) :=
  row_of_vecRun hrow hop.2 fun w k y hw => by rw [vecRun_of_writesV (hw ▸ hop.1), hres w k hw]

end

/-- Settles O4: the rows that write v[VD] by the branch of `vecOp` that their OP takes, the others by that of `vecRun`. -/
theorem vectorSlotRows : Obligations.VectorSlotRows := by
  intro s x b
  have hvec {op j res} := @row_of_vecOp s x b j op res
  refine ⟨hvec rfl (by decide) ?_, hvec rfl (by decide) ?_, hvec rfl (by decide) ?_, hvec rfl (by decide) ?_, hvec rfl (by decide) ?_,
    hvec rfl (by decide) ?_, hvec rfl (by decide) ?_, hvec rfl (by decide) ?_, hvec rfl (by decide) ?_, hvec rfl (by decide) ?_,
    hvec rfl (by decide) ?_, hvec rfl (by decide) ?_, hvec rfl (by decide) ?_, hvec rfl (by decide) ?_, hvec rfl (by decide) ?_,
    hvec rfl (by decide) ?_, hvec rfl (by decide) ?_, hvec rfl (by decide) ?_, hvec rfl (by decide) ?_, hvec rfl (by decide) ?_,
    hvec rfl (by decide) ?_, ?vext, hvec rfl (by decide) ?_, hvec rfl (by decide) ?_, hvec rfl (by decide) ?_, ?vany, ?vall,
    hvec rfl (by decide) ?_⟩
  case vext => exact row_of_vecRun rfl (by decide) fun w k y hw => by simp only [vecRun, hw]; rfl
  case vany => exact row_of_vecRun rfl (by decide) fun w k y hw => by simp only [vecRun, hw]
  case vall => exact row_of_vecRun rfl (by decide) fun w k y hw => by simp only [vecRun, hw]
  all_goals exact fun w k hw => by simp only [vecOp, hw] <;> rfl

/-! ### Matrix and transfer rows -/

section
variable {s : State} {x : At} {b : BitVec 54} {j : Instr} {op : Nat}

/-- A row of S4 or S5 queues the command that `matrixOp` reads from its word. -/
theorem row_of_matrixOp {a : Fin 2} {o : SlotW → Core → ArrOp} (hrow : slotRow j = some (x, 4 + a.val, op, b)) (hop : op ≠ 0x29)
    (hcmd : ∀ w k, sOp w = op → matrixOp k w = o w k) :
    Row s x (4 + a) op b j (onC x.core (fun w k y =>
      y.setArr a (issueSide { y.arr a with queue := (y.arr a).queue ++ [⟨o w k, k.seq⟩] } (o w k)))) :=
  row_of_slotRun hrow hop fun k t => by
    have hw := sOp_of_slotRow hrow
    have hpos : op ≠ 0 := (slotRow_bounds hrow).2.1.ne'
    have harr : 4 + a.val = 4 ∨ 4 + a.val = 5 := by omega
    have hlow : ¬ 4 + a.val ≤ 1 := by omega
    have h2 : 4 + a.val ≠ 2 := by omega
    have h3 : 4 + a.val ≠ 3 := by omega
    simp only [State.slotRun, hlow, h2, h3, harr, if_true, if_false, Nat.add_sub_cancel_left, onC]
    refine congrArg (t.onCore x.core) (funext fun y => ?_)
    simp only [matrixRun, hw, hpos, if_false, hcmd _ k hw]

/-- A row of S6 has the effect of `transferRun`. -/
theorem row_of_transferRun {f : SlotW → Core → State → State} (hrow : slotRow j = some (x, 6, op, b)) (hop : op ≠ 0x29)
    (hrun : ∀ w k t, sOp w = op → t.transferRun k x.core w = f w k t) : Row s x 6 op b j f :=
  row_of_slotRun hrow hop fun k t => hrun _ k t (sOp_of_slotRow hrow)

end

/-- Settles O5: each matrix row by the command of its OP, each transfer row by its branch of `transferRun`. -/
theorem matrixAndTransferRowsQueueOneCommand : Obligations.MatrixAndTransferRowsQueueOneCommand := by
  refine ⟨fun s x a b => ?matrix, fun s x b => ?transfer⟩
  case matrix =>
    have harr {op j o} := @row_of_matrixOp s x b j op a o
    refine ⟨harr rfl (by decide) ?_, harr rfl (by decide) ?_, harr rfl (by decide) ?_, harr rfl (by decide) ?_, harr rfl (by decide) ?_,
      harr rfl (by decide) ?_, harr rfl (by decide) ?_, harr rfl (by decide) ?_⟩
    all_goals exact fun w k hw => by simp only [matrixOp, hw] <;> rfl
  case transfer =>
    have hxfer {op j f} := @row_of_transferRun s x b j op f
    refine ⟨hxfer rfl (by decide) ?_, hxfer rfl (by decide) ?_, hxfer rfl (by decide) ?_, hxfer rfl (by decide) ?_, hxfer rfl (by decide) ?_⟩
    all_goals exact fun w k t hw => by simp only [State.transferRun, hw] <;> rfl

/-! ### Control rows -/

section
variable {s : State} {x : At} {b : BitVec 54} {z : BitVec 50} {j : Instr} {op : Nat}

/-- A row of S7 has the effect of `controlRun`. -/
theorem row_of_controlRun {f : SlotW → Core → State → State} (hrow : slotRow j = some (x, 7, op, b)) (hop : op ≠ 0x29)
    (hrun : ∀ w k t, sOp w = op → t.controlRun k x.core w = f w k t) : Row s x 7 op b j f :=
  row_of_slotRun hrow hop fun k t => hrun _ k t (sOp_of_slotRow hrow)

/-- FENCE's kind, the low four bits of its body, in the slot word. -/
theorem fld_slotWord_fence (pg : Nat) (pn : Bool) (z : BitVec 50) (n : BitVec 4) : fld (slotWord op pg pn (z ++ n)) 3 0 = n.toNat := by
  have hn := n.isLt
  have hbody : (z ++ n).toNat = z.toNat * 2 ^ 4 + n.toNat := by
    rw [BitVec.toNat_append, ← Nat.shiftLeft_add_eq_or_of_lt hn, Nat.shiftLeft_eq]
  rw [fld, toNat_slotWord, Nat.shiftRight_zero, hbody]
  omega

/-- A FENCE row has the effect of its kind. -/
theorem row_of_fence {n : BitVec 4} {f : SlotW → Core → State → State} (hrow : slotRow j = some (x, 7, 0x05, z ++ n))
    (hrun : ∀ w k t, sOp w = 0x05 → fld w 3 0 = n.toNat → t.controlRun k x.core w = f w k t) : Row s x 7 0x05 (z ++ n) j f :=
  row_of_slotRun hrow (by decide) fun k t => hrun _ k t (sOp_of_slotRow hrow) (fld_slotWord_fence _ _ z n)

end

/-- Settles O6: each row by its branch of `controlRun`, FENCE by its kind. -/
theorem controlSlotRows : Obligations.ControlSlotRows := by
  intro s x b z
  have hrow {op j f} := @row_of_controlRun s x b j op f
  have hfence {j n f} := @row_of_fence s x z j n f
  refine ⟨hrow rfl (by decide) ?_, hrow rfl (by decide) ?_, hrow rfl (by decide) ?_, hrow rfl (by decide) ?_,
    hfence rfl ?sl, hfence rfl ?ss, hfence rfl ?all, hfence rfl ?m0, hfence rfl ?m1, hfence rfl ?m, hfence rfl ?x,
    hrow rfl (by decide) ?_, hrow rfl (by decide) ?_, hrow rfl (by decide) ?_, hrow rfl (by decide) ?_, hrow rfl (by decide) ?_,
    hrow rfl (by decide) ?_, hrow rfl (by decide) ?_, hrow rfl (by decide) ?_, hrow rfl (by decide) ?_, hrow rfl (by decide) ?_⟩
  case sl | ss | all | m0 | m1 | m | x => exact fun w k t hw hkind => by simp only [State.controlRun, hw, hkind]; rfl
  all_goals exact fun w k t hw => by simp only [State.controlRun, hw] <;> rfl

end Sys2Proof.Machine
end

section
/-! PROOFS. The attempts of a core to issue: stalls, slots that are off, faults (R61, R68 to R72, R94, R444). -/
namespace Sys2Proof.Machine
open Claim

/-! ### One attempt to issue -/

section
variable {s : State} {c i : Nat} {w : SlotW} {ws : List SlotW}

/-- The attempts after which the core has issued nothing (R61, R71, R444). -/
theorem State.issue_of_idle (h : (s.progress c).canIssue c = false) : s.issue c ws = s.progress c := by
  simp [State.issue, h]

theorem State.issue_of_break (h : (s.progress c).canIssue c = true) (hbreak : ((s.progress c).core c).atBreak = true) :
    s.issue c ws = (s.progress c).setCore c { (s.progress c).core c with halted := true } := by
  simp [State.issue, h, hbreak]

theorem State.issue_of_depStall (h : (s.progress c).canIssue c = true) (hbreak : ((s.progress c).core c).atBreak = false)
    (hdep : (s.progress c).depStall ((s.progress c).core c) c ws = true) : s.issue c ws = (s.progress c).csrCount c 0x1A 1 := by
  simp [State.issue, h, hbreak, hdep]

theorem State.issue_of_queueStall (h : (s.progress c).canIssue c = true) (hbreak : ((s.progress c).core c).atBreak = false)
    (hdep : (s.progress c).depStall ((s.progress c).core c) c ws = false)
    (hqueue : (s.progress c).queueStall ((s.progress c).core c) c ws = true) : s.issue c ws = (s.progress c).csrCount c 0x1E 1 := by
  simp [State.issue, h, hbreak, hdep, hqueue]

/-- A bundle that is ready takes effect. -/
theorem State.issue_of_ready (h : Ready s c i w) :
    s.issue c (bundle1 i w) = (s.progress c).runBundle ((s.progress c).core c) c (bundle1 i w) := by
  obtain ⟨hruns, hbreak, hstep, hdep, hqueue, hlegal⟩ := h
  simp [State.issue, hruns, hbreak, hstep, hdep, hqueue, hlegal]

end

/-! ### Slots whose guard is off (R68, R69) -/

/-- The slot of a row whose guard is off does not execute. -/
theorem runSlots_bundle1_off {k : Core} {i : Nat} {w : SlotW} (hi : i < 8) (h : sOp w ≠ 0) (g : k.guard w = false) :
    runSlots k (bundle1 i w) = [] := by
  have hw : w ≠ 0 := fun q => h (by rw [q]; rfl)
  simp [runSlots, usedSlots_bundle1 hi hw, g]

@[simp] theorem dropRegFaults_nil (k : Core) : dropRegFaults [] k = k := by
  simp [dropRegFaults]

/-- A bundle none of whose slots executes moves the pc and is counted. -/
theorem State.runBundle_of_none {k : Core} {ws : List SlotW} (h : runSlots k ws = []) (t : State) (c : Nat) :
    t.runBundle k c ws = ((t.onCore c (fun y =>
      { y with pc := (loopEnd k.pc k.loops).1, loops := (loopEnd k.pc k.loops).2, seq := k.seq + 1, bpSkip := false })).csrCount c 0x18
      1).progress c := by
  simp [State.runBundle, State.beginBundle, h, nextPc]

/-- A slot of zeros is legal. -/
theorem slotLegal_zero (pc i : Nat) : slotLegal pc i 0 = true := by
  unfold slotLegal
  split <;> rfl

section
variable {s : State} {k : Core} {c i : Nat} {ws : List SlotW} {w : SlotW}

/-- The faults of a slot: its decode faults, then those of a slot that executes. -/
theorem State.slotFault_of_illegal (h : slotLegal k.pc i w = false) :
    s.slotFault k c ws (i, w) = some ⟨0x01, w.toNat / 2 ^ 32, w.toNat % 2 ^ 32⟩ := by
  simp [State.slotFault, h, illegalOp]

theorem State.slotFault_of_clash {n r : Nat} (h : slotLegal k.pc i w = true) (hclash : bundleClash ws = some (i, n, r)) :
    s.slotFault k c ws (i, w) = some ⟨0x02, n * 2 ^ 8 + r, 0⟩ := by
  simp [State.slotFault, h, hclash]

theorem State.slotFault_of_no_clash (h : slotLegal k.pc i w = true) (hclash : ∀ n r, bundleClash ws ≠ some (i, n, r)) :
    s.slotFault k c ws (i, w) = State.slotFault.rest s k c i w := by
  simp only [State.slotFault, h, Bool.not_true, Bool.false_eq_true, if_false]
  split
  next j n r hsome =>
    refine if_neg fun hj => hclash n r ?_
    rw [hsome, hj]
  next => rfl

theorem State.slotFault_rest_of_off (h : k.guard w = false ∨ sOp w = 0) : State.slotFault.rest s k c i w = none := by
  have hoff : (!k.guard w || decide (sOp w = 0)) = true := by simpa using h
  rw [State.slotFault.rest, if_pos hoff]

end

/-- Settles O7: a slot that is off leaves its bundle with none that executes; its faults by what is checked whatever the guard; the attempts that
issue nothing by the test that stops them. -/
theorem rowsWithoutEffectIssueOrWait : Obligations.RowsWithoutEffectIssueOrWait := by
  refine ⟨?off, ?faults, ?waits⟩
  case off =>
    intro s j x i op b hrow k hready hguard
    obtain ⟨hi, hpos, -⟩ := slotRow_bounds hrow
    have hword := sOp_of_slotRow hrow
    rw [exec_of_slotRow hrow, State.issue_of_ready hready, State.runBundle_of_none (runSlots_bundle1_off hi (by omega) hguard)]
  case faults =>
    intro s k c i w ws
    refine ⟨rfl, ?_, ?_, State.slotFault_of_illegal, fun n r => State.slotFault_of_clash, ?_, slotLegal_zero k.pc i⟩
    · intro hpg hpn
      simp [Core.guard, sPG, sPN, hpg, hpn]
    · intro hmem
      have hrun := (List.mem_filter.1 hmem).2
      simpa using hrun
    · intro hlegal hclash hoff
      rw [State.slotFault_of_no_clash hlegal hclash, State.slotFault_rest_of_off hoff]
  case waits =>
    intro s j x i op b hrow c p k ws
    rw [exec_of_slotRow hrow]
    exact ⟨fun h => congrArg _ (State.issue_of_idle h), fun h hb => congrArg _ (State.issue_of_break h hb),
      fun h hb hd => congrArg _ (State.issue_of_depStall h hb hd), fun h hb hd hq => congrArg _ (State.issue_of_queueStall h hb hd hq)⟩

/-! ### Fault records (R94) -/

/-- A plain CSR written reads back. -/
@[simp] theorem Core.C_setC_same (k : Core) (n : Nat) (v : Word) : (k.setC n v).C n = v := mapGet_mapSet_same _ k.csr n v

/-- Every other CSR reads as before. -/
theorem Core.C_setC_ne (k : Core) {n m : Nat} (v : Word) (h : m ≠ n) : (k.setC n v).C m = k.C m := mapGet_mapSet_ne _ k.csr v h

/-- What a fault record leaves of a core: all but its CSRs. -/
@[simp] theorem Core.record_frame (k : Core) (f : CoreFault) (slot pc : Nat) :
    (k.record f slot pc).g = k.g ∧ (k.record f slot pc).v = k.v ∧ (k.record f slot pc).p = k.p ∧ (k.record f slot pc).pc = k.pc ∧
    (k.record f slot pc).halted = k.halted ∧ (k.record f slot pc).stepping = k.stepping := by
  unfold Core.record
  split <;> exact ⟨rfl, rfl, rfl, rfl, rfl, rfl⟩

/-- The first fault fills the record. -/
theorem Core.record_of_free {k : Core} (h : bit (k.C 0x10) 31 = false) (f : CoreFault) (slot pc : Nat) :
    (k.record f slot pc).C 0x10 = BitVec.ofNat 32 (2 ^ 31 + slot * 2 ^ 8 + f.cause) ∧ (k.record f slot pc).C 0x11 = BitVec.ofNat 32 pc ∧
    (k.record f slot pc).C 0x12 = BitVec.ofNat 32 f.info ∧ (k.record f slot pc).C 0x13 = BitVec.ofNat 32 f.addr := by
  simp [Core.record, h, Core.C_setC_ne]

/-- A fault beside a record that is held sets MULTI alone. -/
theorem Core.record_of_held {k : Core} (h : bit (k.C 0x10) 31 = true) (f : CoreFault) (slot pc : Nat) :
    (k.record f slot pc).C 0x10 = setBit (k.C 0x10) 30 true ∧ (k.record f slot pc).C 0x11 = k.C 0x11 ∧
    (k.record f slot pc).C 0x12 = k.C 0x12 ∧ (k.record f slot pc).C 0x13 = k.C 0x13 := by
  simp [Core.record, h, Core.C_setC_ne]

/-- Raising a held fault leaves the registers, the pc and the halt of its core. -/
@[simp] theorem clearHeld_frame (f : CoreFault) (k : Core) :
    (clearHeld f k).g = k.g ∧ (clearHeld f k).v = k.v ∧ (clearHeld f k).p = k.p ∧ (clearHeld f k).csr = k.csr ∧ (clearHeld f k).pc = k.pc ∧
    (clearHeld f k).halted = k.halted ∧ (clearHeld f k).stepping = k.stepping := by
  simp only [clearHeld]
  split_ifs <;> exact ⟨rfl, rfl, rfl, rfl, rfl, rfl, rfl⟩

/-- A core that has taken a fault: its record is written, it is stopped, and its waits are over. -/
def Core.faulted (k : Core) (f : CoreFault) (slot pc : Nat) : Core := { k.record f slot pc with stopped := true, respond := true, waits := [] }

theorem State.core_takeFault_same (s : State) (c : Nat) (f : CoreFault) (slot pc : Nat) :
    (s.takeFault c f slot pc).core c = (s.core c).faulted f slot pc := State.core_setCore_same s c _

theorem State.core_takeFault_ne (s : State) {c d : Nat} (f : CoreFault) (slot pc : Nat) (h : d ≠ c) :
    (s.takeFault c f slot pc).core d = s.core d := State.core_setCore_ne s _ h

/-! ### A bundle that faults -/

section
variable {s : State} {c n : Nat} {ws : List SlotW} {f : CoreFault}

/-- A faulting bundle stops its core with the record of its fault, and a single step ends. -/
def State.faultStop (p : State) (c n : Nat) (f : CoreFault) : State :=
  let t := (p.onCore c (clearHeld f)).takeFault c f n (p.core c).pc
  if (p.core c).stepping then t.onCore c (fun y => { y with halted := true, stepping := false }) else t

theorem State.issue_of_fault (h : (s.progress c).canIssue c = true) (hbreak : ((s.progress c).core c).atBreak = false)
    (hdep : (s.progress c).depStall ((s.progress c).core c) c ws = false)
    (hqueue : (s.progress c).queueStall ((s.progress c).core c) c ws = false)
    (hfault : (s.progress c).bundleFault ((s.progress c).core c) c ws = some (n, f)) : s.issue c ws = (s.progress c).faultStop c n f := by
  simp [State.issue, State.faultStop, h, hbreak, hdep, hqueue, hfault]

theorem State.core_faultStop_same (p : State) (c n : Nat) (f : CoreFault) :
    (p.faultStop c n f).core c = { (clearHeld f (p.core c)).faulted f n (p.core c).pc with
      halted := (p.core c).halted || (p.core c).stepping, stepping := false } := by
  have hcore := (p.onCore c (clearHeld f)).core_takeFault_same c f n (p.core c).pc
  rw [State.core_onCore_same] at hcore
  cases hstep : (p.core c).stepping
  · simp only [State.faultStop, hstep, Bool.false_eq_true, if_false, hcore, Bool.or_false]
    simp [Core.faulted, hstep]
  · simp only [State.faultStop, hstep, if_true, State.core_onCore_same, hcore, Bool.or_true]

theorem State.core_faultStop_ne (p : State) {c d : Nat} (n : Nat) (f : CoreFault) (h : d ≠ c) : (p.faultStop c n f).core d = p.core d := by
  have hcore := (State.core_takeFault_ne (p.onCore c (clearHeld f)) f n (p.core c).pc h).trans (State.core_onCore_ne p (clearHeld f) h)
  unfold State.faultStop
  split
  · exact (State.core_onCore_ne _ _ h).trans hcore
  · exact hcore

theorem State.faultStop_frame (p : State) (c n : Nat) (f : CoreFault) : (p.faultStop c n f).lib = p.lib ∧
    (p.faultStop c n f).locker = p.locker ∧ (p.faultStop c n f).desk = p.desk ∧ (p.faultStop c n f).regs = p.regs := by
  simp only [State.faultStop, State.takeFault, State.unwait, State.onCore]
  split <;> simp

end

/-! ### The fault of a bundle with one slot (R69, R70) -/

section
variable {i : Nat} {w : SlotW}

/-- The slots of a bundle with one in use. -/
theorem mem_slotsOf_bundle1 {x : Nat × SlotW} (h : x ∈ slotsOf (bundle1 i w)) : x.1 < 8 ∧ x.2 = if x.1 = i then w else 0 := by
  simp only [slotsOf, bundle1, List.mem_map, List.mem_range] at h
  obtain ⟨j, hj, rfl⟩ := h
  simp [hj, List.getD_eq_getElem?_getD]

theorem slotDest_zero (j : Nat) : slotDest j 0 = {} := by
  unfold slotDest
  split <;> rfl

/-- A search for nothing finds nothing. -/
@[simp] theorem find?_never {α : Type} (l : List α) : l.find? (fun _ => false) = none := List.find?_eq_none.2 fun _ _ => by simp

/-- One slot alone names no register twice. -/
theorem destClash_bundle1 : destClash (bundle1 i w) = none := by
  refine List.findSome?_eq_none_iff.2 fun x hx => List.findSome?_eq_none_iff.2 fun y hy => ?_
  have hx' := (mem_slotsOf_bundle1 hx).2
  have hy' := (mem_slotsOf_bundle1 hy).2
  by_cases hlt : x.1 < y.1
  · by_cases hi : x.1 = i
    · rw [if_neg (by omega)] at hy'
      simp only [hlt, if_true, hy', slotDest_zero]
      simp
    · rw [if_neg hi] at hx'
      simp only [hlt, if_true, hx', slotDest_zero]
      simp
  · exact if_neg hlt

/-- The one clash of a bundle with one slot: a branch in S1. -/
theorem bundleClash_bundle1 (hi : i < 8) : bundleClash (bundle1 i w) = if i = 1 ∧ isBranch (sOp w) = true then some (1, 3, 0) else none := by
  have hget (j : Nat) (hj : j < 8) : (bundle1 i w).getD j 0 = if j = i then w else 0 := by
    simp [bundle1, hj, List.getD_eq_getElem?_getD]
  have hzero : sOp 0#64 = 0 := rfl
  have hbranch : isBranch 0 = false := rfl
  simp only [bundleClash, destClash_bundle1, hget 0 (by decide), hget 1 (by decide), hget 7 (by decide)]
  by_cases h0 : i = 0
  · subst h0; simp [hzero, hbranch]
  · by_cases h1 : i = 1
    · subst h1; simp [hzero]
    · simp [Ne.symm h0, Ne.symm h1, h1, hzero, hbranch]

/-- An empty slot of a bundle with one in use raises nothing. -/
theorem State.slotFault_zero (s : State) (k : Core) (c : Nat) {j : Nat} (hi : i < 8) (hj : j ≠ i) :
    s.slotFault k c (bundle1 i w) (j, 0) = none := by
  rw [State.slotFault_of_no_clash (slotLegal_zero _ j), State.slotFault_rest_of_off (.inr rfl)]
  intro n r hclash
  rw [bundleClash_bundle1 hi] at hclash
  split at hclash
  next h1 => simp only [Option.some.injEq, Prod.mk.injEq] at hclash; omega
  next => cases hclash

/-- The fault of a bundle with one slot is that slot's. -/
theorem State.bundleFault_bundle1 (s : State) (k : Core) (c : Nat) (hi : i < 8) :
    s.bundleFault k c (bundle1 i w) = (s.slotFault k c (bundle1 i w) (i, w)).map (fun f => (i, f)) := by
  have hcase (j : Nat) (hj : j < 8) : (bundle1 i w).getD j 0 = if j = i then w else 0 := by
    simp [bundle1, hj, List.getD_eq_getElem?_getD]
  have hslot (j : Nat) (hj : j < 8) : s.slotFault k c (bundle1 i w) (j, (bundle1 i w).getD j 0) =
      if j = i then s.slotFault k c (bundle1 i w) (i, w) else none := by
    rw [hcase j hj]
    split
    next h => rw [h]
    next h => exact s.slotFault_zero k c hi h
  have hcases : i = 0 ∨ i = 1 ∨ i = 2 ∨ i = 3 ∨ i = 4 ∨ i = 5 ∨ i = 6 ∨ i = 7 := by omega
  have hrange : List.range 8 = [0, 1, 2, 3, 4, 5, 6, 7] := rfl
  simp only [State.bundleFault, slotsOf, hrange, List.map_cons, List.map_nil, List.findSome?_cons, List.findSome?_nil,
    hslot 0 (by decide), hslot 1 (by decide), hslot 2 (by decide), hslot 3 (by decide), hslot 4 (by decide), hslot 5 (by decide),
    hslot 6 (by decide), hslot 7 (by decide)]
  generalize s.slotFault k c (bundle1 i w) (i, w) = o
  rcases hcases with q | q | q | q | q | q | q | q <;> subst q <;> cases o <;> rfl

/-- TRAP's slot raises TRAP with its CODE, and nothing that is held for a core. -/
theorem State.slotFault_trap (s : State) {k : Core} (c : Nat) (hop : sOp w = 0x10) (hguard : k.guard w = true) (hbody : fld w 53 16 = 0) :
    s.slotFault k c (bundle1 7 w) (7, w) = some ⟨0x09, fld w 15 0, 0⟩ := by
  have hlegal : slotLegal k.pc 7 w = true := by
    simp only [slotLegal, controlLegal, hop, zf, hbody, decide_true]
  have hclash : ∀ n r, bundleClash (bundle1 7 w) ≠ some (7, n, r) := by
    intro n r
    rw [bundleClash_bundle1 (by decide)]
    simp
  have hheld : s.heldFault k c 7 w = none := by
    simp [State.heldFault, slotSrc, pendArrays, pendXfer, hop]
  rw [State.slotFault_of_no_clash hlegal hclash]
  simp [State.slotFault.rest, hguard, hop, hheld, State.controlCheck]

end

/-- Settles O8: a faulting bundle by the state that its stop leaves; the fault of a bundle with one slot is its slot's. -/
theorem stoppingBundlesSetTheFaultRegisters : Obligations.StoppingBundlesSetTheFaultRegisters := by
  refine ⟨?stop, ?decode, ?trap⟩
  case stop =>
    intro s j x i op b hrow c p k ws hissue hbreak hdep hqueue n f hfault
    obtain ⟨hg, hv, hp, hcsr, -, hhalt, -⟩ := clearHeld_frame f k
    obtain ⟨hg', hv', hp', -, -, -⟩ := (clearHeld f k).record_frame f n k.pc
    have hC (m : Nat) : (clearHeld f k).C m = k.C m := by rw [Core.C, Core.C, hcsr]
    have hcore := p.core_faultStop_same c n f
    obtain ⟨hlib, hlocker, hdesk, hregs⟩ := p.faultStop_frame c n f
    refine ⟨p.faultStop c n f, ?_, ?_⟩
    · rw [exec_of_slotRow hrow, State.issue_of_fault hissue hbreak hdep hqueue hfault]
    · rw [hcore]
      refine ⟨rfl, rfl, rfl, ?_, rfl, fun hfree => ?_, fun hheld => ?_, fun r => ⟨?_, ?_, ?_⟩,
        fun d hd => p.core_faultStop_ne n f hd, hlib, hlocker, hdesk, hregs⟩
      · exact ((clearHeld f k).record_frame f n k.pc).2.2.2.1.trans (clearHeld_frame f k).2.2.2.2.1
      · exact Core.record_of_free (by rwa [hC]) f n k.pc
      · have := Core.record_of_held (k := clearHeld f k) (by rwa [hC]) f n k.pc
        simp only [hC] at this
        exact this
      · exact congrArg (fun m => if r = 0 then 0 else mapGet (fun _ => (0 : Word)) m r) (hg'.trans hg)
      · exact congrArg (fun m => mapGet (fun _ => (0 : VWord)) m r) (hv'.trans hv)
      · exact congrArg (fun q : BitVec 8 => if r = 0 then true else bit q r) (hp'.trans hp)
  case decode =>
    intro s k c i w hi
    refine ⟨fun hlegal => ?_, fun h1 hlegal hop => ?_⟩
    · rw [s.bundleFault_bundle1 k c hi, State.slotFault_of_illegal hlegal, Option.map_some]
    · have hclash : bundleClash (bundle1 1 w) = some (1, 3, 0) := by
        rw [bundleClash_bundle1 (by decide), if_pos ⟨rfl, by simpa [isBranch] using or_assoc.2 hop⟩]
      exact (s.bundleFault_bundle1 k c (by decide)).trans (by rw [State.slotFault_of_clash (i := 1) hlegal hclash]; rfl)
  case trap =>
    intro s x b c p k w hissue hbreak hdep hqueue hguard hbody hstep
    have hfault : p.bundleFault k c (bundle1 7 w) = some (7, ⟨0x09, fld w 15 0, 0⟩) := by
      rw [p.bundleFault_bundle1 k c (by decide), p.slotFault_trap c (sOp_of_slotRow (j := .trap x b) rfl) hguard hbody, Option.map_some]
    refine ⟨hfault, ?_⟩
    rw [exec_of_slotRow (j := .trap x b) rfl, State.issue_of_fault hissue hbreak hdep hqueue hfault]
    exact congrArg _ (if_neg (by rw [hstep]; decide))

end Sys2Proof.Machine
end

section
/-! PROOFS. What a row of a tile core leaves as it was, and where its pc goes (R65, R66, R72, R79, R80, R82, R156, R157). -/
namespace Sys2Proof.Machine
open Claim

/-! ### Changes of one core -/

/-- State t is s but for core c. -/
structure OnlyCore (c : Nat) (s t : State) : Prop where
  rest : { t with cores := s.cores } = s
  others : ∀ e, e ≠ c → t.core e = s.core e

namespace OnlyCore
variable {c : Nat} {s t u : State}

theorem refl (c : Nat) (s : State) : OnlyCore c s s := ⟨rfl, fun _ _ => rfl⟩

theorem trans (h : OnlyCore c s t) (h' : OnlyCore c t u) : OnlyCore c s u where
  rest := by
    have hrest : { u with cores := s.cores } = { t with cores := s.cores } := congrArg (fun v : State => { v with cores := s.cores }) h'.rest
    rw [hrest, h.rest]
  others e he := (h'.others e he).trans (h.others e he)

theorem setCore (s : State) (c : Nat) (k : Core) : OnlyCore c s (s.setCore c k) := ⟨rfl, fun _ he => State.core_setCore_ne s k he⟩

theorem onCore (s : State) (c : Nat) (f : Core → Core) : OnlyCore c s (s.onCore c f) := setCore s c _

end OnlyCore

/-! ### What a core does by itself -/

section
variable {s : State} {c : Nat}

theorem State.doSignals_of_none (h : (s.core c).signals = []) : OnlyCore c s (s.doSignals c) ∧ (s.doSignals c).core c = s.core c := by
  unfold State.doSignals
  split
  · simp only [h, List.foldl_nil]
    refine ⟨OnlyCore.onCore s c _, ?_⟩
    rw [State.core_onCore_same, ← h]
  · exact ⟨OnlyCore.refl c s, rfl⟩

theorem State.doTdones_of_none (h : (s.core c).tdones = []) : s.doTdones c = s := by
  simp [State.doTdones, h]

/-- A core with nothing to complete ends waits, and may become idle. -/
theorem State.progress_of_none (hsig : (s.core c).signals = []) (htd : (s.core c).tdones = []) :
    OnlyCore c s (s.progress c) ∧ ∃ ws idle, (s.progress c).core c = { s.core c with waits := ws, idle := idle } := by
  obtain ⟨honly, hcore⟩ := State.doSignals_of_none hsig
  have htd' : (s.doSignals c).doTdones c = s.doSignals c := State.doTdones_of_none (by rw [hcore, htd])
  rw [State.progress, htd']
  refine ⟨honly.trans (OnlyCore.setCore _ c _), (s.core c).waits.filter (fun w => !(s.doSignals c).waitOver c w),
    (s.core c).idle || ((s.core c).waits.contains .done && (s.doSignals c).allDone c), ?_⟩
  rw [State.dropWaits, State.core_setCore_same, hcore]

theorem Claim.Quiet.progress (h : Quiet s c) :
    OnlyCore c s (s.progress c) ∧ ∃ ws idle, (s.progress c).core c = { s.core c with waits := ws, idle := idle } :=
  State.progress_of_none h.signals h.tdones

end

/-! ### The start of a bundle -/

/-- A counter of 48 bits below its end counts in its core alone. -/
theorem State.csrCount_of_below {s : State} {c lo n : Nat}
    (h : ((s.core c).C lo).toNat + 2 ^ 32 * ((s.core c).C (lo + 1)).toNat + n < 2 ^ 48) :
    s.csrCount c lo n = s.setCore c (((s.core c).setC lo (BitVec.ofNat 32 (((s.core c).C lo).toNat + 2 ^ 32 * ((s.core c).C (lo + 1)).toNat + n))).setC
      (lo + 1) (BitVec.ofNat 32 ((((s.core c).C lo).toNat + 2 ^ 32 * ((s.core c).C (lo + 1)).toNat + n) / 2 ^ 32 % 2 ^ 16))) := by
  simp only [State.csrCount, h, if_true]

/-- Where a bundle with one slot goes, and the loops after it (R79, R80). -/
def Core.goes (k : Core) (i : Nat) (w : SlotW) : Nat × List Loop :=
  nextPc k (if i = 0 ∧ isBranch (sOp w) = true then some w else none) (if i = 7 ∧ sOp w = 0x0E then some w else none)

/-- The core after the issue of a bundle with one slot, before the slot acts. -/
def Core.begun (k : Core) (i : Nat) (w : SlotW) : Core :=
  let y := dropRegFaults [(i, w)] { k with pc := (k.goes i w).1, loops := (k.goes i w).2, seq := k.seq + 1, bpSkip := false }
  let n := (k.C 0x18).toNat + 2 ^ 32 * (k.C 0x19).toNat + 1
  (y.setC 0x18 (BitVec.ofNat 32 n)).setC 0x19 (BitVec.ofNat 32 (n / 2 ^ 32 % 2 ^ 16))

theorem State.beginBundle_bundle1 {s : State} {c i : Nat} {w : SlotW} (hi : i < 8) (hop : sOp w ≠ 0) (hguard : (s.core c).guard w = true)
    (hcount : ((s.core c).C 0x18).toNat + 2 ^ 32 * ((s.core c).C 0x19).toNat < 2 ^ 48 - 1) :
    OnlyCore c s (s.beginBundle (s.core c) c (bundle1 i w)) ∧
    (s.beginBundle (s.core c) c (bundle1 i w)).core c = (s.core c).begun i w := by
  have hgoes : nextPc (s.core c) (([(i, w)].find? (fun x => x.1 = 0 && isBranch (sOp x.2))).map (·.2))
      (([(i, w)].find? (fun x => x.1 = 7 && sOp x.2 = 0x0E)).map (·.2)) = (s.core c).goes i w := by
    unfold Core.goes
    congr 1
    · by_cases h : i = 0 ∧ isBranch (sOp w) = true <;> simp [h]
    · by_cases h : i = 7 ∧ sOp w = 0x0E <;> simp [h]
  simp only [State.beginBundle, runSlots_bundle1 hi hop hguard, hgoes]
  rw [State.csrCount_of_below]
  · refine ⟨(OnlyCore.onCore s c _).trans (OnlyCore.setCore _ c _), ?_⟩
    rw [State.core_setCore_same, State.core_onCore_same]
    rfl
  · rw [State.core_onCore_same]
    show ((s.core c).C 0x18).toNat + 2 ^ 32 * ((s.core c).C 0x19).toNat + 1 < 2 ^ 48
    omega

/-! ### What a slot writes -/

/-- Core y' is y but for the registers of d, FFLAGS and the snapshots of counters. -/
structure WritesOnly (d : RegSet) (y y' : Core) : Prop where
  rest : { y' with g := y.g, v := y.v, p := y.p, csr := y.csr, snap := y.snap } = y
  g : ∀ r, r ∉ d.g → y'.G r = y.G r
  v : ∀ r, r ∉ d.v → y'.V r = y.V r
  p : ∀ r, r ∉ d.p → y'.P r = y.P r
  csr : ∀ n, n ≠ 8 → y'.C n = y.C n

/-- Every other vector register reads as before. -/
theorem Core.V_setV_ne (k : Core) {r q : Nat} (v : VWord) (h : q ≠ r) : (k.setV r v).V q = k.V q := mapGet_mapSet_ne _ k.v v h

/-- Every other predicate reads as before. -/
theorem Core.P_setP_ne (k : Core) {r q : Nat} (b : Bool) (h : q ≠ r) : (k.setP r b).P q = k.P q := by
  unfold Core.setP
  split
  · rfl
  · simp only [Core.P]
    split
    · rfl
    · by_cases hq : q < 8
      · exact bit_setBit_ne k.p b hq h
      · rw [bit, bit, BitVec.getLsbD_of_ge _ q (by omega), BitVec.getLsbD_of_ge _ q (by omega)]

namespace WritesOnly
variable {d : RegSet} {y y' y'' : Core}

theorem refl (d : RegSet) (y : Core) : WritesOnly d y y := ⟨rfl, fun _ _ => rfl, fun _ _ => rfl, fun _ _ => rfl, fun _ _ => rfl⟩

theorem trans (h : WritesOnly d y y') (h' : WritesOnly d y' y'') : WritesOnly d y y'' where
  rest := by
    have hrest := congrArg (fun k : Core => { k with g := y.g, v := y.v, p := y.p, csr := y.csr, snap := y.snap }) h'.rest
    exact hrest.trans h.rest
  g r hr := (h'.g r hr).trans (h.g r hr)
  v r hr := (h'.v r hr).trans (h.v r hr)
  p r hr := (h'.p r hr).trans (h.p r hr)
  csr n hn := (h'.csr n hn).trans (h.csr n hn)

theorem setG (y : Core) {r : Nat} (hr : r ∈ d.g) (w : Word) : WritesOnly d y (y.setG r w) where
  rest := by unfold Core.setG; split <;> rfl
  g _ hq := Core.G_setG_ne y w fun h => hq (h ▸ hr)
  v _ _ := by unfold Core.setG; split <;> rfl
  p _ _ := by unfold Core.setG; split <;> rfl
  csr _ _ := by unfold Core.setG; split <;> rfl

theorem setV (y : Core) {r : Nat} (hr : r ∈ d.v) (w : VWord) : WritesOnly d y (y.setV r w) where
  rest := rfl
  g _ _ := rfl
  v _ hq := Core.V_setV_ne y w fun h => hq (h ▸ hr)
  p _ _ := rfl
  csr _ _ := rfl

theorem setP (y : Core) {r : Nat} (hr : r ∈ d.p) (b : Bool) : WritesOnly d y (y.setP r b) where
  rest := by unfold Core.setP; split <;> rfl
  g _ _ := by unfold Core.setP; split <;> rfl
  v _ _ := by unfold Core.setP; split <;> rfl
  p _ hq := Core.P_setP_ne y b fun h => hq (h ▸ hr)
  csr _ _ := by unfold Core.setP; split <;> rfl

theorem setFlags (d : RegSet) (y : Core) (w : Word) : WritesOnly d y (y.setC 8 w) :=
  ⟨rfl, fun _ _ => rfl, fun _ _ => rfl, fun _ _ => rfl, fun _ hn => Core.C_setC_ne y w hn⟩

theorem orFlags (d : RegSet) (y : Core) (f : Flags) : WritesOnly d y (y.orFlags f) := setFlags d y _

end WritesOnly

/-! ### Register rows (R65, R66, R72) -/

/-- The slots whose rows change registers of their core alone: S0, S1, S3, and S7 with a predicate row or LOOP. -/
def registerSlot (i op : Nat) : Prop := i ≤ 1 ∨ i = 3 ∨ (i = 7 ∧ 9 ≤ op ∧ op ≤ 0x0E)

section
variable {k y : Core} {w : SlotW}

theorem slotDest_scalar {i : Nat} (hi : i ≤ 1) (w : SlotW) : slotDest i w = slotDest 0 w := by
  interval_cases i <;> rfl

theorem slotDest_of_alu (h : isAlu (sOp w) = true) : sA w ∈ (slotDest 0 w).g := by
  have hwrites : isR2 (sOp w) = true ∨ (0x10 ≤ sOp w ∧ sOp w ≤ 0x18) ∨ sOp w = 0x1A ∨ sOp w = 0x1B ∨ sOp w = 0x28 ∨ sOp w = 0x31 := by
    simp only [isAlu, Bool.or_eq_true, Bool.and_eq_true, decide_eq_true_eq] at h
    tauto
  simp [slotDest, hwrites]

theorem slotDest_scalar_g (h : sOp w = 0x28 ∨ sOp w = 0x31) : sA w ∈ (slotDest 0 w).g := by
  rcases h with h | h <;> simp [slotDest, h]

theorem slotDest_cmp (h : sOp w = 0x20) : fld w 53 51 ∈ (slotDest 0 w).p := by
  simp [slotDest, h, isR2]

theorem WritesOnly.aluRun (h : isAlu (sOp w) = true) (k y : Core) : WritesOnly (slotDest 0 w) y (aluRun k w y) := by
  have hres := WritesOnly.setG y (slotDest_of_alu h) (aluOp (sOp w) (k.G (sB w)) (aluB k w))
  unfold Sys2Proof.Machine.aluRun
  dsimp only
  split
  · exact hres.trans (WritesOnly.orFlags _ _ _)
  · exact hres

/-- The vector slot writes its destination and FFLAGS. -/
theorem WritesOnly.vecRun (k : Core) (w : SlotW) (y : Core) : WritesOnly (slotDest 3 w) y (vecRun k w y) := by
  by_cases h0 : sOp w = 0
  · simpa [Sys2Proof.Machine.vecRun, h0] using WritesOnly.refl _ y
  by_cases h16 : sOp w = 0x16
  · simpa [Sys2Proof.Machine.vecRun, h16] using WritesOnly.setG y (by simp [slotDest, h16]) _
  by_cases h1A : sOp w = 0x1A
  · simpa [Sys2Proof.Machine.vecRun, h1A] using WritesOnly.setP y (by simp [slotDest, h1A]) _
  by_cases h1B : sOp w = 0x1B
  · simpa [Sys2Proof.Machine.vecRun, h1B] using WritesOnly.setP y (by simp [slotDest, h1B]) _
  rw [vecRun_of_writesV (by simp [writesV, h0, h16, h1A, h1B])]
  exact (WritesOnly.setV y (by simp [slotDest, h0, h16, h1A, h1B]) _).trans (WritesOnly.orFlags _ _ _)

end

/-- State t is s but for what a slot writes in its core c. -/
structure SlotWrites (c i : Nat) (w : SlotW) (s t : State) : Prop where
  only : OnlyCore c s t
  core : WritesOnly (slotDest i w) (s.core c) (t.core c)

namespace SlotWrites
variable {c i : Nat} {w : SlotW} {s t u : State}

theorem refl (c i : Nat) (w : SlotW) (s : State) : SlotWrites c i w s s := ⟨OnlyCore.refl c s, WritesOnly.refl _ _⟩

theorem trans (h : SlotWrites c i w s t) (h' : SlotWrites c i w t u) : SlotWrites c i w s u :=
  ⟨h.only.trans h'.only, h.core.trans h'.core⟩

theorem onCore (s : State) {f : Core → Core} (h : WritesOnly (slotDest i w) (s.core c) (f (s.core c))) : SlotWrites c i w s (s.onCore c f) :=
  ⟨OnlyCore.onCore s c f, by rwa [State.core_onCore_same]⟩

end SlotWrites

/-- A CSR read changes the snapshots of its core alone. -/
theorem State.csrRead_writes (s : State) (c n i : Nat) (w : SlotW) : SlotWrites c i w s (s.csrRead c n).2 := by
  have hset (snap : Map (Option Word)) : SlotWrites c i w s (s.setCore c { s.core c with snap := snap }) :=
    ⟨OnlyCore.setCore s c _, by
      rw [State.core_setCore_same]
      exact ⟨rfl, fun _ _ => rfl, fun _ _ => rfl, fun _ _ => rfl, fun _ _ => rfl⟩⟩
  unfold State.csrRead
  dsimp only
  split
  · exact hset _
  · split
    · exact hset _
    · exact SlotWrites.refl c i w s

theorem State.csrrRun_eq (s : State) (c : Nat) (w : SlotW) :
    s.csrrRun c w = (s.csrRead c (fld w 11 0)).2.onCore c (fun y => y.setG (sA w) (s.csrRead c (fld w 11 0)).1) := rfl

theorem State.scalarRun_writes (s : State) (k : Core) (c : Nat) (w : SlotW) : SlotWrites c 0 w s (s.scalarRun k c w) := by
  unfold State.scalarRun
  dsimp only
  split_ifs with halu hcmp hcsrr hbrl
  · exact SlotWrites.onCore s (WritesOnly.aluRun halu k _)
  · exact SlotWrites.onCore s (WritesOnly.setP _ (slotDest_cmp hcmp) _)
  · rw [State.csrrRun_eq]
    exact (s.csrRead_writes c (fld w 11 0) 0 w).trans (SlotWrites.onCore _ (WritesOnly.setG _ (slotDest_scalar_g (.inl hcsrr)) _))
  · exact SlotWrites.onCore s (WritesOnly.setG _ (slotDest_scalar_g (.inr hbrl)) _)
  · exact SlotWrites.refl c 0 w s

/-- A predicate row writes its predicate, LOOP nothing. -/
theorem State.controlRun_writes (s : State) (k : Core) (c : Nat) {w : SlotW} (h : 9 ≤ sOp w ∧ sOp w ≤ 0x0E) :
    SlotWrites c 7 w s (s.controlRun k c w) := by
  have hpred (hop : sOp w ≤ 0x0D) (b : Bool) : SlotWrites c 7 w s (s.onCore c (fun y => y.setP (fld w 53 51) b)) :=
    SlotWrites.onCore s (WritesOnly.setP _ (by have : sOp w ≠ 6 := by omega
                                               simp [slotDest, this, h.1, hop]) b)
  have hcases : sOp w = 9 ∨ sOp w = 0xA ∨ sOp w = 0xB ∨ sOp w = 0xC ∨ sOp w = 0xD ∨ sOp w = 0xE := by omega
  rcases hcases with hop | hop | hop | hop | hop | hop <;> simp only [State.controlRun, hop]
  case inr.inr.inr.inr.inr => exact SlotWrites.refl c 7 w s
  all_goals exact hpred (by omega) _

/-- The slot of a register row, after CSRW's own turn, writes its destination. -/
theorem State.registerSlot_writes (s : State) (k : Core) (c : Nat) {i : Nat} {w : SlotW} (h : registerSlot i (sOp w)) :
    SlotWrites c i w s ((if i ≤ 1 ∧ sOp w = 0x29 then s.onCore c (csrwRun k w) else s).slotRun k c (i, w)) := by
  rcases h with hi | rfl | ⟨rfl, hop⟩
  · have hrun (t : State) : SlotWrites c i w t (t.slotRun k c (i, w)) := by
      have hwrites := t.scalarRun_writes k c w
      simp only [State.slotRun, hi, if_true]
      exact ⟨hwrites.only, (slotDest_scalar hi w).symm ▸ hwrites.core⟩
    split
    · exact (SlotWrites.onCore s (WritesOnly.setFlags _ _ _)).trans (hrun _)
    · exact hrun s
  · simpa [State.slotRun] using SlotWrites.onCore s (WritesOnly.vecRun k w (s.core c))
  · simpa [State.slotRun] using s.controlRun_writes k c hop

/-! ### The issue of a register row -/

/-- The core after its row has issued: what its slot writes on the core that began the bundle; waits may end. -/
structure RowWrites (c i : Nat) (w : SlotW) (s t : State) : Prop where
  only : OnlyCore c s t
  core : ∃ y ws idle, WritesOnly (slotDest i w) (((s.progress c).core c).begun i w) y ∧ t.core c = { y with waits := ws, idle := idle }

/-- A counter that a core keeps while it completes nothing. -/
theorem Claim.Quiet.count_progress {s : State} {c : Nat} (h : Quiet s c) :
    (((s.progress c).core c).C 0x18).toNat + 2 ^ 32 * (((s.progress c).core c).C 0x19).toNat < 2 ^ 48 - 1 := by
  obtain ⟨-, ws, idle, hcore⟩ := h.progress
  rw [hcore]
  exact h.count

/-- The core at the start of a bundle completes nothing either. -/
theorem Core.begun_still (k : Core) (i : Nat) (w : SlotW) :
    (k.begun i w).signals = k.signals ∧ (k.begun i w).tdones = k.tdones := ⟨rfl, rfl⟩

theorem WritesOnly.still {d : RegSet} {y y' : Core} (h : WritesOnly d y y') : y'.signals = y.signals ∧ y'.tdones = y.tdones :=
  ⟨(congrArg Core.signals h.rest :), (congrArg Core.tdones h.rest :)⟩

/-- A bundle with one slot begins, its slot acts, and the core goes on by itself. -/
theorem State.issue_begun {s : State} {c i : Nat} {w : SlotW} (hquiet : Quiet s c) (h : Issues s c i w) (hi : i < 8) (hop : sOp w ≠ 0) :
    ∃ u, OnlyCore c s u ∧ u.core c = ((s.progress c).core c).begun i w ∧ s.issue c (bundle1 i w) =
      ((if i ≤ 1 ∧ sOp w = 0x29 then u.onCore c (csrwRun ((s.progress c).core c) w) else u).slotRun ((s.progress c).core c) c
        (i, w)).progress c := by
  obtain ⟨hbegin, hbegun⟩ := State.beginBundle_bundle1 hi hop h.guard hquiet.count_progress
  exact ⟨_, hquiet.progress.1.trans hbegin, hbegun, issue_bundle1 h hi hop⟩

/-- A core that its slot leaves with nothing to complete goes on as it does by itself. -/
theorem Claim.Quiet.after_slot {s t : State} {c i : Nat} {w : SlotW} (h : Quiet s c)
    (hsig : (t.core c).signals = (((s.progress c).core c).begun i w).signals)
    (htd : (t.core c).tdones = (((s.progress c).core c).begun i w).tdones) :
    OnlyCore c t (t.progress c) ∧ ∃ ws idle, (t.progress c).core c = { t.core c with waits := ws, idle := idle } := by
  obtain ⟨-, ws, idle, hcore⟩ := h.progress
  obtain ⟨hsig', htd'⟩ := Core.begun_still ((s.progress c).core c) i w
  rw [hcore] at hsig' htd'
  rw [hcore] at hsig htd
  exact State.progress_of_none (hsig.trans (hsig'.trans h.signals)) (htd.trans (htd'.trans h.tdones))

theorem State.issue_writes {s : State} {c i : Nat} {w : SlotW} (hquiet : Quiet s c) (h : Issues s c i w) (hi : i < 8) (hop : sOp w ≠ 0)
    (hreg : registerSlot i (sOp w)) : RowWrites c i w s (s.issue c (bundle1 i w)) := by
  obtain ⟨u, honly, hbegun, hissue⟩ := State.issue_begun hquiet h hi hop
  obtain ⟨hslot, hwrites⟩ := u.registerSlot_writes ((s.progress c).core c) c hreg
  rw [hissue]
  generalize State.slotRun _ _ c (i, w) = t at hslot hwrites ⊢
  rw [hbegun] at hwrites
  obtain ⟨hprog, ws, idle, hfinal⟩ := hquiet.after_slot hwrites.still.1 hwrites.still.2
  exact ⟨(honly.trans hslot).trans hprog, _, ws, idle, hwrites, hfinal⟩

/-- A register row issues and writes its destination. -/
theorem exec_writes {s : State} {j : Instr} {x : At} {i op : Nat} {b : BitVec 54} (hrow : slotRow j = some (x, i, op, b))
    (hreg : registerSlot i op) (hquiet : Quiet s x.core) (h : Issues s x.core i (slotWord op x.pg x.pn b)) :
    ∃ t, exec j s = .next t ∧ RowWrites x.core i (slotWord op x.pg x.pn b) s t := by
  obtain ⟨hi, hpos, -⟩ := slotRow_bounds hrow
  have hword := sOp_of_slotRow hrow
  exact ⟨_, exec_of_slotRow hrow s, State.issue_writes hquiet h hi (by omega) (by rwa [hword])⟩

/-- The start of a bundle leaves the registers and every CSR but CNT_ISSUE. -/
theorem Core.C_begun (k : Core) (i : Nat) (w : SlotW) {n : Nat} (h : n ≠ 0x18) (h' : n ≠ 0x19) : (k.begun i w).C n = k.C n :=
  (Core.C_setC_ne _ _ h').trans (Core.C_setC_ne _ _ h)

/-! ### Stores to the core's own Locker (R82, R156, R157) -/

theorem State.lockerRun_of_own_store {k : Core} {w : SlotW} (hop : sOp w = 3) (hkind : (k.handle (s2H w)).kind = 0) (t : State) (c : Nat) :
    t.lockerRun k c w = t.store .locker (lockerKey c ((k.handle (s2H w)).base + s2Ofs k w)) (storeBytes k w) := by
  simp [State.lockerRun, hop, hkind, State.lockerStore]

@[simp] theorem leBytes_length (n v : Nat) : (leBytes n v).length = n := by
  induction n generalizing v with
  | zero => rfl
  | succ n ih => simp [leBytes, ih]

theorem storeBytes_length (k : Core) (w : SlotW) : (storeBytes k w).length = sSize w := by
  unfold storeBytes
  split
  next h => rw [vBytes, leBytes_length, h]
  next => exact leBytes_length _ _

/-- A write port merges check bits alone. -/
theorem State.eccMerge_eq (s : State) (sp : Space) (a n : Nat) : ∃ e, s.eccMerge sp a n = { s with ecc := e } := by
  have hkeeps : { s.eccMerge sp a n with ecc := s.ecc } = s :=
    foldl_keeps (g := fun t : State => { t with ecc := s.ecc }) (fun t k => by (repeat' split) <;> rfl) _ s
  exact ⟨(s.eccMerge sp a n).ecc, (congrArg (fun t : State => { t with ecc := (s.eccMerge sp a n).ecc }) hkeeps :)⟩

/-- A store writes its bytes, and beside them check bits alone. -/
theorem State.store_eq (s : State) (sp : Space) (a : Nat) (bs : List Byte) :
    ∃ e, s.store sp a bs = { s.setBytes sp (memWriteN (s.bytesOf sp) a bs) with ecc := e } := State.eccMerge_eq _ sp a bs.length

theorem State.core_store (s : State) (sp : Space) (a : Nat) (bs : List Byte) (d : Nat) : (s.store sp a bs).core d = s.core d := by
  obtain ⟨e, hstore⟩ := s.store_eq sp a bs
  rw [hstore]
  cases sp <;> rfl

/-- After a store in one core's turn, everything but that core, the bytes stored and check bits is as before. -/
theorem State.store_only {s u v : State} {c a : Nat} {sp : Space} {bs : List Byte} (h : OnlyCore c s u)
    (h' : OnlyCore c (u.store sp a bs) v) :
    { v with cores := s.cores, ecc := s.ecc } = s.setBytes sp (memWriteN (s.bytesOf sp) a bs) ∧ ∀ d, d ≠ c → v.core d = s.core d := by
  refine ⟨?_, fun d hd => by rw [h'.others d hd, State.core_store, h.others d hd]⟩
  obtain ⟨e, hstore⟩ := u.store_eq sp a bs
  have hv := congrArg (fun z : State => { z with cores := s.cores, ecc := s.ecc }) h'.rest
  refine (hv :).trans ?_
  rw [hstore]
  have hrest := h.rest
  generalize s.cores = cs at hrest ⊢
  subst hrest
  cases sp <;> rfl

theorem State.store_locker_only {s u v : State} {c a : Nat} {bs : List Byte} (h : OnlyCore c s u)
    (h' : OnlyCore c (u.store .locker a bs) v) :
    { v with cores := s.cores, locker := s.locker, ecc := s.ecc } = s ∧ (∀ d, d ≠ c → v.core d = s.core d) ∧
    v.locker = memWriteN s.locker a bs := by
  obtain ⟨hstored, hothers⟩ := State.store_only h h'
  exact ⟨(congrArg (fun z : State => { z with locker := s.locker }) hstored :), hothers, (congrArg State.locker hstored :)⟩

/-- Settles O10: a register row by what its slot writes; a Locker store by the bytes of its memory. -/
theorem registerAndLockerRowsKeepTheRest : Obligations.RegisterAndLockerRowsKeepTheRest := by
  refine ⟨?registers, ?store⟩
  case registers =>
    intro s j x i op b hrow hreg hquiet hissues c d k
    obtain ⟨t, hexec, honly, y, ws, idle, ⟨hrest, hg, hv, hp, hcsr⟩, hcore⟩ := exec_writes hrow hreg hquiet hissues
    obtain ⟨-, ws', idle', hbefore⟩ := hquiet.progress
    have hC (n : Nat) (h8 : n ≠ 8) (h18 : n ≠ 0x18) (h19 : n ≠ 0x19) : y.C n = k.C n := by
      rw [hcsr n h8, Core.C_begun _ _ _ h18 h19, hbefore]
      rfl
    refine ⟨t, hexec, honly.rest, honly.others, ?_⟩
    rw [hcore]
    refine ⟨fun r hr => (hg r hr).trans ?_, fun r hr => (hv r hr).trans ?_, fun r hr => (hp r hr).trans ?_, hC,
      (congrArg Core.m0 hrest :).trans ?_, (congrArg Core.m1 hrest :).trans ?_, (congrArg Core.xfer hrest :).trans ?_,
      (congrArg Core.lane hrest :).trans ?_, (congrArg Core.loads hrest :).trans ?_, (congrArg Core.gather hrest :).trans ?_,
      (congrArg Core.latches hrest :).trans ?_, (congrArg Core.handles hrest :).trans ?_, (congrArg Core.shadowHandles hrest :).trans ?_,
      (congrArg Core.stopped hrest :).trans ?_, congrArg (fun w : Word => fld w 2 0) (hC 1 (by decide) (by decide) (by decide))⟩
    all_goals rw [hbefore]; rfl
  case store =>
    intro s x b hquiet c w k a bs hissues hkind
    have hop : sOp w = 3 := sOp_of_slotRow (j := .st x b) rfl
    obtain ⟨u, honly, hbegun, hissue⟩ := State.issue_begun hquiet hissues (by decide) (by omega)
    obtain ⟨-, ws, idle, hbefore⟩ := hquiet.progress
    have hslot : u.slotRun ((s.progress c).core c) c (2, w) = u.store .locker a bs := by
      rw [hbefore]
      exact State.lockerRun_of_own_store (k := { k with waits := ws, idle := idle }) hop hkind u c
    rw [if_neg (by omega), hslot] at hissue
    have hcore : (u.store .locker a bs).core c = ((s.progress c).core c).begun 2 w := (u.core_store .locker a bs c).trans hbegun
    obtain ⟨hprog, ws', idle', hfinal⟩ := hquiet.after_slot (i := 2) (w := w) (congrArg Core.signals hcore) (congrArg Core.tdones hcore)
    refine ⟨(u.store .locker a bs).progress c, ?_, storeBytes_length k w, ?_⟩
    · rw [exec_of_slotRow (j := .st x b) rfl, ← hissue]
    obtain ⟨hrest, hothers, hlocker⟩ := State.store_locker_only honly hprog
    refine ⟨fun n hn => ?_, fun q hq => ?_, hrest, hothers, fun r => ?_⟩
    · rw [hlocker]; exact memRead_memWriteN_in _ bs hn
    · rw [hlocker]; exact memRead_memWriteN_out _ bs hq
    · rw [hfinal, hcore, hbefore]; exact ⟨rfl, rfl, rfl⟩

/-! ### The pc (R79, R80) -/

/-- A register row leaves the pc and the loops where its bundle goes. -/
theorem exec_goes {s : State} {j : Instr} {x : At} {i op : Nat} {b : BitVec 54} {pc : Nat} {loops : List Loop}
    (hrow : slotRow j = some (x, i, op, b)) (hreg : registerSlot i op) (hquiet : Quiet s x.core)
    (h : Issues s x.core i (slotWord op x.pg x.pn b))
    (hgoes : ((s.progress x.core).core x.core).goes i (slotWord op x.pg x.pn b) = (pc, loops)) :
    ∃ t, exec j s = .next t ∧ (t.core x.core).pc = pc ∧ (t.core x.core).loops = loops := by
  obtain ⟨t, hexec, -, y, ws, idle, ⟨hrest, -⟩, hcore⟩ := exec_writes hrow hreg hquiet h
  refine ⟨t, hexec, ?_, ?_⟩
  · rw [hcore]
    exact (congrArg Core.pc hrest :).trans (congrArg Prod.fst hgoes :)
  · rw [hcore]
    exact (congrArg Core.loops hrest :).trans (congrArg Prod.snd hgoes :)

section
variable (k : Core) {w : SlotW} {i : Nat}

theorem Core.goes_of_branch (h : isBranch (sOp w) = true) : k.goes 0 w = (branchTarget k w, endLoops (branchTarget k w) k.loops) := by
  simp [Core.goes, nextPc, h]

theorem Core.goes_of_loop (h : sOp w = 0x0E) : k.goes 7 w =
    if (k.G (sA w)).toNat = 0 then ((fld w 12 0 + 1) % 8192, k.loops)
    else ((k.pc + 1) % 8192, ⟨(k.pc + 1) % 8192, fld w 12 0, (k.G (sA w)).toNat⟩ :: k.loops) := by
  simp [Core.goes, nextPc, h]

theorem Core.goes_of_other (h : isBranch (sOp w) = false) (h' : sOp w ≠ 0x0E) : k.goes i w = loopEnd k.pc k.loops := by
  simp [Core.goes, nextPc, h, h']

end

/-- Settles O9: a register row goes where `Core.goes` says, which each row's OP decides. -/
theorem programCounterMoves : Obligations.ProgramCounterMoves := by
  intro s x b hquiet c k goes w
  have hop (n : Nat) (hn : n < 64) : sOp (w n) = n := by rw [sOp_slotWord, Nat.mod_eq_of_lt hn]
  have hbranch (n : Nat) (hn : n < 64) (hbr : isBranch n = true) : k.goes 0 (w n) = (branchTarget k (w n), endLoops (branchTarget k (w n)) k.loops) :=
    Core.goes_of_branch k (by rwa [hop n hn])
  have hloop := Core.goes_of_loop k (hop 0x0E (by decide))
  have hadd (i : Nat) : k.goes i (w 0x01) = loopEnd k.pc k.loops :=
    Core.goes_of_other k (by rw [hop 1 (by decide)]; rfl) (by rw [hop 1 (by decide)]; decide)
  refine ⟨?br, ?brl, ?jr, ?skipped, ?opened, ?others⟩
  case br =>
    intro h
    have htarget : branchTarget k (w 0x30) = fld (w 0x30) 12 0 := by simp [branchTarget, hop 0x30]
    exact exec_goes (i := 0) rfl (.inl (by decide)) hquiet h (htarget ▸ hbranch 0x30 (by decide) rfl)
  case brl =>
    intro h
    have htarget : branchTarget k (w 0x31) = fld (w 0x31) 12 0 := by simp [branchTarget, hop 0x31]
    exact exec_goes (i := 0) rfl (.inl (by decide)) hquiet h (htarget ▸ hbranch 0x31 (by decide) rfl)
  case jr =>
    intro h
    have htarget : branchTarget k (w 0x32) = fld (k.G (sB (w 0x32))) 12 0 := by simp [branchTarget, hop 0x32]
    exact exec_goes (i := 0) rfl (.inl (by decide)) hquiet h (htarget ▸ hbranch 0x32 (by decide) rfl)
  case skipped =>
    intro h hcount
    have hzero : (k.G (sA (w 0x0E))).toNat = 0 := by rw [hcount]; rfl
    exact exec_goes (i := 7) rfl (.inr (.inr (by decide))) hquiet h (hloop.trans (if_pos hzero))
  case opened =>
    intro h hcount
    have hpos : (k.G (sA (w 0x0E))).toNat ≠ 0 := fun hzero => hcount (BitVec.eq_of_toNat_eq hzero)
    exact exec_goes (i := 7) rfl (.inr (.inr (by decide))) hquiet h (hloop.trans (if_neg hpos))
  case others =>
    intro l h
    have hgoes {pc : Nat} {loops : List Loop} (hend : loopEnd k.pc k.loops = (pc, loops)) : goes (.add x l b) pc loops :=
      exec_goes (i := l) rfl (.inl (by omega)) hquiet h ((hadd l).trans hend)
    refine ⟨fun hnone => hgoes ?_, fun i is hloops hlast => hgoes ?_, fun i is hloops hlast hleft => hgoes ?_,
      fun i hloops hlast hleft => hgoes ?_⟩
    · rw [hnone]; rfl
    · rw [hloops, loopEnd, if_neg hlast]
    · rw [hloops, loopEnd, if_pos hlast, if_pos hleft]
    · rw [hloops, loopEnd, if_pos hlast, if_neg (by omega)]; rfl

end Sys2Proof.Machine
end

section
/-! PROOFS. How the lane, the transfer queue and the corridor complete (R75, R89, R104, R125, R191, R206). -/
namespace Sys2Proof.Machine
open Claim

/-- Two cores may change in turn. -/
theorem OnlyCore.rest_trans {c d : Nat} {s t u : State} (h : OnlyCore c s t) (h' : OnlyCore d t u) : { u with cores := s.cores } = s :=
  (congrArg (fun z : State => { z with cores := s.cores }) h'.rest :).trans h.rest

/-- A core that a completion leaves with nothing else to complete goes on as it does by itself. -/
theorem Claim.Quiet.after {s u : State} {c : Nat} (h : Quiet s c) (hsig : (u.core c).signals = (s.core c).signals)
    (htd : (u.core c).tdones = (s.core c).tdones) :
    OnlyCore c u (u.progress c) ∧ ∃ ws idle, (u.progress c).core c = { u.core c with waits := ws, idle := idle } :=
  State.progress_of_none (hsig.trans h.signals) (htd.trans h.tdones)

/-! ### The lane (R125) -/

theorem exec_mvlResult_of_on {s : State} (c : Fin 1024) (hon : s.coresOn = true) :
    exec (.mvlResult c) s = .next ((s.mvlResult c).progress c) := by
  show Host.Outcome.next (if s.coresOn = true then _ else s) = _
  rw [if_pos hon]

/-- The core after the lane writes the results of its oldest command l. -/
def Core.laneDone (k : Core) (l : LaneCmd) (rest : List LaneCmd) : Core :=
  match l.results with
  | none => { k with lane := rest }
  | some rs => ((List.range l.n).foldl (fun (k : Core) i => k.setV (l.vd + i) (rs.getD i 0)) { k with lane := rest }).orFlags l.flags

theorem State.mvlResult_eq {s : State} {c : Nat} {l : LaneCmd} {rest : List LaneCmd} (h : (s.core c).lane = l :: rest) :
    s.mvlResult c = s.setCore c ((s.core c).laneDone l rest) := by
  cases hres : l.results <;> simp only [State.mvlResult, h, hres, State.onCore, Core.laneDone]

/-- The completion of a lane command that leaves signals and tile ends alone. -/
theorem exec_mvlResult_eq {s : State} {c : Fin 1024} {l : LaneCmd} {rest : List LaneCmd} (hquiet : Quiet s c) (hon : s.coresOn = true)
    (hlane : (s.core c).lane = l :: rest) (hsig : ((s.core c).laneDone l rest).signals = (s.core c).signals)
    (htd : ((s.core c).laneDone l rest).tdones = (s.core c).tdones) :
    ∃ t, exec (.mvlResult c) s = .next t ∧ OnlyCore c s t ∧
      ∃ ws idle, t.core c = { (s.core c).laneDone l rest with waits := ws, idle := idle } := by
  have hdone := State.core_setCore_same s c ((s.core c).laneDone l rest)
  obtain ⟨honly, hcore⟩ := hquiet.after (u := s.setCore c ((s.core c).laneDone l rest)) (by rw [hdone]; exact hsig)
    (by rw [hdone]; exact htd)
  refine ⟨_, (exec_mvlResult_of_on c hon).trans (by rw [State.mvlResult_eq hlane]), (OnlyCore.setCore s c _).trans honly, ?_⟩
  rwa [hdone] at hcore

/-! ### The transfer queue (R75) -/

theorem exec_transferCommandComplete_of_on {s : State} (c : Fin 1024) (hon : s.coresOn = true) :
    exec (.transferCommandComplete c) s = .next ((s.transferComplete c).progress c) := by
  show Host.Outcome.next (if s.coresOn = true then _ else s) = _
  rw [if_pos hon]

section
variable {s : State} {c : Nat} {n : Nat} {rest : List (XferOp × Nat)}

theorem State.transferComplete_row {a part ad drow : Nat} {r : List Byte}
    (h : (s.core c).xfer = (.dmv a part false ad drow [some r], n) :: rest) :
    s.transferComplete c = (s.setCore c { s.core c with xfer := rest }).store .desk
      (deskKey c a (partBase part + 64 * (drow % partRows part))) r := by
  simp [State.transferComplete, h, State.intoDesk]

theorem State.transferComplete_send {up : Bool} {ad hd o : Nat} {bs : List Byte}
    (h : (s.core c).xfer = (.csend up ad hd o [some bs], n) :: rest) :
    s.transferComplete c = { s.setCore c { s.core c with xfer := rest } with
      corr := s.corr ++ [⟨neighbour c up, up, n, (s.core c).house, hd, o, bs⟩] } := by
  simp [State.transferComplete, h, State.setCore]

theorem State.transferComplete_start {e ad : Nat} (h : (s.core c).xfer = (.dmak e ad, n) :: rest)
    (hfence : CoreWait.fence true ∉ (s.core c).waits) (hroom : (s.eng (2 * (c / 32) + e)).starts.length < 4) :
    s.transferComplete c = (s.setCore c { s.core c with xfer := rest }).setEng (2 * (c / 32) + e)
      { s.eng (2 * (c / 32) + e) with
        starts := (s.eng (2 * (c / 32) + e)).starts ++ [{ addr := ad % 2 ^ 27, house := (s.core c).house }] } := by
  have heng : (s.setCore c { s.core c with xfer := rest }).eng (2 * (c / 32) + e) = s.eng (2 * (c / 32) + e) := rfl
  simp [State.transferComplete, h, hfence, State.dmaPush, heng, hroom]

end

/-- The completion of a transfer command: what it does, then its core goes on. -/
theorem exec_transferCommandComplete_eq {s u : State} {c : Fin 1024} {rest : List (XferOp × Nat)} (hquiet : Quiet s c)
    (hon : s.coresOn = true) (hdone : s.transferComplete c = u) (hcore : u.core c = { s.core c with xfer := rest }) :
    ∃ t, exec (.transferCommandComplete c) s = .next t ∧ OnlyCore c u t ∧ (t.core c).xfer = rest := by
  obtain ⟨honly, ws, idle, hfinal⟩ := hquiet.after (u := u) (congrArg Core.signals hcore :) (congrArg Core.tdones hcore :)
  refine ⟨u.progress c, hdone ▸ exec_transferCommandComplete_of_on c hon, honly, ?_⟩
  rw [hfinal, hcore]

/-! ### The corridor (R90, R206, R207) -/

theorem neighbour_ne (c : Nat) (up : Bool) : neighbour c up ≠ c := by
  unfold neighbour
  split <;> omega

section
variable {s : State} {c : Nat} {up : Bool} {u : CorrUnit}

theorem State.corrLand_of_ok (hfind : s.corr.find? (fun q => decide (q.core = c) && q.up = up) = some u) (hlive : s.coreLive c = true)
    (hok : landingOk (s.core c) u = true) :
    s.corrLand c up = ({ s with corr := s.corr.erase u }.store .locker (lockerKey c (((s.core c).handle u.hd).base + u.ofs))
      u.bytes).onCore c (fun k => k.setC (if up then 9 else 0xA) (k.C (if up then 9 else 0xA) + 1)) := by
  have hlive' : { s with corr := s.corr.erase u }.coreLive c = true := hlive
  have hok' : landingOk ({ s with corr := s.corr.erase u }.core c) u = true := hok
  simp only [State.corrLand, hfind, hlive', hok']
  rfl

theorem State.corrLand_of_dead (hfind : s.corr.find? (fun q => decide (q.core = c) && q.up = up) = some u) (hlive : s.coreLive c = false) :
    s.corrLand c up = { s with corr := s.corr.erase u }.countErr (Reg.DMA_CORRf (c / 32)) := by
  have hlive' : { s with corr := s.corr.erase u }.coreLive c = false := hlive
  simp only [State.corrLand, hfind, hlive']
  rfl

theorem exec_corridorLanding (s : State) (c : Fin 1024) (up : Bool) :
    exec (.corridorLanding c up) s = .next (((s.corrLand c up).progress c).progress (neighbour c (!up))) := rfl

/-- After a landing the receiver goes on, then the sender. -/
theorem exec_corridorLanding_eq {s u : State} {c : Fin 1024} {up : Bool} (hquiet : Quiet s c) (hsender : Quiet s (neighbour c (!up)))
    (hland : s.corrLand c up = u) (hsig : (u.core c).signals = (s.core c).signals) (htd : (u.core c).tdones = (s.core c).tdones)
    (hothers : ∀ d, d ≠ c.val → u.core d = s.core d) :
    ∃ t, exec (.corridorLanding c up) s = .next t ∧ { t with cores := u.cores } = u ∧
      ∃ ws idle, t.core c = { u.core c with waits := ws, idle := idle } := by
  obtain ⟨honly, ws, idle, hcore⟩ := hquiet.after hsig htd
  have hne := neighbour_ne c (!up)
  have hsend : (u.progress c).core (neighbour c (!up)) = s.core (neighbour c (!up)) := (honly.others _ hne).trans (hothers _ hne)
  obtain ⟨honly', -⟩ := hsender.after (congrArg Core.signals hsend :) (congrArg Core.tdones hsend :)
  refine ⟨(u.progress c).progress (neighbour c (!up)), hland ▸ exec_corridorLanding s c up, ?_, ws, idle, ?_⟩
  · exact honly.rest_trans honly'
  · rw [honly'.others c hne.symm, hcore]

end

/-- Settles O14: each completion by what it changes, then the core goes on by itself. -/
theorem transfersComplete : Obligations.TransfersComplete := by
  intro s c n hquiet hon
  refine ⟨?results, ?noResults, ?row, ?send, ?start, ?lands, ?discarded⟩
  case results =>
    intro l rest v hlane hres hn
    have hdone : (s.core c).laneDone l rest = (({ s.core c with lane := rest } : Core).setV l.vd v).orFlags l.flags := by
      simp [Core.laneDone, hres, hn]
    obtain ⟨t, hexec, honly, ws, idle, hcore⟩ := exec_mvlResult_eq hquiet hon hlane (hdone ▸ rfl) (hdone ▸ rfl)
    rw [hdone] at hcore
    refine ⟨t, hexec, ?_, ?_, fun m hm => ?_, ?_, honly.rest⟩ <;> rw [hcore]
    · rfl
    · exact mapGet_mapSet_same _ _ _ _
    · exact mapGet_mapSet_ne _ _ _ hm
    · exact mapGet_mapSet_same _ _ _ _
  case noResults =>
    intro l rest hlane hres
    have hdone : (s.core c).laneDone l rest = { s.core c with lane := rest } := by simp [Core.laneDone, hres]
    obtain ⟨t, hexec, honly, ws, idle, hcore⟩ := exec_mvlResult_eq hquiet hon hlane (hdone ▸ rfl) (hdone ▸ rfl)
    rw [hdone] at hcore
    exact ⟨t, hexec, by rw [hcore], by rw [hcore], honly.rest⟩
  case row =>
    intro a part ad drow r rest hxfer hlen
    obtain ⟨t, hexec, honly, hrest⟩ := exec_transferCommandComplete_eq hquiet hon (State.transferComplete_row hxfer)
      ((State.core_store _ _ _ _ _).trans (State.core_setCore_same _ _ _))
    obtain ⟨hstored, -⟩ := State.store_only (OnlyCore.setCore s c _) honly
    have hdesk : t.desk = memWriteN s.desk (deskKey c a (partBase part + 64 * (drow % partRows part))) r := (congrArg State.desk hstored :)
    refine ⟨t, hexec, hrest, fun i hi => ?_, fun q hq => ?_, (congrArg (fun z : State => { z with desk := s.desk }) hstored :)⟩
    · rw [hdesk]; exact memRead_memWriteN_in _ r hi
    · rw [hdesk]; exact memRead_memWriteN_out _ r (hlen.symm ▸ hq)
  case send =>
    intro up ad hd o bs rest hxfer
    obtain ⟨t, hexec, honly, hrest⟩ := exec_transferCommandComplete_eq hquiet hon (State.transferComplete_send hxfer)
      (State.core_setCore_same s c _)
    exact ⟨t, hexec, hrest, (congrArg State.corr honly.rest :), (congrArg State.locker honly.rest :), (congrArg State.regs honly.rest :)⟩
  case start =>
    intro e ad rest hxfer hfence hroom
    obtain ⟨t, hexec, honly, hrest⟩ := exec_transferCommandComplete_eq hquiet hon (State.transferComplete_start hxfer hfence hroom)
      (State.core_setCore_same s c _)
    have hengines := congrArg (fun z : State => (z.eng (2 * (c / 32) + e)).starts) honly.rest
    refine ⟨t, hexec, hrest, (hengines :).trans ?_, (congrArg State.locker honly.rest :), (congrArg State.desk honly.rest :),
      (congrArg State.regs honly.rest :)⟩
    exact congrArg DmaEng.starts (mapGet_mapSet_same _ _ _ _)
  case lands =>
    intro u up hsender hfind hlive hok
    have hstore (d : Nat) := State.core_store { s with corr := s.corr.erase u } .locker
      (lockerKey c (((s.core c).handle u.hd).base + u.ofs)) u.bytes d
    obtain ⟨e, hstored⟩ := State.store_eq { s with corr := s.corr.erase u } .locker
      (lockerKey c (((s.core c).handle u.hd).base + u.ofs)) u.bytes
    have hland := State.corrLand_of_ok hfind hlive hok
    generalize State.store _ .locker _ u.bytes = v at hstore hstored hland
    have hcore : (v.onCore c (fun k => k.setC (if up then 9 else 0xA) (k.C (if up then 9 else 0xA) + 1))).core c =
        (s.core c).setC (if up then 9 else 0xA) ((s.core c).C (if up then 9 else 0xA) + 1) := by
      rw [State.core_onCore_same, hstore]; rfl
    obtain ⟨t, hexec, hrest, ws, idle, hfinal⟩ := exec_corridorLanding_eq hquiet hsender hland (congrArg Core.signals hcore :)
      (congrArg Core.tdones hcore :) (fun d hd => (State.core_onCore_ne v _ hd).trans (hstore d))
    have hlocker : t.locker = v.locker := (congrArg State.locker hrest :)
    refine ⟨t, hexec, (congrArg State.corr hrest :).trans ?_, fun i hi => ?_, ?_, (congrArg State.lib hrest :).trans ?_,
      (congrArg State.desk hrest :).trans ?_⟩
    · exact (congrArg State.corr hstored :)
    · rw [hlocker, hstored]; exact memRead_memWriteN_in _ u.bytes hi
    · rw [hfinal, hcore]; exact mapGet_mapSet_same _ _ _ _
    · exact (congrArg State.lib hstored :)
    · exact (congrArg State.desk hstored :)
  case discarded =>
    intro u up hsender hfind hlive
    obtain ⟨t, hexec, hrest, -⟩ := exec_corridorLanding_eq hquiet hsender (State.corrLand_of_dead hfind hlive) rfl rfl (fun _ _ => rfl)
    have hrd := congrArg (fun z : State => z.rd (Reg.DMA_CORRf (c / 32))) hrest
    exact ⟨t, hexec, (congrArg State.corr hrest :), (congrArg State.locker hrest :), (hrd :).trans (State.rd_countErr_same _ _)⟩

end Sys2Proof.Machine
end

section
/-! PROOFS. How the Dean takes fault records and answers tile faults (R94, R281, R286). -/
namespace Sys2Proof.Machine
open Claim

section
variable {s : State}

theorem exec_deanFaultNotice_of_up (h : Up s) (c : Fin 1024) : exec (.deanFaultNotice c) s = .next (s.faultNotice c) :=
  exec_of_up (f := fun s => s.faultNotice c) h rfl

theorem exec_tileFaultResponse_of_up (h : Up s) (c : Fin 1024) : exec (.tileFaultResponse c) s = .next (s.faultResponse c) :=
  exec_of_up (f := fun s => s.faultResponse c) h rfl

/-- No band armed on the form: no call (R281). -/
theorem State.faultCall_of_clear {f : Nat} (h : bit (s.rd (Reg.RC_CTRL f)) 0 = false) : s.faultCall f = s := by
  simp [State.faultCall, h]

/-- What the Dean does to the units for a cause (Table 10.5). -/
def State.faultUnits (s : State) (c cause : Nat) (info : Word) (pc : Nat) : State :=
  if cause = 0x0B then (if s.fold c then s.retireCore c else s.loseArray c (fld info 0 0))
  else if cause = 0x0A ∧ !bit info 2 then
    match fld info 1 0 with
    | 0 => (s.retireCore c).startMarch { core := true, unit := c, preserving := false, waiter := none }
    | 3 => s.bundleError c pc
    | _ => s.retireCore c
  else s

/-- A core with a fault to answer is answered once, and its cause decides the rest. -/
theorem State.faultResponse_of_pending {c : Nat} (h : (s.core c).respond = true) : s.faultResponse c =
    ((s.onCore c (fun y => { y with respond := false })).faultUnits c (fld ((s.core c).C 0x10) 7 0) ((s.core c).C 0x12)
      ((s.core c).C 0x13).toNat).faultCall (c / 32) := by
  simp only [State.faultResponse, State.faultUnits, h, Bool.not_true, Bool.false_eq_true, if_false] <;> rfl

theorem State.faultUnits_of_other {c cause : Nat} (info : Word) (pc : Nat) (h : cause ≠ 0x0A) (h' : cause ≠ 0x0B) :
    s.faultUnits c cause info pc = s := by
  simp [State.faultUnits, h, h']

theorem State.faultUnits_residue (c : Nat) (info : Word) (pc : Nat) :
    s.faultUnits c 0x0B info pc = if s.fold c then s.retireCore c else s.loseArray c (fld info 0 0) := rfl

/-- The three low bits of an information word below 4: bit 2 is clear, and the two others are their field. -/
theorem low_bits_of_fld_lt {info : Word} {n : Nat} (h : fld info 2 0 = n) (hn : n < 4) : bit info 2 = false ∧ fld info 1 0 = n := by
  simp only [fld, Nat.shiftRight_zero] at h ⊢
  refine ⟨?_, by omega⟩
  rw [bit, BitVec.getLsbD, Nat.testBit_eq_decide_div_mod_eq]
  exact decide_eq_false (by omega)

theorem State.faultUnits_locker (c : Nat) {info : Word} (pc : Nat) (h : fld info 2 0 = 0) : s.faultUnits c 0x0A info pc =
    (s.retireCore c).startMarch { core := true, unit := c, preserving := false, waiter := none } := by
  obtain ⟨hbit, hunit⟩ := low_bits_of_fld_lt h (by decide)
  simp [State.faultUnits, hbit, hunit]

theorem State.faultUnits_istore (c : Nat) {info : Word} (pc : Nat) (h : fld info 2 0 = 3) :
    s.faultUnits c 0x0A info pc = s.bundleError c pc := by
  obtain ⟨hbit, hunit⟩ := low_bits_of_fld_lt h (by decide)
  simp [State.faultUnits, hbit, hunit]

end

/-- Settles O21: the notice by the V bit of the record, the response by the cause. -/
theorem theDeanAnswersTileFaults : Obligations.TheDeanAnswersTileFaults := by
  intro s c hup k f t cause info
  have hnotice := exec_deanFaultNotice_of_up hup c
  have hresponse := exec_tileFaultResponse_of_up hup c
  have hpending (h : k.respond = true) : exec (.tileFaultResponse c) s =
      .next ((t.faultUnits c cause info (k.C 0x13).toNat).faultCall f) := by rw [hresponse, State.faultResponse_of_pending h]
  refine ⟨?noRecord, ?record, ?answered, ?trap, ?array, ?lastArray, ?locker, ?istore⟩
  case noRecord =>
    intro hv
    rw [hnotice, State.faultNotice, if_neg (by rw [hv]; decide)]
  case record =>
    intro hv hpipe
    rw [hnotice]
    simp only [State.faultNotice, k, hv, hpipe, if_true]
  case answered =>
    intro hrespond
    rw [hresponse, State.faultResponse, hrespond]
    rfl
  case trap =>
    intro hrespond hA hB hctrl
    rw [hpending hrespond, State.faultUnits_of_other _ _ hA hB, State.faultCall_of_clear (s := t) hctrl]
  case array =>
    intro hrespond hB hfold
    rw [hpending hrespond, hB, State.faultUnits_residue, if_neg (by rw [hfold]; decide)]
  case lastArray =>
    intro hrespond hB hfold
    rw [hpending hrespond, hB, State.faultUnits_residue, if_pos hfold]
  case locker =>
    intro hrespond hA hinfo
    rw [hpending hrespond, hA, State.faultUnits_locker _ _ hinfo]
  case istore =>
    intro hrespond hA hinfo
    rw [hpending hrespond, hA, State.faultUnits_istore _ _ hinfo]

end Sys2Proof.Machine
end

section
/-! PROOFS. A signal that saturates a hall pass whose first waiter asks for more than a pass can hold (R401, R402). -/
namespace Sys2Proof.Machine
open Claim

/-- Hall pass 0 of House 0 holds the greatest value, and core 0 waits on it for a count that no 32-bit value reaches. -/
def overlongWait : State :=
  { State.reset with
    regs := [(Reg.HPS_p_VALUE 0, 0xFFFFFFFF), (Reg.HPS_HRANGEh 0, 0x10000)]
    waiters := [⟨0, 2 ^ 32 + 1, .core 0⟩] }

/-- The pass saturates (R402). -/
theorem rd_value_after_signal : (overlongWait.write32 0 (Reg.HPS_p_SIGNAL 0) 1).rd (Reg.HPS_p_VALUE 0) = 0xFFFFFFFF := by decide

/-- Refutes O19: its clause for a first waiter that a signal does not reach asks for the sum in the pass, though nothing bounds the waiter's count.
In `overlongWait` the sum 2 ^ 32 stays below that count, and the pass saturates (R402), where the clause's 32-bit sum is 0. -/
theorem not_hallPassesAndCountersCount : ¬ Obligations.HallPassesAndCountersCount := by
  rintro ⟨hpasses, -⟩
  have hlink : Link overlongWait := ⟨rfl, .inl rfl⟩
  obtain ⟨-, -, -, -, hshort, -⟩ := hpasses overlongWait 0 0 1 hlink rfl
  have hcount : overlongWait.passVal 0 + 1 < 2 ^ 32 + 1 := by decide
  obtain ⟨t, hexec, -, hsum, -⟩ := hshort ⟨0, 2 ^ 32 + 1, .core 0⟩ [] (by decide) (by decide) rfl rfl hcount
  have hsignal : exec (.hpsSignal 0 0 1) overlongWait = .next (overlongWait.write32 0 (Reg.HPS_p_SIGNAL 0) 1) :=
    congrArg _ (State.linked_of_link hlink _)
  have ht : t = overlongWait.write32 0 (Reg.HPS_p_SIGNAL 0) 1 := Host.Outcome.next.inj (hexec.symm.trans hsignal)
  have hzero : t.rd (Reg.HPS_p_VALUE 0) = overlongWait.rd (Reg.HPS_p_VALUE 0) + 1 := hsum _ (List.mem_singleton_self _)
  rw [ht, rd_value_after_signal] at hzero
  exact absurd hzero (by decide)

end Sys2Proof.Machine
end

section
/-! PROOFS. PROG_START touches cores that it does not start (R61, R221). -/
namespace Sys2Proof.Machine
open Claim

/-- A fold that holds a fact once an element of its list is through, and keeps it, ends with it. -/
theorem foldl_holds_of_mem {α : Type} {P : State → Prop} {f : State → α → State} {l : List α} {a : α} (ha : a ∈ l)
    (hhere : ∀ s, P (f s a)) (hkeep : ∀ s x, P s → P (f s x)) (s : State) : P (l.foldl f s) := by
  obtain ⟨xs, ys, rfl⟩ := List.append_of_mem ha
  rw [List.foldl_append, List.foldl_cons]
  exact foldl_holds hkeep ys (hhere _)

/-- A core of a state has no TDONE that is not recorded. -/
def State.noTdones (s : State) (c : Nat) : Prop := (s.core c).tdones = []

section
variable {s : State} {f c : Nat}

theorem State.noTdones_of_cores {t : State} (h : t.cores = s.cores) (hs : s.noTdones c) : t.noTdones c := by
  simpa only [State.noTdones, State.core, h] using hs

theorem State.noTdones_setCore {k : Core} (hs : s.noTdones c) (d : Nat) (h : k.tdones = (s.core d).tdones) : (s.setCore d k).noTdones c := by
  unfold State.noTdones
  by_cases hd : c = d
  · subst hd
    rw [State.core_setCore_same, h, hs]
  · rw [State.core_setCore_ne s k hd, hs]

/-! ### The arm of a band (R221) -/

theorem State.noTdones_dropLane_same (s : State) (f l : Nat) : (s.dropLane f l).noTdones (32 * f + l) := by
  unfold State.dropLane
  split
  next h => exact List.isEmpty_iff.mp h
  next => exact State.noTdones_of_cores (foldl_countErr_tables _ _ _).1 (congrArg Core.tdones (State.core_setCore_same s _ _))

theorem State.noTdones_dropLane (hs : s.noTdones c) (f l : Nat) : (s.dropLane f l).noTdones c := by
  by_cases h : c = 32 * f + l
  · exact h ▸ s.noTdones_dropLane_same f l
  · unfold State.dropLane
    split
    · exact hs
    · refine State.noTdones_of_cores (foldl_countErr_tables _ _ _).1 ?_
      rwa [State.noTdones, State.core_setCore_ne _ _ h]

theorem State.noTdones_dropTdones (s : State) (f : Nat) {l : Nat} (hl : l < 32) : (s.dropTdones f).noTdones (32 * f + l) := by
  rw [State.dropTdones_eq]
  exact foldl_holds_of_mem (P := fun t => t.noTdones (32 * f + l)) (List.mem_range.mpr hl) (fun t => t.noTdones_dropLane_same f l)
    (fun _ m ht => State.noTdones_dropLane ht f m) s

theorem State.cores_rollGive (s : State) (f l i : Nat) (fresh : Bool) : (s.rollGive f l i fresh).cores = s.cores := by
  cases fresh <;> simp [State.rollGive]

theorem State.cores_rollDraw (s : State) (f l : Nat) : (s.rollDraw f l).2.cores = s.cores := by
  unfold State.rollDraw
  dsimp only
  (repeat' split) <;> simp [State.cores_rollGive]

/-- A ROLL's result changes registers of its core. -/
theorem State.noTdones_rollResult (hs : s.noTdones c) (d gd pd : Nat) (w : Word) : (s.rollResult d gd pd w).noTdones c := by
  refine State.noTdones_setCore hs d ?_
  unfold Core.setP Core.setG
  (repeat' split) <;> rfl

theorem State.noTdones_rollServe (hs : s.noTdones c) (f : Nat) : (s.rollServe f).noTdones c := by
  refine foldl_holds (P := fun t => t.noTdones c) (fun t l ht => ?_) _ hs
  have hdraw := State.noTdones_of_cores (t.cores_rollDraw f l) ht
  dsimp only
  split
  · exact ht
  · split
    next hdrawn =>
      rw [hdrawn] at hdraw
      exact State.noTdones_rollResult (State.noTdones_of_cores (s := _) rfl hdraw) _ _ _ _
    next hdrawn =>
      rw [hdrawn] at hdraw
      exact hdraw

theorem State.cores_bandDone (s : State) (f : Nat) : (s.bandDone f).cores = s.cores := by
  simp only [State.bandDone, apply_ite State.cores, State.countErr, State.wr_frame, State.setBandRec_frame, State.wr64_frame, State.wrF_frame, ite_self]

theorem State.noTdones_armTiles (hs : s.noTdones c) (f nt : Nat) : (s.armTiles f nt).noTdones c := by
  refine State.noTdones_rollServe (State.noTdones_of_cores (s := s) ?_ hs) f
  split
  · exact (State.cores_bandDone _ f).trans (by simp)
  · simp

theorem State.noTdones_armCounter (s : State) (f p b : Nat) (target : Word) (deal : Bool) (nt : Nat) (shape : Option (Nat × Nat)) (tier : Nat)
    {l : Nat} (hl : l < 32) : (s.armCounter f p b target deal nt shape tier).noTdones (32 * f + l) := by
  have hdropped := (s.closeBand f).noTdones_dropTdones f hl
  unfold State.armCounter
  dsimp only
  split
  · exact State.noTdones_of_cores (by simp) hdropped
  · exact State.noTdones_armTiles (State.noTdones_of_cores (by simp) hdropped) f nt

theorem State.cores_queueJob (s : State) (p b : Nat) (t : Word) (onCall cut : Bool) : (s.queueJob p b t onCall cut).cores = s.cores := by
  unfold State.queueJob State.setSState
  dsimp only
  (repeat' split) <;> rfl

theorem State.cores_callJob (s : State) (p b : Nat) (t : Word) : (s.callJob p b t).cores = s.cores := by
  unfold State.callJob
  dsimp only
  split
  · exact s.cores_queueJob p b t true false
  · rfl

/-- An armed form holds no TDONE of an earlier band. -/
theorem State.noTdones_armBand (s : State) (f p b target tier : Nat) {l : Nat} (hl : l < 32) :
    (s.armBand f p b target tier).noTdones (32 * f + l) := by
  have harm : (match s.bandEnt p b tier with
      | some e => s.armCounter f p b (BitVec.ofNat 32 target) e.deal e.nt (if e.shape then some (e.shapeAddr, (s.pipe p).house) else none) tier
      | none => s.armCounter f p b (BitVec.ofNat 32 target) false 0 none tier).noTdones (32 * f + l) := by
    split <;> exact State.noTdones_armCounter _ _ _ _ _ _ _ _ _ hl
  refine State.noTdones_of_cores ?_ harm
  simp only [State.armBand, apply_ite State.cores, State.cores_queueJob, State.cores_callJob, State.setPipe_frame, ite_self] <;> rfl

end

/-! ### The counterexample -/

/-- A PROG_START bell of House 3 for band 0 of pipeline 1 is being dispatched on raster 2. Core 5, of House 0, lies on House 3's form 0 and has
a TDONE that is not recorded yet. -/
def tdoneOfOtherHouse : State :=
  { State.reset with
    regs := [(Reg.RAS_HRANGEh 3, 0x100FF0)]
    grants := [(3, { given := true, cbase := 0, outputs := 1, inputs := 7, glayers := 2, forms := 1, quota := 2 })]
    pipes := [(1, { valid := true, house := 3, raster := 2 })]
    cores := [(5, { tdones := [(0, 0)] })]
    rasters := [(2, { due := [⟨0xFF0, { w1 := 0x11, w2 := 1, w3 := 0x10000 }, 7⟩] })] }

/-- The bell of `tdoneOfOtherHouse`. -/
def startBell : DueBell := ⟨0xFF0, { w1 := 0x11, w2 := 1, w3 := 0x10000 }, 7⟩

theorem startBell_due : tdoneOfOtherHouse.dueBell 2 0xFF0 1 = some startBell := by decide

/-- The bell does not name core 5, which belongs to another House. -/
theorem core5_of_other_house : (tdoneOfOtherHouse.core 5).house ≠ 3 ∧ (tdoneOfOtherHouse.core 5).tdones = [(0, 0)] := by decide

theorem State.activateFor_of_empty {s : State} {h target : Nat} (hnone : s.accepted = []) : s.activateFor h target = s := by
  simp [State.activateFor, hnone]

/-- A PROG_START bell of a band of its House's pipeline arms the forms that it names. -/
theorem State.noTdones_progStart {s : State} {h f l : Nat} {d : DueBell} (hforms : s.houseForms h d.bell.w2 = [f]) (hband : d.argC ≠ 0xFFFF)
    (hvalid : (s.pipe d.pipe).valid = true) (hhouse : (s.pipe d.pipe).house = h) (hl : l < 32) : (s.progStart h d).noTdones (32 * f + l) := by
  simp only [State.progStart, hforms, hband, hvalid, hhouse]
  exact State.noTdones_armBand _ _ _ _ _ _ hl

/-- The arm of the band drops the TDONE of core 5. -/
theorem tdones_after_start : ((tdoneOfOtherHouse.takeBell 2 startBell).progBell 3 startBell).noTdones 5 := by
  have hforms : (tdoneOfOtherHouse.takeBell 2 startBell).houseForms 3 startBell.bell.w2 = [0] := by decide
  have hband : startBell.argC ≠ 0xFFFF := by decide
  rw [State.progBell, State.activateFor_of_empty rfl]
  have hvalid : ((tdoneOfOtherHouse.takeBell 2 startBell).pipe startBell.pipe).valid = true := by decide
  have hhouse : ((tdoneOfOtherHouse.takeBell 2 startBell).pipe startBell.pipe).house = 3 := by decide
  exact State.noTdones_progStart (f := 0) (l := 5) hforms hband hvalid hhouse (by decide)

/-- Refutes O34: a PROG_START bell arms its band, and the arm drops the TDONE of core 5, which the bell does not name. -/
theorem not_bellsWakeWarnAndCatchLateCores : ¬ Obligations.BellsWakeWarnAndCatchLateCores := by
  rintro ⟨hcores, -⟩
  have hup : Up tdoneOfOtherHouse := ⟨rfl, rfl⟩
  have hbell : tdoneOfOtherHouse.bellHouse 0xFF0 = some 3 := by decide
  obtain ⟨hstart, -⟩ := hcores tdoneOfOtherHouse 2 0xFF0 3 startBell hup hbell
  obtain ⟨t, hexec, hall⟩ := hstart startBell_due (by decide) (by decide) (by decide)
  obtain ⟨-, hkeeps⟩ := hall 5 (by decide)
  obtain ⟨hhouse, htdone⟩ := core5_of_other_house
  have hsame : t.core 5 = tdoneOfOtherHouse.core 5 := hkeeps (by simp [hhouse])
  have hact : exec (.progStart 2 0xFF0) tdoneOfOtherHouse = .next ((tdoneOfOtherHouse.takeBell 2 startBell).progBell 3 startBell) :=
    exec_bell_of_due (f := fun s h d => s.progBell h d) hup hbell rfl startBell_due
  have ht : t = (tdoneOfOtherHouse.takeBell 2 startBell).progBell 3 startBell := Host.Outcome.next.inj (hexec.symm.trans hact)
  have hnil : (t.core 5).tdones = [] := ht ▸ tdones_after_start
  rw [hsame, htdone] at hnil
  cases hnil

end Sys2Proof.Machine
end

section
/-! PROOFS. How array commands start and complete (R102, R106, R107, R110, R111, R120, R126). -/
namespace Sys2Proof.Machine
open Claim

/-! ### Changes of one array -/

@[simp] theorem Core.arr_setArr_same (k : Core) (a : Nat) (x : Arr) : (k.setArr a x).arr a = x := by
  unfold Core.setArr Core.arr
  split <;> rfl

/-- The last of two replacements of an array stays. -/
@[simp] theorem Core.setArr_setArr_same (k : Core) (a : Nat) (x y : Arr) : (k.setArr a x).setArr a y = k.setArr a y := by
  unfold Core.setArr
  split <;> rfl

theorem Core.setArr_still (k : Core) (a : Nat) (x : Arr) : (k.setArr a x).signals = k.signals ∧ (k.setArr a x).tdones = k.tdones := by
  unfold Core.setArr
  split <;> exact ⟨rfl, rfl⟩

theorem Core.G_setArr (k : Core) (a : Nat) (x : Arr) (r : Nat) : (k.setArr a x).G r = k.G r := by
  unfold Core.setArr
  split <;> rfl

theorem Core.C_setArr (k : Core) (a : Nat) (x : Arr) (n : Nat) : (k.setArr a x).C n = k.C n := by
  unfold Core.setArr
  split <;> rfl

theorem WritesOnly.arr {d : RegSet} {y y' : Core} (h : WritesOnly d y y') (a : Nat) : y'.arr a = y.arr a :=
  (congrArg (fun k : Core => k.arr a) h.rest :)

/-- State t is s with array a of core c replaced by x. -/
structure ArrBecomes (c a : Nat) (x : Arr) (s t : State) : Prop where
  only : OnlyCore c s t
  core : t.core c = (s.core c).setArr a x

namespace ArrBecomes
variable {c a : Nat} {x : Arr} {s t : State}

theorem onArr_self (s : State) (c a : Nat) (f : Arr → Arr) : ArrBecomes c a (f ((s.core c).arr a)) s (s.onArr c a f) :=
  ⟨OnlyCore.onCore s c _, State.core_onCore_same s c _⟩

theorem onArr (h : ArrBecomes c a x s t) (f : Arr → Arr) : ArrBecomes c a (f x) s (t.onArr c a f) where
  only := h.only.trans (OnlyCore.onCore t c _)
  core := by rw [State.onArr, State.core_onCore_same, h.core, Core.arr_setArr_same, Core.setArr_setArr_same]

theorem arr (h : ArrBecomes c a x s t) : (t.core c).arr a = x := by rw [h.core, Core.arr_setArr_same]

theorem signals (h : ArrBecomes c a x s t) : (t.core c).signals = (s.core c).signals := by rw [h.core, (Core.setArr_still _ a x).1]

theorem tdones (h : ArrBecomes c a x s t) : (t.core c).tdones = (s.core c).tdones := by rw [h.core, (Core.setArr_still _ a x).2]

end ArrBecomes

/-! ### What a command does when it starts (log 30) -/

section
variable (s : State) (c a n : Nat)

theorem State.startOp_msr {r : Nat} {v : Word} (hplain : fld v 31 28 ≠ 2 ∨ r < 8 ∨ 0xD < r) : s.startOp c a ⟨.msr r v, n⟩ =
    (s.onArr c a (fun x => x.setReg r (aWritten r (x.reg r) v)), { op := .msr r v, seq := n }) := by
  have htable : ¬ (8 ≤ r ∧ r ≤ 0xD ∧ fld v 31 28 = 2) := by omega
  simp only [State.startOp, if_neg htable]

theorem State.startOp_mdst (h o : Nat) : s.startOp c a ⟨.mdst h o, n⟩ =
    (s.onArr c a (fun x => { x with dst := (h, o) }), { op := .mdst h o, seq := n }) := rfl

theorem State.startOp_mrs (g : Nat) {r : Nat} {v : Word} (hlisted : aRegListed r = true) (hstatus : r ≠ 1)
    (hvalue : ((s.core c).arr a).reg r = v) : s.startOp c a ⟨.mrs g r, n⟩ = (s, { op := .mrs g r, seq := n, value := v }) := by
  simp [State.startOp, State.aRead, hlisted, hstatus, hvalue]

/-- A read of the Desk without failing words changes nothing (R162). -/
theorem State.deskRead_of_clean {ofs len : Nat} (hclean : ∀ x ∈ wordsTouched (deskKey c a ofs) len, s.eccOf .desk x = 0) :
    s.deskRead c a ofs len = (some (memReadN s.desk (deskKey c a ofs) len), s) := by
  have hbad : s.firstBad .desk (deskKey c a ofs) len = none :=
    List.find?_eq_none.2 fun x hx => by simp [hclean x hx]
  have hcorrected : s.corrected .desk (deskKey c a ofs) len = 0 := by
    rw [State.corrected, List.length_eq_zero_iff, List.filter_eq_nil_iff]
    exact fun x hx => by simp [hclean x hx]
  rw [State.deskRead, hcorrected]
  simp only [State.coreEcc, List.replicate_zero, List.foldl_nil, hbad, State.load, State.bytesOf]

theorem State.startOp_wld {half : Nat}
    (hclean : ∀ x ∈ wordsTouched (deskKey c a (0x2000 + half * 2048)) 2048, s.eccOf .desk x = 0) : s.startOp c a ⟨.wld half, n⟩ =
    (s.onArr c a (fun x => { x with shadow := some (rowMem (memReadN s.desk (deskKey c a (0x2000 + half * 2048)) 2048)) }),
      { op := .wld half, seq := n }) := by
  simp only [State.startOp, State.readImage, State.deskRead_of_clean s c a hclean]

/-- A stream of no rows into the accumulators takes the shadow image, and no more. -/
theorem State.startOp_mstream_zero (i r m : Nat) {acc : Nat} (hacc : acc < 2) : s.startOp c a ⟨.mstream i r acc m 0, n⟩ =
    (s.onArr c a (fun x => { x with image := x.shadow.getD x.image, shadow := none }), { op := .mstream i r acc m 0, seq := n }) := by
  have hkeeps : ¬ 2 ≤ acc := by omega
  simp only [State.startOp, List.range_zero, List.foldl_nil, if_true, if_neg hkeeps]

end

/-! ### The start (R107) -/

section
variable {s : State} {c a : Nat}

/-- With both arrays in service each queue runs on its own array (R88). -/
theorem State.physArray_of_unfolded (hfold : s.fold c = false) : s.physArray c a = a := by simp [State.physArray, hfold]

theorem State.arrayStart_of_head {q : ArrCmd} {rest : List ArrCmd} (hfold : s.fold c = false) (hqueue : ((s.core c).arr a).queue = q :: rest)
    (hcan : canStart ((s.core c).arr a) ((s.core c).arr a).warmth q.op = true) {u : State} {r : ArrRun}
    (hstart : (s.onArr c a (fun x => { x with queue := rest })).startOp c a q = (u, r)) :
    s.arrayStart c a false = (u.onArr c a (fun x => { x with running := x.running ++ [r] })).onArr c a
      (fun x => { x with warmth := warmed x.warmth q.op }) := by
  have hturn : s.foldTurn c a = true := by simp [State.foldTurn, hfold]
  simp [State.arrayStart, hqueue, State.physArray_of_unfolded hfold, hcan, hturn, hstart]

theorem State.arrayStart_of_waiting {q : ArrCmd} {rest : List ArrCmd} (hfold : s.fold c = false)
    (hqueue : ((s.core c).arr a).queue = q :: rest)
    (hwaits : canStart ((s.core c).arr a) ((s.core c).arr a).warmth q.op = false) (bad : Bool) : s.arrayStart c a bad = s := by
  simp [State.arrayStart, hqueue, State.physArray_of_unfolded hfold, hwaits]

/-- Where nothing runs a command waits for the load of its array at most (R107, R126). -/
theorem canStart_of_idle {x : Arr} {w : Warmth} {o : ArrOp} (hidle : x.running = [])
    (hwarm : ∀ i r acc m k, o = .mstream i r acc m k → w ≠ .cold) : canStart x w o = true := by
  cases o
  case mstream i r acc m k => simp [canStart, hidle, hwarm i r acc m k rfl]
  all_goals simp [canStart, hidle]

/-- A stream needs a load other than cold and no WLD that runs (R102, R126). -/
theorem canStart_mstream_eq_false {x : Arr} {w : Warmth} (i r acc m k : Nat)
    (h : w = .cold ∨ ∃ half q, { op := .wld half, seq := q } ∈ x.running) : canStart x w (.mstream i r acc m k) = false := by
  simp only [canStart, Bool.and_eq_false_iff, Bool.not_eq_false', decide_eq_false_iff_not, not_not]
  rcases h with hcold | ⟨half, q, hruns⟩
  · exact .inr hcold
  · exact .inl (List.any_eq_true.2 ⟨_, hruns, rfl⟩)

end

theorem exec_arrayCommandStart_of_on {s : State} (c : Fin 1024) (a : Fin 2) (bad : Bool) (hon : s.coresOn = true) :
    exec (.arrayCommandStart c a bad) s = .next ((s.arrayStart c a bad).progress c) := by
  show Host.Outcome.next (if s.coresOn = true then _ else s) = _
  rw [if_pos hon]

/-- The start of a head command where nothing runs: its effect makes x of its array. -/
theorem exec_arrayCommandStart_eq {s u : State} {c : Fin 1024} {a : Fin 2} {q : ArrCmd} {rest : List ArrCmd} {r : ArrRun} {x : Arr}
    (hquiet : Quiet s c) (hon : s.coresOn = true) (hfold : s.fold c = false) (hqueue : ((s.core c).arr a).queue = q :: rest)
    (hidle : ((s.core c).arr a).running = []) (hwarm : ∀ i r acc m k, q.op = .mstream i r acc m k → ((s.core c).arr a).warmth ≠ .cold)
    (hstart : (s.onArr c a (fun x => { x with queue := rest })).startOp c a q = (u, r)) (hu : ArrBecomes c a x s u) :
    ∃ t, exec (.arrayCommandStart c a false) s = .next t ∧ { t with cores := s.cores } = s ∧
      (t.core c).arr a = { x with running := x.running ++ [r], warmth := warmed x.warmth q.op } := by
  have hdone := (hu.onArr (fun x => { x with running := x.running ++ [r] })).onArr (fun x => { x with warmth := warmed x.warmth q.op })
  obtain ⟨honly, ws, idle, hcore⟩ := hquiet.after hdone.signals hdone.tdones
  refine ⟨_, exec_arrayCommandStart_of_on c a false hon, ?_⟩
  rw [State.arrayStart_of_head hfold hqueue (canStart_of_idle hidle hwarm) hstart]
  refine ⟨(hdone.only.trans honly).rest, ?_⟩
  rw [hcore]
  exact hdone.arr

/-! ### The completion (R111, R120) -/

theorem exec_arrayCommandComplete_of_on {s : State} (c : Fin 1024) (a : Fin 2) (hon : s.coresOn = true) :
    exec (.arrayCommandComplete c a) s = .next ((s.arrayComplete c a).progress c) := by
  show Host.Outcome.next (if s.coresOn = true then _ else s) = _
  rw [if_pos hon]

/-- The core with the commands rs left to run in array a. -/
def Core.leftRunning (k : Core) (a : Nat) (rs : List ArrRun) : Core := k.setArr a { k.arr a with running := rs }

section
variable {s : State} {c a n : Nat} {fl : Flags} {rs : List ArrRun}

theorem State.arrayComplete_mrs {g r : Nat} {v : Word}
    (hrun : ((s.core c).arr a).running = { op := .mrs g r, seq := n, value := v, flags := fl } :: rs) :
    OnlyCore c s (s.arrayComplete c a) ∧
    (s.arrayComplete c a).core c = (((s.core c).leftRunning a rs).orFlags fl).setG g v := by
  obtain ⟨honly, hcore⟩ := ArrBecomes.onArr_self s c a (fun x => { x with running := rs })
  have hdone : s.arrayComplete c a = ((s.onArr c a (fun x => { x with running := rs })).onCore c (fun k => k.orFlags fl)).onCore c
      (fun k => k.setG g v) := by
    simp only [State.arrayComplete, hrun, List.foldl_nil]
  rw [hdone]
  refine ⟨(honly.trans (OnlyCore.onCore _ c _)).trans (OnlyCore.onCore _ c _), ?_⟩
  rw [State.core_onCore_same, State.core_onCore_same, hcore, Core.leftRunning]

/-- The bytes of a drain to the Locker that end within it are stored whole. -/
theorem State.arrayComplete_mdrain {r m h ad : Nat} {bs : List Byte} (hfits : ad + bs.length ≤ 65536)
    (hrun : ((s.core c).arr a).running = { op := .mdrain r m, seq := n, writes := [⟨h, false, ad, bs⟩], flags := fl } :: rs) :
    (∃ u, OnlyCore c s u ∧ OnlyCore c (u.store .locker (lockerKey c ad) bs) (s.arrayComplete c a)) ∧
    (s.arrayComplete c a).core c = ((s.core c).leftRunning a rs).orFlags fl := by
  obtain ⟨honly, hcore⟩ := ArrBecomes.onArr_self s c a (fun x => { x with running := rs })
  have htake : bs.take (65536 - ad) = bs := List.take_of_length_le (by omega)
  have hdone : s.arrayComplete c a = ((s.onArr c a (fun x => { x with running := rs })).store .locker (lockerKey c ad) bs).onCore c
      (fun k => k.orFlags fl) := by
    simp only [State.arrayComplete, hrun, List.foldl_cons, List.foldl_nil, State.drainVisible, State.lockerStore, htake,
      Bool.false_eq_true, if_false]
  rw [hdone]
  refine ⟨⟨_, honly, OnlyCore.onCore _ c _⟩, ?_⟩
  rw [State.core_onCore_same, State.core_store, hcore, Core.leftRunning]

end

/-- A completion that writes no register of its core but those of d and FFLAGS: its core then goes on by itself. -/
theorem exec_arrayCommandComplete_eq {s : State} {c : Fin 1024} {a : Fin 2} {rs : List ArrRun} {d : RegSet} (hquiet : Quiet s c)
    (hon : s.coresOn = true) (hwrites : WritesOnly d ((s.core c).leftRunning a rs) ((s.arrayComplete c a).core c)) :
    ∃ t, exec (.arrayCommandComplete c a) s = .next t ∧ ((t.core c).arr a).running = rs ∧ OnlyCore c (s.arrayComplete c a) t ∧
      ∃ ws idle, t.core c = { (s.arrayComplete c a).core c with waits := ws, idle := idle } := by
  obtain ⟨hsig, htd⟩ := Core.setArr_still (s.core c) a { (s.core c).arr a with running := rs }
  obtain ⟨honly, ws, idle, hcore⟩ := hquiet.after (hwrites.still.1.trans hsig) (hwrites.still.2.trans htd)
  refine ⟨_, exec_arrayCommandComplete_of_on c a hon, ?_, honly, ws, idle, hcore⟩
  rw [hcore]
  exact (congrArg Arr.running (hwrites.arr a)).trans (by rw [Core.leftRunning, Core.arr_setArr_same])

/-- Settles O12: a start by what its command makes of the array, a completion by what it stores and the registers that it writes. -/
theorem arrayCommandsAndWeightsPass : Obligations.ArrayCommandsAndWeightsPass := by
  refine ⟨?commands, ?weights⟩
  case commands =>
    intro s c a rest n hquiet hon hfold q starts
    have hpop := ArrBecomes.onArr_self s c a (fun x => { x with queue := rest })
    refine ⟨?msr, ?mdst, ?mrs, ?mrsCompletes, ?drainCompletes⟩
    case msr =>
      intro r v ⟨hqueue, hidle⟩ hplain
      obtain ⟨t, hexec, hrest, harr⟩ := exec_arrayCommandStart_eq hquiet hon hfold hqueue hidle nofun
        (State.startOp_msr _ c a n hplain) (hpop.onArr _)
      refine ⟨t, hexec, (congrArg Arr.queue harr :), (congrArg Arr.running harr :).trans (congrArg (· ++ [_]) hidle), ?_, hrest⟩
      exact ⟨(congrArg (Arr.reg · r) harr :).trans (mapGet_mapSet_same _ _ _ _),
        fun m hm => (congrArg (Arr.reg · m) harr :).trans (mapGet_mapSet_ne _ _ _ hm)⟩
    case mdst =>
      intro h o ⟨hqueue, hidle⟩
      obtain ⟨t, hexec, hrest, harr⟩ := exec_arrayCommandStart_eq hquiet hon hfold hqueue hidle nofun
        (State.startOp_mdst _ c a n h o) (hpop.onArr _)
      exact ⟨t, hexec, (congrArg Arr.queue harr :), (congrArg Arr.running harr :).trans (congrArg (· ++ [_]) hidle),
        ⟨(congrArg Arr.dst harr :), (congrArg Arr.regs harr :)⟩, hrest⟩
    case mrs =>
      intro g r ⟨hqueue, hidle⟩ hlisted hstatus
      obtain ⟨t, hexec, hrest, harr⟩ := exec_arrayCommandStart_eq hquiet hon hfold hqueue hidle nofun
        (State.startOp_mrs _ c a n g hlisted hstatus (congrArg (Arr.reg · r) hpop.arr)) hpop
      exact ⟨t, hexec, (congrArg Arr.queue harr :), (congrArg Arr.running harr :).trans (congrArg (· ++ [_]) hidle),
        (congrArg Arr.regs harr :), hrest⟩
    case mrsCompletes =>
      intro g r v fl rs hrun
      obtain ⟨honly, hcore⟩ := State.arrayComplete_mrs hrun
      have hwrites : WritesOnly { g := [g] } ((s.core c).leftRunning a rs) ((s.arrayComplete c a).core c) :=
        hcore ▸ (WritesOnly.orFlags _ _ fl).trans (WritesOnly.setG _ (List.mem_singleton_self g) v)
      obtain ⟨t, hexec, hleft, honly', ws, idle, hfinal⟩ := exec_arrayCommandComplete_eq hquiet hon hwrites
      refine ⟨t, hexec, hleft, fun hg => ?_, fun m hm => ?_, (honly.trans honly').rest⟩ <;> rw [hfinal]
      · exact (congrArg (Core.G · g) hcore).trans (Core.G_setG_same _ hg v)
      · exact (hwrites.g m (mt List.mem_singleton.1 hm)).trans (Core.G_setArr _ _ _ m)
    case drainCompletes =>
      intro h ad bs r m fl rs hrun hfits
      obtain ⟨⟨u, honly, hstore⟩, hcore⟩ := State.arrayComplete_mdrain hfits hrun
      obtain ⟨t, hexec, hleft, honly', ws, idle, hfinal⟩ := exec_arrayCommandComplete_eq (d := {}) hquiet hon
        (hcore ▸ WritesOnly.orFlags _ _ fl)
      obtain ⟨hrest, -, hlocker⟩ := State.store_locker_only honly (hstore.trans honly')
      refine ⟨t, hexec, hleft, fun i hi => ?_, ?_, hrest⟩
      · rw [hlocker]
        exact memRead_memWriteN_in _ bs hi
      · rw [hfinal, ← Core.C_setArr (s.core c) a { (s.core c).arr a with running := rs } 8]
        exact (congrArg (Core.C · 8) hcore).trans (Core.C_setC_same _ 8 _)
  case weights =>
    intro s c a rest n hquiet hon hfold y
    have hpop := ArrBecomes.onArr_self s c a (fun x => { x with queue := rest })
    refine ⟨?wld, ?stream, ?waits⟩
    case wld =>
      intro half hqueue hidle hclean
      obtain ⟨t, hexec, hrest, harr⟩ := exec_arrayCommandStart_eq hquiet hon hfold hqueue hidle nofun
        (State.startOp_wld _ c a n hclean) (hpop.onArr _)
      exact ⟨t, hexec, (congrArg Arr.queue harr :), (congrArg Arr.shadow harr :), (congrArg Arr.image harr :), hrest⟩
    case stream =>
      intro i r acc m hacc hqueue hidle hwarm
      obtain ⟨t, hexec, hrest, harr⟩ := exec_arrayCommandStart_eq hquiet hon hfold hqueue hidle (fun _ _ _ _ _ _ => hwarm)
        (State.startOp_mstream_zero _ c a n i r m hacc) (hpop.onArr _)
      exact ⟨t, hexec, (congrArg Arr.queue harr :), (congrArg Arr.image harr :), (congrArg Arr.shadow harr :), hrest⟩
    case waits =>
      intro i r acc m k hqueue hwaits
      rw [exec_arrayCommandStart_of_on c a false hon,
        State.arrayStart_of_waiting hfold hqueue (canStart_mstream_eq_false i r acc m k hwaits)]

end Sys2Proof.Machine
end

section
/-! PROOFS. What the Library holds after stores and clearings, and the aperture (R156, R168, R186). -/
namespace Sys2Proof
variable {α : Type}

/-- A table of which the entries of some keys have been left out. -/
theorem mapGet_filter_keys (d : Nat → α) (m : Map α) (p : Nat → Bool) (k : Nat) :
    mapGet d (m.filter (fun x => p x.1)) k = if p k then mapGet d m k else d k := by
  induction m with
  | nil => simp [mapGet]
  | cons x m ih =>
    obtain ⟨j, v⟩ := x
    by_cases hkj : k = j <;> by_cases hj : p j = true <;> simp_all [mapGet]

/-- A memory of which the bytes at some addresses have been cleared. -/
theorem memRead_filter (m : Memory) (p : Nat → Bool) (a : Nat) :
    memRead (m.filter (fun x => p x.1)) a = if p a then memRead m a else 0 :=
  mapGet_filter_keys memDefault m p a

theorem memReadN_eq_map (m : Memory) (a n : Nat) : memReadN m a n = (List.range' a n).map (memRead m) := by
  induction n generalizing a with
  | zero => rfl
  | succ n ih => rw [memReadN, ih, List.range'_succ, List.map_cons]

end Sys2Proof

namespace Sys2Proof.Machine
open Claim

/-- A store in the Library writes its bytes, and beside them check bits alone. -/
theorem State.store_lib_eq (s : State) (a : Nat) (bs : List Byte) :
    ∃ e, s.store .lib a bs = { s with lib := memWriteN s.lib a bs, ecc := e } :=
  s.store_eq .lib a bs

theorem State.rd_emit (s : State) (x : Output) (key : Nat) : (s.emit x).rd key = s.rd key := rfl

/-! ### The aperture -/

section
variable {s : State} {fn o : Nat}

/-- An address of the aperture and the addresses after it in its bank. -/
theorem State.apertureAddr_add {i : Nat} (h : o % 0x40000 + i < 0x40000) : s.apertureAddr fn (o + i) = s.apertureAddr fn o + i := by
  have hdiv : (o + i) / 0x40000 = o / 0x40000 := by omega
  have hmod : (o + i) % 0x40000 = o % 0x40000 + i := by omega
  rw [State.apertureAddr, State.apertureAddr, hdiv, hmod, Nat.add_assoc]

theorem bankOf_apertureAddr_add {i : Nat} (h : o % 0x40000 + i < 0x40000) :
    bankOf (s.apertureAddr fn o + i) = bankOf (s.apertureAddr fn o) := by
  simp only [bankOf, State.apertureAddr]
  omega

/-- An access within one open bank of the function's House reaches the addresses from its first one on. -/
theorem State.apertureBytes_of_open {n : Nat} (hgranted : s.granted fn = true) (ho : o < 0x2000000) (hfits : o % 0x40000 + n ≤ 0x40000)
    (hok : s.bankOk fn (bankOf (s.apertureAddr fn o)) = true) (hidle : s.bankBusy (bankOf (s.apertureAddr fn o)) = false) :
    s.apertureBytes fn o n = some (List.range' (s.apertureAddr fn o) n) := by
  have haddr : (List.range n).map (fun i => s.apertureAddr fn (o + i)) = List.range' (s.apertureAddr fn o) n := by
    rw [List.range'_eq_map_range]
    refine List.map_congr_left fun i hi => State.apertureAddr_add ?_
    have := List.mem_range.1 hi
    omega
  have hall : (List.range' (s.apertureAddr fn o) n).all (fun a => s.bankOk fn (bankOf a) && !s.bankBusy (bankOf a)) = true := by
    rw [List.all_eq_true]
    intro a ha
    obtain ⟨i, hi, rfl⟩ := List.mem_range'.1 ha
    rw [Nat.one_mul, bankOf_apertureAddr_add (by omega), hok, hidle]
    rfl
  have hend : o + n ≤ 0x2000000 := by omega
  simp only [State.apertureBytes, haddr, hall, hgranted, hend, decide_true, Bool.and_self, if_true]

/-- A function with no grant, or a first byte in a bank that is closed to the House or busy: the access is refused. -/
theorem State.apertureBytes_of_closed {n : Nat} (hn : 0 < n)
    (h : s.granted fn = false ∨ s.bankOk fn (bankOf (s.apertureAddr fn o)) = false ∨ s.bankBusy (bankOf (s.apertureAddr fn o)) = true) :
    s.apertureBytes fn o n = none := by
  refine if_neg fun hopen => ?_
  simp only [Bool.and_eq_true, List.all_eq_true] at hopen
  obtain ⟨⟨hgranted, -⟩, hbanks⟩ := hopen
  obtain ⟨hok, hidle⟩ := hbanks _ (List.mem_map.2 ⟨0, List.mem_range.2 hn, rfl⟩)
  rw [Nat.add_zero] at hok hidle
  rcases h with h | h | h <;> simp_all

/-- Bytes stored one by one in the Library. -/
theorem State.foldl_store_lib_eq (s : State) (a : Nat) (bs : List Byte) :
    ∃ e, ((List.range' a bs.length).zip bs).foldl (fun t x => t.store .lib x.1 [x.2]) s = { s with lib := memWriteN s.lib a bs, ecc := e } := by
  induction bs generalizing s a with
  | nil => exact ⟨s.ecc, rfl⟩
  | cons b bs ih =>
    obtain ⟨e, hfirst⟩ := s.store_lib_eq a [b]
    obtain ⟨e', hrest⟩ := ih (s.store .lib a [b]) (a + 1)
    refine ⟨e', ?_⟩
    rw [List.length_cons, List.range'_succ, List.zip_cons_cons, List.foldl_cons, hrest, hfirst]
    rfl

/-- A read of bytes without stored errors leaves all but what goes out as it is. -/
theorem State.apertureRead_of_clean {n a : Nat} (hbytes : s.apertureBytes fn o n = some (List.range' a n)) (hecc : s.ecc = []) :
    s.apertureRead fn o n = s.emit (.readData fn (0x2000000 + o) (memLe s.lib a n)) := by
  have hbad (x k : Nat) : s.firstBad .lib x k = none := by simp [State.firstBad, State.eccOf, hecc, mapGet]
  have hcorr (x k : Nat) : s.libCorrected x k = s := by simp [State.libCorrected, State.eccOf, hecc, mapGet]
  simp only [State.apertureRead, hbytes]
  rw [List.foldl_fixed' fun x => by simp only [hbad, hcorr]]
  simp only [hbad, memLe, memReadN_eq_map, Option.isSome_none, Bool.false_eq_true, if_false]

theorem exec_aperture_write_of_up (h : Up s) (fn : Fin 8) (o : Fin 33554432) (n : Nat) (bs : List Byte) :
    exec (.apertureAccess fn o n (some bs)) s = .next (s.apertureWrite fn o bs) :=
  exec_of_up (f := fun s => s.apertureWrite fn o bs) h rfl

theorem exec_aperture_read_of_up (h : Up s) (fn : Fin 8) (o : Fin 33554432) (n : Nat) :
    exec (.apertureAccess fn o n none) s = .next (s.apertureRead fn o n) :=
  exec_of_up (f := fun s => s.apertureRead fn o n) h rfl

/-- Two register writes leave everything but registers as it is. -/
theorem State.wr_wr_frame (s : State) (p q : Nat) (v w : Word) (regs : Map Word) :
    ((s.wr p v).wr q w).out = s.out ∧ { (s.wr p v).wr q w with regs := regs } = { s with regs := regs } := ⟨rfl, rfl⟩

theorem State.apertureRefused_frame (s : State) (fn o : Nat) :
    (s.apertureRefused fn o).out = s.out ∧ { s.apertureRefused fn o with regs := s.regs } = s :=
  s.wr_wr_frame _ _ _ _ s.regs

/-- A refused access counts in one register of the function and leaves its offset in another. -/
theorem State.rd_apertureRefused (s : State) (fn : Nat) (ho : o < 0x2000000) :
    (s.apertureRefused fn o).rd (Reg.own fn Reg.LIB_APERR) = bumpErr (s.rd (Reg.own fn Reg.LIB_APERR)) ∧
    (s.apertureRefused fn o).rd (Reg.own fn Reg.LIB_APERR_ADDR) = BitVec.ofNat 32 o ∧
    ∀ q, q ≠ Reg.own fn Reg.LIB_APERR → q ≠ Reg.own fn Reg.LIB_APERR_ADDR → (s.apertureRefused fn o).rd q = s.rd q := by
  have hkeys : Reg.own fn Reg.LIB_APERR ≠ Reg.own fn Reg.LIB_APERR_ADDR := by simp [Reg.own, Reg.LIB_APERR, Reg.LIB_APERR_ADDR]
  refine ⟨?_, ?_, fun q hcount haddr => ?_⟩
  · rw [State.apertureRefused, State.rd_wr_ne _ _ hkeys, State.rd_countErr_same]
  · rw [State.apertureRefused, State.rd_wr_same, Nat.mod_eq_of_lt (by omega)]
  · rw [State.apertureRefused, State.rd_wr_ne _ _ haddr, State.rd_countErr_ne _ hcount]

end

/-- Settles O17: an access within an open bank reaches consecutive bytes; any other one is refused at its first byte. -/
theorem apertureReachesTheHousesBanks : Obligations.ApertureReachesTheHousesBanks := by
  intro s fn o bs n hup a ok
  refine ⟨?write, ?read, ?readRefused, ?writeRefused⟩
  case write =>
    rintro ⟨hgranted, hfits, hok, hidle⟩
    obtain ⟨e, hstored⟩ := s.foldl_store_lib_eq a bs
    refine ⟨{ s with lib := memWriteN s.lib a bs, ecc := e }, ?_, fun i hi => memRead_memWriteN_in _ bs hi,
      fun q hq => memRead_memWriteN_out _ bs hq, rfl⟩
    rw [exec_aperture_write_of_up hup, ← hstored]
    simp only [State.apertureWrite, State.apertureBytes_of_open hgranted o.isLt hfits hok hidle]
    rfl
  case read =>
    rintro ⟨hgranted, hfits, hok, hidle⟩ - hecc
    rw [exec_aperture_read_of_up hup]
    exact congrArg _ (State.apertureRead_of_clean (State.apertureBytes_of_open hgranted o.isLt hfits hok hidle) hecc)
  case readRefused =>
    intro hclosed hn
    obtain ⟨hcount, haddr, -⟩ := s.rd_apertureRefused fn.val o.isLt
    obtain ⟨hout, hrest⟩ := s.apertureRefused_frame fn.val o.val
    refine ⟨(s.apertureRefused fn o).emit (.readData fn (0x2000000 + o) 0), ?exec, ?out, ?count, ?addr, ?rest⟩
    case exec =>
      rw [exec_aperture_read_of_up hup]
      simp only [State.apertureRead, State.apertureBytes_of_closed hn hclosed]
    case out => exact congrArg (_ :: ·) hout
    case count => rw [State.rd_emit, hcount]
    case addr => rw [State.rd_emit, haddr]
    case rest => exact (congrArg (fun u : State => { u with out := s.out }) hrest :)
  case writeRefused =>
    intro hclosed hbs
    obtain ⟨hcount, haddr, hothers⟩ := s.rd_apertureRefused fn.val o.isLt
    refine ⟨s.apertureRefused fn o, ?_, (s.apertureRefused_frame fn.val o.val).2, by simp [hcount, haddr], fun q hq => ?_⟩
    · rw [exec_aperture_write_of_up hup]
      simp only [State.apertureWrite, State.apertureBytes_of_closed (List.length_pos_iff.2 hbs) hclosed]
    · exact hothers q (hq _ (List.mem_cons_self)).symm (hq _ (List.mem_cons_of_mem _ List.mem_cons_self)).symm

end Sys2Proof.Machine
end

section
/-! PROOFS. Handovers that end, and fills of the shelf that come in (R168, R170, R171). -/
namespace Sys2Proof

/-- Bytes written read back as a whole. -/
theorem memReadN_memWriteN (m : Memory) (a : Nat) (bs : List Byte) : memReadN (memWriteN m a bs) a bs.length = bs := by
  rw [memReadN_eq_map]
  refine List.ext_getElem (by simp) fun i _ hi => ?_
  rw [List.getElem_map, List.getElem_range', Nat.one_mul, memRead_memWriteN_in _ _ hi]

end Sys2Proof

namespace Sys2Proof.Machine
open Claim

/-! ### The end of a handover -/

section
variable {s : State} {b : Nat}

/-- A cleared bank reads 0, and every other bank as before. -/
theorem State.memRead_zeroBank (s : State) (b a : Nat) :
    memRead (s.zeroBank b).lib a = if bankOf a = b then 0 else memRead s.lib a := by
  refine (memRead_filter s.lib (fun k => decide (bankOf k ≠ b)) a).trans ?_
  by_cases h : bankOf a = b <;> simp [h]

/-- A bank that has been zeroed where ZERO asks for it, and whose BUSY has cleared. -/
def State.openBank (s : State) (b : Nat) : State :=
  (if bit (s.bankReg b) 9 then s.zeroBank b else s).wr (Reg.LIB_BANKb b) (setBit (setBit (s.bankReg b) 9 false) 30 false)

theorem State.openBank_frame (s : State) (b : Nat) :
    (s.openBank b).late = s.late ∧ (s.openBank b).locker = s.locker ∧ (s.openBank b).cores = s.cores := by
  unfold State.openBank
  split <;> exact ⟨rfl, rfl, rfl⟩

@[simp] theorem State.bankReg_openBank (s : State) (b : Nat) : (s.openBank b).bankReg b = setBit (setBit (s.bankReg b) 9 false) 30 false :=
  State.rd_wr_same _ _ _

theorem State.memRead_openBank (s : State) (b a : Nat) :
    memRead (s.openBank b).lib a = if bankOf a = b ∧ bit (s.bankReg b) 9 = true then 0 else memRead s.lib a := by
  simp only [State.openBank, State.wr_frame]
  split
  next hzero => simp [State.memRead_zeroBank, hzero]
  next hkeep => simp [hkeep]

/-- The handover of a busy bank ends: the bank opens, and the writes that waited at it are stored. -/
theorem State.handoverDone_of_busy (hbusy : s.bankBusy b = true) (hmarch : s.inMarch b = false) :
    s.handoverDone b = (s.late.filter (fun x => decide (bankOf x.2.1 = b))).foldl (fun t x => t.store .lib x.2.1 x.2.2)
      { s.openBank b with late := s.late.filter (fun x => decide (bankOf x.2.1 ≠ b)) } := by
  have hcases : s.bankBusy b && !s.inMarch b := by simp [hbusy, hmarch]
  unfold State.handoverDone State.openBank
  rw [if_pos hcases]
  split <;> rfl

theorem State.handoverDone_of_idle (hidle : s.bankBusy b = false) : s.handoverDone b = s := by
  simp [State.handoverDone, hidle]

end

/-! ### Lines of the shelf -/

section
variable {s : State} {h x : Nat}

/-- An error of the Library is counted and noted for Dvorzar. -/
theorem State.libError_rest (s : State) (unc : Bool) (a : Nat) :
    { s.libError unc a with regs := s.regs, service := s.service } = s := by
  have hwrites (t : State) (p q : Nat) (v w : Word) (r : Service) :
      { ({ t.wr p v with service := r } : State).wr q w with regs := t.regs, service := t.service } = t := rfl
  cases unc
  · exact hwrites _ _ _ _ _ s.service
  · exact hwrites _ _ _ _ _ _

/-- Bytes written in external memory leave everything else as it is. -/
theorem State.dramWrite_rest (s : State) (h a : Nat) (bs : List Byte) : { s.dramWrite h a bs with dram := s.dram } = s := by
  induction bs generalizing s a with
  | nil => rfl
  | cons b bs ih =>
    unfold State.dramWrite
    split
    next p _ => exact (congrArg (fun t : State => { t with dram := s.dram }) (ih _ _) :)
    next => exact ih _ _

/-- A way that is emptied: its line may go to external memory, or its error be counted. -/
theorem State.evict_rest (s : State) (h i : Nat) :
    { s.evict h i with regs := s.regs, service := s.service, dram := s.dram, shelfTags := s.shelfTags } = s := by
  have hemptied {t : State} (ht : { t with regs := s.regs, service := s.service, dram := s.dram } = s) :
      { t.setTag i none with regs := s.regs, service := s.service, dram := s.dram, shelfTags := s.shelfTags } = s :=
    (congrArg (fun u : State => { u with shelfTags := s.shelfTags }) ht :)
  unfold State.evict
  split
  · rfl
  · refine hemptied ?_
    split
    · split
      · exact (congrArg (fun u : State => { u with dram := s.dram }) (s.libError_rest true (wayAddr i)) :)
      · exact (congrArg (fun u : State => { u with regs := s.regs, service := s.service }) (s.dramWrite_rest h _ _) :)
    · rfl

theorem State.tag_setTag_same (s : State) (i : Nat) (t : Option (Nat × Bool)) : (s.setTag i t).tag i = t :=
  mapGet_mapSet_same (fun _ => none) s.shelfTags i t

theorem State.tag_setTag_ne (s : State) {i j : Nat} (t : Option (Nat × Bool)) (h : j ≠ i) : (s.setTag i t).tag j = s.tag j :=
  mapGet_mapSet_ne (fun _ => none) s.shelfTags t h

/-- Every other way keeps its line. -/
theorem State.tag_evict_ne (s : State) (h : Nat) {i j : Nat} (hj : j ≠ i) : (s.evict h i).tag j = s.tag j := by
  have hemptied {t : State} (ht : t.shelfTags = s.shelfTags) : (t.setTag i none).tag j = s.tag j := by
    rw [State.tag_setTag_ne _ _ hj, State.tag, ht, State.tag]
  unfold State.evict
  split
  · rfl
  · refine hemptied ?_
    split
    · split
      · exact (congrArg State.shelfTags (s.libError_rest true (wayAddr i)) :)
      · exact (congrArg State.shelfTags (s.dramWrite_rest h _ _) :)
    · rfl

theorem lruVictim_lt (bits : Nat) : lruVictim bits < 16 := by
  have hbit (i : Nat) : (Nat.testBit bits i).toNat < 2 := Bool.toNat_lt _
  have h0 := hbit 0
  have h1 := hbit (1 + (Nat.testBit bits 0).toNat)
  unfold lruVictim
  dsimp only
  generalize (Nat.testBit bits 0).toNat = n0 at *
  generalize (Nat.testBit bits (1 + n0)).toNat = n1 at *
  have h2 := hbit (3 + 2 * n0 + n1)
  generalize (Nat.testBit bits (3 + 2 * n0 + n1)).toNat = n2 at *
  have h3 := hbit (7 + 4 * n0 + 2 * n1 + n2)
  omega

theorem State.victim_lt (s : State) (set : Nat) : s.victim set < 16 := by
  unfold State.victim
  split
  next w hw => exact List.mem_range.1 (List.mem_of_find?_eq_some hw)
  next => exact lruVictim_lt _

/-- Way `w` of the set of a line holds the line. -/
def State.wayHolds (s : State) (h x w : Nat) : Bool :=
  match s.tag (s.lineSet h x * 16 + w) with
  | some (t, _) => decide (t = x / 64)
  | none => false

theorem State.lineWay_eq (s : State) (h x : Nat) : s.lineWay h x = (List.range 16).find? (s.wayHolds h x) := rfl

theorem State.wayHolds_of_not_hasLine (hline : s.hasLine h x = false) {w : Nat} (hw : w < 16) : s.wayHolds h x w = false := by
  have hnone : (List.range 16).find? (s.wayHolds h x) = none := by simpa [State.hasLine, State.lineWay_eq] using hline
  simpa using List.find?_eq_none.1 hnone w (List.mem_range.2 hw)

/-- The way that a new line of a set takes. -/
def State.newWay (s : State) (h x : Nat) : Nat := s.lineSet h x * 16 + s.victim (s.lineSet h x)

/-- What an allocated line leaves as it is, and the bytes and tags of its way. -/
structure Allocated (s t : State) (h x : Nat) (bs : List Byte) (dirty : Bool) : Prop where
  fills : t.fills = s.fills
  cores : t.cores = s.cores
  locker : t.locker = s.locker
  slots : t.shelfSlots = s.shelfSlots
  lib : t.lib = memWriteN s.lib (wayAddr (s.newWay h x)) bs
  tag : t.tag (s.newWay h x) = some (x / 64, dirty)
  others : ∀ j, j ≠ s.newWay h x → t.tag j = s.tag j

theorem State.allocated_allocLine (s : State) (h x : Nat) (bs : List Byte) (dirty : Bool) :
    Allocated s (s.allocLine h x bs dirty) h x bs dirty := by
  generalize hu : (s.evict h (s.newWay h x)).setTag (s.newWay h x) (some (x / 64, dirty)) = u
  have hrest : { u with regs := s.regs, service := s.service, dram := s.dram, shelfTags := s.shelfTags } = s := by
    rw [← hu]
    exact s.evict_rest h (s.newWay h x)
  obtain ⟨e, hstore⟩ := u.store_lib_eq (wayAddr (s.newWay h x)) bs
  have hline : s.allocLine h x bs dirty = (u.store .lib (wayAddr (s.newWay h x)) bs).touch (s.lineSet h x) (s.victim (s.lineSet h x)) := by
    rw [← hu]
    rfl
  rw [hline, hstore]
  refine ⟨(congrArg State.fills hrest :), (congrArg State.cores hrest :), (congrArg State.locker hrest :), (congrArg State.shelfSlots hrest :),
    congrArg (memWriteN · _ bs) (congrArg State.lib hrest :), ?here, fun j hj => ?others⟩
  case here =>
    show u.tag _ = _
    rw [← hu]
    exact State.tag_setTag_same _ _ _
  case others =>
    show u.tag j = s.tag j
    rw [← hu]
    exact (State.tag_setTag_ne _ _ hj).trans (s.tag_evict_ne h hj)

/-- A line that has been allocated is found in its way. -/
theorem Allocated.lineWay {t : State} {bs : List Byte} {dirty : Bool} (ha : Allocated s t h x bs dirty) (hline : s.hasLine h x = false) :
    t.lineWay h x = some (s.victim (s.lineSet h x)) := by
  have hset : t.lineSet h x = s.lineSet h x := by simp only [State.lineSet, State.slotBank, ha.slots]
  have hlt := s.victim_lt (s.lineSet h x)
  rw [State.lineWay_eq, List.find?_range_eq_some]
  refine ⟨?_, List.mem_range.2 hlt, fun w hw => ?_⟩
  · have htag := ha.tag
    rw [State.newWay] at htag
    simp only [State.wayHolds, hset, htag, decide_true]
  · have hother := ha.others (s.lineSet h x * 16 + w) (by rw [State.newWay]; omega)
    have hnone := State.wayHolds_of_not_hasLine hline (hw.trans hlt)
    rw [State.wayHolds] at hnone
    simp only [State.wayHolds, hset, hother, hnone, Bool.not_false]

/-- The bytes of a line that has been allocated are those given. -/
theorem Allocated.lineRead {t : State} {bs : List Byte} {dirty : Bool} (ha : Allocated s t h x bs dirty) (hline : s.hasLine h x = false)
    (hx : x % 64 = 0) : t.lineRead h x bs.length = bs := by
  have hset : t.lineSet h x = s.lineSet h x := by simp only [State.lineSet, State.slotBank, ha.slots]
  have hstart : x / 64 * 64 = x := by omega
  have hlib : memReadN t.lib (wayAddr (s.newWay h x)) bs.length = bs := by rw [ha.lib, memReadN_memWriteN]
  simp only [State.lineRead, hstart, ha.lineWay hline, hset, hx, Nat.add_zero]
  exact hlib

@[simp] theorem State.dramRead_length (s : State) (h a n : Nat) : (s.dramRead h a n).length = n := by
  induction n generalizing a with
  | zero => rfl
  | succ n ih => simp [State.dramRead, ih]

/-- The state without the fill of a line among those that are out. -/
def State.dropFill (s : State) (h x : Nat) : State := { s with fills := s.fills.filter (fun f => decide (f ≠ (h, x))) }

theorem State.dramRead_dropFill (s : State) (h x k a n : Nat) : (s.dropFill h x).dramRead k a n = s.dramRead k a n := by
  induction n generalizing a with
  | zero => rfl
  | succ n ih => exact congrArg (s.dramByte k a :: ·) (ih _)

/-- The fill of a line that has a slot and a place and is not in the shelf allocates it. -/
theorem State.shelfFill_of_missing (hslot : s.slotBank h (x / 64 % 64) < 512) (hmapped : s.firstUnmapped h x 1 = none)
    (hline : s.hasLine h x = false) : s.shelfFill h x = (s.dropFill h x).allocLine h x (s.dramRead h x 64) false := by
  have hgo : (decide ((s.dropFill h x).slotBank h (x / 64 % 64) < 512) && ((s.dropFill h x).firstUnmapped h x 1).isNone) = true := by
    have hmapped' : (s.dropFill h x).firstUnmapped h x 1 = none := hmapped
    rw [hmapped']
    exact (Bool.and_true _).trans (decide_eq_true hslot)
  have hline' : ¬ (s.dropFill h x).hasLine h x = true := by
    have hsame : (s.dropFill h x).hasLine h x = false := hline
    simp [hsame]
  rw [← s.dramRead_dropFill h x]
  exact (if_pos hgo).trans (if_neg hline')

end

/-- Settles O23: a handover by the bank that it opens and the writes that waited there, a fill by the line that it allocates. -/
theorem handoversAndFillsComplete : Obligations.HandoversAndFillsComplete := by
  intro s hup
  have hexec (b : Fin 512) : exec (.handoverComplete b) s = .next (s.handoverDone b) := exec_of_up (f := fun s => s.handoverDone b) hup rfl
  have hfill (h : Fin 8) (line : Nat) : exec (.shelfFill h line) s =
      .next (if s.fills.contains (h.val, line / 64 * 64) then s.shelfFill h (line / 64 * 64) else s) :=
    exec_of_up (f := fun s => if s.fills.contains (h.val, line / 64 * 64) then s.shelfFill h (line / 64 * 64) else s) hup rfl
  refine ⟨?opens, ?waited, ?idle, ?noFill, ?fill⟩
  case opens =>
    intro b hbusy hmarch hnone
    have hmine : s.late.filter (fun x => decide (bankOf x.2.1 = b.val)) = [] := by simpa [List.filter_eq_nil_iff] using hnone
    have hothers : s.late.filter (fun x => decide (bankOf x.2.1 ≠ b.val)) = s.late := by simpa [List.filter_eq_self] using hnone
    obtain ⟨-, hlocker, hcores⟩ := s.openBank_frame b
    refine ⟨{ s.openBank b with late := s.late }, ?exec, ?busy, ?zero, ?rest, fun a ha => ?mine, fun a ha => ?others, rfl, hlocker, hcores⟩
    case exec => rw [hexec, State.handoverDone_of_busy hbusy hmarch, hmine, hothers, List.foldl_nil]
    case busy =>
      show bit ((s.openBank b).bankReg b) 30 = false
      rw [State.bankReg_openBank, bit_setBit_same _ _ (by decide)]
    case zero =>
      show bit ((s.openBank b).bankReg b) 9 = false
      rw [State.bankReg_openBank, bit_setBit_ne _ _ (by decide) (by decide), bit_setBit_same _ _ (by decide)]
    case rest =>
      show fld ((s.openBank b).bankReg b) 8 0 = fld (s.bankReg b) 8 0
      rw [State.bankReg_openBank, setBit, fld_setFld_ne _ _ (by decide) (by decide), setBit, fld_setFld_ne _ _ (by decide) (by decide)]
    case mine => simp [State.memRead_openBank, ha]
    case others => simp [State.memRead_openBank, ha]
  case waited =>
    intro b r a bs hbusy hmarch hlate ha
    have hmine : s.late.filter (fun x => decide (bankOf x.2.1 = b.val)) = [(r, a, bs)] := by simp [hlate, ha]
    have hothers : s.late.filter (fun x => decide (bankOf x.2.1 ≠ b.val)) = [] := by simp [hlate, ha]
    obtain ⟨e, hstore⟩ := State.store_lib_eq { s.openBank b with late := [] } a bs
    refine ⟨{ s.openBank b with late := [], lib := memWriteN (s.openBank b).lib a bs, ecc := e }, (hexec b).trans (congrArg _ ?_), rfl, fun i hi => memRead_memWriteN_in (s.openBank b).lib bs hi⟩
    rw [State.handoverDone_of_busy hbusy hmarch, hmine, hothers, List.foldl_cons, List.foldl_nil, hstore]
  case idle =>
    intro b hidle
    rw [hexec, State.handoverDone_of_idle hidle]
  case noFill =>
    intro h line hout
    rw [hfill, if_neg (by simpa using hout)]
  case fill =>
    intro h line x hout hslot hmapped hline
    have ha := (s.dropFill h x).allocated_allocLine h x (s.dramRead h x 64) false
    have hread := ha.lineRead hline (Nat.mul_mod_left _ _)
    rw [State.dramRead_length] at hread
    refine ⟨_, ?exec, ?_, ?_, hread, ha.cores, ha.locker⟩
    case exec => rw [hfill, if_pos (by simpa using hout), State.shelfFill_of_missing hslot hmapped hline]
    · rw [ha.fills]
      simp [State.dropFill]
    · rw [State.hasLine, ha.lineWay hline]
      rfl

end Sys2Proof.Machine
end

section
/-! PROOFS. The scrubber, the response to uncorrectable errors and the ends of march runs (R174, R182, R184, R288). -/
namespace Sys2Proof.Machine
open Claim

/-! ### The scrubber -/

section
variable {s : State} {b : Nat}

/-- Corrected words are counted in registers alone. -/
theorem State.libCorrected_rest (s : State) (a n : Nat) : { s.libCorrected a n with regs := s.regs } = s :=
  foldl_keeps (g := fun t : State => { t with regs := s.regs }) (f := fun t k => t.libError false k)
    (fun t _ => (t.wr_wr_frame _ _ _ _ s.regs).2) _ s

/-- A word whose error has been cleared, and the other words. -/
theorem State.eccOf_setEcc_zero (s : State) (sp : Space) (k x : Nat) :
    (s.setEcc sp k 0).eccOf sp x = if eccKey sp x = eccKey sp k then 0 else s.eccOf sp x := by
  unfold State.eccOf State.setEcc
  split
  next h => rw [h, mapGet_mapSet_same]
  next h => exact mapGet_mapSet_ne (fun _ => 0) s.ecc 0 h

theorem State.eccOf_setEcc_of_zero {sp : Space} {x : Nat} (k : Nat) (h : s.eccOf sp x = 0) : (s.setEcc sp k 0).eccOf sp x = 0 := by
  rw [State.eccOf_setEcc_zero, h, ite_self]

/-- The errors of some Library words cleared. -/
def State.clearEcc (s : State) (ks : List Nat) : State := ks.foldl (fun t k => t.setEcc .lib k 0) s

theorem State.clearEcc_rest (s : State) (ks : List Nat) : { s.clearEcc ks with ecc := s.ecc } = s :=
  foldl_keeps (g := fun t : State => { t with ecc := s.ecc }) (f := fun t k => t.setEcc .lib k 0) (fun _ _ => rfl) ks s

/-- Once its correctable errors are cleared, a row without uncorrectable ones holds none. -/
theorem State.eccOf_clearEcc {l : List Nat} (h : ∀ x ∈ l, s.eccOf .lib x ≤ 1) {x : Nat} (hx : x ∈ l) :
    (s.clearEcc (l.filter (fun k => decide (s.eccOf .lib k = 1)))).eccOf .lib x = 0 := by
  have hkeep (t : State) (k : Nat) (ht : t.eccOf .lib x = 0) : (t.setEcc .lib k 0).eccOf .lib x = 0 := State.eccOf_setEcc_of_zero k ht
  by_cases hone : s.eccOf .lib x = 1
  · have hmem : x ∈ l.filter (fun k => decide (s.eccOf .lib k = 1)) := by simp [hx, hone]
    exact foldl_holds_of_mem (P := fun t => t.eccOf .lib x = 0) hmem (fun t => by simp [State.eccOf_setEcc_zero]) hkeep s
  · have hzero : s.eccOf .lib x = 0 := by have := h x hx; omega
    exact foldl_holds (P := fun t => t.eccOf .lib x = 0) hkeep _ hzero

/-- The scrubber moves to the next row of a bank. -/
def State.nextRow (s : State) (b : Nat) : State :=
  { s with service := { s.service with scrubRows := mapSet (fun _ => 0) s.service.scrubRows b ((mapGet (fun _ => 0) s.service.scrubRows b + 1) % 4096) } }

theorem State.scrub_of_off (h : bit (s.rd Reg.LIB_SCRUB) 0 = false ∨ s.bankBusy b = true ∨ s.bankUnit b = 3) : s.scrub b = s := by
  refine if_pos ?_
  rcases h with h | h | h <;> simp [h]

/-- A row without uncorrectable errors is counted and rewritten. -/
theorem State.scrub_of_correctable {a : Nat} (ha : a = b * 2 ^ 18 + 64 * mapGet (fun _ => 0) s.service.scrubRows b)
    (hon : bit (s.rd Reg.LIB_SCRUB) 0 = true) (hidle : s.bankBusy b = false) (hunit : s.bankUnit b ≠ 3)
    (hrow : ∀ x ∈ wordsTouched a 64, s.eccOf .lib x ≤ 1) :
    (∀ x ∈ wordsTouched a 64, (s.scrub b).eccOf .lib x = 0) ∧ (s.scrub b).lib = s.lib ∧ (s.scrub b).service = (s.nextRow b).service := by
  generalize hu : (s.nextRow b).libCorrected a 64 = u
  have hcount : { u with regs := s.regs } = s.nextRow b := hu ▸ (s.nextRow b).libCorrected_rest a 64
  have hsame (x : Nat) : s.eccOf .lib x = u.eccOf .lib x := by rw [State.eccOf, State.eccOf, (congrArg State.ecc hcount :)]; rfl
  generalize hv : u.clearEcc ((wordsTouched a 64).filter (fun k => decide (u.eccOf .lib k = 1))) = v
  have hclean : ∀ x ∈ wordsTouched a 64, v.eccOf .lib x = 0 := by
    simp only [hsame] at hrow
    exact fun x hx => hv ▸ State.eccOf_clearEcc hrow hx
  have hbad : v.firstBad .lib a 64 = none := List.find?_eq_none.2 fun x hx => by simp [hclean x hx]
  have hscrub : s.scrub b = v := by
    simp only [State.nextRow, State.clearEcc, ha] at hu hv hbad
    simp only [State.scrub, hon, hidle, hunit, hu, hv, hbad, Bool.not_true, Bool.or_self, decide_false, Bool.false_eq_true, if_false]
  have hclear : { v with ecc := u.ecc } = u := hv ▸ u.clearEcc_rest _
  rw [hscrub]
  exact ⟨hclean, (congrArg State.lib hclear :).trans (congrArg State.lib hcount :),
    (congrArg State.service hclear :).trans (congrArg State.service hcount :)⟩

end

/-! ### The response to an uncorrectable error -/

section
variable {s : State} {b : Nat}

/-- Dvorzar has heard of the errors of a bank. -/
def State.hearUnc (s : State) (b : Nat) : State := { s with service := { s.service with uncTold := s.service.uncTold.filter (· ≠ b) } }

/-- The march that follows an error of a bank (R288). -/
def errorMarch (b : Nat) : March := { core := false, unit := b, preserving := true, waiter := none }

/-- An error of the bank has been told, and the bank is in use and not under a march or a handover. -/
structure ErrorTold (s : State) (b : Nat) : Prop where
  told : s.service.uncTold.contains b = true
  live : s.bankRetired b = false
  unit : s.bankUnit b ≠ 3
  idle : s.bankBusy b = false

theorem State.uncResponse_of_untold (h : s.service.uncTold.contains b = false) : s.uncResponse b = s :=
  if_pos (by rw [h]; rfl)

/-- What Dvorzar does about a bank with errors: steps 1 and 2 of R288 where a House's bank has a spare, then retirement or a march. -/
def State.answerUnc (s : State) (b : Nat) : State :=
  let t := (s.spareFor b).elim s (fun x => if s.bankOwner b < 8 then s.substituteBank b x (s.bankOwner b) else s)
  if t.bankWorn b || (decide (s.bankOwner b < 8) && (s.spareFor b).isNone) then t.retireBank b
  else (if s.bankOwner b = 8 then t else t.bankSet b 8 0 false false).startMarch (errorMarch b)

theorem ErrorTold.uncResponse_eq (h : ErrorTold s b) : s.uncResponse b = (s.hearUnc b).answerUnc b := by
  obtain ⟨htold, hlive, hunit, hidle⟩ := h
  refine (if_neg ?_).trans ?_
  · simp only [htold, hlive, hidle, hunit, decide_false, Bool.not_true, Bool.or_self, Bool.false_eq_true, not_false_iff]
  · extract_lets service u owner spare t
    have hu : s.hearUnc b = u := rfl
    rw [hu]
    simp only [State.answerUnc, t, spare, owner]
    cases u.spareFor b <;> rfl

/-- Without a spare the bank of a House is retired. -/
theorem State.answerUnc_of_no_spare (howner : s.bankOwner b < 8) (hspare : s.spareFor b = none) : s.answerUnc b = s.retireBank b := by
  simp [State.answerUnc, howner, hspare]

/-- A spare takes the place of a House's bank, which is then marched, or retired where it has had three errors. -/
theorem State.answerUnc_of_spare {x h : Nat} (howner : s.bankOwner b = h) (hhouse : h < 8) (hspare : s.spareFor b = some x) :
    s.answerUnc b = if (s.substituteBank b x h).bankWorn b = true then (s.substituteBank b x h).retireBank b
      else ((s.substituteBank b x h).bankSet b 8 0 false false).startMarch (errorMarch b) := by
  have hne : h ≠ 8 := by omega
  simp [State.answerUnc, howner, hhouse, hne, hspare]

/-- A bank that the Dean owns is marched. -/
theorem State.answerUnc_of_dean (howner : s.bankOwner b = 8) (hworn : s.bankWorn b = false) :
    s.answerUnc b = s.startMarch (errorMarch b) := by
  cases hspare : s.spareFor b <;> simp [State.answerUnc, howner, hworn, hspare]

end

/-! ### Ends of march runs -/

section
variable {s : State} {m : March}

/-- The engine has ended its only run, and LIB_MARCH says how. -/
def State.endMarch (s : State) (m : March) (bad : Bool) : State :=
  State.marchReport { s with service := { s.service with marches := [] } } m bad false

theorem State.endMarch_rest (s : State) (m : March) (bad : Bool) :
    { s.endMarch m bad with regs := s.regs } = { s with service := { s.service with marches := [] } } :=
  (State.wr_wr_frame _ _ _ _ _ s.regs).2

theorem State.rd_march_endMarch (s : State) (m : March) (bad : Bool) :
    (s.endMarch m bad).rd Reg.LIB_MARCH = BitVec.ofNat 32 (bad.toNat * 2 ^ 16 + m.preserving.toNat * 8 + (if bad then 3 else 2)) := by
  rw [State.endMarch, State.marchReport, State.rd_wr_ne _ _ (by decide), State.rd_wr_same]
  rfl

theorem State.rd_zeroBank (s : State) (b key : Nat) : (s.zeroBank b).rd key = s.rd key := rfl

/-- A core whose memories have been zeroed. -/
theorem State.memRead_zeroCore (s : State) (c : Nat) :
    (∀ a, memRead (s.zeroCore c).locker a = if a / 2 ^ 16 = c then 0 else memRead s.locker a) ∧
    ∀ a, memRead (s.zeroCore c).desk a = if a / 2 ^ 15 = c then 0 else memRead s.desk a := by
  refine ⟨fun a => (memRead_filter s.locker (fun k => decide (k / 2 ^ 16 ≠ c)) a).trans ?_,
    fun a => (memRead_filter s.desk (fun k => decide (k / 2 ^ 15 ≠ c)) a).trans ?_⟩
  · simp
  · simp

theorem bankKey_ne_march (b : Nat) : Reg.LIB_MARCH ≠ Reg.LIB_BANKb b := by
  simp only [Reg.LIB_MARCH, Reg.LIB_BANKb]
  omega

theorem State.marchComplete_of_none (fail : Bool) (h : s.service.marches = []) : s.marchComplete fail = s := by
  simp [State.marchComplete, State.marchDone, h]

/-- A bank is no longer counted as retired. -/
def State.dropRetired (s : State) (b : Nat) : State :=
  { s with service := { s.service with retiredBanks := s.service.retiredBanks.filter (· ≠ b) } }

theorem State.rd_dropRetired (s : State) (b key : Nat) : (s.dropRetired b).rd key = s.rd key := rfl

/-- A destructive run of a bank that passes: the bank is zeroed and goes back to the Dean. -/
theorem State.marchDone_of_bank_pass {b : Nat} (hm : s.service.marches = [⟨false, b, false, none⟩]) (hlive : b ∉ s.service.retiredBanks) :
    s.marchDone false = (some (⟨false, b, false, none⟩, false),
      (((s.endMarch ⟨false, b, false, none⟩ false).zeroBank b).dropRetired b).marchBack b) := by
  have hwas : ¬ s.service.retiredBanks.contains b = true := by simpa using hlive
  unfold State.marchDone
  rw [hm]
  exact congrArg (Prod.mk _) (if_neg hwas)

/-- A run that fails on a bank that was retired: the bank stays retired. -/
theorem State.marchDone_of_retired_fail {b : Nat} (hm : s.service.marches = [⟨false, b, false, none⟩]) (hretired : b ∈ s.service.retiredBanks) :
    s.marchDone true = (some (⟨false, b, false, none⟩, true),
      (((s.endMarch ⟨false, b, false, none⟩ true).zeroBank b).zeroBank b).wr (Reg.LIB_BANKb b) 0x8000000F) := by
  have hwas : s.service.retiredBanks.contains b = true := by simpa using hretired
  unfold State.marchDone
  rw [hm]
  exact congrArg (Prod.mk _) (if_pos hwas)

/-- The run of a core leaves its Locker and Desks at zero, and notes that it has passed. -/
theorem State.marchDone_of_core {c : Nat} {p : Bool} (fail : Bool) (hm : s.service.marches = [⟨true, c, p, none⟩]) :
    s.marchDone fail = (some (⟨true, c, p, none⟩, fail),
      if fail then (s.endMarch ⟨true, c, p, none⟩ fail).zeroCore c
      else ((s.endMarch ⟨true, c, p, none⟩ fail).zeroCore c).onCore c (fun k => { k with marched := true })) := by
  have hbad : (fail || (p && !true && s.bankHasError c)) = fail := by simp
  unfold State.marchDone
  rw [hm]
  dsimp only
  rw [hbad]
  rfl

/-- A run that no command waits for. -/
theorem State.marchComplete_of_unasked {fail ok : Bool} {t : State} (hdone : s.marchDone fail = (some (m, ok), t)) (hwaiter : m.waiter = none) :
    s.marchComplete fail = t := by
  simp only [State.marchComplete, hdone, hwaiter]

end

/-- Settles O24: the scrubber by the row that it reads, the response by what the bank has, a march by its end. -/
theorem scrubbingAndMarchFindErrors : Obligations.ScrubbingAndMarchFindErrors := by
  refine ⟨?errors, ?marches⟩
  case errors =>
    intro s b hup a u told march
    have hscrub : exec (.libraryScrub b) s = .next (s.scrub b) := exec_of_up (f := fun s => s.scrub b) hup rfl
    have hunc : exec (.libraryUncResponse b) s = .next (s.uncResponse b) := exec_of_up (f := fun s => s.uncResponse b) hup rfl
    have htold : told → s.uncResponse b = u.answerUnc b := fun ⟨h, hlive, hunit, hidle⟩ => (ErrorTold.mk h hlive hunit hidle).uncResponse_eq
    have hsame : u.bankOwner b = s.bankOwner b := rfl
    rw [hscrub, hunc]
    refine ⟨fun h => ?off, fun hon hidle hunit hrow => ?row, fun h => ?untold, fun h howner hspare => ?retire,
      fun x h howner hspare hfresh => ?march, fun x h howner hspare hworn => ?worn, fun h howner hworn => ?dean⟩
    case off => rw [State.scrub_of_off h]
    case row =>
      obtain ⟨hclean, hlib, hservice⟩ := State.scrub_of_correctable rfl hon hidle hunit hrow
      exact ⟨_, rfl, hclean, hlib, by rw [hservice]; exact mapGet_mapSet_same _ _ _ _⟩
    case untold => rw [State.uncResponse_of_untold h]
    case retire => rw [htold h, State.answerUnc_of_no_spare (s := u) howner hspare]
    case march => rw [htold h, State.answerUnc_of_spare (s := u) hsame howner hspare, if_neg (by rw [hfresh]; exact Bool.false_ne_true), errorMarch]
    case worn => rw [htold h, State.answerUnc_of_spare (s := u) hsame howner hspare, if_pos hworn]
    case dean => rw [htold h, State.answerUnc_of_dean (s := u) howner hworn, errorMarch]
  case marches =>
    rintro s ⟨core, unit, preserving, waiter⟩ fail hup
    have hexec (fail : Bool) : exec (.marchComplete fail) s = .next (s.marchComplete fail) := exec_of_up (f := fun s => s.marchComplete fail) hup rfl
    simp only [hexec]
    refine ⟨fun h => ?none, ?pass, ?fails, ?core⟩
    case none => rw [State.marchComplete_of_none fail h]
    case pass =>
      rintro hm rfl - rfl rfl hlive
      have hrun := State.marchComplete_of_unasked (State.marchDone_of_bank_pass hm hlive) rfl
      have hreport := s.rd_march_endMarch ⟨false, unit, false, none⟩ false
      have hrest := s.endMarch_rest ⟨false, unit, false, none⟩ false
      generalize s.endMarch ⟨false, unit, false, none⟩ false = e at hrun hreport hrest
      refine ⟨_, congrArg _ hrun, (congrArg (fun t : State => t.service.marches) hrest :), State.rd_wr_same _ _ _, ?report, fun a ha => ?zeroed,
        fun a ha => ?kept⟩
      case report => rw [State.marchBack, State.rd_wr_ne _ _ (bankKey_ne_march unit), State.rd_dropRetired, State.rd_zeroBank, hreport]; rfl
      case zeroed => exact (e.memRead_zeroBank unit a).trans (if_pos ha)
      case kept => exact ((e.memRead_zeroBank unit a).trans (if_neg ha)).trans (congrArg (memRead · a) (congrArg State.lib hrest :))
    case fails =>
      rintro hm rfl - rfl rfl hretired
      have hrun := State.marchComplete_of_unasked (State.marchDone_of_retired_fail hm hretired) rfl
      have hreport := s.rd_march_endMarch ⟨false, unit, false, none⟩ true
      have hrest := s.endMarch_rest ⟨false, unit, false, none⟩ true
      generalize s.endMarch ⟨false, unit, false, none⟩ true = e at hrun hreport hrest
      refine ⟨_, congrArg _ hrun, State.rd_wr_same _ _ _, ?report, ?retired⟩
      case report => rw [State.rd_wr_ne _ _ (bankKey_ne_march unit), State.rd_zeroBank, State.rd_zeroBank, hreport]; rfl
      case retired =>
        have hbanks : e.service.retiredBanks = s.service.retiredBanks := (congrArg (fun t : State => t.service.retiredBanks) hrest :)
        exact hbanks ▸ hretired
    case core =>
      rintro hm rfl rfl
      have hrun := State.marchComplete_of_unasked (State.marchDone_of_core fail hm) rfl
      have hrest := s.endMarch_rest ⟨true, unit, preserving, none⟩ fail
      generalize s.endMarch ⟨true, unit, preserving, none⟩ fail = e at hrun hrest
      obtain ⟨hlocker, hdesk⟩ := e.memRead_zeroCore unit
      have hkept : e.locker = s.locker ∧ e.lib = s.lib := ⟨(congrArg State.locker hrest :), (congrArg State.lib hrest :)⟩
      have hlast (z : State) : (if fail then z else z.onCore unit fun k => { k with marched := true }).locker = z.locker ∧
          (if fail then z else z.onCore unit fun k => { k with marched := true }).desk = z.desk ∧
          (if fail then z else z.onCore unit fun k => { k with marched := true }).lib = z.lib := by
        cases fail <;> exact ⟨rfl, rfl, rfl⟩
      obtain ⟨hlocker', hdesk', hlib'⟩ := hlast (e.zeroCore unit)
      refine ⟨_, congrArg _ hrun, fun a => ?locker, fun a => ?desk, fun a ha => ?others, fun hpass => ?marched, hlib'.trans hkept.2⟩
      case locker => rw [hlocker', hlocker, if_pos (by omega)]
      case desk => rw [hdesk', hdesk, if_pos (by omega)]
      case others => rw [hlocker', hlocker, if_neg ha, hkept.1]
      case marched => rw [if_neg (by simp [hpass]), State.core_onCore_same]

end Sys2Proof.Machine
end

section
/-! PROOFS. How the Dean takes a command whose record is in order (R385 to R391), and the commands on chains, the shelf, status and units. -/
namespace Sys2Proof.Machine
open Claim

/-! ### Checks -/

@[simp] theorem firstErr_nil : firstErr [] = none := rfl
@[simp] theorem firstErr_cons_none (cs : List Check) : firstErr (none :: cs) = firstErr cs := rfl
@[simp] theorem plainErr_false (st : Nat) : plainErr false st = none := rfl
@[simp] theorem blockErr_false (o st : Nat) : blockErr false o st = none := rfl
@[simp] theorem checked_none (a : Answer) : checked none a = a := rfl

/-- No field fails where every test passes. -/
theorem pickErr_eq_none (block : Bool) {ts : List FieldTest} (h : ∀ t ∈ ts, t.bad = false) : pickErr block ts = none := by
  have hnone : ts.filter (·.bad) = [] := by simpa [List.filter_eq_nil_iff] using h
  simp [pickErr, hnone]

/-! ### Words of a record -/

/-- Words from word `i` on have no bit set that the command does not use. -/
def argsFit (used : List (Nat × Nat)) : Nat → List Word → Prop
  | _, [] => True
  | i, w :: ws => w.toNat &&& (0xFFFFFFFF - usedMask used i) = 0 ∧ argsFit used (i + 1) ws

theorem argsFit.getD {used : List (Nat × Nat)} {i : Nat} {ws : List Word} (h : argsFit used i ws) (n : Nat) :
    (ws.getD n 0).toNat &&& (0xFFFFFFFF - usedMask used (i + n)) = 0 := by
  induction ws generalizing i n with
  | nil => simp
  | cons w ws ih =>
    obtain ⟨hw, hws⟩ := h
    cases n with
    | zero => exact hw
    | succ n =>
      have hrest := ih hws n
      rw [Nat.add_right_comm] at hrest
      exact hrest

/-- The reserved fields and unused words of such a record are 0. -/
theorem unusedTests_pass (h : Fin 8) (src : Option (Fin 16384)) (tag : Fin 65536) {used : List (Nat × Nat)} {ws : List Word}
    (hfit : argsFit used 2 ws) : ∀ t ∈ unusedTests (cmd h src tag ws) used, t.bad = false := by
  simp only [unusedTests, List.forall_mem_cons, List.forall_mem_map]
  refine ⟨by simp [cmd], fun i _ => decide_eq_false (not_not_intro ?_)⟩
  rcases i with _ | n
  · simp [DeanCmd.w, cmd]
  · have hword : (cmd h src tag ws).w (n + 1 + 1) = ws.getD n 0 := if_neg (by omega)
    rw [hword, Nat.add_comm n 1, Nat.add_right_comm]
    exact hfit.getD n

/-- A number of `n` bits has no bit of a mask that starts at bit `n`. -/
theorem and_two_pow_mul_eq_zero {k n : Nat} (hk : k < 2 ^ n) (m : Nat) : k &&& (2 ^ n * m) = 0 := by
  refine Nat.eq_of_testBit_eq fun i => ?_
  rw [Nat.testBit_and, Nat.testBit_two_pow_mul, Nat.zero_testBit]
  by_cases hi : n ≤ i
  · rw [Nat.testBit_lt_two_pow (hk.trans_le (Nat.pow_le_pow_right (by decide) hi)), Bool.false_and]
  · simp [hi]

/-- A number of `n` bits fits a field of `n` bits. -/
theorem and_mask_eq_zero {k n : Nat} (hn : n ≤ 32) (hk : k < 2 ^ n) : (BitVec.ofNat 32 k).toNat &&& (0xFFFFFFFF - (2 ^ n - 1)) = 0 := by
  have hpow : 2 ^ n * 2 ^ (32 - n) = 2 ^ 32 := by rw [← Nat.pow_add, Nat.add_sub_cancel' hn]
  have hword : k < 2 ^ 32 := hk.trans_le (Nat.pow_le_pow_right (by decide) hn)
  have hpos : 0 < 2 ^ n := Nat.two_pow_pos n
  have hmask : 0xFFFFFFFF - (2 ^ n - 1) = 2 ^ n * (2 ^ (32 - n) - 1) := by rw [Nat.mul_sub, hpow]; omega
  rw [BitVec.toNat_ofNat, Nat.mod_eq_of_lt hword, hmask, and_two_pow_mul_eq_zero hk]

theorem fld_ofNat_low {k hi : Nat} (hhi : hi < 32) (hk : k < 2 ^ (hi + 1)) : fld (BitVec.ofNat 32 k) hi 0 = k := by
  have hword : k < 2 ^ 32 := hk.trans_le (Nat.pow_le_pow_right (by decide) (by omega))
  rw [fld, BitVec.toNat_ofNat, Nat.mod_eq_of_lt hword, Nat.shiftRight_zero, Nat.sub_zero, Nat.mod_eq_of_lt hk]

theorem bit_ofNat_flag (k : Fin 2) : bit (BitVec.ofNat 32 k.val) 0 = decide (k = 1) := by
  revert k
  decide

/-! ### Commands whose record is in order -/

/-- What a command comes to. -/
def State.answered (s : State) (h : Fin 8) (src : Option (Fin 16384)) (tag : Fin 65536) (op : Nat) : Answer → State
  | .fail e => done s h src tag op e.status e.word [] s
  | .ok res t => done s h src tag op 0 0x7FFF res t
  | .later t => t
  | .hold t => t

section
variable {s : State} {h : Fin 8} {src : Option (Fin 16384)} {tag : Fin 65536} {op : Nat} {only0 standby : Bool} {tests : List FieldTest}
  {ws : List Word} {run : State → Answer}

/-- The Dean takes a command whose record passes its tests, and carries it out. -/
theorem deanTake_of_takes (ht : Takes s h src) (hissuer : only0 = false ∨ h.val = 0) (htests : ∀ t ∈ tests, t.bad = false) :
    (s.deanTake op only0 standby tests (cmd h src tag ws) run).1 = s.answered h src tag op (run s) := by
  obtain ⟨hreset, hpower, hdean, htakes⟩ := ht
  have hfrom : s.takesFrom (cmd h src tag ws).house.val (cmd h src tag ws).from_ = true := htakes
  have hchecks : firstErr [plainErr (decide (2 = 4 ∧ op ≠ 0x15)) 0xC, plainErr (only0 && decide ((cmd h src tag ws).house ≠ 0)) 3,
      pickErr false tests, plainErr (!standby && decide (s.power = .standby)) 0xC] = none := by
    have honly : (only0 && decide ((cmd h src tag ws).house ≠ 0)) = false := by
      rcases hissuer with rfl | hzero
      · rfl
      · rw [decide_eq_false (not_not_intro (Fin.ext hzero)), Bool.and_false]
    rw [honly, pickErr_eq_none false htests]
    simp [hpower]
  have hdest : ((cmd h src tag ws).from_.map fun q => (s.qaux q).pair) = src.map fun q => (s.qaux q.val).pair := Option.map_map _ _ _
  unfold State.deanTake
  simp only [hfrom, hdean, hdest, Bool.not_true, Bool.false_eq_true, if_false, true_or, if_true]
  rw [hchecks]
  cases run s <;> rfl

/-- The row of such a command. -/
theorem exec_dean_of_takes {j : Instr} (ht : Takes s h src)
    (hrow : exec j s = .next (s.linked (fun s => s.dean (fun s => s.deanTake op only0 standby tests (cmd h src tag ws) run))))
    (hissuer : only0 = false ∨ h.val = 0) (htests : ∀ t ∈ tests, t.bad = false) :
    exec j s = .next (s.answered h src tag op (run s)) := by
  have hlink : Link s := ⟨ht.1, .inl ht.2.1⟩
  rw [hrow, State.linked_of_link hlink, State.dean, deanTake_of_takes ht hissuer htests]

/-! ### Chains, the shelf and status -/

/-- DMA_RUN. -/
theorem exec_dmaRun_of_takes (ht : Takes s h src) {k a : Nat} (hk : k < 4) (ha : a < 2 ^ 27) (haligned : a % 64 = 0) :
    exec (.dmaRun (cmd h src tag [BitVec.ofNat 32 k, BitVec.ofNat 32 a])) s = .next (s.answered h src tag 0x1E
      (checked (wordErr (decide (4 ≤ (s.eng (64 + 8 * k + h.val)).starts.length)) 2 5)
        (.later ((s.setEng (64 + 8 * k + h.val) { s.eng (64 + 8 * k + h.val) with starts := (s.eng (64 + 8 * k + h.val)).starts ++
          [{ addr := a, house := h, waiter := some (h.val, src.map Fin.val, tag.val) }] }).dmaDepth (64 + 8 * k + h.val))))) := by
  have hengine : (cmd h src tag [BitVec.ofNat 32 k, BitVec.ofNat 32 a]).f 2 1 0 = k := fld_ofNat_low (by decide) hk
  have haddr : (cmd h src tag [BitVec.ofNat 32 k, BitVec.ofNat 32 a]).f 3 26 0 = a := fld_ofNat_low (by decide) ha
  refine (exec_dean_of_takes ht rfl (.inl rfl) ?tests).trans ?answer
  case tests =>
    simp only [List.forall_mem_append, List.forall_mem_singleton, haddr]
    exact ⟨unusedTests_pass h src tag ⟨and_mask_eq_zero (n := 2) (by decide) hk, and_mask_eq_zero (n := 27) (by decide) ha, trivial⟩,
      decide_eq_false (not_not_intro haligned)⟩
  case answer =>
    simp only [hengine, haddr]
    rfl

/-- SHELF_FLUSH. -/
theorem exec_shelfFlush_of_takes (ht : Takes s h src) (lo hi n : Word) (inv : Fin 2) :
    exec (.shelfFlush (cmd h src tag [lo, hi, n, BitVec.ofNat 32 inv])) s = .next (s.answered h src tag 0x1F
      (.ok [] (s.flushRange h (lo.toNat + 2 ^ 32 * hi.toNat) n.toNat (decide (inv = 1))))) := by
  have hinv : bit ((cmd h src tag [lo, hi, n, BitVec.ofNat 32 inv]).w 5) 0 = decide (inv = 1) := bit_ofNat_flag inv
  refine (exec_dean_of_takes ht rfl (.inl rfl) ?tests).trans ?answer
  case tests =>
    exact unusedTests_pass h src tag ⟨Nat.and_zero _, Nat.and_zero _, Nat.and_zero _, and_mask_eq_zero (n := 1) (by decide) inv.isLt, trivial⟩
  case answer =>
    rw [hinv]
    rfl

/-- BAND_STATUS. -/
theorem exec_bandStatus_of_takes (ht : Takes s h src) {f : Nat} (hf : f < 32) :
    exec (.bandStatus (cmd h src tag [BitVec.ofNat 32 f])) s = .next (s.answered h src tag 0x19 (checked (wordErr (!s.loadedForm h f) 2 3)
      (.ok ((List.range 10).map (fun i => (s.rd (Reg.RC_BAND f + 4 * i)).toNat) ++ [(s.formTier f).preempts % 2 ^ 32]) s))) := by
  have hform : (cmd h src tag [BitVec.ofNat 32 f]).f 2 4 0 = f := fld_ofNat_low (by decide) hf
  refine (exec_dean_of_takes ht rfl (.inl rfl) ?tests).trans ?answer
  case tests => exact unusedTests_pass h src tag ⟨and_mask_eq_zero (n := 5) (by decide) hf, trivial⟩
  case answer =>
    rw [hform]
    rfl

/-- PIPE_STATUS. -/
theorem exec_pipeStatus_of_takes (ht : Takes s h src) {p : Nat} (hp : p < 4) :
    exec (.pipeStatus (cmd h src tag [BitVec.ofNat 32 p])) s = .next (s.answered h src tag 0x1A (checked (wordErr (!s.ownsPipe h p) 2 3)
      (.ok ([s.rd Reg.FFJ_SLOTS, s.rd Reg.FFJ_SLOTEN, s.rd (Reg.FFJ_Pp_LIST p), s.rd (Reg.FFJ_Pp_WALK p), s.rd (Reg.FFJ_Pp_ERR p), 0].map
        BitVec.toNat) s))) := by
  have hpipe : (cmd h src tag [BitVec.ofNat 32 p]).f 2 1 0 = p := fld_ofNat_low (by decide) hp
  refine (exec_dean_of_takes ht rfl (.inl rfl) ?tests).trans ?answer
  case tests => exact unusedTests_pass h src tag ⟨and_mask_eq_zero (n := 2) (by decide) hp, trivial⟩
  case answer =>
    rw [hpipe]
    rfl

/-- TIER_FLOOR. -/
theorem exec_tierFloor_of_takes (ht : Takes s h src) {p x : Nat} (hp : p < 4) (hx : x < 4) :
    exec (.tierFloor (cmd h src tag [BitVec.ofNat 32 p, BitVec.ofNat 32 x])) s = .next (s.answered h src tag 0x11
      (checked (wordErr (!s.ownsPipe h p) 2 3) (.ok [] (s.wrF (Reg.DLN_Pp_CTRL p) 5 4 x)))) := by
  have hpipe : (cmd h src tag [BitVec.ofNat 32 p, BitVec.ofNat 32 x]).f 2 1 0 = p := fld_ofNat_low (by decide) hp
  have hfloor : (cmd h src tag [BitVec.ofNat 32 p, BitVec.ofNat 32 x]).f 3 1 0 = x := fld_ofNat_low (by decide) hx
  refine (exec_dean_of_takes ht rfl (.inl rfl) ?tests).trans ?answer
  case tests =>
    exact unusedTests_pass h src tag ⟨and_mask_eq_zero (n := 2) (by decide) hp, and_mask_eq_zero (n := 2) (by decide) hx, trivial⟩
  case answer =>
    rw [hpipe, hfloor]
    rfl

/-! ### Units -/

/-- CORE_RETIRE of a whole core. -/
theorem exec_coreRetire_of_takes (ht : Takes s h src) (hzero : h.val = 0) {c : Nat} (hc : c < 1024) :
    exec (.coreRetire (cmd h src tag [BitVec.ofNat 32 c])) s = .next (s.answered h src tag 0x12
      (checked (plainErr (s.core c).retired 0xC) (.ok [] (s.retireCore c)))) := by
  have hcore : (cmd h src tag [BitVec.ofNat 32 c]).f 2 9 0 = c := fld_ofNat_low (by decide) hc
  have honly : bit ((cmd h src tag [BitVec.ofNat 32 c]).w 3) 0 = false := show bit (0 : Word) 0 = false by decide
  refine (exec_dean_of_takes ht rfl (.inr hzero) ?tests).trans ?answer
  case tests => exact unusedTests_pass h src tag ⟨and_mask_eq_zero (n := 10) (by decide) hc, trivial⟩
  case answer =>
    simp only [hcore, honly, Bool.false_and, Bool.or_false, Bool.false_eq_true, if_false]

/-- CORE_RETIRE of one array of a core. -/
theorem exec_coreRetire_array_of_takes (ht : Takes s h src) (hzero : h.val = 0) {c : Nat} (hc : c < 1024) (a : Fin 2) :
    exec (.coreRetire (cmd h src tag [BitVec.ofNat 32 c, BitVec.ofNat 32 (1 + 2 * a.val)])) s = .next (s.answered h src tag 0x12
      (checked (plainErr ((s.core c).retired || !s.arrayOn c a) 0xC) (.ok [] (if s.fold c then s.retireCore c else s.loseArray c a)))) := by
  have hcore : (cmd h src tag [BitVec.ofNat 32 c, BitVec.ofNat 32 (1 + 2 * a.val)]).f 2 9 0 = c := fld_ofNat_low (by decide) hc
  have hword (a : Fin 2) : bit (BitVec.ofNat 32 (1 + 2 * a.val)) 0 = true ∧ fld (BitVec.ofNat 32 (1 + 2 * a.val)) 1 1 = a.val ∧
      (BitVec.ofNat 32 (1 + 2 * a.val)).toNat &&& (0xFFFFFFFF - 3) = 0 := by
    revert a
    decide
  obtain ⟨hbit, hfld, hfits⟩ := hword a
  have honly : bit ((cmd h src tag [BitVec.ofNat 32 c, BitVec.ofNat 32 (1 + 2 * a.val)]).w 3) 0 = true := hbit
  have harray : (cmd h src tag [BitVec.ofNat 32 c, BitVec.ofNat 32 (1 + 2 * a.val)]).f 3 1 1 = a.val := hfld
  refine (exec_dean_of_takes ht rfl (.inr hzero) ?tests).trans ?answer
  case tests =>
    rw [honly, if_pos rfl]
    exact unusedTests_pass h src tag ⟨and_mask_eq_zero (n := 10) (by decide) hc, hfits, trivial⟩
  case answer =>
    simp only [hcore, honly, harray, Bool.true_and]
    cases s.fold c <;> rfl

/-- CORE_REJOIN. -/
theorem exec_coreRejoin_of_takes (ht : Takes s h src) (hzero : h.val = 0) {c : Nat} (hc : c < 1024) :
    exec (.coreRejoin (cmd h src tag [BitVec.ofNat 32 c])) s = .next (s.answered h src tag 0x13
      (checked (plainErr (!(s.core c).retired || !(s.core c).marched) 0xC)
        (.ok [] (((s.setCore c { s.core c with retired := false, marched := false }).unitChange 1 c).lossPart (c / 32))))) := by
  have hcore : (cmd h src tag [BitVec.ofNat 32 c]).f 2 9 0 = c := fld_ofNat_low (by decide) hc
  refine (exec_dean_of_takes ht rfl (.inr hzero) ?tests).trans ?answer
  case tests => exact unusedTests_pass h src tag ⟨and_mask_eq_zero (n := 10) (by decide) hc, trivial⟩
  case answer => simp only [hcore]

/-- MARCH_RUN of a core. -/
theorem exec_marchRun_core_of_takes (ht : Takes s h src) (hzero : h.val = 0) {c : Nat} (hc : c < 1024) :
    exec (.marchRun (cmd h src tag [1, BitVec.ofNat 32 c])) s = .next (s.answered h src tag 0x14
      (checked (plainErr (!s.marchTarget true c) 0xC)
        (.later (s.startMarch { core := true, unit := c, preserving := false, waiter := some (h.val, src.map Fin.val, tag.val) })))) := by
  have hunit : (cmd h src tag [1, BitVec.ofNat 32 c]).f 3 9 0 = c := fld_ofNat_low (by decide) hc
  have hkind : bit ((cmd h src tag [1, BitVec.ofNat 32 c]).w 2) 0 = true := show bit (1 : Word) 0 = true by decide
  have hkeep : bit ((cmd h src tag [1, BitVec.ofNat 32 c]).w 4) 0 = false := show bit (0 : Word) 0 = false by decide
  refine (exec_dean_of_takes ht rfl (.inr hzero) ?tests).trans ?answer
  case tests =>
    simp only [List.forall_mem_append, List.forall_mem_cons, hunit, hkind, hkeep]
    exact ⟨unusedTests_pass h src tag ⟨rfl, and_mask_eq_zero (n := 10) (by decide) hc, trivial⟩, rfl, rfl, nofun⟩
  case answer =>
    simp only [hunit, hkind, hkeep]
    rfl

/-- MARCH_RUN of a bank. -/
theorem exec_marchRun_bank_of_takes (ht : Takes s h src) (hzero : h.val = 0) {b : Nat} (hb : b < 512) (keep : Fin 2) :
    exec (.marchRun (cmd h src tag [0, BitVec.ofNat 32 b, BitVec.ofNat 32 keep])) s = .next (s.answered h src tag 0x14
      (checked (plainErr (!s.marchTarget false b) 0xC)
        (.later (s.startMarch { core := false, unit := b, preserving := decide (keep = 1), waiter := some (h.val, src.map Fin.val, tag.val) })))) := by
  have hunit : (cmd h src tag [0, BitVec.ofNat 32 b, BitVec.ofNat 32 keep]).f 3 9 0 = b := fld_ofNat_low (by decide) (by omega)
  have hkind : bit ((cmd h src tag [0, BitVec.ofNat 32 b, BitVec.ofNat 32 keep]).w 2) 0 = false := show bit (0 : Word) 0 = false by decide
  have hkeep : bit ((cmd h src tag [0, BitVec.ofNat 32 b, BitVec.ofNat 32 keep]).w 4) 0 = decide (keep = 1) := bit_ofNat_flag keep
  refine (exec_dean_of_takes ht rfl (.inr hzero) ?tests).trans ?answer
  case tests =>
    simp only [List.forall_mem_append, List.forall_mem_cons, hunit, hkind, hkeep]
    exact ⟨unusedTests_pass h src tag ⟨rfl, and_mask_eq_zero (n := 10) (by decide) (by omega),
      and_mask_eq_zero (n := 1) (by decide) keep.isLt, trivial⟩, decide_eq_false (by omega), rfl, nofun⟩
  case answer =>
    simp only [hunit, hkind, hkeep]
    rfl

end

/-- Settles O27: each command by what it answers, once its record is in order. -/
theorem chainStatusAndUnitCommands : Obligations.ChainStatusAndUnitCommands := by
  intro s h src tag ht w ok no
  refine ⟨fun k a ha haligned => ⟨fun hroom => ?dma, fun hfull => ?dmaFull⟩, fun lo hi n inv => ?flush, fun f hf => ?band, fun p hp => ?pipe,
    fun p x hp => ?tier, fun p x hp => ⟨?tierNo, ?pipeNo⟩, fun hzero c => ⟨fun hlive => ?retire, fun hretired => ?retired,
    fun a hlive harray hfold => ?array, fun hretired hmarched => ?rejoin, fun hlive => ?inService, fun hretired => ?marchCore⟩,
    fun hzero b k hidle howner => ?marchBank⟩
  case dma =>
    rw [exec_dmaRun_of_takes ht k.isLt ha haligned, decide_eq_false (Nat.not_le.2 hroom)]
    rfl
  case dmaFull =>
    rw [exec_dmaRun_of_takes ht k.isLt ha haligned, decide_eq_true hfull]
    rfl
  case flush => exact exec_shelfFlush_of_takes ht lo hi n inv
  case band =>
    rw [exec_bandStatus_of_takes ht f.isLt, hf]
    rfl
  case pipe =>
    rw [exec_pipeStatus_of_takes ht p.isLt, hp]
    rfl
  case tier =>
    rw [exec_tierFloor_of_takes ht p.isLt x.isLt, hp]
    rfl
  case tierNo =>
    rw [exec_tierFloor_of_takes ht p.isLt x.isLt, hp]
    rfl
  case pipeNo =>
    rw [exec_pipeStatus_of_takes ht p.isLt, hp]
    rfl
  case retire =>
    rw [exec_coreRetire_of_takes ht hzero c.isLt, hlive]
    rfl
  case retired =>
    rw [exec_coreRetire_of_takes ht hzero c.isLt, hretired]
    rfl
  case array =>
    rw [exec_coreRetire_array_of_takes ht hzero c.isLt a, hlive, harray, hfold]
    rfl
  case rejoin =>
    rw [exec_coreRejoin_of_takes ht hzero c.isLt, hretired, hmarched]
    rfl
  case inService =>
    rw [exec_coreRejoin_of_takes ht hzero c.isLt, hlive]
    rfl
  case marchCore =>
    have htarget : s.marchTarget true c = true := hretired
    rw [exec_marchRun_core_of_takes ht hzero c.isLt, htarget]
    rfl
  case marchBank =>
    have htarget : s.marchTarget false b = true := by simp [State.marchTarget, hidle, howner]
    rw [exec_marchRun_bank_of_takes ht hzero b.isLt k, htarget]
    rfl

end Sys2Proof.Machine
end

section
/-! PROOFS. The commands of House 0 that give out resources (R168, R169, R393, R394, R419 to R422). -/
namespace Sys2Proof.Machine
open Claim

/-! ### Buffers in host memory (R390) -/

section
variable {s : State} {d : DeanCmd}

/-- A buffer address below 2^48 that is a multiple of 64 is well formed. -/
theorem addrTests_pass {i : Nat} (haligned : d.addr i % 64 = 0) (hhigh : (d.w (i + 1)).toNat < 2 ^ 16) :
    ∀ t ∈ addrTests d i, t.bad = false := by
  have hbit : bit (d.w (i + 1)) 31 = false := Nat.testBit_lt_two_pow (hhigh.trans (by decide))
  have hreserved : (d.w (i + 1)).toNat &&& 0x7FFF0000 = 0 := and_two_pow_mul_eq_zero hhigh 0x7FFF
  simp [addrTests, fieldTest, reservedTest, haligned, hbit, hreserved]

/-- A command from a mailbox goes on with bytes of host memory whose pages are present. -/
theorem State.withBytes_of_host {h a n o : Nat} {block : Bool} (f : State → List Byte → Answer) (hsrc : d.from_ = none)
    (hhouse : d.house.val = h) (ha : a < 2 ^ 48) (hpages : s.hostRanges h [(a, n)] = .ok) :
    s.withBytes d a n o block f = f s (s.hostRead h a n) := by
  have hplace : s.bufPlace d.from_ a = .host a := by
    have hlib : ¬ a / 2 ^ 63 = 1 := by omega
    refine (if_neg hlib).trans ?_
    rw [hsrc, Nat.mod_eq_of_lt ha]
  simp only [State.withBytes, hplace, State.bufState, hhouse, hpages, State.bufRead]

end

/-! ### HOUSE_GRANT -/

section
variable {s : State}

@[simp] theorem State.evict_grants (s : State) (h i : Nat) : (s.evict h i).grants = s.grants := (congrArg State.grants (s.evict_rest h i) :)

theorem State.flushHouse_grants (s : State) (h : Nat) : (s.flushHouse h).grants = s.grants := by
  refine foldl_keeps (g := State.grants) (fun t e => ?_) _ s
  (repeat' split) <;> simp

theorem State.grantLayers_grants (s : State) (g : GrantBlock) : (s.grantLayers g).grants = s.grants := by
  refine foldl_keeps (g := State.grants) (fun t l => ?_) _ s
  split <;> simp

/-- A new table empties the shelf and zeroes granules; the grants stay as they are. -/
theorem State.xlateSet_grants (s : State) (h : Nat) (ws : List Word) : (s.xlateSet h ws).grants = s.grants := by
  unfold State.xlateSet
  dsimp only
  split
  · rfl
  · refine (foldl_keeps (g := State.grants) (fun t g => ?_) _ _).trans (s.flushHouse_grants h)
    dsimp only
    split <;> rfl

/-- The grant of a block's House. -/
def GrantBlock.toGrant (g : GrantBlock) : Grant :=
  { given := true, cbase := g.cbase, ccount := g.ccount, call := g.call, outputs := g.outputs, inputs := g.inputs, glayers := g.glayers,
    glCanvas := g.canvases, forms := g.forms, quota := g.quota, flashBase := g.flashBase, flashSize := g.flashSize, flashBps := g.flashBps,
    xlate := g.xlate }

theorem State.grantSet_grants (s : State) (g : GrantBlock) (ws : List Word) :
    (s.grantSet g ws).grants = mapSet (fun _ => {}) s.grants g.house g.toGrant := by
  have hjournal (t : State) : t.journalAdd.grants = t.grants := rfl
  simp only [State.grantSet, hjournal, State.xlateSet_grants, State.grantLayers_grants, State.wr_frame]
  rfl

theorem State.grant_grantSet_same (s : State) (g : GrantBlock) (ws : List Word) : (s.grantSet g ws).grant g.house = g.toGrant := by
  rw [State.grant, State.grantSet_grants, mapGet_mapSet_same]

theorem State.grant_grantSet_ne (s : State) {g : GrantBlock} {k : Nat} (ws : List Word) (hk : k ≠ g.house) :
    (s.grantSet g ws).grant k = s.grant k := by
  rw [State.grant, State.grantSet_grants, mapGet_mapSet_ne _ _ _ hk, State.grant]

/-- HOUSE_GRANT with a block and a table that pass their checks. -/
theorem exec_houseGrant_of_takes {tag : Fin 65536} {lo hi : Word} {a : Nat} {g : GrantBlock} {es : List Word} (ht : Takes s 0 none)
    (ha : a = lo.toNat + 2 ^ 32 * hi.toNat) (hg : g = grantOf (s.hostRead 0 a 64))
    (hes : es = xlateEntries (s.hostRead 0 g.xlate (64 + 4 * num (s.hostRead 0 g.xlate 64) 4 2)))
    (haligned : lo.toNat % 64 = 0) (hhigh : hi.toNat < 2 ^ 16) (hblock : s.hostRanges 0 [(a, 64)] = .ok) (hhouse : g.house < 8)
    (htests : pickErr true (grantTests g.house (s.hostRead 0 a 64)) = none) (hxlate : g.xlate < 2 ^ 48)
    (hheader : s.hostRanges 0 [(g.xlate, 64)] = .ok) (hheaderTests : pickErr true (xlateHeader (s.hostRead 0 g.xlate 64)) = none)
    (htable : s.hostRanges 0 [(g.xlate, 64 + 4 * num (s.hostRead 0 g.xlate 64) 4 2)] = .ok)
    (hgrant : s.grantCheck g = none) (hentries : s.xlateCheck g.house es = none) :
    exec (.houseGrant (cmd 0 none tag [BitVec.ofNat 32 g.house, lo, hi])) s = .next (s.answered 0 none tag 0x04 (.ok [] (s.grantSet g es))) := by
  have harg : (cmd 0 none tag [BitVec.ofNat 32 g.house, lo, hi]).f 2 2 0 = g.house := fld_ofNat_low (by decide) hhouse
  have haddr : (cmd 0 none tag [BitVec.ofNat 32 g.house, lo, hi]).addr 3 = a := ha.symm
  have hlow : a < 2 ^ 48 := by omega
  refine (exec_dean_of_takes ht rfl (.inr rfl) ?tests).trans (congrArg (fun x => Host.Outcome.next (s.answered 0 none tag 0x04 x)) ?answer)
  case tests =>
    refine List.forall_mem_append.2 ⟨unusedTests_pass 0 none tag ⟨and_mask_eq_zero (n := 3) (by decide) hhouse, Nat.and_zero _, Nat.and_zero _,
      trivial⟩, addrTests_pass ?_ hhigh⟩
    rw [haddr]
    omega
  case answer =>
    have hsrc : (cmd 0 none tag [BitVec.ofNat 32 g.house, lo, hi]).from_ = none := rfl
    have hzero : (cmd 0 none tag [BitVec.ofNat 32 g.house, lo, hi]).house.val = 0 := rfl
    rw [State.withBuf, haddr, State.withBytes_of_host _ hsrc hzero hlow hblock]
    dsimp only
    rw [harg, ← hg, htests, checked_none, State.withBytes_of_host _ hsrc hzero hxlate hheader, hheaderTests, checked_none, State.withBytes_of_host _ hsrc hzero hxlate htable, ← hes, hgrant, hentries]
    rfl

/-! ### BANK_HANDOVER -/

theorem State.pointSlots_rest (s : State) (h : Nat) (m : Map Nat) : { s.pointSlots h with shelfSlots := m } = { s with shelfSlots := m } := by
  refine foldl_keeps (g := fun t : State => { t with shelfSlots := m }) (fun t i => ?_) _ s
  rfl

theorem State.pointSlots_ite (s : State) (c : Prop) [Decidable c] (h : Nat) (m : Map Nat) :
    { (if c then s.pointSlots h else s) with shelfSlots := m } = { s with shelfSlots := m } := by
  split
  · exact s.pointSlots_rest h m
  · rfl

/-- The word of a bank that has been handed over and is busy (Table 6.11). -/
def handedWord (w : Word) (owner unit : Nat) (shelf zero : Bool) : Word :=
  setBit (setBit (setBit (setFld (setFld w 3 0 owner) 6 4 unit) 8 shelf) 9 zero) 30 true

theorem handedWord_fields (w : Word) (owner unit : Nat) (shelf zero : Bool) :
    fld (handedWord w owner unit shelf zero) 3 0 = owner % 16 ∧ fld (handedWord w owner unit shelf zero) 6 4 = unit % 8 ∧
    bit (handedWord w owner unit shelf zero) 9 = zero ∧ bit (handedWord w owner unit shelf zero) 30 = true := by
  refine ⟨?owner, ?unit, ?zero, bit_setBit_same _ _ (by decide)⟩
  case owner =>
    show _ = owner % 2 ^ (3 + 1 - 0)
    unfold handedWord
    iterate 3 rw [setBit, fld_setFld_ne _ _ (by decide) (by decide)]
    rw [fld_setFld_ne _ _ (by decide) (by decide), fld_setFld_same _ _ (by decide)]
  case unit =>
    show _ = unit % 2 ^ (6 + 1 - 4)
    unfold handedWord
    iterate 3 rw [setBit, fld_setFld_ne _ _ (by decide) (by decide)]
    rw [fld_setFld_same _ _ (by decide)]
  case zero => rw [handedWord, bit_setBit_ne _ _ (by decide) (by decide), bit_setBit_same _ _ (by decide)]

/-- A reserved bank is handed over in its register; beside that only the slots of shelves are pointed anew. -/
theorem State.bankSet_of_reserved {b : Nat} (owner unit : Nat) (shelf zero : Bool) (hshelf : s.bankShelf b = false) :
    { s.bankSet b owner unit shelf zero with shelfSlots := s.shelfSlots } =
      s.wr (Reg.LIB_BANKb b) (handedWord (s.bankReg b) owner unit shelf zero) := by
  have hslots (key : Nat) (w : Word) : { s.wr key w with shelfSlots := s.shelfSlots } = s.wr key w := rfl
  unfold State.bankSet
  simp only [hshelf, Bool.false_eq_true, if_false]
  exact ((State.pointSlots_ite _ _ _ _).trans (State.pointSlots_ite _ _ _ _)).trans (hslots _ _)

/-- The word of BANK_HANDOVER that names an owner and ZERO. -/
theorem ownerWord_fields (o : Fin 9) (z : Fin 2) :
    fld (BitVec.ofNat 32 (o.val + 512 * z.val)) 3 0 = o.val ∧ fld (BitVec.ofNat 32 (o.val + 512 * z.val)) 6 4 = 0 ∧
    bit (BitVec.ofNat 32 (o.val + 512 * z.val)) 8 = false ∧ bit (BitVec.ofNat 32 (o.val + 512 * z.val)) 9 = decide (z = 1) ∧
    (BitVec.ofNat 32 (o.val + 512 * z.val)).toNat &&& (0xFFFFFFFF - 0x37F) = 0 := by
  revert o z
  decide

/-- The state after a bank has been handed over to a House or the Dean as a reserved bank. -/
def State.handOver (s : State) (b owner : Nat) (zero : Bool) : State :=
  ((s.bankSet b owner 0 false (zeroForced (s.bankOwner b) owner (s.bankUnit b) 0 zero)).journalBank b).journalAdd

theorem State.handOver_facts {b owner : Nat} (zero : Bool) (hshelf : s.bankShelf b = false) :
    (s.handOver b owner zero).bankReg b =
      handedWord (s.bankReg b) owner 0 false (zeroForced (s.bankOwner b) owner (s.bankUnit b) 0 zero) ∧ (s.handOver b owner zero).lib = s.lib := by
  have hset := s.bankSet_of_reserved owner 0 false (zeroForced (s.bankOwner b) owner (s.bankUnit b) 0 zero) hshelf
  have hjournal (t : State) : ((t.journalBank b).journalAdd).regs = t.regs ∧ ((t.journalBank b).journalAdd).lib = t.lib := ⟨rfl, rfl⟩
  obtain ⟨hregs, hlib⟩ := hjournal (s.bankSet b owner 0 false (zeroForced (s.bankOwner b) owner (s.bankUnit b) 0 zero))
  refine ⟨(State.rd_congr (hregs.trans (congrArg State.regs hset :)) _).trans (State.rd_wr_same _ _ _), hlib.trans ?_⟩
  exact (congrArg State.lib hset :).trans (by simp only [State.wr_frame])

/-- BANK_HANDOVER to a House or the Dean as a reserved bank. -/
theorem exec_bankHandover_of_takes {tag : Fin 65536} (ht : Takes s 0 none) {b : Nat} (hb : b < 512) (o : Fin 9) (z : Fin 2) :
    exec (.bankHandover (cmd 0 none tag [BitVec.ofNat 32 b, BitVec.ofNat 32 (o.val + 512 * z.val)])) s =
      .next (s.answered 0 none tag 0x05 (checked (firstErr [wordErr (s.bankRetired b) 2 0xC, wordErr (s.bankBusy b) 2 5,
        wordErr (s.bankNamed b) 2 6,
        wordErr (decide (o.val < 8) && decide (s.bankOwner b ≠ o.val) && decide (s.quotaOf o ≤ (s.houseBanks o).length)) 3 6])
        (.ok [] (s.handOver b o (decide (z = 1)))))) := by
  obtain ⟨howner, hunit, hshelf, hzero, hfits⟩ := ownerWord_fields o z
  generalize BitVec.ofNat 32 (o.val + 512 * z.val) = w at howner hunit hshelf hzero hfits ⊢
  have hbank : (cmd 0 none tag [BitVec.ofNat 32 b, w]).f 2 8 0 = b := fld_ofNat_low (by decide) hb
  have hownerArg : (cmd 0 none tag [BitVec.ofNat 32 b, w]).f 3 3 0 = o.val := howner
  have hunitArg : (cmd 0 none tag [BitVec.ofNat 32 b, w]).f 3 6 4 = 0 := hunit
  have hword : (cmd 0 none tag [BitVec.ofNat 32 b, w]).w 3 = w := rfl
  refine (exec_dean_of_takes ht rfl (.inr rfl) ?tests).trans ?answer
  case tests =>
    have hnine : ¬ 9 < o.val ∧ o.val ≠ 9 := by omega
    simp only [hownerArg, hunitArg, hword, hshelf]
    refine List.forall_mem_append.2 ⟨unusedTests_pass 0 none tag ⟨and_mask_eq_zero (n := 9) (by decide) hb, hfits, trivial⟩, ?_⟩
    simp [fieldTest, hnine]
  case answer =>
    simp only [hbank, hownerArg, hunitArg, hword, hshelf, hzero]
    rfl

/-! ### PIPE_CREATE and PIPE_DESTROY -/

/-- The pipeline of a block and its coefficients (Table 14.6). -/
def pipeOf (b co : List Byte) : Pipe :=
  { valid := true, house := num b 1 1, source := num b 2 1, blend := decide (num b 3 1 / 2 % 2 = 1), ringLines := num b 4 2, edgeT := num b 6 2
    ringBank := num b 8 2, recordBank := num b 10 2, ringFmt := num b 12 1, outColour := num b 13 1 % 64, slots := num b 14 2, coef := co }

theorem State.pipeSet_pipes (s : State) (b co : List Byte) : (s.pipeSet b co).pipes = mapSet (fun _ => {}) s.pipes (num b 0 1) (pipeOf b co) := by
  have hstaged (t : State) (w : Word × Word) : (State.journalAdd { t with service := { t.service with slotStage := some w } }).pipes = t.pipes := rfl
  unfold State.pipeSet
  rw [hstaged]
  simp only [State.wr_frame, State.wrF_frame]
  rfl

/-- PIPE_CREATE with a block and coefficients that pass their checks. -/
theorem exec_pipeCreate_of_takes {tag : Fin 65536} {lo hi : Word} {a : Nat} {b co : List Byte} (ht : Takes s 0 none)
    (ha : a = lo.toNat + 2 ^ 32 * hi.toNat) (hb : b = s.hostRead 0 a 64) (hco : co = s.hostRead 0 (num b 16 8) 1024)
    (haligned : lo.toNat % 64 = 0) (hhigh : hi.toNat < 2 ^ 16) (hblock : s.hostRanges 0 [(a, 64)] = .ok)
    (htests : pickErr true (pipeTests b) = none) (hfree : (s.pipe (num b 0 1)).valid = false) (hgranted : s.granted (num b 1 1) = true)
    (hinput : s.hasInput (num b 1 1) (num b 2 1) = true) (hring : s.bankOk (num b 1 1) (num b 8 2) = true)
    (hrecord : s.bankOk (num b 1 1) (num b 10 2) = true)
    (hslots : ((List.range 4).any (fun p => (s.pipe p).valid && decide ((s.pipe p).slots &&& num b 14 2 ≠ 0))) = false)
    (hlow : num b 16 8 < 2 ^ 48) (hcoefs : s.hostRanges 0 [(num b 16 8, 1024)] = .ok) (hsum : coefOk co = true) :
    exec (.pipeCreate (cmd 0 none tag [lo, hi])) s = .next (s.answered 0 none tag 0x06 (.ok [] (s.pipeSet b co))) := by
  have haddr : (cmd 0 none tag [lo, hi]).addr 2 = a := ha.symm
  have hsrc : (cmd 0 none tag [lo, hi]).from_ = none := rfl
  have hzero : (cmd 0 none tag [lo, hi]).house.val = 0 := rfl
  refine (exec_dean_of_takes ht rfl (.inr rfl) ?tests).trans (congrArg (fun x => Host.Outcome.next (s.answered 0 none tag 0x06 x)) ?answer)
  case tests =>
    refine List.forall_mem_append.2 ⟨unusedTests_pass 0 none tag ⟨Nat.and_zero _, Nat.and_zero _, trivial⟩, addrTests_pass ?_ hhigh⟩
    rw [haddr]
    omega
  case answer =>
    rw [State.withBuf, haddr, State.withBytes_of_host _ hsrc hzero (by omega) hblock, ← hb]
    simp only [htests, hfree, hgranted, hinput, hring, hrecord, hslots, Bool.not_true, blockErr_false, firstErr_cons_none, firstErr_nil, checked_none]
    rw [State.withBytes_of_host _ hsrc hzero hlow hcoefs, ← hco]
    simp only [hsum, Bool.not_true, blockErr_false, checked_none]

/-- PIPE_DESTROY. -/
theorem exec_pipeDestroy_of_takes {tag : Fin 65536} (ht : Takes s 0 none) {p : Nat} (hp : p < 4) :
    exec (.pipeDestroy (cmd 0 none tag [BitVec.ofNat 32 p])) s = .next (s.answered 0 none tag 0x07 (checked (firstErr [
      wordErr (!(s.pipe p).valid) 2 2,
      wordErr (s.models.any (fun m => m.images.any (fun im => im.pipes.any (fun e => decide (e.pipe = p))))) 2 6]) (.ok [] (s.pipeClear p)))) := by
  have hpipe : (cmd 0 none tag [BitVec.ofNat 32 p]).f 2 1 0 = p := fld_ofNat_low (by decide) hp
  refine (exec_dean_of_takes ht rfl (.inr rfl) ?tests).trans ?answer
  case tests => exact unusedTests_pass 0 none tag ⟨and_mask_eq_zero (n := 2) (by decide) hp, trivial⟩
  case answer => simp only [hpipe]

end

/-- Settles O28: each command by what it answers, once its record is in order, and by what it then sets. -/
theorem grantBankAndPipelineCommands : Obligations.GrantBankAndPipelineCommands := by
  intro s tag lo hi ht w a ok host g n es
  refine ⟨?grant, ?handover, fun b hbusy hlive => ?inHandover, ?create, fun p hvalid hunused => ?destroy, fun p hvalid => ?absent⟩
  case grant =>
    intro haligned hhigh hblock hhouse htests hxlate hheader hheaderTests htable hgrant hentries
    have hset := s.grant_grantSet_same g es
    refine ⟨exec_houseGrant_of_takes ht rfl rfl rfl haligned hhigh hblock hhouse htests hxlate hheader hheaderTests htable hgrant hentries, ?_, ?_, ?_,
      fun k hk => s.grant_grantSet_ne es hk⟩ <;> rw [hset] <;> rfl
  case handover =>
    intro b o z hlive hidle hunnamed hshelf hquota
    obtain ⟨hreg, hlib⟩ := s.handOver_facts (owner := o.val) (decide (z = 1)) hshelf
    obtain ⟨howner, hunit, hzero, hbusy⟩ := handedWord_fields (s.bankReg b) o.val 0 false
      (zeroForced (s.bankOwner b) o.val (s.bankUnit b) 0 (decide (z = 1)))
    have hroom : (decide (o.val < 8) && decide (s.bankOwner b ≠ o.val) && decide (s.quotaOf o ≤ (s.houseBanks o).length)) = false := by
      by_cases hnew : o.val < 8 ∧ s.bankOwner b ≠ o.val
      · simp [Nat.not_le.2 (hquota hnew.1 hnew.2)]
      · rw [← Bool.decide_and, decide_eq_false hnew, Bool.false_and]
    refine ⟨s.handOver b o (decide (z = 1)), ?exec, ?owner, ?unit, ?busy, ?zero, hlib⟩
    case exec =>
      refine (exec_bankHandover_of_takes ht b.isLt o z).trans ?_
      rw [hlive, hidle, hunnamed, hroom]
      rfl
    case owner => rw [State.bankOwner, hreg, howner, Nat.mod_eq_of_lt (by omega)]
    case unit => rw [State.bankUnit, hreg, hunit]
    case busy => rw [State.bankBusy, hreg, hbusy]
    case zero =>
      have hnine : o.val ≠ 9 := by omega
      rw [hreg, hzero, zeroForced]
      simp [hnine]
  case inHandover =>
    refine (exec_bankHandover_of_takes ht b.isLt 0 0).trans ?_
    rw [hlive, hbusy]
    rfl
  case create =>
    intro b p co haligned hhigh hblock htests hfree hgranted hinput hring hrecord hslots hlow hcoefs hsum
    have hpipes := s.pipeSet_pipes b co
    have hset : (s.pipeSet b co).pipe p = pipeOf b co := by rw [State.pipe, hpipes, mapGet_mapSet_same]
    refine ⟨exec_pipeCreate_of_takes ht rfl rfl rfl haligned hhigh hblock htests hfree hgranted hinput hring hrecord hslots hlow hcoefs hsum,
      ?valid, ?house, ?source, fun q hq => ?others⟩
    case others => rw [State.pipe, hpipes, mapGet_mapSet_ne _ _ _ hq, State.pipe]
    all_goals
      rw [hset]
      rfl
  case destroy =>
    have hnone : (s.models.any fun m => m.images.any fun im => im.pipes.any fun e => decide (e.pipe = p.val)) = false := by
      simpa only [List.any_eq_false, decide_eq_true_eq, List.any_eq_true, not_exists, not_and] using hunused
    rw [exec_pipeDestroy_of_takes ht p.isLt, hvalid, hnone]
    rfl
  case absent =>
    rw [exec_pipeDestroy_of_takes ht p.isLt, hvalid]
    rfl

end Sys2Proof.Machine
end

section
/-! PROOFS. The descriptor rows of the DMA engines, and one row of a COPY or a FILL into the Library (R192, R194 to R200). -/
namespace Sys2Proof

/-- Of two values listed at one key the second stays. -/
theorem mapIns_mapIns {α : Type} (m : Map α) (k : Nat) (v w : α) : mapIns (mapIns m k v) k w = mapIns m k w := by
  induction m with
  | nil => simp [mapIns]
  | cons x m ih =>
    obtain ⟨j, u⟩ := x
    rcases Nat.lt_trichotomy k j with h | h | h
    · simp [mapIns, h]
    · simp [mapIns, h]
    · simp [mapIns, Nat.lt_asymm h, Nat.ne_of_gt h, ih]

/-- Of two values written at one key, neither what an unlisted key reads as, the second stays. -/
theorem mapSet_mapSet {α : Type} [DecidableEq α] {d : Nat → α} (m : Map α) {k : Nat} {v w : α} (hv : v ≠ d k) (hw : w ≠ d k) :
    mapSet d (mapSet d m k v) k w = mapSet d m k w := by
  simp only [mapSet, hv, hw, if_false, mapIns_mapIns]

end Sys2Proof

namespace Sys2Proof.Machine
open Claim

section
variable {s : State} {e : Nat} {d : Desc} {bus : Option (Nat × Nat)}

/-! ### What a descriptor row does with the descriptor in hand -/

/-- The descriptor in hand begins: F0 of its gate is taken (R200). -/
def State.beginDesc (s : State) (e : Nat) : State :=
  s.setEng e { s.eng e with begun := true, f0 := s.rd (Reg.RAS_INs_FRAME (descOf (s.eng e).bytes).gtrk) }

theorem State.runDesc_of_other {kind : Nat} (h : (s.eng e).phase ≠ .ready ∨ (descOf (s.eng e).bytes).kind ≠ kind) : s.runDesc e kind bus = s :=
  if_pos h

theorem State.runDesc_of_begun {kind : Nat} (hready : (s.eng e).phase = .ready) (hkind : (descOf (s.eng e).bytes).kind = kind)
    (hbegun : (s.eng e).begun = true) :
    s.runDesc e kind bus = s.moveRows e (descOf (s.eng e).bytes) bus ((descOf (s.eng e).bytes).height + 1) := by
  simp [State.runDesc, hready, hkind, hbegun]

theorem State.runDesc_of_refused {kind : Nat} {f : Nat × Nat} (hready : (s.eng e).phase = .ready) (hkind : (descOf (s.eng e).bytes).kind = kind)
    (hbegun : (s.eng e).begun = false) (hcheck : s.descCheck e (s.eng e) = some f) : s.runDesc e kind bus = s.dmaFault e f.1 f.2 := by
  simp [State.runDesc, hready, hkind, hbegun, hcheck]

theorem State.runDesc_of_checked {kind : Nat} (hready : (s.eng e).phase = .ready) (hkind : (descOf (s.eng e).bytes).kind = kind)
    (hbegun : (s.eng e).begun = false) (hcheck : s.descCheck e (s.eng e) = none) (hmoves : kind ≠ 0) :
    s.runDesc e kind bus = (s.beginDesc e).moveRows e (descOf (s.eng e).bytes) bus ((descOf (s.eng e).bytes).height + 1) := by
  simp [State.runDesc, State.beginDesc, hready, hkind, hbegun, hcheck, hmoves]

/-- Of two states of an engine, neither that of an unlisted one, the second stays. -/
theorem State.setEng_setEng (s : State) (e : Nat) {x y : DmaEng} (hx : x ≠ {}) (hy : y ≠ {}) : (s.setEng e x).setEng e y = s.setEng e y :=
  congrArg (fun m => { s with engines := m }) (mapSet_mapSet s.engines hx hy)

/-- A NOP that passes the checks has moved what it moves. -/
theorem State.runDesc_nop (hready : (s.eng e).phase = .ready) (hkind : (descOf (s.eng e).bytes).kind = 0)
    (hbegun : (s.eng e).begun = false) (hcheck : s.descCheck e (s.eng e) = none) :
    s.runDesc e 0 bus = s.setEng e { (s.beginDesc e).eng e with phase := .moved } := by
  have hrun : s.runDesc e 0 bus = (s.beginDesc e).setEng e { (s.beginDesc e).eng e with phase := .moved } := by
    simp [State.runDesc, State.beginDesc, hready, hkind, hbegun, hcheck]
  have hlisted {y : DmaEng} (hy : y.begun = true) : y ≠ {} := fun h => by simp [h] at hy
  have hbegins : ((s.beginDesc e).eng e).begun = true := by rw [State.beginDesc, State.eng_setEng_same]
  rw [hrun]
  exact s.setEng_setEng e (hlisted rfl) (hlisted hbegins)

/-! ### Rows that move -/

/-- A write of STATE shows in no other register. -/
theorem State.bankReg_setDmaState (he : e < 96) (v b : Nat) : (s.setDmaState e v).bankReg b = s.bankReg b :=
  State.rd_wrF_ne s _ _ _ (by simp only [Reg.LIB_BANKb, Reg.DMA_En_STATUS]; omega)

/-- No access of a row fails for the STATE of its window. -/
theorem State.rowFail_setDmaState (he : e < 96) (v : Nat) (x : DmaEng) : (s.setDmaState e v).rowFail e x d bus = s.rowFail e x d bus := by
  have hread (h : Nat) (l : Loc) (a : Nat) : (s.setDmaState e v).readFail h l a = s.readFail h l a := rfl
  have hwrite (h : Nat) (l : Loc) (a : Nat) : (s.setDmaState e v).writeFail h l a = s.writeFail h l a := by
    simp only [State.writeFail, State.bankOk, State.bankOwner, State.bankShelf, State.bankReg_setDmaState he]
    rfl
  simp only [State.rowFail, hread, hwrite]

/-- A side of a descriptor that its engine reaches: no lane, or one in service. -/
def State.reaches (s : State) (l : Loc) : Prop := (l.space = 1 ∨ l.space = 2) → s.coreLive l.core = true

/-- After its last row a descriptor has moved. -/
theorem State.moveRows_of_end (n : Nat) (h : d.height ≤ (s.eng e).row) :
    ((s.moveRows e d bus (n + 1)).eng e).phase = .moved ∧ (s.moveRows e d bus (n + 1)).lib = s.lib := by
  rw [State.moveRows, if_pos (.inl h)]
  exact ⟨congrArg DmaEng.phase (State.eng_setEng_same s e _), rfl⟩

/-- The whole of the present row moved by a COPY or a FILL, and counted. -/
def State.rowMoved (s : State) (e : Nat) (d : Desc) : State :=
  ((s.setDmaState e 1).moveRow e (s.eng e) d d.width).count48 (Reg.DMA_En_BYTES_LO e) (Reg.DMA_En_BYTES_HI e) (d.width - (s.eng e).byte)
    (some (s.eng e).house)

/-- The window then stands at the next row. -/
def State.rowEnded (s : State) (e : Nat) (d : Desc) : State :=
  (s.rowMoved e d).setEng e { (s.rowMoved e d).eng e with row := (s.eng e).row + 1, byte := 0 }

theorem State.row_rowEnded : ((s.rowEnded e d).eng e).row = (s.eng e).row + 1 := by rw [State.rowEnded, State.eng_setEng_same]

/-- A row whose accesses all succeed moves as a whole, and the next one follows. -/
theorem State.moveRows_of_row (n : Nat) (he : e < 96) (hrow : (s.eng e).row < d.height) (hwidth : 0 < d.width)
    (hgate : s.rowGate d (s.eng e).f0 (s.eng e).row = true) (hsrc : s.reaches (srcLoc e d)) (hdst : s.reaches (dstLoc e d))
    (hkind : d.kind = 1 ∨ d.kind = 3) (hfail : s.rowFail e (s.eng e) d bus = none) :
    s.moveRows e d bus (n + 1) = (s.rowEnded e d).moveRows e d bus n := by
  have hmore : ¬ (d.height ≤ (s.eng e).row ∨ d.width = 0) := by omega
  have hlive {l : Loc} (h : s.reaches l) : ¬ ((l.space = 1 ∨ l.space = 2) ∧ (!s.coreLive l.core) = true) := fun hdead => by
    simp [h hdead.1] at hdead
  have hskew : d.kind ≠ 2 := by omega
  have hpref : d.kind ≠ 4 := by omega
  have hfail' : (s.setDmaState e 1).rowFail e (s.eng e) d bus = none := (State.rowFail_setDmaState he 1 _).trans hfail
  rw [State.moveRows, if_neg hmore, if_neg (by simp [hgate]), if_neg (hlive hsrc), if_neg (fun h => hlive hdst h.2)]
  simp only [hfail', hskew, hpref, if_false, false_and]
  rfl

/-! ### The source and the destination of a row -/

/-- The source of a FILL, which names none (R192). -/
theorem srcLoc_of_fill {bs : List Byte} (hok : descOk e bs = true) (hkind : (descOf bs).kind = 3) : (srcLoc e (descOf bs)).space = 0 := by
  have hunused : descUnused bs = true := by
    simp only [descOk, Bool.and_eq_true] at hok
    obtain ⟨⟨⟨⟨-, hunused⟩, -⟩, -⟩, -⟩ := hok
    exact hunused
  have hspace : (descOf bs).sspace = 0 := by
    simp only [descUnused, hkind, Bool.and_eq_true, decide_eq_true_eq] at hunused
    obtain ⟨-, ⟨⟨⟨⟨hspace, -⟩, -⟩, -⟩, -⟩, -⟩ := hunused
    exact hspace
  simp [srcLoc, hspace]

/-- The checks of Table 7.4 find the source of a COPY or a FILL with bytes to move in service. -/
theorem State.reaches_of_descCheck {x : DmaEng} (hcheck : s.descCheck e x = none) (hkind : (descOf x.bytes).kind = 1 ∨ (descOf x.bytes).kind = 3)
    (hwidth : (descOf x.bytes).width ≠ 0) (hheight : (descOf x.bytes).height ≠ 0) : s.reaches (srcLoc e (descOf x.bytes)) := by
  intro hlane
  unfold State.descCheck at hcheck
  dsimp only at hcheck
  split at hcheck
  next => cases hcheck
  next hform =>
    have hok : descOk e x.bytes = true := by simpa using fun h => hform (.inl h)
    have hcopy : (descOf x.bytes).kind = 1 := hkind.resolve_right fun hfill => by
      rw [srcLoc_of_fill hok hfill] at hlane
      omega
    rw [if_neg (by simp [hcopy, hwidth, hheight])] at hcheck
    split at hcheck
    next => cases hcheck
    next =>
      split at hcheck
      next => cases hcheck
      next =>
        by_contra hdead
        rw [Bool.not_eq_true] at hdead
        simp [hcopy, hlane, hdead] at hcheck

/-- A descriptor of one row that goes to the Library as it stands, neither turned nor gated. -/
structure Desc.LibRow (d : Desc) : Prop where
  height : d.height = 1
  width : 0 < d.width
  rot : d.rot = 0
  mirror : d.mirror = false
  gate : d.gate = false
  dspace : d.dspace = 0

theorem Desc.LibRow.dstLoc_eq (h : d.LibRow) : dstLoc e d = ⟨0, 0, 0, 0⟩ := by
  simp [dstLoc, h.dspace]

/-- The row starts at the destination's address. -/
theorem Desc.LibRow.placeNat_eq (h : d.LibRow) : placeNat d 0 0 = d.daddr := by
  simp [placeNat, placeByte, h.rot, h.mirror]

theorem sourceNat_zero (d : Desc) (k : Nat) : sourceNat d 0 k = d.saddr + k := by
  simp only [sourceNat]
  omega

/-- The bytes of a row that a COPY takes from its source. -/
def State.sourceRow (s : State) (h e : Nat) (d : Desc) : List Byte := (List.range d.width).map (fun k => s.locByte h (srcLoc e d) (d.saddr + k))
/-- The bytes of a row that a FILL writes. -/
def Desc.patternRow (d : Desc) : List Byte := (List.range d.width).map (fun k => BitVec.ofNat 8 (d.pat / 256 ^ (k % 4)))

/-- A state differs from another by bytes stored in the Library, their check bits, and the engines. -/
def StoredRow (t s : State) (a : Nat) (bs : List Byte) : Prop :=
  ∃ m c, t = { s with engines := m, lib := memWriteN s.lib a bs, ecc := c }

theorem State.storedRow_locWrite (h a : Nat) (bs : List Byte) (hidle : s.bankBusy (bankOf a) = false) (m : Map DmaEng) :
    StoredRow (({ s with engines := m } : State).locWrite h ⟨0, 0, 0, 0⟩ a bs) s a bs := by
  obtain ⟨c, hstore⟩ := State.store_lib_eq { s with engines := m } a bs
  have hidle' : ({ s with engines := m } : State).bankBusy (bankOf a) = false := hidle
  refine ⟨m, c, ?_⟩
  simp only [State.locWrite, State.bankWrite, hidle', Bool.false_eq_true, if_false, hstore]

/-- The bytes of a whole row are those below the width. -/
theorem Desc.LibRow.whole (hd : d.LibRow) : (List.range (d.width - 0)).map (0 + ·) = List.range d.width ∧ (List.range d.width).isEmpty = false := by
  have hwidth := hd.width
  constructor
  · simp
  · simp only [List.isEmpty_eq_false_iff, ne_eq, List.range_eq_nil]
    omega

/-- A COPY moves a row of its source as it stands. -/
theorem State.storedRow_copy {x : DmaEng} (hd : d.LibRow) (hkind : d.kind = 1) (hrow : x.row = 0) (hbyte : x.byte = 0) (htemp : x.temp = [])
    (hidle : s.bankBusy (bankOf d.daddr) = false) : StoredRow (s.moveRow e x d d.width) s d.daddr (s.sourceRow x.house e d) := by
  obtain ⟨hrange, hsome⟩ := hd.whole
  have hbytes (k : Nat) : s.srcByte e x d 0 k = s.locByte x.house (srcLoc e d) (d.saddr + k) := by
    simp [State.srcByte, htemp, sourceNat_zero]
  unfold State.moveRow
  simp only [hbyte, hrow, hrange, hsome, hkind, hd.rot, hd.mirror, Bool.false_eq_true, if_false, Bool.not_false, and_self, if_true, hd.dstLoc_eq,
    hd.placeNat_eq, hbytes, List.map_map, Function.comp_def]
  split
  · exact State.storedRow_locWrite _ _ _ hidle _
  · exact State.storedRow_locWrite _ _ _ hidle s.engines

/-- A FILL writes its pattern. -/
theorem State.storedRow_fill {x : DmaEng} (hd : d.LibRow) (hkind : d.kind = 3) (hrow : x.row = 0) (hbyte : x.byte = 0)
    (hidle : s.bankBusy (bankOf d.daddr) = false) : StoredRow (s.moveRow e x d d.width) s d.daddr d.patternRow := by
  obtain ⟨hrange, hsome⟩ := hd.whole
  unfold State.moveRow
  simp only [hbyte, hrow, hrange, hsome, hkind, Bool.false_eq_true, if_false, hd.dstLoc_eq, hd.placeNat_eq]
  exact State.storedRow_locWrite _ _ _ hidle s.engines

/-- A counter of 48 bits below its end posts nothing. -/
theorem State.count48_of_below {lo hi n : Nat} (house : Option Nat) (h : s.rd64 lo hi + n < 2 ^ 48) :
    s.count48 lo hi n house = s.wr64 lo hi (s.rd64 lo hi + n) := by
  simp only [State.count48, h, if_true, Nat.mod_eq_of_lt]

/-- What a row that is stored leaves in the Library, below the end of the window's byte counter. -/
theorem State.lib_rowMoved {a : Nat} {bs : List Byte} (hbyte : (s.eng e).byte = 0)
    (hcount : s.rd64 (Reg.DMA_En_BYTES_LO e) (Reg.DMA_En_BYTES_HI e) + d.width < 2 ^ 48)
    (hstored : StoredRow ((s.setDmaState e 1).moveRow e (s.eng e) d d.width) (s.setDmaState e 1) a bs) :
    (s.rowMoved e d).lib = memWriteN s.lib a bs := by
  obtain ⟨m, c, hmoved⟩ := hstored
  have hrd (q : Nat) (hq : q ≠ Reg.DMA_En_STATUS e) : ((s.setDmaState e 1).moveRow e (s.eng e) d d.width).rd q = s.rd q := by
    rw [hmoved]
    exact s.rd_wrF_ne 2 0 1 hq
  have hbelow : ((s.setDmaState e 1).moveRow e (s.eng e) d d.width).rd64 (Reg.DMA_En_BYTES_LO e) (Reg.DMA_En_BYTES_HI e) + (d.width - (s.eng e).byte)
      < 2 ^ 48 := by
    rwa [State.rd64, hrd _ (by simp only [Reg.DMA_En_BYTES_LO, Reg.DMA_En_STATUS]; omega),
      hrd _ (by simp only [Reg.DMA_En_BYTES_HI, Reg.DMA_En_STATUS]; omega), hbyte, Nat.sub_zero]
  rw [State.rowMoved, State.count48_of_below _ hbelow]
  exact (congrArg State.lib hmoved :)

/-- A descriptor of one row that is stored has then moved. -/
theorem State.moveRows_of_libRow {bs : List Byte} (he : e < 96) (hd : d.LibRow) (hkind : d.kind = 1 ∨ d.kind = 3) (hrow : (s.eng e).row = 0)
    (hbyte : (s.eng e).byte = 0) (hsrc : s.reaches (srcLoc e d)) (hfail : s.rowFail e (s.eng e) d bus = none)
    (hcount : s.rd64 (Reg.DMA_En_BYTES_LO e) (Reg.DMA_En_BYTES_HI e) + d.width < 2 ^ 48)
    (hstored : StoredRow ((s.setDmaState e 1).moveRow e (s.eng e) d d.width) (s.setDmaState e 1) d.daddr bs) :
    ((s.moveRows e d bus 2).eng e).phase = .moved ∧ (s.moveRows e d bus 2).lib = memWriteN s.lib d.daddr bs := by
  have hgate : s.rowGate d (s.eng e).f0 (s.eng e).row = true := by simp [State.rowGate, hd.gate]
  have hdst : s.reaches (dstLoc e d) := by
    rw [hd.dstLoc_eq]
    rintro (h | h) <;> simp at h
  have hlast : d.height ≤ ((s.rowEnded e d).eng e).row := by rw [State.row_rowEnded, hrow, hd.height]
  have hfirst : (s.eng e).row < d.height := by rw [hrow, hd.height]; exact Nat.one_pos
  rw [State.moveRows_of_row 1 he hfirst hd.width hgate hsrc hdst hkind hfail]
  obtain ⟨hphase, hlib⟩ := State.moveRows_of_end (bus := bus) 0 hlast
  exact ⟨hphase, hlib.trans (State.lib_rowMoved hbyte hcount hstored)⟩

/-- The bytes of a row, and every other byte of the Library, after it has been stored. -/
theorem memRead_storedRow {m m' : Memory} {f : Nat → Byte} (a n : Nat) (h : m' = memWriteN m a ((List.range n).map f)) :
    (∀ k, k < n → memRead m' (a + k) = f k) ∧ ∀ q, q < a ∨ a + n ≤ q → memRead m' q = memRead m q := by
  subst h
  refine ⟨fun k hk => ?_, fun q hq => memRead_memWriteN_out m _ (by simpa using hq)⟩
  rw [memRead_memWriteN_in m _ (by simpa using hk), List.getElem_map, List.getElem_range]

end

/-- Settles O36: each row is one use of `runDesc`; a row stored in the Library by what the move of its bytes writes there. -/
theorem descriptorsMoveTheirRows : Obligations.DescriptorsMoveTheirRows := by
  intro s e bus hup x d b u rows
  have hrun : ∀ r ∈ rows, exec r.2 s = .next (s.runDesc e r.1 b) := by
    simp only [rows, List.forall_mem_cons, List.not_mem_nil, false_implies, implies_true, and_true]
    exact ⟨exec_of_up (f := fun s => s.runDesc e 0 b) hup rfl, exec_of_up (f := fun s => s.runDesc e 1 b) hup rfl,
      exec_of_up (f := fun s => s.runDesc e 2 b) hup rfl, exec_of_up (f := fun s => s.runDesc e 3 b) hup rfl,
      exec_of_up (f := fun s => s.runDesc e 4 b) hup rfl⟩
  refine ⟨fun r hr => ?rows, ?nop, ?stored⟩
  case rows =>
    rw [hrun r hr]
    exact ⟨fun h => congrArg _ (State.runDesc_of_other h), fun hready hkind hbegun f hf => congrArg _ (State.runDesc_of_refused hready hkind hbegun hf),
      fun hready hkind hbegun hcheck hmoves => congrArg _ (State.runDesc_of_checked hready hkind hbegun hcheck hmoves),
      fun hready hkind hbegun => congrArg _ (State.runDesc_of_begun hready hkind hbegun)⟩
  case nop =>
    intro hready hkind hbegun hcheck
    rw [hrun (0, .descNop e bus) (by simp [rows]), State.runDesc_nop hready hkind hbegun hcheck]
    rfl
  case stored =>
    intro hready hbegun hrow hbyte htemp hcheck hheight hwidth hrot hmirror hgate hdspace hidle hfail hcount
    have hd : d.LibRow := ⟨hheight, hwidth, hrot, hmirror, hgate, hdspace⟩
    have hu : u.eng e = { x with begun := true, f0 := s.rd (Reg.RAS_INs_FRAME d.gtrk) } := State.eng_setEng_same s e _
    have hrow' : (u.eng e).row = 0 := by rw [hu]; exact hrow
    have hbyte' : (u.eng e).byte = 0 := by rw [hu]; exact hbyte
    have htemp' : (u.eng e).temp = [] := by rw [hu]; exact htemp
    have hhouse : (u.eng e).house = x.house := by rw [hu]
    have hidle' : (u.setDmaState e 1).bankBusy (bankOf d.daddr) = false := by
      rw [State.bankBusy, State.bankReg_setDmaState e.isLt]
      exact hidle
    have hmoves {bs : List Byte} (hkind : d.kind = 1 ∨ d.kind = 3)
        (hstored : StoredRow ((u.setDmaState e 1).moveRow e (u.eng e) d d.width) (u.setDmaState e 1) d.daddr bs) :
        s.runDesc e d.kind b = u.moveRows e d b 2 ∧ ((u.moveRows e d b 2).eng e).phase = .moved ∧
          (u.moveRows e d b 2).lib = memWriteN s.lib d.daddr bs := by
      have hrows : d.height ≠ 0 := by omega
      have hbytes : d.kind ≠ 0 := by omega
      have hsrc : u.reaches (srcLoc e d) := State.reaches_of_descCheck (s := s) hcheck hkind hwidth.ne' hrows
      refine ⟨(State.runDesc_of_checked hready rfl hbegun hcheck hbytes).trans ?_,
        State.moveRows_of_libRow e.isLt hd hkind hrow' hbyte' hsrc hfail hcount hstored⟩
      rw [show (descOf (s.eng e).bytes).height = 1 from hheight]
      rfl
    refine ⟨fun hkind => ?copy, fun hkind => ?fill⟩
    case copy =>
      obtain ⟨hexec, hphase, hlib⟩ := hmoves (.inl hkind) (State.storedRow_copy hd hkind hrow' hbyte' htemp' hidle')
      rw [hkind] at hexec
      rw [hhouse] at hlib
      exact ⟨_, (hrun (1, .copy e bus) (by simp [rows])).trans (congrArg _ hexec), hphase,
        memRead_storedRow d.daddr d.width hlib⟩
    case fill =>
      obtain ⟨hexec, hphase, hlib⟩ := hmoves (.inr hkind) (State.storedRow_fill hd hkind hrow' hbyte' hidle')
      rw [hkind] at hexec
      exact ⟨_, (hrun (3, .fill e bus) (by simp [rows])).trans (congrArg _ hexec), hphase, memRead_storedRow d.daddr d.width hlib⟩

end Sys2Proof.Machine
end

section
/-! PROOFS. A page response that ends two contexts, the later of which holds a House number that no House has (R202, R203, R411). -/
namespace Sys2Proof.Machine
open Claim

section
variable {s : State}

/-- No queue is of a House number that no House has, so an event for it is lost. -/
theorem State.post_of_foreign {h : Nat} (hh : 8 ≤ h) (code tag : Nat) (own : Option Nat) (detail : List Nat) :
    s.post h code tag own detail = (s.eventSeq h).eventLost h := by
  have hnone : (s.eventSeq h).eventQueues h code = [] := by
    refine List.filter_eq_nil_iff.2 fun q _ htakes => ?_
    simp only [State.isEventQueue, Bool.and_eq_true, decide_eq_true_eq] at htakes
    obtain ⟨⟨-, hhouse⟩, -⟩ := htakes
    have hlt := List.mem_range.1 (List.mem_of_find?_eq_some hhouse)
    omega
  simp only [State.post, hnone, List.isEmpty_nil, if_true]

/-- The end of a chain writes two registers of its window. -/
theorem State.rd_dmaEnd_ne {e key : Nat} (st : Nat) (hstatus : key ≠ Reg.DMA_En_STATUS e) (hctrl : key ≠ Reg.DMA_En_CTRL e) :
    (s.dmaEnd e st).rd key = s.rd key := by
  have hwrites : ((s.setDmaState e st).wr (Reg.DMA_En_CTRL e) 0).rd key = s.rd key := by
    rw [State.rd_wr_ne _ _ hctrl, State.setDmaState, State.rd_wrF_ne _ _ _ _ hstatus]
  unfold State.dmaEnd State.dmaAnswer
  dsimp only
  split <;> exact hwrites

/-- A fault of a chain of a House number whose event sequence register would stand at another window's STATUS counts there. -/
theorem State.rd_dmaFault_of_alias {e g : Nat} (cause addr : Nat) (hge : g ≠ e) (hwaiter : (s.eng e).waiter = none)
    (halias : Reg.EVT_SEQh (s.eng e).house = Reg.DMA_En_STATUS g) :
    (s.dmaFault e cause addr).rd (Reg.DMA_En_STATUS g) = s.rd (Reg.DMA_En_STATUS g) + 1 := by
  have hflush : s.dmaFlush e = s := by simp [State.dmaFlush, hwaiter]
  have hforeign : 8 ≤ (s.eng e).house := by
    simp only [Reg.EVT_SEQh, Reg.DMA_En_STATUS] at halias
    omega
  have hlost : Reg.DMA_En_STATUS g ≠ Reg.EVT_LOSTh (s.eng e).house := by
    simp only [← halias, Reg.EVT_SEQh, Reg.EVT_LOSTh]
    omega
  have hkeys : Reg.DMA_En_STATUS g ≠ Reg.DMA_En_STATUS e ∧ Reg.DMA_En_STATUS g ≠ Reg.DMA_En_CTRL e ∧ Reg.DMA_En_STATUS g ≠ Reg.DMA_En_DESC e ∧
      Reg.DMA_En_STATUS g ≠ Reg.DMA_En_POS e ∧ Reg.DMA_En_STATUS g ≠ Reg.DMA_En_FADDR_LO e ∧ Reg.DMA_En_STATUS g ≠ Reg.DMA_En_FADDR_HI e := by
    simp only [Reg.DMA_En_STATUS, Reg.DMA_En_CTRL, Reg.DMA_En_DESC, Reg.DMA_En_POS, Reg.DMA_En_FADDR_LO, Reg.DMA_En_FADDR_HI]
    omega
  obtain ⟨hstatus, hctrl, hdesc, hpos, hlo, hhi⟩ := hkeys
  have hseq (t : State) : (t.eventSeq (s.eng e).house).rd (Reg.DMA_En_STATUS g) = t.rd (Reg.DMA_En_STATUS g) + 1 := by
    rw [State.eventSeq, halias, State.rd_wr_same]
  simp only [State.dmaFault, hflush]
  rw [State.rd_dmaEnd_ne _ hstatus hctrl, State.post_of_foreign hforeign, State.eventLost, State.rd_countErr_ne _ hlost, hseq,
    State.setDmaState, State.rd_wrF_ne _ _ _ _ hstatus, State.rd_wr64_ne _ _ hlo hhi, State.rd_wr_ne _ _ hpos, State.rd_wr_ne _ _ hdesc,
    State.rd_wrF_ne _ _ _ _ hstatus]

/-- A context that is halted on a refused page ends with cause 7 (R203). -/
def State.refusePage (s : State) (e page : Nat) : State :=
  if (s.eng e).phase = .halted ∧ (s.eng e).page = page / 4096 * 4096 then s.dmaFault e 0x07 (s.eng e).page else s

/-- A response that refuses a page goes through the contexts of its function. -/
theorem State.priResponse_refused (s : State) (fn page : Nat) : s.priResponse fn page false =
    [64, 72, 80, 88].foldl (fun t g => t.refusePage (g + fn) page)
      { s with asked := s.asked.filter (fun k => decide (k ≠ hostKey fn (page / 4096 * 4096))) } := by
  have hrange : List.range 4 = [0, 1, 2, 3] := rfl
  simp only [State.priResponse, State.refusePage, Bool.false_eq_true, if_false, hrange, List.foldl_cons, List.foldl_nil]

theorem State.refusePage_of_halted {e page : Nat} (hphase : (s.eng e).phase = .halted) (hpage : (s.eng e).page = page / 4096 * 4096) :
    s.refusePage e page = s.dmaFault e 0x07 (s.eng e).page := if_pos ⟨hphase, hpage⟩

theorem State.refusePage_of_idle {e page : Nat} (h : (s.eng e).phase = .idle) : s.refusePage e page = s :=
  if_neg fun hhalted => by simp [h] at hhalted

end

/-- Two contexts of function 0 are halted on its page 0, on the system engines 0 and 1. The second holds the House number 0x807F0, whose event sequence
register would stand where the first has its STATUS: no command leads here, yet the statement is about every state. -/
def strangeHouse : State := { State.reset with engines := [(64, { phase := .halted }), (72, { phase := .halted, house := 0x807F0 })] }

/-- Its state once the first context's chain has ended, and once both have. -/
def oneEnded : State := strangeHouse.dmaFault 64 0x07 0
def bothEnded : State := oneEnded.dmaFault 72 0x07 0

theorem engines_oneEnded : oneEnded.engines = [(72, { phase := .halted, house := 0x807F0 })] := (strangeHouse.dmaFault_tables 64 0x07 0).2

theorem eng_oneEnded : oneEnded.eng 72 = { phase := .halted, house := 0x807F0 } := by
  rw [State.eng, engines_oneEnded]
  rfl

theorem idle_bothEnded (e : Nat) : (bothEnded.eng e).phase = .idle := by
  rw [State.eng, bothEnded, (oneEnded.dmaFault_tables 72 0x07 0).2, State.setEng, eng_oneEnded, engines_oneEnded]
  rfl

/-- The refusal of page 0 ends both chains, the lower context's first. -/
theorem priResponse_strangeHouse : strangeHouse.priResponse 0 0 false = bothEnded := by
  have hfirst : strangeHouse.refusePage 64 0 = oneEnded := State.refusePage_of_halted rfl rfl
  have hsecond : oneEnded.refusePage 72 0 = bothEnded := by
    rw [State.refusePage_of_halted (by rw [eng_oneEnded]) (by rw [eng_oneEnded]), eng_oneEnded, bothEnded]
  rw [State.priResponse_refused]
  simp only [List.foldl_cons, List.foldl_nil]
  show (((strangeHouse.refusePage 64 0).refusePage 72 0).refusePage 80 0).refusePage 88 0 = bothEnded
  rw [hfirst, hsecond, State.refusePage_of_idle (idle_bothEnded _), State.refusePage_of_idle (idle_bothEnded _)]

/-- The first chain ends with STATE 4 and CAUSE 7. -/
theorem status_oneEnded : oneEnded.rd (Reg.DMA_En_STATUS 64) = 0x70004 := by decide

/-- The event of the second chain's fault counts in the STATUS of the first. -/
theorem state_bothEnded : bothEnded.rdF (Reg.DMA_En_STATUS 64) 2 0 = 5 := by
  have hcount : bothEnded.rd (Reg.DMA_En_STATUS 64) = oneEnded.rd (Reg.DMA_En_STATUS 64) + 1 :=
    State.rd_dmaFault_of_alias 0x07 0 (by decide) (by rw [eng_oneEnded]) (by rw [eng_oneEnded]; decide)
  rw [State.rdF, hcount, status_oneEnded]
  decide

/-- Refutes O37: its clause of a refused page asks for STATE 4 in every context that the page halted, though nothing bounds the House of an engine, and the
event of a fault counts in a register that the House numbers. In `strangeHouse` the first context's STATE is 5 once the second chain has ended. -/
theorem not_chainsStartEndAndAbort : ¬ Obligations.ChainsStartEndAndAbort := by
  intro h
  have hup : Up strangeHouse := ⟨rfl, rfl⟩
  obtain ⟨-, -, -, -, -, -, -, -, -, hpage, -⟩ := h strangeHouse 64 hup
  obtain ⟨t, hexec, -, hcontexts⟩ := hpage 0 0 false
  have hresponse : exec (.priResponse 0 0 false) strangeHouse = .next bothEnded :=
    (exec_of_up (f := fun s => s.priResponse 0 0 false) hup rfl).trans (congrArg _ priResponse_strangeHouse)
  have ht : t = bothEnded := Host.Outcome.next.inj (hexec.symm.trans hresponse)
  obtain ⟨-, hended, -⟩ := hcontexts 0 (by decide)
  obtain ⟨-, hstate, -⟩ := hended ⟨by decide, by decide⟩ rfl
  have hfive : t.rdF (Reg.DMA_En_STATUS 64) 2 0 = 5 := by rw [ht, state_bothEnded]
  exact absurd (hfive.symm.trans hstate) (by decide)

end Sys2Proof.Machine
end

section
/-! PROOFS. Run-time shapes (R233), and the tiles that a roll counter deals and counts complete (R221 to R226). -/
namespace Sys2Proof.Machine
open Claim

/-! ### The Library without stored errors (R162) -/

theorem State.firstBad_of_clean {s : State} (hecc : s.ecc = []) (a n : Nat) : s.firstBad .lib a n = none := by
  simp [State.firstBad, State.eccOf, hecc, mapGet]

theorem State.libCorrected_of_clean {s : State} (hecc : s.ecc = []) (a n : Nat) : s.libCorrected a n = s := by
  simp [State.libCorrected, State.eccOf, hecc, mapGet]

/-! ### Run-time shapes (R233) -/

section
variable {s : State} {f a h : Nat}

/-- The arm of a form has taken its shape word. -/
def State.shapeTaken (s : State) (f : Nat) : State := s.setForm f { s.form f with shape := none }

theorem State.shapeRead_of_none (hshape : (s.form f).shape = none) : s.shapeRead f = s := by
  simp only [State.shapeRead, hshape]

/-- A word in a busy bank waits. -/
theorem State.shapeRead_of_busy (hshape : (s.form f).shape = some (a, h)) (hok : s.banksOk h a 4 = true) (hbusy : s.bankBusy (bankOf a) = true) :
    s.shapeRead f = s := by
  simp only [State.shapeRead, hshape, hok, hbusy, Bool.and_self, if_true]

/-- A word outside the House's banks fails the arm. -/
theorem State.shapeRead_of_outside (hshape : (s.form f).shape = some (a, h)) (hok : s.banksOk h a 4 = false) :
    s.shapeRead f = (s.shapeTaken f).shapeBad f := by
  have htaken : (s.shapeTaken f).banksOk h a 4 = false := hok
  rw [State.shapeTaken] at htaken ⊢
  simp only [State.shapeRead, hshape, hok, htaken, Bool.and_false, Bool.not_false, Bool.false_eq_true, if_false, if_true]

/-- A word in an idle bank of the House gives the number of tiles, or fails the arm with more than 4,096. -/
theorem State.shapeRead_of_word (hshape : (s.form f).shape = some (a, h)) (hok : s.banksOk h a 4 = true) (hidle : s.bankBusy (bankOf a) = false)
    (hecc : s.ecc = []) :
    s.shapeRead f = if memLe s.lib a 4 ≤ 4096 then (s.shapeTaken f).armTiles f (memLe s.lib a 4) else (s.shapeTaken f).shapeBad f := by
  have htaken : (s.shapeTaken f).banksOk h a 4 = true := hok
  have hbad : (s.shapeTaken f).firstBad .lib a 4 = none := State.firstBad_of_clean (s := s.shapeTaken f) hecc a 4
  have hcorrected : (s.shapeTaken f).libCorrected a 4 = s.shapeTaken f := State.libCorrected_of_clean (s := s.shapeTaken f) hecc a 4
  have hword : leNat ((s.shapeTaken f).load .lib a 4) = memLe s.lib a 4 := rfl
  have hfits (w : Nat) : (w / 2 ^ 13 = 0 ∧ w ≤ 4096) ↔ w ≤ 4096 := by omega
  rw [State.shapeTaken] at htaken hbad hcorrected hword ⊢
  simp only [State.shapeRead, hshape, hidle, htaken, hbad, hcorrected, hword, hfits, Bool.false_and, Bool.not_true, Bool.false_eq_true, if_false]

end

/-! ### Marks and predicates -/

theorem testBit_putBit_true (x i : Nat) : Nat.testBit (putBit x i true) i = true := by
  unfold putBit
  split
  next h => exact h
  next h => rw [if_pos rfl, Nat.add_comm, Nat.testBit_two_pow_add_eq, Bool.eq_false_of_not_eq_true h, Bool.not_false]

/-- A predicate written reads back. -/
theorem Core.P_setP_same (k : Core) {r : Nat} (hr : r ≠ 0) (hlt : r < 8) (b : Bool) : (k.setP r b).P r = b := by
  simp only [Core.P, Core.setP, if_neg hr]
  exact bit_setBit_same k.p b hlt

/-- The scalar registers are no predicates. -/
@[simp] theorem Core.G_setP (k : Core) (r q : Nat) (b : Bool) : (k.setP r b).G q = k.G q := by
  unfold Core.setP
  split <;> rfl

/-! ### One draw of a lane (R222 to R225) -/

section
variable {s : State} {f l i : Nat}

/-- The lane holds a tile that had not been dealt before. -/
def Form.give (x : Form) (l i : Nat) : Form :=
  { x with held := mapSet (fun _ => []) x.held l (mapGet (fun _ => []) x.held l ++ [i]), dealt := putBit x.dealt i true }

theorem State.form_rollGive (s : State) (f l i : Nat) (fresh : Bool) : (s.rollGive f l i fresh).form f = (s.form f).give l i := by
  cases fresh <;> exact s.form_setForm_same f _

/-- A band that is over answers each ROLL with exhausted. -/
theorem State.rollDraw_of_over (hshape : (s.form f).shape = none) (hover : s.rollOver f = true) : s.rollDraw f l = (some 0xFFFFFFFF, s) := by
  simp only [State.rollDraw, hshape, hover, Option.isSome_none, Bool.false_eq_true, if_false, if_true]
  rfl

/-- In draw mode, with nothing to reissue, a lane draws the lowest index not dealt. -/
theorem State.rollDraw_of_draw (hshape : (s.form f).shape = none) (hover : s.rollOver f = false)
    (hroom : (mapGet (fun _ => []) (s.form f).held l).length < 4) (hmode : s.rcDeal f = false) (hreissue : (s.form f).reissue = [])
    (hi : i < s.rcNT f) (hfresh : Nat.testBit (s.form f).dealt i = false) (hbelow : ∀ j, j < i → Nat.testBit (s.form f).dealt j = true) :
    s.rollDraw f l = (some (BitVec.ofNat 32 i), s.rollGive f l i true) := by
  have hfirst : (List.range (s.rcNT f)).find? (fun i => !Nat.testBit (s.form f).dealt i) = some i :=
    List.find?_range_eq_some.2 ⟨by rw [hfresh, Bool.not_false], List.mem_range.2 hi, fun j hj => by rw [hbelow j hj, Bool.not_true, Bool.not_false]⟩
  simp only [State.rollDraw, hshape, hover, hmode, hreissue, hfirst, Nat.not_le.2 hroom, Option.isSome_none, Bool.false_eq_true, if_false]

/-- The index that a lane takes next in deal mode (R223). -/
def State.dealIndex (s : State) (f l : Nat) : Nat :=
  mapGet (fun _ => 0) (s.form f).draws l * (s.rcLanes f).length + ((s.rcLanes f).filter (fun k => decide (k < l))).length

/-- The lane has drawn once more. -/
def State.countDraw (s : State) (f l : Nat) : State :=
  s.setForm f { s.form f with draws := mapSet (fun _ => 0) (s.form f).draws l (mapGet (fun _ => 0) (s.form f).draws l + 1) }

/-- In deal mode a lane of E takes its own next index, with the flags of its neighbours. -/
theorem State.rollDraw_of_deal (hshape : (s.form f).shape = none) (hover : s.rollOver f = false)
    (hroom : (mapGet (fun _ => []) (s.form f).held l).length < 4) (hmode : s.rcDeal f = true) (hlane : (s.rcLanes f).contains l = true)
    (hi : s.dealIndex f l < s.rcNT f) (hfresh : Nat.testBit (s.form f).dealt (s.dealIndex f l) = false) :
    s.rollDraw f l = (some (BitVec.ofNat 32 (s.dealIndex f l + s.rollFlags f l (s.dealIndex f l))),
      (s.countDraw f l).rollGive f l (s.dealIndex f l) true) := by
  rw [State.dealIndex] at hi hfresh ⊢
  simp only [State.rollDraw, State.countDraw, hshape, hover, hmode, hlane, hi, hfresh, Nat.not_le.2 hroom, Option.isSome_none, Bool.false_eq_true,
    if_false, decide_true, Bool.not_false, Bool.and_self, if_true]

end

/-! ### The ROLLs that wait at a counter (R224, R225) -/

/-- A fold in which one element alone acts. -/
theorem foldl_acts_once {σ α : Type} {g : σ → α → σ} {s : σ} {a : α} (hbefore : ∀ x, x ≠ a → g s x = s) (hafter : ∀ x, g (g s a) x = g s a)
    {l : List α} (ha : a ∈ l) : l.foldl g s = g s a := by
  induction l with
  | nil => cases ha
  | cons x xs ih =>
    rw [List.foldl_cons]
    by_cases hx : x = a
    · subst hx
      exact List.foldl_fixed' hafter xs
    · rw [hbefore x hx]
      exact ih ((List.mem_cons.1 ha).resolve_left (Ne.symm hx))

/-- The turn of a lane of a form among the waiting ROLLs. -/
def State.serveLane (s : State) (f l : Nat) : State :=
  match (s.form f).rolls.find? (fun r => decide (r.core = 32 * f + l)) with
  | none => s
  | some r =>
    match s.rollDraw f l with
    | (some w, s') =>
      let x := s'.form f
      (s'.setForm f { x with rolls := x.rolls.filter (fun q => decide (q ≠ r)) }).rollResult r.core r.gd r.pd w
    | (none, s') => s'

theorem State.rollServe_eq (s : State) (f : Nat) : s.rollServe f = (List.range 32).foldl (fun t l => t.serveLane f l) s := rfl

section
variable {s s' : State} {f l : Nat} {r : RollWait} {w : Word}

/-- The turn of a lane without a ROLL. -/
theorem State.serveLane_of_none (h : ∀ r ∈ (s.form f).rolls, r.core ≠ 32 * f + l) : s.serveLane f l = s := by
  have hnone : (s.form f).rolls.find? (fun r => decide (r.core = 32 * f + l)) = none := by simpa using h
  simp only [State.serveLane, hnone]

/-- With no ROLL waiting there is nothing to serve. -/
theorem State.rollServe_of_none (h : (s.form f).rolls = []) : s.rollServe f = s := by
  rw [State.rollServe_eq]
  exact List.foldl_fixed' (fun l => State.serveLane_of_none (by simp [h])) _

/-- The only ROLL that waits has its result: it leaves the counter and its core takes the word. -/
def State.rollAnswered (s : State) (f : Nat) (r : RollWait) (w : Word) : State :=
  (s.setForm f { s.form f with rolls := [] }).rollResult r.core r.gd r.pd w

theorem State.form_rollAnswered (s : State) (f : Nat) (r : RollWait) (w : Word) :
    (s.rollAnswered f r w).form f = { s.form f with rolls := [] } := s.form_setForm_same f _

theorem State.serveLane_of_drawn (hrolls : (s.form f).rolls = [r]) (hcore : r.core = 32 * f + l) (hdraw : s.rollDraw f l = (some w, s'))
    (hkept : (s'.form f).rolls = [r]) : s.serveLane f l = s'.rollAnswered f r w := by
  have hfound : (s.form f).rolls.find? (fun r => decide (r.core = 32 * f + l)) = some r := by simp [hrolls, hcore]
  have hleaves : (s'.form f).rolls.filter (fun q => decide (q ≠ r)) = [] := by simp [hkept]
  simp only [State.serveLane, hfound, hdraw, hleaves, State.rollAnswered]

/-- The only ROLL that waits is served in its lane's turn. -/
theorem State.rollServe_of_drawn (hrolls : (s.form f).rolls = [r]) (hl : l < 32) (hcore : r.core = 32 * f + l)
    (hdraw : s.rollDraw f l = (some w, s')) (hkept : (s'.form f).rolls = [r]) : s.rollServe f = s'.rollAnswered f r w := by
  have hturn := State.serveLane_of_drawn hrolls hcore hdraw hkept
  rw [State.rollServe_eq, ← hturn]
  refine foldl_acts_once (fun k hk => State.serveLane_of_none ?_) (fun k => State.serveLane_of_none ?_) (List.mem_range.2 hl)
  · simp only [hrolls, List.forall_mem_singleton, hcore]
    omega
  · simp [hturn, State.form_rollAnswered]

end

/-! ### The issue of a ROLL -/

section
variable {s s' : State} {c gd pd : Nat} {w : Word}

/-- A ROLL of a core waits alone at the counter of its form. -/
def State.rollWaiting (s : State) (c gd pd : Nat) : State := s.setForm (c / 32) { s.form (c / 32) with rolls := [⟨c, gd, pd⟩] }

theorem State.form_rollWaiting (s : State) (c gd pd : Nat) :
    (s.rollWaiting c gd pd).form (c / 32) = { s.form (c / 32) with rolls := [⟨c, gd, pd⟩] } := s.form_setForm_same _ _

/-- A ROLL that finds the counter free takes its result at once. -/
theorem State.rollIssue_of_drawn (hrolls : (s.form (c / 32)).rolls = []) (hdraw : (s.rollWaiting c gd pd).rollDraw (c / 32) (c % 32) = (some w, s'))
    (hkept : (s'.form (c / 32)).rolls = [⟨c, gd, pd⟩]) : s.rollIssue c gd pd = s'.rollAnswered (c / 32) ⟨c, gd, pd⟩ w := by
  have hissue : s.rollIssue c gd pd = (s.rollWaiting c gd pd).rollServe (c / 32) := by
    simp only [State.rollIssue, State.rollWaiting, hrolls, List.nil_append]
  have hwaiting : ((s.rollWaiting c gd pd).form (c / 32)).rolls = [⟨c, gd, pd⟩] := by rw [State.form_rollWaiting]
  rw [hissue]
  exact State.rollServe_of_drawn hwaiting (Nat.mod_lt _ (by decide)) (Nat.div_add_mod c 32).symm hdraw hkept

/-- The result of a ROLL stands in its registers. -/
theorem State.registers_rollAnswered (s : State) (f : Nat) (w : Word) (hgd : gd ≠ 0) (hpd : pd ≠ 0) (hlt : pd < 8) :
    ((s.rollAnswered f ⟨c, gd, pd⟩ w).core c).G gd = w ∧ ((s.rollAnswered f ⟨c, gd, pd⟩ w).core c).P pd = decide (w = 0xFFFFFFFF) ∧
      ((s.rollAnswered f ⟨c, gd, pd⟩ w).form f).rolls = [] := by
  have hcore (t : State) : (t.rollResult c gd pd w).core c = ((t.core c).setG gd w).setP pd (decide (w = 0xFFFFFFFF#32)) :=
    State.core_setCore_same _ _ _
  refine ⟨?_, ?_, ?_⟩
  · rw [State.rollAnswered, hcore, Core.G_setP, Core.G_setG_same _ hgd]
  · rw [State.rollAnswered, hcore, Core.P_setP_same _ hpd hlt]
    rfl
  · rw [State.form_rollAnswered]

end

/-! ### TDONE (R226) -/

section
variable {s : State} {c f i : Nat}

theorem State.forms_bandDone (s : State) (f : Nat) : (s.bandDone f).forms = s.forms := by
  simp only [State.bandDone, apply_ite State.forms, State.countErr, State.wr_frame, State.setBandRec_frame, State.wr64_frame, State.wrF_frame, ite_self]

/-- The end of a band leaves the count of complete tiles. -/
theorem State.rcDone_bandDone (s : State) (f : Nat) : (s.bandDone f).rcDone f = s.rcDone f := by
  have hrec (t : State) (p b : Nat) (r : BandRec) : (t.setBandRec p b r).rd (Reg.RC_PROG f) = t.rd (Reg.RC_PROG f) := rfl
  have hcount (t : State) (p : Nat) (hp : p < 4) : (t.countErr (Reg.DLN_Pp_LATEDONE p)).rd (Reg.RC_PROG f) = t.rd (Reg.RC_PROG f) := by
    refine State.rd_countErr_ne t ?_
    simp only [Reg.RC_PROG, Reg.DLN_Pp_LATEDONE]
    omega
  have hctrl : Reg.RC_PROG f ≠ Reg.RC_CTRL f := by simp [Reg.RC_PROG, Reg.RC_CTRL]
  have hlo : Reg.RC_PROG f ≠ Reg.RC_DONE_RTS_LO f := by simp [Reg.RC_PROG, Reg.RC_DONE_RTS_LO]
  have hhi : Reg.RC_PROG f ≠ Reg.RC_DONE_RTS_HI f := by simp [Reg.RC_PROG, Reg.RC_DONE_RTS_HI]
  have hpipe : s.rdF (Reg.RC_BAND f) 17 16 < 4 := fld_lt _ 17 16
  have hprog : (s.bandDone f).rd (Reg.RC_PROG f) = s.rd (Reg.RC_PROG f) := by
    unfold State.bandDone
    dsimp only
    (repeat' split) <;> simp only [hcount _ _ hpipe, hrec, State.rd_wr64_ne _ _ hlo hhi, State.rd_wrF_ne _ _ _ _ hctrl]
  rw [State.rcDone, State.rdF, hprog, State.rcDone, State.rdF]

/-- A lane has reported a tile that it holds. -/
def State.tileDone (s : State) (c i : Nat) : State :=
  let x := s.form (c / 32)
  (s.setForm (c / 32) { x with held := mapSet (fun _ => []) x.held (c % 32) ((mapGet (fun _ => []) x.held (c % 32)).erase i)
                               complete := putBit x.complete i true }).wrF (Reg.RC_PROG (c / 32)) 12 0 (s.rcDone (c / 32) + 1)

theorem State.form_tileDone (s : State) (c i : Nat) : (s.tileDone c i).form (c / 32) =
    { s.form (c / 32) with
      held := mapSet (fun _ => []) (s.form (c / 32)).held (c % 32) ((mapGet (fun _ => []) (s.form (c / 32)).held (c % 32)).erase i)
      complete := putBit (s.form (c / 32)).complete i true } := s.form_setForm_same _ _

theorem State.rcDone_tileDone (s : State) (c i : Nat) : (s.tileDone c i).rcDone (c / 32) = (s.rcDone (c / 32) + 1) % 8192 :=
  State.rdF_wrF_same _ _ _ (by decide)

/-- A TDONE counts: its index lies in the armed band, is outstanding on the lane, and is not complete. -/
def State.tdoneCounts (s : State) (c i : Nat) : Prop :=
  bit (s.rd (Reg.RC_CTRL (c / 32))) 0 = true ∧ i < s.rcNT (c / 32) ∧ i ∈ mapGet (fun _ => []) (s.form (c / 32)).held (c % 32) ∧
    Nat.testBit (s.form (c / 32)).complete i = false

/-- A TDONE that counts marks its tile; the last one of a band ends it. -/
theorem State.tdoneRecord_of_counts (hrolls : (s.form (c / 32)).rolls = []) (h : s.tdoneCounts c i) :
    s.tdoneRecord c i = s.tileDone c i ∨ s.tdoneRecord c i = (s.tileDone c i).bandDone (c / 32) := by
  obtain ⟨harmed, hi, hheld, hopen⟩ := h
  have hnone (t : State) (ht : t.forms = (s.tileDone c i).forms) : t.rollServe (c / 32) = t := by
    refine State.rollServe_of_none ?_
    rw [State.form, ht, ← State.form, State.form_tileDone, hrolls]
  have hrecord : s.tdoneRecord c i = (if (s.tileDone c i).rcDone (c / 32) = (s.tileDone c i).rcNT (c / 32) ∧
      !bit ((s.tileDone c i).rd (Reg.RC_CTRL (c / 32))) 4 then (s.tileDone c i).bandDone (c / 32) else s.tileDone c i).rollServe (c / 32) := by
    refine if_pos ?_
    simp only [harmed, hi, hopen, List.contains_iff_mem.2 hheld, decide_true, Bool.not_false, Bool.and_self]
  rw [hrecord]
  split
  · exact .inr (hnone _ (State.forms_bandDone _ _))
  · exact .inl (hnone _ rfl)

/-- Any other TDONE is an error. -/
theorem State.tdoneRecord_of_not_counts (h : ¬ s.tdoneCounts c i) : s.tdoneRecord c i = s.countErr (Reg.RC_ERR (c / 32)) := by
  refine if_neg fun hcond => h ?_
  simpa [State.tdoneCounts, and_assoc] using hcond

end

/-- Settles O20: a shape word by its bank and its value; a ROLL by the draw of its lane, alone at the counter; a TDONE by whether it counts. -/
theorem shapesRollAndTdoneDealTiles : Obligations.ShapesRollAndTdoneDealTiles := by
  refine ⟨?shapes, ?rolls⟩
  case shapes =>
    intro s f a h hup t w bad
    have hexec : exec (.shapeWordRead f) s = .next (s.shapeRead f) := exec_of_up (f := fun s => s.shapeRead f) hup rfl
    rw [hexec]
    refine ⟨fun hshape => ?absent, fun hshape hok hbusy => ?busy, fun hshape hok hidle hecc hw => ?tiles, fun hshape hok hidle hecc hw => ?tooMany,
      fun hshape hok => ?outside⟩
    case absent => rw [State.shapeRead_of_none hshape]
    case busy => rw [State.shapeRead_of_busy hshape hok hbusy]
    case tiles =>
      rw [State.shapeRead_of_word hshape hok hidle hecc, if_pos hw]
      rfl
    case tooMany =>
      rw [State.shapeRead_of_word hshape hok hidle hecc, if_neg (Nat.not_le.2 hw)]
      rfl
    case outside =>
      rw [State.shapeRead_of_outside hshape hok]
      rfl
  case rolls =>
    intro s c gd pd f l x held result hgd hpd hlt hrolls hshape
    have hform : (s.rollWaiting c gd pd).form f = { x with rolls := [⟨c, gd, pd⟩] } := s.form_rollWaiting c gd pd
    have hwaitingShape : ((s.rollWaiting c gd pd).form f).shape = none := by rw [hform]; exact hshape
    refine ⟨fun hover => ?exhausted, fun hover hroom hmode hreissue i hi hfresh hbelow _ => ?draw, ?deal,
      fun i => ⟨fun hcounts => ?counted, fun herror => State.tdoneRecord_of_not_counts herror⟩⟩
    case exhausted =>
      have hissue := State.rollIssue_of_drawn hrolls (State.rollDraw_of_over hwaitingShape hover) (by rw [hform])
      rw [hissue]
      exact State.registers_rollAnswered _ f _ hgd hpd hlt
    case draw =>
      have hdraw : (s.rollWaiting c gd pd).rollDraw f l = (some (BitVec.ofNat 32 i), (s.rollWaiting c gd pd).rollGive f l i true) := by
        refine State.rollDraw_of_draw hwaitingShape hover ?_ hmode ?_ hi ?_ ?_ <;> rw [hform] <;> assumption
      have hissue := State.rollIssue_of_drawn hrolls hdraw (by rw [State.form_rollGive, hform]; rfl)
      dsimp only
      rw [hissue]
      refine ⟨State.registers_rollAnswered _ f _ hgd hpd hlt, ?_, ?_⟩ <;> rw [State.form_rollAnswered, State.form_rollGive, hform]
      · exact mapGet_mapSet_same _ _ _ _
      · exact testBit_putBit_true _ _
    case deal =>
      intro hover hroom hmode hlane m i hi hfresh
      have hindex : (s.rollWaiting c gd pd).dealIndex f l = i := by rw [State.dealIndex, hform]; rfl
      have hdraw : (s.rollWaiting c gd pd).rollDraw f l =
          (some (BitVec.ofNat 32 (i + s.rollFlags f l i)), ((s.rollWaiting c gd pd).countDraw f l).rollGive f l i true) := by
        rw [← hindex] at hi hfresh ⊢
        exact State.rollDraw_of_deal hwaitingShape hover (by rw [hform]; exact hroom) hmode hlane hi (by rw [hform]; exact hfresh)
      have hcount : ((s.rollWaiting c gd pd).countDraw f l).form f =
          { x with draws := mapSet (fun _ => 0) x.draws l (m + 1), rolls := [⟨c, gd, pd⟩] } := by
        rw [State.countDraw, State.form_setForm_same, hform]
      have hissue := State.rollIssue_of_drawn hrolls hdraw (by rw [State.form_rollGive, hcount]; rfl)
      dsimp only
      rw [hissue]
      refine ⟨State.registers_rollAnswered _ f _ hgd hpd hlt, ?_, ?_⟩ <;> rw [State.form_rollAnswered, State.form_rollGive, hcount]
      · exact mapGet_mapSet_same _ x.draws l (m + 1)
      · exact mapGet_mapSet_same _ x.held l (held ++ [i])
    case counted =>
      have hmarked (t : State) (hforms : t.forms = (s.tileDone c i).forms) (hdone : t.rcDone f = (s.tileDone c i).rcDone f) :
          Nat.testBit (t.form f).complete i = true ∧ mapGet (fun _ => []) (t.form f).held l = held.erase i ∧ t.rcDone f = (s.rcDone f + 1) % 8192 := by
        have hsame : t.form f = (s.tileDone c i).form f := by rw [State.form, hforms, State.form]
        rw [hsame, hdone, State.form_tileDone]
        exact ⟨testBit_putBit_true _ _, mapGet_mapSet_same _ _ _ _, State.rcDone_tileDone s c i⟩
      rcases State.tdoneRecord_of_counts hrolls hcounts with hrecord | hrecord <;> rw [hrecord]
      · exact hmarked _ rfl rfl
      · exact hmarked _ (State.forms_bandDone _ _) (State.rcDone_bandDone _ _)

end Sys2Proof.Machine
end

section
/-! PROOFS. The commands on models and on the homework of a model (R238, R239, R317, R318, R432). -/
namespace Sys2Proof.Machine
open Claim

/-! ### Handles (log 67) -/

/-- Fewer handles than words leave one of as many successive words and one more free. -/
theorem exists_handle_not_mem (base : Nat) {hs : List Nat} (hlen : hs.length < 2 ^ 32) :
    ∃ n ∈ (List.range (hs.length + 1)).map (fun i => (base + i) % 2 ^ 32), n ∉ hs := by
  by_contra hall
  push Not at hall
  have hnodup : ((List.range (hs.length + 1)).map (fun i => (base + i) % 2 ^ 32)).Nodup := by
    refine List.Nodup.map_on (fun i hi j hj hij => ?_) List.nodup_range
    rw [List.mem_range] at hi hj
    omega
  have hle := (List.subperm_of_subset hnodup hall).length_le
  rw [List.length_map, List.length_range] at hle
  omega

/-- A fresh handle is no model's. -/
theorem State.freshHandle_ne {s : State} (hlen : s.models.length < 2 ^ 32) : ∀ m ∈ s.models, m.handle ≠ s.freshHandle.1 := by
  obtain ⟨n, hmem, hfree⟩ := exists_handle_not_mem (Config.freeWord s.freeCtr).toNat (hs := s.models.map Model.handle) (by simpa using hlen)
  rw [List.length_map] at hmem
  have hfound : (((List.range (s.models.length + 1)).map (fun i => ((Config.freeWord s.freeCtr).toNat + i) % 2 ^ 32)).find?
      (fun n => !s.models.any (fun m => decide (m.handle = n)))).isSome = true := by
    refine List.find?_isSome.2 ⟨n, hmem, ?_⟩
    simpa using hfree
  obtain ⟨k, hk⟩ := Option.isSome_iff_exists.1 hfound
  have hhandle : s.freshHandle.1 = k := congrArg (fun o => o.getD (Config.freeWord s.freeCtr).toNat) hk
  have hfresh := List.find?_some hk
  rw [hhandle]
  simpa using hfresh

/-! ### Buffers in Library banks (R390) -/

section
variable {s : State} {h : Fin 8} {src : Option (Fin 16384)} {tag : Fin 65536} {ws : List Word} {d : DeanCmd}

/-- The place of a buffer whose address has bit 63 set. -/
theorem State.bufPlace_of_lib {a lo : Nat} (ha : a = lo + 2 ^ 63) (hlo : lo < 2 ^ 27) (src : Option Nat) : s.bufPlace src a = .lib lo := by
  have hbit : a / 2 ^ 63 = 1 := by omega
  have hlow : a % 2 ^ 27 = lo := by omega
  exact (if_pos hbit).trans (congrArg BufPlace.lib hlow)

/-- A buffer in banks of its House without stored errors. -/
theorem State.bufState_of_lib {h a n : Nat} (hok : s.banksOk h a n = true) (hecc : s.ecc = []) (o : Nat) (block : Bool) :
    s.bufState h (.lib a) n o block = .good := by
  simp [State.bufState, hok, State.firstBad_of_clean hecc]

/-- A command goes on with the bytes of such a buffer. -/
theorem State.withBytes_of_lib {h a lo n o : Nat} {block : Bool} (f : State → List Byte → Answer) (hhouse : d.house.val = h) (ha : a = lo + 2 ^ 63)
    (hlo : lo < 2 ^ 27) (hok : s.banksOk h lo n = true) (hecc : s.ecc = []) : s.withBytes d a n o block f = f s (s.load .lib lo n) := by
  simp only [State.withBytes, State.bufPlace_of_lib ha hlo, hhouse, State.bufState_of_lib hok hecc, State.libCorrected_of_clean hecc, State.bufRead]

/-- A buffer address in the Library is well formed. -/
theorem addrTests_pass_lib {i lo : Nat} (haddr : d.addr i = lo + 2 ^ 63) (hlo : lo < 2 ^ 27) (haligned : lo % 64 = 0)
    (hword : d.w (i + 1) = 0x80000000) : ∀ t ∈ addrTests d i, t.bad = false := by
  have hrest : (lo + 2 ^ 63) % 64 = 0 ∧ (lo + 2 ^ 63) % 2 ^ 48 / 2 ^ 27 = 0 := by omega
  have hreserved : (0x80000000 : Word).toNat &&& 0x7FFF0000 = 0 := by decide
  simp only [addrTests, fieldTest, reservedTest, List.forall_mem_cons, haddr, hword, hrest, hreserved]
  simp

/-- An address whose upper word is 0x80000000. -/
theorem libAddr_eq {lo hi : Word} (hhi : hi = 0x80000000) : lo.toNat + 2 ^ 32 * hi.toNat = lo.toNat + 2 ^ 63 := by
  subst hhi
  rfl

/-! ### MODEL_LOAD and MODEL_UNLOAD -/

/-- MODEL_LOAD of a package in host memory. -/
theorem exec_modelLoad_of_takes {lo hi n : Word} {a : Nat} {b : List Byte} {pk : Config.Package} (ht : Takes s h none)
    (ha : a = lo.toNat + 2 ^ 32 * hi.toNat) (hb : b = s.hostRead h a n.toNat) (hpk : pk = Config.package (payloadOf b))
    (haligned : lo.toNat % 64 = 0) (hhigh : hi.toNat < 2 ^ 16) (hsize : 256 ≤ n.toNat) (hpages : s.hostRanges h [(a, n.toNat)] = .ok) :
    exec (.modelLoad (cmd h none tag [lo, hi, n])) s = .next (s.answered h none tag 0x08
      (checked (firstErr [s.signCheck h 2 b, s.packageCheck h pk])
        (.ok (s.modelSet h (num b 5 1) (num b 8 4) pk).1 (s.modelSet h (num b 5 1) (num b 8 4) pk).2))) := by
  have haddr : (cmd h none tag [lo, hi, n]).addr 2 = a := ha.symm
  refine (exec_dean_of_takes ht rfl (.inl rfl) ?tests).trans (congrArg (fun x => Host.Outcome.next (s.answered h none tag 0x08 x)) ?answer)
  case tests =>
    refine List.forall_mem_append.2 ⟨List.forall_mem_append.2 ⟨unusedTests_pass h none tag ⟨Nat.and_zero _, Nat.and_zero _, Nat.and_zero _, trivial⟩,
      addrTests_pass ?_ hhigh⟩, List.forall_mem_singleton.2 (decide_eq_false (Nat.not_lt.2 hsize))⟩
    rw [haddr]
    omega
  case answer =>
    have hlow : a < 2 ^ 48 := by omega
    have hsrc : (cmd h none tag [lo, hi, n]).from_ = none := rfl
    have hhouse : (cmd h none tag [lo, hi, n]).house.val = h.val := rfl
    have hcount : ((cmd h none tag [lo, hi, n]).w 4).toNat = n.toNat := rfl
    rw [State.withBuf, haddr, hcount, State.withBytes_of_host _ hsrc hhouse hlow hpages, ← hb, hpk]
    rfl

/-- MODEL_UNLOAD. -/
theorem exec_modelUnload_of_takes (ht : Takes s h src) (n : Word) :
    exec (.modelUnload (cmd h src tag [n])) s = .next (s.answered h src tag 0x09
      (checked (firstErr [s.modelCheck h n.toNat 2, wordErr (s.modelActive n.toNat) 2 6]) (.ok [] (s.modelDrop n.toNat)))) := by
  refine (exec_dean_of_takes ht rfl (.inl rfl) ?tests).trans ?answer
  case tests => exact unusedTests_pass h src tag ⟨Nat.and_zero _, trivial⟩
  case answer => rfl

/-- The check of a model that a House names: the model is its own. -/
theorem State.modelCheck_of_found {k i : Nat} {m : Model} (hfound : s.models.find? (fun x => decide (x.handle = k)) = some m) :
    s.modelCheck h k i = wordErr (decide (m.house ≠ h.val)) i 3 := by
  simp only [State.modelCheck, hfound]

/-! ### ADAPT_POLICY and HW_STATUS -/

/-- ADAPT_POLICY of a block in a Library bank that names a model with homework. -/
theorem exec_adaptPolicy_of_takes {lo hi : Word} {p : List Byte} {m : Model} (ht : Takes s h src) (hp : p = s.load .lib lo.toNat 64)
    (hhi : hi = 0x80000000) (hlo : lo.toNat < 2 ^ 27) (haligned : lo.toNat % 64 = 0) (hok : s.banksOk h lo.toNat 64 = true) (hecc : s.ecc = [])
    (hfound : s.models.find? (fun x => decide (x.handle = num p 0 4)) = some m) :
    exec (.adaptPolicy (cmd h src tag [lo, hi])) s = .next (s.answered h src tag 0x18
      (checked (firstErr [pickErr true (policyTests p), blockErr (decide (m.house ≠ h.val)) 0 6, blockErr m.hw.isNone 0 2,
        blockErr (s.policyRing h p) 52 2]) (.ok [] (s.setHw (num p 0 4) ((s.hwOf (num p 0 4)).setPolicy p))))) := by
  have haddr : (cmd h src tag [lo, hi]).addr 2 = lo.toNat + 2 ^ 63 := libAddr_eq hhi
  have hword : (cmd h src tag [lo, hi]).w 3 = 0x80000000 := hhi
  refine (exec_dean_of_takes ht rfl (.inl rfl) ?tests).trans (congrArg (fun x => Host.Outcome.next (s.answered h src tag 0x18 x)) ?answer)
  case tests =>
    refine List.forall_mem_append.2 ⟨List.forall_mem_append.2 ⟨unusedTests_pass h src tag ⟨Nat.and_zero _, Nat.and_zero _, trivial⟩,
      addrTests_pass_lib haddr hlo haligned hword⟩, List.forall_mem_singleton.2 ?_⟩
    rw [hword]
    decide
  case answer =>
    rw [State.withBuf, haddr, State.withBytes_of_lib _ rfl rfl hlo hok hecc, ← hp]
    simp only [hfound]
    rfl

theorem Hw.length_record (x : Hw) : x.record.length = 64 := by simp [Hw.record]

/-- HW_STATUS to a buffer in an idle bank of the House. -/
theorem exec_hwStatus_of_takes {lo hi : Word} (n : Word) (ht : Takes s h src) (hhi : hi = 0x80000000) (hlo : lo.toNat < 2 ^ 27)
    (haligned : lo.toNat % 64 = 0) (hok : s.banksOk h lo.toNat 64 = true) (hecc : s.ecc = []) (hidle : s.bankBusy (bankOf lo.toNat) = false) :
    exec (.hwStatus (cmd h src tag [n, lo, hi])) s = .next (s.answered h src tag 0x1B
      (checked (s.modelCheck h n.toNat 2) (.ok [] (s.store .lib lo.toNat (s.hwOf n.toNat).record)))) := by
  have haddr : (cmd h src tag [n, lo, hi]).addr 3 = lo.toNat + 2 ^ 63 := libAddr_eq hhi
  have hword : (cmd h src tag [n, lo, hi]).w 4 = 0x80000000 := hhi
  have hmodel : ((cmd h src tag [n, lo, hi]).w 2).toNat = n.toNat := rfl
  have hwrite : s.bufWrite h (.lib lo.toNat) (s.hwOf n.toNat).record = s.store .lib lo.toNat (s.hwOf n.toNat).record := by
    simp only [State.bufWrite, State.bankWriteFor, State.bankWrite, Hw.length_record, hok, hidle, if_true, Bool.false_eq_true, if_false]
  refine (exec_dean_of_takes ht rfl (.inl rfl) ?tests).trans (congrArg (fun x => Host.Outcome.next (s.answered h src tag 0x1B x)) ?answer)
  case tests =>
    exact List.forall_mem_append.2 ⟨unusedTests_pass h src tag ⟨Nat.and_zero _, Nat.and_zero _, Nat.and_zero _, trivial⟩,
      addrTests_pass_lib haddr hlo haligned hword⟩
  case answer =>
    have hgood : s.bufState (cmd h src tag [n, lo, hi]).house (.lib lo.toNat) 64 12 false = .good := State.bufState_of_lib hok hecc 12 false
    simp only [haddr, hmodel, State.bufPlace_of_lib rfl hlo, hgood]
    exact congrArg (fun t => checked (s.modelCheck h n.toNat 2) (.ok [] t)) hwrite

end

/-- Settles O29: each command by what it answers, once its record is in order; a fresh handle by counting the words that follow the free one. -/
theorem modelAndHomeworkCommands : Obligations.ModelAndHomeworkCommands := by
  intro s h tag lo hi n ht a b pk r
  refine ⟨fun haligned hhigh hsize hpages => ⟨?load, State.freshHandle_ne⟩, fun m hfound hhouse hidle => ⟨s.modelDrop n.toNat, ?unload, rfl, rfl⟩,
    fun m hfound hhouse => ?notOwn, ?policy, fun hbank hlo haligned hok hecc hmodel hidle => ⟨?status, Hw.length_record _⟩⟩
  case load =>
    rw [exec_modelLoad_of_takes ht rfl rfl rfl haligned hhigh hsize hpages]
    cases firstErr [s.signCheck h 2 b, s.packageCheck h pk] <;> rfl
  case unload =>
    rw [exec_modelUnload_of_takes ht, State.modelCheck_of_found hfound, hhouse, hidle, decide_eq_false (not_not_intro rfl)]
    rfl
  case notOwn =>
    rw [exec_modelUnload_of_takes ht, State.modelCheck_of_found hfound, decide_eq_true hhouse]
    rfl
  case policy =>
    intro p k hbank hlo haligned hok hecc htests hmodel hring
    obtain ⟨m, hfound, hhouse, hhomework⟩ := hmodel
    have hp : p = s.load .lib lo.toNat 64 := congrArg (fun x => s.load .lib x 64) (Nat.mod_eq_of_lt hlo)
    have hplan : m.hw.isNone = false := by rw [← Option.not_isSome, hhomework, Bool.not_true]
    rw [exec_adaptPolicy_of_takes ht hp hbank hlo haligned hok hecc hfound, htests, hhouse, hplan, hring, decide_eq_false (not_not_intro rfl)]
    rfl
  case status =>
    rw [exec_hwStatus_of_takes n ht hbank hlo haligned hok hecc hidle, hmodel]
    rfl

end Sys2Proof.Machine
end

section
/-! PROOFS. The fixed-function jobs (R251 to R255, R258), the address generator (R249, R250) and the Substitute's preparation jobs (R269 to R271). -/
namespace Sys2Proof.Machine
open Claim

/-! ### Job lists and BADJOB (R252, R253) -/

/-- A field that has counted is not 0. -/
theorem fld_bumpFld_ne_zero (w : Word) {hi lo : Nat} (hlo : lo ≤ hi) (hhi : hi < 32) : fld (bumpFld w hi lo) hi lo ≠ 0 := by
  have htwo : 2 ≤ 2 ^ (hi + 1 - lo) := Nat.le_self_pow (by omega) 2
  have hlt := fld_lt w hi lo
  unfold bumpFld
  split
  next hmax => omega
  next hroom =>
    rw [fld_setFld_same _ _ hhi, Nat.mod_eq_of_lt (by omega)]
    exact Nat.succ_ne_zero _

theorem State.rdF_badJob_ne_zero (s : State) (p : Nat) : (s.badJob p).rdF (Reg.FFJ_Pp_ERR p) 23 16 ≠ 0 := by
  rw [State.badJob, State.countFld, State.rdF, State.rd_wr_same]
  exact fld_bumpFld_ne_zero _ (by decide) (by decide)

@[simp] theorem State.walk_setWalk_same (s : State) (p : Nat) (w : Walk) : (s.setWalk p w).walk p = w :=
  mapGet_mapSet_same _ s.walks p w

@[simp] theorem State.walk_takeJob_same (s : State) (p i : Nat) :
    (s.takeJob p i).walk p = { s.walk p with taken := (s.walk p).taken ||| 2 ^ i } :=
  s.walk_setWalk_same p _

@[simp] theorem State.walk_badJob (s : State) (p q : Nat) : (s.badJob p).walk q = s.walk q := rfl

theorem State.rdF_takeJob (s : State) (p i key hi lo : Nat) : (s.takeJob p i).rdF key hi lo = s.rdF key hi lo := rfl

theorem State.has_takeJob_same (s : State) (p i : Nat) : ((s.takeJob p i).walk p).has i = true := by
  simp [Walk.has, Nat.testBit_or, Nat.testBit_two_pow_self]

theorem State.has_takeJob_of_has {s : State} {p k : Nat} (h : (s.walk p).has k = true) (i : Nat) : ((s.takeJob p i).walk p).has k = true := by
  rw [Walk.has] at h
  simp [Walk.has, Nat.testBit_or, h]

/-- What the failing of one job of a reserved kind keeps, the settling of a walk keeps. -/
theorem State.settleWalk_holds {P : State → Prop} {p : Nat} (hkeep : ∀ t i, P t → P ((t.badJob p).takeJob p i)) {s : State} (hs : P s) :
    P (s.settleWalk p) := by
  refine foldl_holds (fun t i ht => ?_) _ hs
  dsimp only
  split
  · exact hkeep t i ht
  · exact ht

/-- Of its walk, settling changes TAKEN alone. -/
theorem State.walk_settleWalk (s : State) (p : Nat) : ∃ n, (s.settleWalk p).walk p = { s.walk p with taken := n } := by
  refine State.settleWalk_holds (P := fun t => ∃ n, t.walk p = { s.walk p with taken := n }) (fun t i ht => ?_) ⟨_, rfl⟩
  obtain ⟨n, hn⟩ := ht
  refine ⟨n ||| 2 ^ i, ?_⟩
  rw [State.walk_takeJob_same, State.walk_badJob, hn]

theorem State.has_settleWalk_of_has {s : State} {p i : Nat} (h : (s.walk p).has i = true) : ((s.settleWalk p).walk p).has i = true :=
  State.settleWalk_holds (P := fun t => (t.walk p).has i = true) (fun t k ht => State.has_takeJob_of_has (s := t.badJob p) ht k) h

theorem State.rd_settleWalk_ne (s : State) {p q : Nat} (hq : q ≠ Reg.FFJ_Pp_ERR p) : (s.settleWalk p).rd q = s.rd q :=
  State.settleWalk_holds (P := fun t => t.rd q = s.rd q) (fun t _ ht => (t.rd_wr_ne _ hq).trans ht) rfl

theorem State.rdF_settleWalk_ne_zero {s : State} {p : Nat} (h : s.rdF (Reg.FFJ_Pp_ERR p) 23 16 ≠ 0) :
    (s.settleWalk p).rdF (Reg.FFJ_Pp_ERR p) 23 16 ≠ 0 := by
  refine State.settleWalk_holds (P := fun t => t.rdF (Reg.FFJ_Pp_ERR p) 23 16 ≠ 0) (fun t i _ => ?_) h
  rw [State.rdF_takeJob]
  exact t.rdF_badJob_ne_zero p

/-! ### FF_SLOT_START (R251) -/

/-- The state with the next slot of the round begun. -/
def State.nextSlot (s : State) : State := { s with service := { s.service with ffSlot := (s.service.ffSlot + 1) % 16 } }

/-- Within a round, and at its start while nothing is due, only the slot moves on. -/
theorem State.slotStart_of_plain {s : State} (h : (s.service.ffSlot + 1) % 16 ≠ 0 ∨ s.service.slotDue = none) : s.slotStart = s.nextSlot := by
  by_cases hslot : (s.service.ffSlot + 1) % 16 = 0
  · refine (if_pos hslot).trans ?_
    split
    next hdue => exact absurd hdue (by simp [h.resolve_left (not_not_intro hslot)])
    next => rfl
  · exact if_neg hslot

/-- At the start of a round the slots that are due take effect. -/
theorem State.slotStart_of_due {s : State} {b c : Word} (hslot : (s.service.ffSlot + 1) % 16 = 0) (hdue : s.service.slotDue = some (b, c)) :
    s.slotStart = { (s.nextSlot.wr Reg.FFJ_SLOTS b).wr Reg.FFJ_SLOTEN c with service := { s.nextSlot.service with slotDue := none } } := by
  refine (if_pos hslot).trans ?_
  split
  next hsome =>
    cases hdue.symm.trans hsome
    rfl
  next hnone => exact absurd (hdue.symm.trans hnone) (Option.some_ne_none _)

theorem State.ffSlot_slotStart (s : State) : s.slotStart.service.ffSlot = (s.service.ffSlot + 1) % 16 := by
  by_cases hplain : (s.service.ffSlot + 1) % 16 ≠ 0 ∨ s.service.slotDue = none
  · rw [State.slotStart_of_plain hplain]
    rfl
  · push Not at hplain
    obtain ⟨⟨b, c⟩, hdue⟩ := Option.ne_none_iff_exists'.1 hplain.2
    rw [State.slotStart_of_due hplain.1 hdue]
    rfl

/-! ### JOB_WALK_START (R252) -/

section
variable {s : State} {p : Nat}

/-- Without a pipeline, without a list, or on another line no walk begins. -/
theorem State.walkStart_of_idle (h : (s.pipe p).valid = false ∨ (s.rd (Reg.FFJ_Pp_LIST p)).toNat = 0 ∨
    (s.raster (s.pipe p).raster).line ≠ memLe s.lib ((s.rd (Reg.FFJ_Pp_LIST p)).toNat + 4) 4 % 65536) : s.walkStart p = s := by
  refine if_pos ?_
  rcases h with h | h | h <;> simp [h]

section
variable {a line n : Nat} (ha : (s.rd (Reg.FFJ_Pp_LIST p)).toNat = a) (hline : memLe s.lib (a + 4) 4 = line)
  (hn : (s.raster (s.pipe p).raster).frame.toNat + line / 65536 % 4 = n) (hvalid : (s.pipe p).valid = true) (hlist : a ≠ 0)
  (hon : s.rasterOn (s.pipe p).raster = true) (hbanks : s.banksOk (s.pipe p).house a 16 = true) (hclean : s.firstBad .lib a 16 = none)
  (hbegin : (s.raster (s.pipe p).raster).line = line % 65536)
include ha hline hn hvalid hlist hon hbanks hclean hbegin

/-- On START_LINE a walk begins, from a header in banks of the House. -/
theorem State.walkStart_of_begins : ∃ u : State, u.walk p = { target := n, base := a, njobs := memLe s.lib a 4 % 256 } ∧
    s.walkStart p = (u.wr (Reg.FFJ_Pp_WALK p) (BitVec.ofNat 32 (n % 65536 * 65536))).settleWalk p := by
  have hlib : (s.libCorrected a 16).lib = s.lib := (congrArg State.lib (s.libCorrected_rest a 16) :)
  have hguard : (!(s.pipe p).valid || decide (a = 0) || !s.rasterOn (s.pipe p).raster || !s.banksOk (s.pipe p).house a 16 ||
      decide ((s.raster (s.pipe p).raster).line ≠ line % 65536)) = false := by
    simp [hvalid, hlist, hon, hbanks, hbegin]
  simp only [State.walkStart, ha, hline, hn, hguard, hclean, Bool.false_eq_true, if_false]
  refine ⟨_, ?_, rfl⟩
  rw [State.walk_setWalk_same]
  simp only [List.foldl_cons, List.foldl_nil, State.unwait, State.wrF_frame, hlib]

/-- The walk that begins, but for jobs of reserved kinds that it takes at once, and what FFJ_Pp_WALK shows of it. -/
theorem State.walk_walkStart_of_begins : (∃ m, (s.walkStart p).walk p = { target := n, base := a, njobs := memLe s.lib a 4 % 256, taken := m }) ∧
    (s.walkStart p).rd (Reg.FFJ_Pp_WALK p) = BitVec.ofNat 32 (n % 65536 * 65536) := by
  obtain ⟨u, hu, hstart⟩ := State.walkStart_of_begins ha hline hn hvalid hlist hon hbanks hclean hbegin
  have hreg : Reg.FFJ_Pp_WALK p ≠ Reg.FFJ_Pp_ERR p := by simp [Reg.FFJ_Pp_WALK, Reg.FFJ_Pp_ERR]
  have hwalk (v : Word) : (u.wr (Reg.FFJ_Pp_WALK p) v).walk p = u.walk p := rfl
  rw [hstart, State.rd_settleWalk_ne _ hreg, State.rd_wr_same]
  obtain ⟨m, hm⟩ := (u.wr (Reg.FFJ_Pp_WALK p) (BitVec.ofNat 32 (n % 65536 * 65536))).walk_settleWalk p
  rw [hm, hwalk, hu]
  exact ⟨⟨m, rfl⟩, rfl⟩

end

end

/-! ### Jobs (R253, R254) -/

section
variable {s : State} {p kind i : Nat}

/-- With no job next on its unit, or outside the slots of its pipeline, none starts. -/
theorem State.startFf_of_none (h : s.nextJob p (ffUnit kind) = none ∨ s.inSlot p = false) : s.startFf p kind = s := by
  rcases h with h | h
  · simp only [State.startFf, h]
  · cases hnext : s.nextJob p (ffUnit kind) <;> simp [State.startFf, hnext, h]

section
variable (hnext : s.nextJob p (ffUnit kind) = some i)
include hnext

/-- A job of another kind is left for its own row. -/
theorem State.startFf_of_other (hkind : (s.ffJob p i).kind ≠ kind) : s.startFf p kind = s := by
  simp [State.startFf, hnext, hkind]

variable (hslot : s.inSlot p = true) (hkind : (s.ffJob p i).kind = kind)
include hslot hkind

/-- A job whose descriptor breaks Table 9.4 is taken and counts in BADJOB. -/
theorem State.startFf_of_bad (hok : (s.ffJob p i).ok = false) : s.startFf p kind = ((s.takeJob p i).badJob p).settleWalk p := by
  simp [State.startFf, hnext, hslot, hkind, hok]

variable (hgood : (s.ffJob p i).ok = true ∧ s.banksOk (s.pipe p).house (s.ffJobAt p i) 64 = true ∧ s.firstBad .lib (s.ffJobAt p i) 64 = none)
include hgood

/-- A job without a gate starts. -/
theorem State.startFf_of_open (hgate : (s.ffJob p i).gate = 0) : s.startFf p kind = s.runJob p (ffUnit kind) i (s.ffJob p i) := by
  obtain ⟨hok, hbanks, hclean⟩ := hgood
  simp [State.startFf, hnext, hslot, hkind, hok, hbanks, hclean, hgate]

/-- A job with a raster gate starts once its line of the input frame has been captured. -/
theorem State.startFf_of_raster_gate (hgate : (s.ffJob p i).gate = 2) :
    s.startFf p kind = if s.gateOpen ((s.ffJob p i).f 11 1 0) (s.retimeRec p (s.walk p).target).2.1 ((s.ffJob p i).f 11 31 16)
      then s.runJob p (ffUnit kind) i (s.ffJob p i) else s := by
  obtain ⟨hok, hbanks, hclean⟩ := hgood
  simp [State.startFf, hnext, hslot, hkind, hok, hbanks, hclean, hgate]

/-- A job that has joined the waiters of its hall pass starts once it has been released. -/
theorem State.startFf_of_joined (hgate : (s.ffJob p i).gate = 1) (hjoined : mapGet (fun _ => none) (s.walk p).joined (ffUnit kind) = some i) :
    s.startFf p kind = if s.waits (.gate (4 * p + ffUnit kind)) then s else s.runJob p (ffUnit kind) i (s.ffJob p i) := by
  obtain ⟨hok, hbanks, hclean⟩ := hgood
  simp [State.startFf, hnext, hslot, hkind, hok, hbanks, hclean, hgate, hjoined]

end

/-- A job without DONE_EN signals nothing. -/
theorem State.jobSignal_of_not_done {j : FfJob} (hdone : j.done = false) (unit : Nat) : s.jobSignal p unit j = s := by
  simp [State.jobSignal, hdone]

/-- The state in which a job's data is moved: the job is taken, and shown in FFJ_Pp_WALK. -/
def State.jobTaken (s : State) (p i : Nat) : State := (s.takeJob p i).wrF (Reg.FFJ_Pp_WALK p) 7 0 i

theorem State.has_jobTaken (s : State) (p i : Nat) : ((s.jobTaken p i).walk p).has i = true := s.has_takeJob_same p i

theorem State.runJob_nop {j : FfJob} (hdone : j.done = false) : s.runJob p 2 i j = (s.jobTaken p i).settleWalk p := by
  simp only [State.runJob, if_true, State.jobSignal_of_not_done hdone]
  rfl

/-- A job of the edge-layer engine whose reads, weights and writes are in order moves its data and holds the engine. -/
theorem State.runJob_edge {j : FfJob} (hweights : (banksOf (j.w 10) j.weightBytes).all (s.jobTaken p i).edgeBank = true)
    (hreads : (s.jobTaken p i).ffReadable (s.pipe p).house j.edgeReads = (true, none))
    (hclean : (s.jobTaken p i).firstBad .lib (j.w 10) j.weightBytes = none) (hwrites : (s.jobTaken p i).edgeWritable p j = true) :
    let v := (s.jobTaken p i).ffCorrected (some ((s.jobTaken p i).ffJobAt p i, 64) :: some (j.w 10, j.weightBytes) :: j.edgeReads)
    s.runJob p 0 i j = ((v.setWalk p { v.walk p with edge := some i }).edgeRun p j).settleWalk p := by
  have hown : ((s.jobTaken p i).ffReadable (s.pipe p).house [some (j.w 10, j.weightBytes)]).2 = none := by simp [State.ffReadable, hclean]
  unfold State.jobTaken at *
  simp [State.runJob, hweights, hreads, hown, hwrites]

/-- A job that completes without a signal frees its unit. -/
theorem State.jobComplete_of_running {unit : Nat} (hrun : (if unit = 0 then (s.walk p).edge else (s.walk p).crop) = some i)
    (hslot : s.inSlot p = true) (hdone : (s.ffJob p i).done = false) :
    s.jobComplete p unit =
      (s.setWalk p (if unit = 0 then { s.walk p with edge := none } else { s.walk p with crop := none })).settleWalk p := by
  simp only [State.jobComplete, hrun, hslot, State.jobSignal_of_not_done hdone]
  rfl

theorem State.jobComplete_of_idle {unit : Nat} (h : (if unit = 0 then (s.walk p).edge else (s.walk p).crop) = none ∨ s.inSlot p = false) :
    s.jobComplete p unit = s := by
  rcases h with h | h
  · simp only [State.jobComplete, h]
  · cases hrun : (if unit = 0 then (s.walk p).edge else (s.walk p).crop) <;> simp [State.jobComplete, hrun, h]

end

/-! ### ADDRESS_GENERATOR_RUN (R249, R250) -/

section
variable {s : State} {f : Nat} {a : AgRun}

theorem State.agRun_of_outside (hok : agOk a = false) : s.agRun f a = s := by
  simp [State.agRun, hok]

/-- A run without a hall pass lays its rows into the input Desk. -/
theorem State.agRun_of_quiet (hok : agOk a = true) (hpass : a.pass = none) :
    s.agRun f a = s.intoDesk (32 * f + a.lane) a.array 0 true a.irow ((List.range a.kh).flatMap (fun ky => (List.range a.kw).flatMap (fun kx =>
      (List.range a.count).map (fun i => some (s.agRow f a ky kx (a.first + i)))))) := by
  simp [State.agRun, hok, hpass]

/-- A run with a hall pass does as one without, and signals the pass. -/
theorem State.agRun_of_pass {hp n : Nat} (hok : agOk a = true) (hpass : a.pass = some (hp, n)) :
    s.agRun f a = ((s.agRun f { a with pass := none }).signal hp n 1092).1 := by
  rw [State.agRun_of_quiet (a := { a with pass := none }) hok rfl]
  simp only [State.agRun, hok, hpass]
  rfl

end

/-! ### Preparation jobs (R269 to R271) -/

section
variable {s : State} {p b : Nat}

@[simp] theorem State.setSState_frame (s : State) (p b : Nat) (t : Word) (st : SState) :
    (s.setSState p b t st).subJobs = s.subJobs ∧ (s.setSState p b t st).prepared = s.prepared := by
  simp only [State.setSState]
  split <;> exact ⟨rfl, rfl⟩

/-- The record of the target frame shows the state of its job. -/
theorem State.sstate_setSState {t : Word} {st : SState} (h : (s.bandRec p b).tframe = t) : ((s.setSState p b t st).bandRec p b).sstate = st := by
  simp only [State.setSState, h, if_true]
  exact congrArg BandRec.sstate (mapGet_mapSet_same _ s.bandRecs _ _)

/-- The first job of a band in a phase. -/
def State.bandJob (s : State) (p b n : Nat) : Option SubJob :=
  s.subJobs.find? (fun j => decide (j.pipe = p) && decide (j.band = b) && decide (j.phase = n))

/-- The jobs with one of them in a phase. -/
def inPhase (js : List SubJob) (j : SubJob) (n : Nat) : List SubJob := js.map (fun k => if k = j then { k with phase := n } else k)

theorem cut_of_mem_inPhase {js : List SubJob} (h : ∀ k ∈ js, k.cut = false) (j : SubJob) (n : Nat) : ∀ k ∈ inPhase js j n, k.cut = false := by
  intro k hk
  obtain ⟨i, hi, rfl⟩ := List.mem_map.1 hk
  split <;> exact h i hi

/-- Without a job of a cut no frame is taken. -/
theorem State.takeCutFrame_of_no_cut (h : ∀ j ∈ s.subJobs, j.cut = false) : s.takeCutFrame p b = s := by
  have hnone : s.subJobs.find? (fun j => decide (j.pipe = p) && decide (j.band = b) && decide (j.phase = 1) && j.cut && j.frame.isNone) = none :=
    List.find?_eq_none.2 fun j hj => by simp [h j hj]
  simp only [State.takeCutFrame, hnone]

/-- A job is the first that waits in its pool, and the pool has a unit and store for it (R271). -/
def State.jobFits (s : State) (j : SubJob) : Prop :=
  let mates := s.subJobs.filter (fun k => decide (k.pool = j.pool))
  (∀ k ∈ mates, k.phase = 0 → k = j ∨ s.jobBefore j k = true) ∧
    (mates.filter (fun k => decide (k.phase = 1))).length < (s.poolSize j.pool).1 ∧
    ((mates.filter (fun k => decide (1 ≤ k.phase))).map (·.bytes)).sum + j.bytes ≤ (s.poolSize j.pool).2

theorem State.startJob_of_none (hfind : s.bandJob p b 0 = none) : s.startJob p b = s := by
  rw [State.bandJob] at hfind
  simp only [State.startJob, hfind]

/-- A waiting job starts if it fits, and waits on if not. -/
theorem State.startJob_of_fits {j : SubJob} (hfind : s.bandJob p b 0 = some j) (hfits : s.jobFits j) :
    s.startJob p b = (State.subStat { s with subJobs := inPhase s.subJobs j 1 }).setSState p b j.target .preparing := by
  obtain ⟨hfirst, hunits, hstore⟩ := hfits
  rw [State.bandJob] at hfind
  simp only [State.startJob, hfind]
  refine if_pos ?_
  simp only [Bool.and_eq_true, decide_eq_true_eq, List.all_eq_true, Bool.or_eq_true]
  exact ⟨⟨fun k hk => hfirst k (List.mem_filter.1 hk).1 (of_decide_eq_true (List.mem_filter.1 hk).2), hunits⟩, hstore⟩

theorem State.startJob_of_not_fits {j : SubJob} (hfind : s.bandJob p b 0 = some j) (hfits : ¬ s.jobFits j) : s.startJob p b = s := by
  rw [State.bandJob] at hfind
  simp only [State.startJob, hfind]
  refine if_neg fun h => hfits ?_
  simp only [Bool.and_eq_true, decide_eq_true_eq, List.all_eq_true, Bool.or_eq_true] at h
  obtain ⟨⟨hfirst, hunits⟩, hstore⟩ := h
  exact ⟨fun k hk hphase => hfirst k (List.mem_filter.2 ⟨hk, decide_eq_true hphase⟩), hunits, hstore⟩

variable {j : SubJob} {e : BandEnt}

theorem State.subReady_of_waits (hfind : s.bandJob p b 1 = some j) (hent : s.anyEnt p b = some e) (hread : s.prepRead j e = none) :
    s.subReady p b = s := by
  rw [State.bandJob] at hfind
  simp only [State.subReady, hfind, hent, hread]

/-- A running job whose rows are there is READY with its words; where the copy that it reads was never written the free values move on (log 3). -/
theorem State.subReady_of_rows {r : PrepRead} (hfind : s.bandJob p b 1 = some j) (hent : s.anyEnt p b = some e) (hread : s.prepRead j e = some r) :
    ∃ n, s.subReady p b = (State.subStat { s with
      freeCtr := n
      prepared := mapSet (fun _ => {}) s.prepared ((p * 2048 + b) * 4 + j.target.toNat % 4) (s.prepWords j e r)
      subJobs := inPhase s.subJobs j 2 }).setSState p b j.target .ready := by
  rw [State.bandJob] at hfind
  simp only [State.subReady, hfind, hent, hread]
  split
  · exact ⟨_, rfl⟩
  · exact ⟨s.freeCtr, rfl⟩

end

/-- Settles O45: each row by the lemma of its case; what a start of a walk or of a job brings about, the settling of the walk keeps. -/
theorem fixedFunctionJobsAndRows : Obligations.FixedFunctionJobsAndRows := by
  refine ⟨fun s p hup => ?units, fun s hup => ⟨fun f a => ?generator, fun p b => ?preparation⟩⟩
  case units =>
    intro x w q a line n rows
    have hslotStart : exec .ffSlotStart s = .next s.slotStart := exec_of_up (f := State.slotStart) hup rfl
    have hwalkStart : exec (.jobWalkStart p) s = .next (s.walkStart p) := exec_of_up (f := fun s => s.walkStart p) hup rfl
    have hcomplete (unit : Fin 2) : exec (.jobComplete p unit) s = .next (s.jobComplete p unit) := exec_of_up (f := fun s => s.jobComplete p unit) hup rfl
    have hrows : ∀ r ∈ rows, exec r.2 s = .next (s.startFf p r.1) :=
      List.forall_mem_cons.2 ⟨exec_of_up (f := fun s => s.startFf p 0) hup rfl, List.forall_mem_cons.2 ⟨exec_of_up (f := fun s => s.startFf p 1) hup rfl,
        List.forall_mem_cons.2 ⟨exec_of_up (f := fun s => s.startFf p 2) hup rfl, List.forall_mem_singleton.2 (exec_of_up (f := fun s => s.startFf p 3) hup rfl)⟩⟩⟩
    refine ⟨⟨_, hslotStart, s.ffSlot_slotStart, ?plain, ?due⟩, ?begins, fun hidle => ?noWalk, fun r hr => ?row, fun i j => ?run, ?completes, ?idle⟩
    case plain =>
      rw [s.ffSlot_slotStart]
      exact State.slotStart_of_plain
    case due =>
      rw [s.ffSlot_slotStart]
      intro b c hslot hdue
      rw [State.slotStart_of_due hslot hdue]
      exact ⟨State.rd_wr_ne _ _ (by decide) |>.trans (State.rd_wr_same _ _ _), State.rd_wr_same _ _ _, rfl⟩
    case begins =>
      intro hvalid hlist hon hbanks hclean hbegin
      obtain ⟨⟨taken, hwalk⟩, hreg⟩ := State.walk_walkStart_of_begins rfl rfl rfl hvalid hlist hon hbanks hclean hbegin
      refine ⟨_, hwalkStart, ?_⟩
      rw [hwalk, hreg]
      exact ⟨rfl, rfl, rfl, rfl, rfl, rfl⟩
    case noWalk => exact hwalkStart.trans (congrArg _ (State.walkStart_of_idle hidle))
    case row =>
      intro unit
      rw [hrows r hr]
      refine ⟨fun h => congrArg _ (State.startFf_of_none h), fun i hnext hslot => ?_⟩
      refine ⟨fun hkind => congrArg _ (State.startFf_of_other hnext hkind), fun hkind hok => ⟨_, rfl, ?_⟩,
        fun hkind hgood hgate => congrArg _ (State.startFf_of_open hnext hslot hkind hgood hgate),
        fun hkind hgood hgate => congrArg _ (State.startFf_of_raster_gate hnext hslot hkind hgood hgate),
        fun hkind hgood hgate hjoined => congrArg _ (State.startFf_of_joined hnext hslot hkind hgood hgate hjoined)⟩
      rw [State.startFf_of_bad hnext hslot hkind hok]
      exact ⟨State.has_settleWalk_of_has (s.has_takeJob_same p i), State.rdF_settleWalk_ne_zero (State.rdF_badJob_ne_zero _ _)⟩
    case run =>
      exact ⟨State.runJob_nop, State.runJob_edge, s.has_jobTaken p i⟩
    case completes =>
      intro unit i hrun hslot hdone
      refine ⟨_, (hcomplete unit).trans (congrArg _ (State.jobComplete_of_running hrun hslot hdone)), ?_⟩
      obtain ⟨taken, hwalk⟩ := (s.setWalk p (if unit.val = 0 then { s.walk p with edge := none } else { s.walk p with crop := none })).walk_settleWalk p
      rw [hwalk, State.walk_setWalk_same]
      split <;> rfl
    case idle => exact fun unit h => (hcomplete unit).trans (congrArg _ (State.jobComplete_of_idle h))
  case generator =>
    have hexec (a : AgRun) : exec (.addressGeneratorRun f a) s = .next (s.agRun f a) := exec_of_up (f := fun s => s.agRun f a) hup rfl
    exact ⟨fun hok => (hexec a).trans (congrArg _ (State.agRun_of_outside hok)),
      fun hok hpass => (hexec a).trans (congrArg _ (State.agRun_of_quiet hok hpass)),
      fun hp n hok hpass => ⟨_, hexec _, (hexec a).trans (congrArg _ (State.agRun_of_pass hok hpass))⟩⟩
  case preparation =>
    have hstart : exec (.subJobStart p b) s = .next ((s.startJob p b).takeCutFrame p b) := exec_of_up (f := fun s => s.subStart p b) hup rfl
    have hready : exec (.subJobReady p b) s = .next (s.subReady p b) := exec_of_up (f := fun s => s.subReady p b) hup rfl
    refine ⟨fun hfind hcut => ?none, fun j hfind hcut => ⟨fun hfits => ?starts, fun hfits => ?waits⟩,
      fun j e hfind hent => ⟨fun hread => hready.trans (congrArg _ (State.subReady_of_waits hfind hent hread)), fun r hread => ?ready⟩⟩
    case none => rw [hstart, State.startJob_of_none hfind, State.takeCutFrame_of_no_cut hcut]
    case waits => rw [hstart, State.startJob_of_not_fits hfind hfits, State.takeCutFrame_of_no_cut hcut]
    case starts =>
      rw [hstart, State.startJob_of_fits hfind hfits, State.takeCutFrame_of_no_cut]
      · exact ⟨_, rfl, (State.setSState_frame _ _ _ _ _).1, fun h => State.sstate_setSState h⟩
      · rw [(State.setSState_frame _ _ _ _ _).1]
        exact cut_of_mem_inPhase hcut j 1
    case ready =>
      obtain ⟨n, hrows⟩ := State.subReady_of_rows hfind hent hread
      refine ⟨_, hready.trans (congrArg _ hrows), (State.setSState_frame _ _ _ _ _).1, ?_, fun h => State.sstate_setSState h⟩
      rw [(State.setSState_frame _ _ _ _ _).2]
      exact mapGet_mapSet_same _ s.prepared _ _

end Sys2Proof.Machine
end

section
/-! PROOFS. Heat, current and supply (R283, R446, R456, R457, R470, R471): what the chip's registers keep through an event, the parts of a form's tier after
a temperature, the stretch after a microsecond and the set point of VCORE. -/
namespace Sys2Proof.Machine
open Claim

/-! ### Registers above the event counters -/

section
variable (s : State)

/-- An event's queues have numbers below 49152: QUE_HRANGEh counts at most 2^15 - 1 of them from at most 2^14 - 1. -/
theorem State.lt_of_mem_eventQueues {h code q : Nat} (hq : q ∈ s.eventQueues h code) : q < 49152 := by
  obtain ⟨i, hi, rfl⟩ := List.mem_map.1 (List.mem_filter.1 hq).1
  have hcount : fld (s.rd (Reg.QUE_HRANGEh h)) 30 16 < 2 ^ 15 := fld_lt _ 30 16
  have hfirst : fld (s.rd (Reg.QUE_HRANGEh h)) 13 0 < 2 ^ 14 := fld_lt _ 13 0
  have hindex := List.mem_range.1 hi
  omega

/-- A record put in a queue writes TAIL alone of the registers. -/
theorem State.rd_queuePut_ne (h : Nat) {q key : Nat} (bs : List Byte) (hkey : key ≠ Reg.QUE_q_TAIL q) : (s.queuePut h q bs).rd key = s.rd key := by
  have hstore : (s.queueStore h q (s.queueTail q) bs).rd key = s.rd key := by
    unfold State.queueStore
    split <;> rfl
  have hmsg (t : State) : (t.queueMsg h q).rd key = t.rd key := by
    unfold State.queueMsg
    split <;> rfl
  unfold State.queuePut
  dsimp only
  split
  · rw [hmsg, State.rd_wrF_ne _ _ _ _ hkey, hstore]
  · rw [State.rd_wrF_ne _ _ _ _ hkey, hstore]

/-- A record offered to an event queue writes the queue's registers and the count of lost events. -/
theorem State.rd_eventPut_above {h q key : Nat} (bs : List Byte) (hh : h < 8) (hq : q < 49152) (hkey : 0x800000 ≤ key) :
    (s.eventPut h q bs).rd key = s.rd key := by
  have htail : key ≠ Reg.QUE_q_TAIL q := by simp only [Reg.QUE_q_TAIL]; omega
  have hhead : key ≠ Reg.QUE_q_HEAD q := by simp only [Reg.QUE_q_HEAD]; omega
  have hlost : key ≠ Reg.EVT_LOSTh h := by simp only [Reg.EVT_LOSTh]; omega
  unfold State.eventPut
  split
  · rw [State.eventLost, State.rd_countErr_ne _ hlost, State.rd_wrF_ne _ _ _ _ hhead, State.countFld, State.rd_wr_ne _ _ htail]
  · exact s.rd_queuePut_ne h bs htail

/-- A register above the event counters reads as before an event of a House. -/
theorem State.rd_post_above {h key : Nat} (code tag : Nat) (own : Option Nat) (detail : List Nat) (hh : h < 8) (hkey : 0x800000 ≤ key) :
    (s.post h code tag own detail).rd key = s.rd key := by
  have hlost : key ≠ Reg.EVT_LOSTh h := by simp only [Reg.EVT_LOSTh]; omega
  have hseq : (s.eventSeq h).rd key = s.rd key := State.rd_wr_ne s _ (by simp only [Reg.EVT_SEQh]; omega)
  unfold State.post
  dsimp only
  split
  · rw [State.eventLost, State.rd_countErr_ne _ hlost, hseq]
  · refine List.foldlRecOn (motive := fun t : State => t.rd key = s.rd key) _ _ hseq fun t ht q hq => ?_
    exact (t.rd_eventPut_above _ hh (State.lt_of_mem_eventQueues _ hq) hkey).trans ht

/-- A register above the event counters reads as before an event that a condition calls for. -/
theorem State.rd_post_if_above {h key : Nat} (c : Prop) [Decidable c] (code tag : Nat) (own : Option Nat) (detail : List Nat) (hh : h < 8)
    (hkey : 0x800000 ≤ key) : (if c then s.post h code tag own detail else s).rd key = s.rd key := by
  split
  · exact s.rd_post_above code tag own detail hh hkey
  · rfl

/-- A 48-bit counter of the chip writes its own pair alone of the registers above the event counters. -/
theorem State.rd_count48_above {lo hi key : Nat} (n : Nat) (hlo : key ≠ lo) (hhi : key ≠ hi) (hkey : 0x800000 ≤ key) :
    (s.count48 lo hi n none).rd key = s.rd key := by
  have hpair : (s.wr64 lo hi ((s.rd64 lo hi + n) % 2 ^ 48)).rd key = s.rd key := State.rd_wr64_ne s _ hlo hhi
  unfold State.count48
  dsimp only
  split
  · exact hpair
  · exact (State.rd_post_above _ _ _ _ _ (by decide) hkey).trans hpair

end

/-! ### Heat (R283, R457) -/

section
variable (s : State) (f : Nat) (x : FormTier)

/-- A change of a form's tier: the parts and what DLN_FORMf shows of them, and at most an event. -/
theorem State.setFormTier_eventsOnly :
    EventsOnly (s.setFormTier f x) (State.showFormTier { s with formTiers := mapSet (fun _ => {}) s.formTiers f x } f) := by
  unfold State.setFormTier
  dsimp only
  split
  · exact .refl _
  · exact State.post_eventsOnly _ _ _ _ _ _

/-- The parts of a form's tier read back. -/
@[simp] theorem State.formTier_setFormTier_same : (s.setFormTier f x).formTier f = x := by
  have hparts : (s.setFormTier f x).formTiers = mapSet (fun _ => {}) s.formTiers f x := (congrArg State.formTiers (s.setFormTier_eventsOnly f x).frame :)
  rw [State.formTier, hparts, mapGet_mapSet_same]

/-- A change of a form's tier leaves the power state as it is. -/
@[simp] theorem State.power_setFormTier : (s.setFormTier f x).power = s.power :=
  (congrArg State.power (s.setFormTier_eventsOnly f x).frame :)

/-- A change of a form's tier leaves the temperature that its form shows. -/
theorem State.temperature_setFormTier (hf : f < 32) : (s.setFormTier f x).rdF (Reg.DLN_FORMf f) 15 8 = s.rdF (Reg.DLN_FORMf f) 15 8 := by
  have hlow : Reg.DLN_FORMf f < 0x500000 := by simp only [Reg.DLN_FORMf]; omega
  rw [State.rdF, (s.setFormTier_eventsOnly f x).low _ hlow, State.showFormTier, State.rd_wr_same, setBit,
    fld_setFld_ne _ _ (by decide) (.inr (by decide)), fld_setFld_ne _ _ (by decide) (.inr (by decide))]
  rfl

/-- PWR_TJ is the one register that showing the highest temperature writes. -/
theorem State.rd_showTj_ne {key : Nat} (hkey : key ≠ Reg.PWR_TJ) : s.showTj.rd key = s.rd key := by
  simp only [State.showTj, State.rd_wrF_ne _ _ _ _ hkey]

end

/-- A temperature raises the heat part of a form to its level at once. -/
theorem heat_heatStep (x : FormTier) (d : Nat) : (heatStep x d).heat = max x.heat (heatLevel d) := by
  unfold heatStep
  split <;> dsimp only <;> omega

/-- A temperature at or below the level of the part counts towards its decay when it lies 3 °C below the threshold, and ends the count otherwise. -/
theorem cool_heatStep {x : FormTier} {d : Nat} (h : heatLevel d ≤ x.heat) :
    (heatStep x d).cool = if d + 3 ≤ 99 + 3 * x.heat then x.cool + 1 else 0 := by
  simp only [heatStep, if_neg (Nat.not_lt.2 h), coolFor, decide_eq_true_eq]

/-- A form's tier after a temperature. -/
def FormTier.sampled (x : FormTier) (d : Nat) : FormTier := { heatStep x d with last := d, trip := decide (115 ≤ d) }

/-- A state after a temperature of a form, before a trip. -/
def State.heated (s : State) (f d : Nat) : State := ((s.wrF (Reg.DLN_FORMf f) 15 8 d).setFormTier f ((s.formTier f).sampled d)).showTj

section
variable {s : State} {f d : Nat}

/-- A temperature that does not follow another of 115 °C or more, or lies below it itself, trips nothing. -/
theorem State.thermalSample_of_calm (h : d < 115 ∨ (s.formTier f).trip = false) : s.thermalSample f d = s.heated f d := by
  have hcalm : ¬ ((s.formTier f).trip && decide (115 ≤ d)) = true := by
    rw [Bool.and_eq_true, decide_eq_true_eq]
    rintro ⟨htrip, hhot⟩
    rcases h with hcool | hfirst
    · omega
    · exact Bool.false_ne_true (hfirst.symm.trans htrip)
  exact if_neg hcalm

/-- The second temperature of 115 °C or more trips the device: hold-up with cause 3. -/
theorem State.thermalSample_of_trip (hhot : 115 ≤ d) (htrip : (s.formTier f).trip = true) :
    s.thermalSample f d = { (s.heated f d).holdUp 3 with service := { ((s.heated f d).holdUp 3).service with tripped := true } } :=
  if_pos (by rw [htrip, decide_eq_true hhot, Bool.and_self])

/-- DLN_FORMf shows the temperature. -/
theorem State.temperature_heated (hf : f < 32) (hd : d < 256) : (s.heated f d).rdF (Reg.DLN_FORMf f) 15 8 = d := by
  have hkey : Reg.DLN_FORMf f ≠ Reg.PWR_TJ := by simp only [Reg.DLN_FORMf, Reg.PWR_TJ]; omega
  calc (s.heated f d).rdF (Reg.DLN_FORMf f) 15 8
      = ((s.wrF (Reg.DLN_FORMf f) 15 8 d).setFormTier f ((s.formTier f).sampled d)).rdF (Reg.DLN_FORMf f) 15 8 :=
        congrArg (fld · 15 8) (State.rd_showTj_ne _ hkey)
    _ = (s.wrF (Reg.DLN_FORMf f) 15 8 d).rdF (Reg.DLN_FORMf f) 15 8 := State.temperature_setFormTier _ f _ hf
    _ = d := (State.rdF_wrF_same s _ d (by decide)).trans (Nat.mod_eq_of_lt hd)

/-- The parts of the form's tier take the temperature. -/
theorem State.formTier_heated : (s.heated f d).formTier f = (s.formTier f).sampled d :=
  State.formTier_setFormTier_same (s.wrF (Reg.DLN_FORMf f) 15 8 d) f _

/-- A temperature alone leaves the power state as it is. -/
theorem State.power_heated : (s.heated f d).power = s.power :=
  State.power_setFormTier (s.wrF (Reg.DLN_FORMf f) 15 8 d) f _

/-- A second below the lower threshold lowers the part by one. -/
theorem State.heatDecay_of_cool (hheat : 0 < (s.formTier f).heat) (hcool : 10000 ≤ (s.formTier f).cool) :
    s.heatDecay f = s.setFormTier f { s.formTier f with heat := (s.formTier f).heat - 1, cool := 0 } :=
  if_pos ⟨hheat, hcool⟩

/-- Without heat, or before the second has passed, nothing decays. -/
theorem State.heatDecay_of_early (h : (s.formTier f).heat = 0 ∨ (s.formTier f).cool < 10000) : s.heatDecay f = s :=
  if_neg (by rintro ⟨hheat, hcool⟩; omega)

end

/-! ### The governor (R456, R471) -/

section
variable (s : State)

/-- The burst time writes PWR_GOV alone of the registers above the event counters. -/
theorem State.rd_burstStep_above {key : Nat} (hgov : key ≠ Reg.PWR_GOV) (hkey : 0x800000 ≤ key) : s.burstStep.rd key = s.rd key := by
  have hwrites (t : State) (a b : Nat) : ((t.wrF Reg.PWR_GOV 11 0 a).wrF Reg.PWR_GOV 16 16 b).rd key = t.rd key := by
    rw [State.rd_wrF_ne _ _ _ _ hgov, State.rd_wrF_ne _ _ _ _ hgov]
  exact (State.rd_post_if_above _ _ _ _ _ _ (by decide) hkey).trans (hwrites _ _ _)

/-- The stretch that is set reads back. -/
theorem State.stretch_setStretch (n : Nat) : (s.setStretch n).rdF Reg.PWR_STRETCH 5 0 = n % 64 := by
  have hwrite : (s.wrF Reg.PWR_STRETCH 5 0 n).rdF Reg.PWR_STRETCH 5 0 = n % 64 := State.rdF_wrF_same s _ n (by decide)
  unfold State.setStretch
  dsimp only
  split
  · exact hwrite
  · exact (congrArg (fld · 5 0) (State.rd_count48_above _ 1 (by decide) (by decide) (by decide))).trans hwrite

/-- A stretch of at most 48 stays so. -/
theorem State.nextStretch_le {s : State} (pa n : Nat) (h : s.rdF Reg.PWR_STRETCH 5 0 ≤ 48) : s.nextStretch pa n ≤ 48 := by
  unfold State.nextStretch
  dsimp only
  split
  · exact Nat.min_le_left _ _
  · split
    · exact (Nat.sub_le _ _).trans h
    · exact h

/-- Power above the target's band raises the stretch by its step, to 48 at most. -/
theorem State.nextStretch_of_high {s : State} (pa n : Nat) (h : s.powerHigh = true) :
    s.nextStretch pa n = min 48 (s.rdF Reg.PWR_STRETCH 5 0 + s.stretchStep pa n) :=
  if_pos h

/-- Power within the target's band leaves the stretch. -/
theorem State.nextStretch_of_calm {s : State} (pa n : Nat) (hhigh : s.powerHigh = false) (hlow : s.powerLow = false) :
    s.nextStretch pa n = s.rdF Reg.PWR_STRETCH 5 0 := by
  simp [State.nextStretch, hhigh, hlow]

/-- The state after a tick's estimate of power. -/
def State.ticked (p1 p100 : Nat) : State :=
  let s := s.wr Reg.PWR_PNOW (BitVec.ofNat 32 (p100 * 65536 + p1))
  { s with service := { s.service with tick := (s.service.tick + 1) % 10 } }

/-- A tick is the estimate of power, and at the end of a microsecond the moves. -/
theorem State.governorTick_eq (p1 p100 pa n : Nat) : s.governorTick p1 p100 pa n =
    if s.service.tick < 9 then s.ticked p1 p100
    else (s.ticked p1 p100).burstStep.setStretch ((s.ticked p1 p100).burstStep.nextStretch pa n) :=
  rfl

/-- The first nine ticks of a microsecond show the power and no more. -/
theorem State.governorTick_of_early {s : State} (p1 p100 pa n : Nat) (h : s.service.tick < 9) : s.governorTick p1 p100 pa n = s.ticked p1 p100 := by
  rw [State.governorTick_eq, if_pos h]

/-- The tenth tick moves the burst time, the target and the stretch. -/
theorem State.governorTick_of_tenth {s : State} (p1 p100 pa n : Nat) (h : 9 ≤ s.service.tick) :
    s.governorTick p1 p100 pa n = (s.ticked p1 p100).burstStep.setStretch ((s.ticked p1 p100).burstStep.nextStretch pa n) := by
  rw [State.governorTick_eq, if_neg (Nat.not_lt.2 h)]

/-- The power shown and the burst time leave the stretch. -/
theorem State.stretch_burstStep_ticked (p1 p100 : Nat) : (s.ticked p1 p100).burstStep.rdF Reg.PWR_STRETCH 5 0 = s.rdF Reg.PWR_STRETCH 5 0 := by
  have hshown : (s.ticked p1 p100).rd Reg.PWR_STRETCH = s.rd Reg.PWR_STRETCH := State.rd_wr_ne s _ (by decide)
  rw [State.rdF, State.rd_burstStep_above _ (by decide) (by decide), hshown, State.rdF]

/-- The move of the stretch: it stays within 48, stands still within the target's band, and rises by its step above it. -/
theorem State.stretch_moves {s b : State} (hold : b.rdF Reg.PWR_STRETCH 5 0 = s.rdF Reg.PWR_STRETCH 5 0) (pa n : Nat) :
    let new := (b.setStretch (b.nextStretch pa n)).rdF Reg.PWR_STRETCH 5 0
    new = b.nextStretch pa n % 64 ∧ (s.rdF Reg.PWR_STRETCH 5 0 ≤ 48 → new ≤ 48) ∧
      (b.powerHigh = false → b.powerLow = false → new = s.rdF Reg.PWR_STRETCH 5 0) ∧
      (b.powerHigh = true → new = min 48 (s.rdF Reg.PWR_STRETCH 5 0 + b.stretchStep pa n)) := by
  intro new
  have hnew : new = b.nextStretch pa n % 64 := b.stretch_setStretch (b.nextStretch pa n)
  refine ⟨hnew, fun hle => ?bound, fun hhigh hlow => ?kept, fun hhigh => ?raised⟩
  case bound => exact (hnew.trans_le (Nat.mod_le _ _)).trans (State.nextStretch_le pa n (hold.trans_le hle))
  case kept =>
    rw [hnew, State.nextStretch_of_calm pa n hhigh hlow, hold]
    exact Nat.mod_eq_of_lt (fld_lt _ 5 0)
  case raised =>
    rw [hnew, State.nextStretch_of_high pa n hhigh, hold]
    exact Nat.mod_eq_of_lt ((Nat.min_le_left _ _).trans_lt (by decide))

end

/-! ### VCORE (R446, R470) -/

/-- The set point that follows one of `old` mV when the monitors ask for `want`, within the range of Table 16.1. -/
def nextSetPoint (old want : Nat) : Nat :=
  if old < max 550 (min 850 want) then min (max 550 (min 850 want)) (old + 10) else max (max 550 (min 850 want)) (old - 10)

/-- A move is of 10 mV at most and does not leave the range. -/
theorem nextSetPoint_bounds (old want : Nat) :
    nextSetPoint old want ≤ old + 10 ∧ old ≤ nextSetPoint old want + 10 ∧ (550 ≤ old → 550 ≤ nextSetPoint old want) ∧
      (old ≤ 850 → nextSetPoint old want ≤ 850) := by
  unfold nextSetPoint
  split <;> omega

/-- The next set point fits its field. -/
theorem nextSetPoint_lt {old : Nat} (want : Nat) (h : old < 1024) : nextSetPoint old want < 1024 := by
  unfold nextSetPoint
  split <;> omega

/-- VCORE_ADJUST shows the next set point and the measure; the event that it may post leaves both. -/
theorem State.rd_vcoreAdjust (s : State) (want meas : Nat) :
    (s.vcoreAdjust want meas).rd Reg.PWR_VCORE = setFld (setFld (s.rd Reg.PWR_VCORE) 9 0 (nextSetPoint (s.rdF Reg.PWR_VCORE 9 0) want)) 25 16 meas := by
  have hwrites (n : Nat) : ((s.wrF Reg.PWR_VCORE 9 0 n).wrF Reg.PWR_VCORE 25 16 meas).rd Reg.PWR_VCORE =
      setFld (setFld (s.rd Reg.PWR_VCORE) 9 0 n) 25 16 meas := by
    rw [State.rd_wrF_same, State.rd_wrF_same]
  exact (State.rd_post_if_above _ _ _ _ _ _ (by decide) (by decide)).trans (hwrites _)

/-- The set point after an adjustment. -/
theorem State.setPoint_vcoreAdjust (s : State) (want meas : Nat) :
    (s.vcoreAdjust want meas).rdF Reg.PWR_VCORE 9 0 = nextSetPoint (s.rdF Reg.PWR_VCORE 9 0) want := by
  rw [State.rdF, State.rd_vcoreAdjust, fld_setFld_ne _ _ (by decide) (.inl (by decide)), fld_setFld_same _ _ (by decide)]
  exact Nat.mod_eq_of_lt (nextSetPoint_lt want (fld_lt _ 9 0))

/-- The measure after an adjustment. -/
theorem State.measured_vcoreAdjust (s : State) (want : Nat) {meas : Nat} (h : meas < 1024) :
    (s.vcoreAdjust want meas).rdF Reg.PWR_VCORE 25 16 = meas := by
  rw [State.rdF, State.rd_vcoreAdjust, fld_setFld_same _ _ (by decide)]
  exact Nat.mod_eq_of_lt h

/-- Settles O51: a temperature by whether it trips, a decay by its second, a tick by its place in the microsecond, VCORE by its next set point. -/
theorem heatCurrentAndSupplyAreHeld : Obligations.HeatCurrentAndSupplyAreHeld := by
  intro s f hup x
  have hsample (d : Fin 256) : exec (.thermalSample f d) s = .next (s.thermalSample f d) := exec_of_up (f := fun s => s.thermalSample f d) hup rfl
  have hdecay : exec (.heatTierDecay f) s = .next (s.heatDecay f) := exec_of_up (f := fun s => s.heatDecay f) hup rfl
  refine ⟨fun d hcalm => ?calm, fun d hhot htrip => ?trip, fun hheat hcool => ?decays, fun h => ?warm, ?governor,
    fun want meas => ?vcore, exec_of_up (f := fun s => s.powerEvent 9) hup rfl⟩
  case calm =>
    refine ⟨s.heated f d, (hsample d).trans (congrArg _ (State.thermalSample_of_calm hcalm)), State.temperature_heated f.isLt d.isLt, ?_⟩
    rw [State.formTier_heated, State.power_heated]
    exact ⟨heat_heatStep x d, rfl, rfl, hup.2, cool_heatStep⟩
  case trip =>
    exact ⟨_, (hsample d).trans (congrArg _ (State.thermalSample_of_trip hhot htrip)), rfl, rfl⟩
  case decays => exact hdecay.trans (congrArg _ (State.heatDecay_of_cool hheat hcool))
  case warm => exact hdecay.trans (congrArg _ (State.heatDecay_of_early h))
  case governor =>
    intro p1 p100 pa u v n
    have htick : exec (.governorTick p1 p100 pa) s = .next (s.governorTick p1 p100 pa n) :=
      exec_of_up (f := fun s => s.governorTick p1 p100 pa (s.dlnLive.toNat % 4096)) hup rfl
    exact ⟨fun h => htick.trans (congrArg _ (State.governorTick_of_early p1 p100 pa n h)), fun h =>
      ⟨_, htick.trans (congrArg _ (State.governorTick_of_tenth p1 p100 pa n h)), State.stretch_moves (s.stretch_burstStep_ticked p1 p100) pa n⟩⟩
  case vcore =>
    refine ⟨s.vcoreAdjust want meas, exec_of_up (f := fun s => s.vcoreAdjust want meas) hup rfl, s.measured_vcoreAdjust want meas.isLt, ?_⟩
    rw [s.setPoint_vcoreAdjust want meas]
    exact nextSetPoint_bounds _ want

end Sys2Proof.Machine
end

section
/-! PROOFS. Units of homework: how they are dealt to forms, and what their ends do to the round (R298, R301, R303, R305 to R308). -/
namespace Sys2Proof.Machine
open Claim

/-! ### What leaves the table of homework alone -/

section
variable (s : State)

@[simp] theorem State.eccMerge_hw (sp : Space) (key n : Nat) : (s.eccMerge sp key n).hw = s.hw := by
  refine foldl_keeps (g := State.hw) (fun t k => ?_) _ s
  (repeat' split) <;> rfl

@[simp] theorem State.store_hw (sp : Space) (key : Nat) (bs : List Byte) : (s.store sp key bs).hw = s.hw := by
  refine (State.eccMerge_hw _ sp key bs.length).trans ?_
  cases sp <;> rfl

@[simp] theorem State.bankWriteFor_hw (req h a : Nat) (bs : List Byte) : (s.bankWriteFor req h a bs).hw = s.hw := by
  unfold State.bankWriteFor State.bankWrite
  split
  · split
    · rfl
    · exact s.store_hw .lib a bs
  · rfl

@[simp] theorem State.post_hw (h code tag : Nat) (own : Option Nat) (detail : List Nat) : (s.post h code tag own detail).hw = s.hw :=
  (congrArg State.hw (s.post_eventsOnly h code tag own detail).frame :)

@[simp] theorem State.postAll_hw (hs : List Nat) (code tag : Nat) (own : Option Nat) (detail : List Nat) :
    (s.postAll hs code tag own detail).hw = s.hw :=
  (congrArg State.hw (s.postAll_eventsOnly hs code tag own detail).frame :)

@[simp] theorem State.postTo_hw (h q code tag : Nat) (own : Option Nat) (detail : List Nat) : (s.postTo h q code tag own detail).hw = s.hw := by
  unfold State.postTo
  dsimp only
  split
  · exact (congrArg State.hw (State.eventPut_eventsOnly _ h q _).frame :)
  · exact (congrArg State.hw (State.eventLost_eventsOnly _ h).frame :)

@[simp] theorem State.servePass_hw (p : Nat) : (s.servePass p).hw = s.hw := by
  have hserve (n : Nat) : ∀ t : State, (t.serve p n).hw = t.hw := by
    induction n with
    | zero => exact fun t => rfl
    | succ n ih =>
      intro t
      unfold State.serve
      split
      · rfl
      · split
        · refine (ih _).trans ?_
          split
          · exact State.postTo_hw _ _ _ _ _ _ _
          · rfl
        · rfl
  exact hserve _ s

@[simp] theorem State.signal_hw (p n req : Nat) : (s.signal p n req).1.hw = s.hw := by
  unfold State.signal
  dsimp only
  split
  · exact State.servePass_hw _ p
  · refine (State.servePass_hw _ p).trans ?_
    split
    · exact State.post_hw _ _ _ _ _ _
    · rfl

@[simp] theorem State.join_hw (p n : Nat) (who : HpWho) : (s.join p n who).hw = s.hw := by
  unfold State.join
  split
  · split
    · exact s.postTo_hw _ _ _ _ _ _
    · rfl
  · exact State.servePass_hw _ p

@[simp] theorem State.hwWrap_hw (h v : Nat) : (s.hwWrap h v).hw = s.hw := by
  unfold State.hwWrap
  split
  · rfl
  · exact State.postAll_hw _ _ _ _ _ _

/-- The homework of a model that has been written. -/
@[simp] theorem State.hwOf_setHw_same (m : Nat) (x : Hw) : (s.setHw m x).hwOf m = x := mapGet_mapSet_same _ _ _ _

/-- The homework of a model lies in the table. -/
theorem State.hwOf_congr {s t : State} (h : t.hw = s.hw) (m : Nat) : t.hwOf m = s.hwOf m :=
  congrArg (fun x => mapGet (fun _ => ({} : Hw)) x m) h

end

/-! ### The end of a unit (R301, R305) -/

section
variable {s : State} {m f kind : Nat} {md : Model} {p : Config.HwPlan} {u : HwUnit} {a hp : Nat}
  {run : State → Model → Config.HwPlan → Hw → HwUnit → Nat → State × Hw × Option Nat}

/-- A homework without one of its units. -/
def Hw.without (x : Hw) (u : HwUnit) : Hw := { x with units := x.units.filter (fun v => decide (v ≠ u)) }

/-- A unit whose control block lies at `a` ends: the homework that its effect leaves, RESULT, the hall pass, DONE_SEQ. -/
def State.endUnit (s : State) (m house a hp lanes lead : Nat) (u : HwUnit) (y : Hw) (res : Option Nat) : State :=
  let n := ((List.range 32).filter (fun l => Nat.testBit lanes l)).length
  let t := s.setHw m (y.without u)
  let t := match res with
    | some r => t.bankWriteFor lead house (a + 24) (leBytes 4 r)
    | none => t
  ((t.signal hp n lead).1.join hp n (.core lead)).bankWriteFor lead house (a + 20) (leBytes 4 u.seq)

theorem State.hwOf_endUnit (s : State) (m house a hp lanes lead : Nat) (u : HwUnit) (y : Hw) (res : Option Nat) :
    (s.endUnit m house a hp lanes lead u y res).hwOf m = y.without u := by
  refine (State.hwOf_congr ?_ m).trans (s.hwOf_setHw_same m (y.without u))
  cases res <;> simp only [State.endUnit, State.bankWriteFor_hw, State.join_hw, State.signal_hw]

/-- A form without a unit of the kind ends nothing. -/
theorem State.hwUnit_of_none (h : ∀ u ∈ (s.hwOf m).units, u.form = f → u.kind = kind → u.ended = true) :
    s.hwUnit m f kind run = s := by
  have hfind : (s.hwOf m).units.find? (fun u => decide (u.form = f) && decide (u.kind = kind) && !u.ended) = none := by
    refine List.find?_eq_none.2 (fun u hu hhere => ?_)
    simp only [Bool.and_eq_true, decide_eq_true_eq, Bool.not_eq_true'] at hhere
    obtain ⟨⟨hform, hkind⟩, hended⟩ := hhere
    exact absurd (h u hu hform hkind) (by simp [hended])
  unfold State.hwUnit
  split
  · rfl
  · simp only [hfind]

/-- The lanes that share a unit in hand are all in service in the House's slice. -/
theorem Claim.UnitHere.lanes_here (h : UnitHere s m f kind md p u a hp) :
    (List.range 32).all (fun l => !Nat.testBit (memLe s.lib (a + 32) 4) l ||
      (s.coreLive (32 * f + l) && decide ((s.core (32 * f + l)).house = md.house))) = true := by
  refine List.all_eq_true.2 (fun l hl => ?_)
  cases hbit : Nat.testBit (memLe s.lib (a + 32) 4) l
  case false => rfl
  case true =>
    obtain ⟨hlive, hhouse⟩ := h.live l (List.mem_range.1 hl) hbit
    simp [hlive, hhouse]

/-- A unit in hand ends, after its effect. -/
theorem Claim.UnitHere.hwUnit_eq (h : UnitHere s m f kind md p u a hp) : ∃ lead, s.hwUnit m f kind run =
      (run s md p (s.hwOf m) u lead).1.endUnit m md.house a hp (memLe s.lib (a + 32) 4) lead u (run s md p (s.hwOf m) u lead).2.1
        (run s md p (s.hwOf m) u lead).2.2 := by
  have hgo : ¬ (memLe s.lib (a + 0) 4 = memLe s.lib (a + 20) 4 ∨ memLe s.lib (a + 0) 4 ≠ u.seq ∨ memLe s.lib (a + 28) 4 ≠ 0 ∨
      memLe s.lib (a + 32) 4 = 0 ∨ (!(List.range 32).all (fun l => !Nat.testBit (memLe s.lib (a + 32) 4) l ||
        (s.coreLive (32 * f + l) && decide ((s.core (32 * f + l)).house = md.house)))) = true) := by
    rw [h.lanes_here, Nat.add_zero, h.seq]
    simp [h.undone.symm, h.noStop, h.lanes]
  refine ⟨32 * f + leadLane (memLe s.lib (a + 32) 4), ?_⟩
  simp only [State.hwUnit, h.plan, h.unit, h.ctrl]
  rw [if_neg hgo]
  rfl

/-- The homework after the end of a unit in hand: what its effect leaves, without the unit. -/
theorem Claim.UnitHere.hwOf_hwUnit {y : Hw} (h : UnitHere s m f kind md p u a hp)
    (hrun : ∀ lead, (run s md p (s.hwOf m) u lead).2.1 = y) : (s.hwUnit m f kind run).hwOf m = y.without u := by
  obtain ⟨lead, heq⟩ := h.hwUnit_eq (run := run)
  rw [heq, State.hwOf_endUnit, hrun]

/-! ### The five kinds (R306 to R308) -/

theorem Claim.UnitHere.hwOf_hwGrad (h : UnitHere s m f 1 md p u a hp) :
    (s.hwGrad m f).hwOf m = { s.hwOf m with grads := (s.hwOf m).grads ++ [u.arg] }.without u := by
  unfold State.hwGrad
  exact h.hwOf_hwUnit (fun _ => rfl)

/-- The layer of an UPDATE after its optimiser, where every gradient is finite (R306, R307). -/
def State.hwUpdated (s : State) (md : Model) (p : Config.HwPlan) (x : Hw) (u : HwUnit) : Option (List Byte) :=
  let n := planSize p u.layer
  let o := planOfs p u.layer
  let gs := (List.range (pol x.policy 5 1)).map (fun i =>
    let b := s.hwRead md.house (p.grads + gradPitch * i) (deployedSize n)
    loadGroups .e5m2 (b.take n) (b.drop n))
  let sc := s.hwRead md.house (p.scales + o / 8) (n / 8)
  updateLayer x.policy (planReal p u.layer) gs (s.hwMasters p u.layer) (s.load .lib (p.m + o) n) (s.load .lib (p.u + o) n) (sc.take (n / 16))
    (sc.drop (n / 16))

@[simp] theorem Hw.skip_units (x : Hw) : x.skip.units = x.units := by
  unfold Hw.skip hwStick
  split <;> rfl

@[simp] theorem Hw.endStep_units (x : Hw) (p : Config.HwPlan) : (x.endStep p).units = x.units := by
  unfold Hw.endStep
  dsimp only
  split <;> rfl

/-- An UPDATE with finite gradients is complete; any other one skips its step. -/
theorem Claim.UnitHere.hwOf_hwUpdate (h : UnitHere s m f 2 md p u a hp) :
    (s.hwUpdate m f).hwOf m = match s.hwUpdated md p (s.hwOf m) u with
      | some _ => { s.hwOf m with updated := true }.without u
      | none => { ((s.hwOf m).skip.endStep p) with units := ((s.hwOf m).without u).units } := by
  cases hout : s.hwUpdated md p (s.hwOf m) u
  case some bs =>
    refine h.hwOf_hwUnit (y := { s.hwOf m with updated := true }) (fun lead => ?_)
    simp only [State.hwUpdated] at hout
    simp only [hout]
  case none =>
    refine (h.hwOf_hwUnit (y := (s.hwOf m).skip.endStep p) (fun lead => ?_)).trans ?_
    · simp only [State.hwUpdated] at hout
      simp only [hout]
    · simp only [Hw.without, Hw.endStep_units, Hw.skip_units]

/-- The homework of a layer that has been copied into the masters (R307, R312). -/
def Hw.copied (x : Hw) (l : Nat) : Hw :=
  { x with steps := (x.steps + 1) % 2 ^ 48, pendLayers := if x.pendLayers.contains l then x.pendLayers else x.pendLayers ++ [l] }

theorem Hw.mem_pendLayers_copied (x : Hw) (l : Nat) : l ∈ (x.copied l).pendLayers := by
  simp only [Hw.copied]
  split
  · exact List.contains_iff_mem.1 ‹_›
  · simp

theorem Claim.UnitHere.hwOf_hwCopyUnit (h : UnitHere s m f 3 md p u a hp) :
    (s.hwCopyUnit m f).hwOf m = (((s.hwOf m).copied u.layer).endStep p).without u :=
  h.hwOf_hwUnit (fun _ => rfl)

/-- The end of a step: the slots are free, the step counts, and what the layers wait for stays. -/
theorem Hw.endStep_step (x : Hw) (p : Config.HwPlan) :
    (x.endStep p).steps = x.steps ∧ (x.endStep p).grads = [] ∧ (x.endStep p).stepNo = x.stepNo + 1 ∧ (x.endStep p).pendLayers = x.pendLayers := by
  unfold Hw.endStep
  dsimp only
  split <;> exact ⟨rfl, rfl, rfl, rfl⟩

theorem Claim.UnitHere.hwOf_hwEval (h : UnitHere s m f 4 md p u a hp) :
    (s.hwEval m f).hwOf m = { s.hwOf m with
      evals := mapSet (fun _ => none) (s.hwOf m).evals (2 * u.sample + u.arg) (some (Config.loss md.modelId (s.hwOf m).policy
        (s.hwSample md.house p (s.hwOf m) true u.sample) (s.hwCopy md.house p (if u.arg = 0 then 1 - (s.hwOf m).copy else (s.hwOf m).copy)))) }.without u := by
  unfold State.hwEval
  exact h.hwOf_hwUnit (fun _ => rfl)

theorem Claim.UnitHere.hwOf_hwDeploy (h : UnitHere s m f 5 md p u a hp) :
    (s.hwDeploy m f).hwOf m = { s.hwOf m with deployed := true }.without u := by
  unfold State.hwDeploy
  exact h.hwOf_hwUnit (fun _ => rfl)

end

/-! ### Dealing (R301, R303) -/

section
variable {s : State} {m f : Nat} {md : Model} {p : Config.HwPlan}

theorem State.hwDeal_of_not_idle (hidle : s.hwIdleForm f = false) : s.hwDeal m f = s := by
  unfold State.hwDeal
  split
  · rfl
  · split
    · rfl
    · simp only [hidle, Bool.not_false, Bool.or_true, Bool.true_or, if_true]

/-- A unit dealt: the House's budget of cycles holds it, or nothing happens. -/
def State.giveUnit (s : State) (m house a hp lanes cyc : Nat) (y : Hw) (u : HwUnit) : State :=
  if pol y.policy 48 4 < cyc then s
  else (s.writeUnit house a hp u cyc lanes).setHw m { y with units := y.units ++ [u], unitSeq := u.seq, frozen := y.frozen || decide (u.kind = 4) }

/-- The next unit of a round, with its number. -/
def Hw.nextHwUnit (y : Hw) (f k l smp arg : Nat) : HwUnit :=
  { form := f, seq := (y.unitSeq + 1) % 2 ^ 32, kind := k, layer := l, sample := smp, step := y.stepNo % 2 ^ 32, arg := arg }

/-- A form that is idle and has no unit gets the next one, where no other form has lost its unit. -/
theorem State.hwDeal_of_next {y : Hw} {g a hp k l smp arg : Nat} (hplan : s.hwPlan? m = some (md, p))
    (hctrl : p.ctrl.find? (fun c => decide (c.1 = f)) = some (g, a, hp)) (hy : (s.hwOf m).settle p = y) (hruns : s.hwRuns md y = true)
    (hidle : s.hwIdleForm f = true) (hunits : ∀ u ∈ y.units, u.form ≠ f ∧ u.ended = false) (hlanes : s.liveLanes f ≠ 0)
    (hnext : s.nextUnit md.house y = some (k, l, smp, arg)) :
    s.hwDeal m f = s.giveUnit m md.house a hp (s.liveLanes f) (Config.unitCycles md.modelId k l).toNat y (y.nextHwUnit f k l smp arg) := by
  have hfree : y.units.any (fun u => decide (u.form = f) && !u.ended) = false :=
    List.any_eq_false.2 (fun u hu => by simp [(hunits u hu).1])
  have hended : y.units.find? (·.ended) = none := List.find?_eq_none.2 (fun u hu => by simp [(hunits u hu).2])
  have hgo : ¬ ((!s.hwRuns md y || !s.hwIdleForm f || y.units.any (fun u => decide (u.form = f) && !u.ended) || decide (s.liveLanes f = 0)) = true) := by
    simp [hruns, hidle, hfree, hlanes]
  unfold State.hwDeal
  simp only [hplan, hctrl, hy]
  rw [if_neg hgo]
  simp only [hended, hnext]
  rfl

end

/-- Settles O46: a deal by what the idle form gets, and each kind of unit by the homework that its effect leaves without it. -/
theorem homeworkUnitsAreDealtAndEnd : Obligations.HomeworkUnitsAreDealtAndEnd := by
  intro s m f hup x rows
  have hgrad : exec (.grad m f) s = .next (s.hwGrad m.toNat f) := exec_of_up (f := fun s => s.hwGrad m.toNat f) hup rfl
  have hupdate : exec (.update m f) s = .next (s.hwUpdate m.toNat f) := exec_of_up (f := fun s => s.hwUpdate m.toNat f) hup rfl
  have hcopy : exec (.homeworkCopy m f) s = .next (s.hwCopyUnit m.toNat f) := exec_of_up (f := fun s => s.hwCopyUnit m.toNat f) hup rfl
  have heval : exec (.eval m f) s = .next (s.hwEval m.toNat f) := exec_of_up (f := fun s => s.hwEval m.toNat f) hup rfl
  have hdeploy : exec (.deploy m f) s = .next (s.hwDeploy m.toNat f) := exec_of_up (f := fun s => s.hwDeploy m.toNat f) hup rfl
  have hdeal : exec (.homeworkDeal m f) s = .next (s.hwDeal m.toNat f) := exec_of_up (f := fun s => s.hwDeal m.toNat f) hup rfl
  refine ⟨?none, ?deal, fun md p _ hidle => hdeal.trans (congrArg _ (State.hwDeal_of_not_idle hidle)), fun md p u a hp => ?ends⟩
  case none =>
    have hrow {i : Instr} {k : Nat} {run : State → Model → Config.HwPlan → Hw → HwUnit → Nat → State × Hw × Option Nat}
        (hexec : exec i s = .next (s.hwUnit m.toNat f k run)) (hnone : ∀ u ∈ x.units, u.form = f.val → u.kind = k → u.ended = true) :
        exec i s = .next s :=
      hexec.trans (congrArg _ (State.hwUnit_of_none hnone))
    simp only [rows, List.forall_mem_cons]
    exact ⟨hrow hgrad, hrow hupdate, hrow hcopy, hrow heval, hrow hdeploy, List.forall_mem_nil _⟩
  case deal =>
    intro md p hplan g a hp hctrl y hruns hidle hunits hlanes k l smp arg hnext
    exact hdeal.trans (congrArg _ (State.hwDeal_of_next hplan hctrl rfl hruns hidle hunits hlanes hnext))
  case ends =>
    refine ⟨fun h => ⟨_, hgrad, h.hwOf_hwGrad⟩, fun h => ⟨_, hupdate, h.hwOf_hwUpdate⟩, fun h => ⟨_, hcopy, ?_⟩, fun h => ⟨_, heval, h.hwOf_hwEval⟩,
      fun h => ⟨_, hdeploy, h.hwOf_hwDeploy⟩⟩
    obtain ⟨hsteps, hgrads, hstepNo, hpend⟩ := Hw.endStep_step (x.copied u.layer) p
    rw [h.hwOf_hwCopyUnit]
    refine ⟨hsteps, ?_, hgrads, hstepNo, hpend ▸ x.mem_pendLayers_copied u.layer⟩
    rw [Hw.without, Hw.endStep_units]
    rfl

end Sys2Proof.Machine
end

section
/-! PROOFS. Samples, the ends of rounds, and checkpoint periods (R304, R308, R309, R312). -/
namespace Sys2Proof.Machine
open Claim

/-! ### Samples (R304) -/

section
variable {s : State} {m : Nat} {motion : List Byte} {md : Model} {p : Config.HwPlan} {q : HwSample}

theorem State.hwSampleRun_of_idle (hplan : s.hwPlan? m = some (md, p)) (hidle : s.hwRuns md (s.hwOf m) = false ∨ (s.hwOf m).state = 0) :
    s.hwSampleRun m motion = s := by
  have hstop : !s.hwRuns md (s.hwOf m) ∨ (s.hwOf m).state = 0 ∨ (s.pipe p.pipe).inW < (s.hwOf m).patch p ∨
      (s.pipe p.pipe).inH < (s.hwOf m).patch p := hidle.imp (by simp [·]) .inl
  unfold State.hwSampleRun
  simp only [hplan]
  exact if_pos hstop

/-- The homework of a model takes samples: it runs, is not off, and a patch lies within the input. -/
structure State.Samples (s : State) (m : Nat) (md : Model) (p : Config.HwPlan) : Prop where
  plan : s.hwPlan? m = some (md, p)
  runs : s.hwRuns md (s.hwOf m) = true
  state : (s.hwOf m).state ≠ 0
  width : (s.hwOf m).patch p ≤ (s.pipe p.pipe).inW
  height : (s.hwOf m).patch p ≤ (s.pipe p.pipe).inH

theorem State.Samples.go (h : s.Samples m md p) : ¬ (!s.hwRuns md (s.hwOf m) ∨ (s.hwOf m).state = 0 ∨
    (s.pipe p.pipe).inW < (s.hwOf m).patch p ∨ (s.pipe p.pipe).inH < (s.hwOf m).patch p) := by
  simp [h.runs, h.state, h.width, h.height]

/-- The first line from those that a sample has copied that does not stand in the ring. -/
def State.stopLine (s : State) (src : Nat) (q : HwSample) (size : Nat) : Option Nat :=
  (List.range (2 * size)).find? (fun k => decide (q.lines ≤ k) && !s.gateOpen src ((q.frame + k / size) % 2 ^ 32) (q.y + k % size))

theorem State.stopLine_of_closed (s : State) {src size : Nat} {q : HwSample} (hlines : q.lines < 2 * size)
    (hgate : s.gateOpen src ((q.frame + q.lines / size) % 2 ^ 32) (q.y + q.lines % size) = false) : s.stopLine src q size = some q.lines := by
  refine List.find?_range_eq_some.2 ⟨?_, List.mem_range.2 hlines, fun j hj => ?_⟩
  · rw [hgate, decide_eq_true (Nat.le_refl _)]
    rfl
  · rw [decide_eq_false (Nat.not_le.2 hj)]
    rfl

theorem State.stopLine_of_copied (s : State) {src size : Nat} {q : HwSample} (hlines : q.lines = 2 * size) : s.stopLine src q size = none :=
  List.find?_eq_none.2 (fun k hk => by simp [hlines, Nat.not_le.2 (List.mem_range.1 hk)])

/-- A sample whose next line does not stand yet waits. -/
theorem State.Samples.hwSampleRun_of_waits (h : s.Samples m md p) (hsample : (s.hwOf m).sample = some q) (hlines : q.lines < 2 * (s.hwOf m).patch p)
    (hgate : s.gateOpen (s.pipe p.pipe).source ((q.frame + q.lines / (s.hwOf m).patch p) % 2 ^ 32) (q.y + q.lines % (s.hwOf m).patch p) = false) :
    s.hwSampleRun m motion = s.setHw m { s.hwOf m with sample := some q } := by
  have hstop := s.stopLine_of_closed hlines hgate
  unfold State.stopLine at hstop
  unfold State.hwSampleRun
  simp only [h.plan]
  rw [if_neg h.go]
  simp only [hsample, hstop, Option.getD_some, if_pos hlines, Nat.sub_self, List.range_zero, List.flatMap_nil, List.append_nil]

/-- The homework of a model whose sample is complete: dropped, or in the pool that its frame belongs to. -/
def Hw.sampled (x : Hw) (same val : Bool) : Hw :=
  let y := { x with sample := none }
  if !same || (val && x.frozen) then y.discard
  else if val then { y with val := x.val + 1 } else { y with train := x.train + 1 }

@[simp] theorem Hw.discard_sample (x : Hw) : x.discard.sample = x.sample := by
  unfold Hw.discard hwStick
  split <;> rfl

theorem Hw.sampled_sample (x : Hw) (same val : Bool) : (x.sampled same val).sample = none := by
  unfold Hw.sampled
  dsimp only
  split
  · exact Hw.discard_sample _
  · split <;> rfl

/-- The end of a sample whose input records are complete. -/
theorem State.Samples.hwOf_hwSampleRun_of_copied {a b : InRec} (h : s.Samples m md p) (hsample : (s.hwOf m).sample = some q)
    (hlines : q.lines = 2 * (s.hwOf m).patch p)
    (ha : (s.pipe p.pipe).recs.find? (fun r => decide (r.frame = q.frame) && r.complete) = some a)
    (hb : (s.pipe p.pipe).recs.find? (fun r => decide (r.frame = (q.frame + 1) % 2 ^ 32) && r.complete) = some b) :
    (s.hwSampleRun m motion).hwOf m = (s.hwOf m).sampled (decide (a.seq = b.seq))
      (decide (q.frame / max 1 (pol (s.hwOf m).policy 8 2) % max 1 (pol (s.hwOf m).policy 10 1) = 0)) := by
  have hstop := s.stopLine_of_copied (src := (s.pipe p.pipe).source) hlines
  unfold State.stopLine at hstop
  unfold State.hwSampleRun Hw.sampled
  simp only [h.plan]
  rw [if_neg h.go]
  simp only [hsample, hstop, Option.getD_none, if_neg (Nat.lt_irrefl _), ha, hb]
  split <;> exact State.hwOf_setHw_same _ m _

end

/-! ### Rounds (R308, R309) -/

section
variable {s : State} {m : Nat} {md : Model} {p : Config.HwPlan}

theorem State.hwRound_of_idle (hplan : s.hwPlan? m = some (md, p))
    (hidle : s.hwRuns md (s.hwOf m) = false ∨ (s.hwOf m).state ≠ 3 ∨ (s.hwOf m).deployed = false) : s.hwRound m = s := by
  unfold State.hwRound
  simp only [hplan]
  refine if_pos ?_
  rcases hidle with hruns | hstate | hdeployed
  · simp [hruns]
  · exact .inr (.inl hstate)
  · simp [hdeployed]

/-- An evaluation has the loss of every validation sample on both copies. -/
structure State.Evaluated (s : State) (m : Nat) (md : Model) (p : Config.HwPlan) : Prop where
  plan : s.hwPlan? m = some (md, p)
  runs : s.hwRuns md (s.hwOf m) = true
  state : (s.hwOf m).state = 3
  deployed : (s.hwOf m).deployed = true
  losses : ∀ j, j < 2 * (s.hwOf m).valCount → mapGet (fun _ => none) (s.hwOf m).evals j ≠ none

/-- The candidate's sum is less than the margin times that of the copy in service, over a full validation pool (R308). -/
def Hw.better (x : Hw) : Bool :=
  decide (x.valCount = pol x.policy 14 2) && !(f32 (x.lossSum 0)).isNan && !(f32 (x.lossSum 1)).isNan &&
    fvLt (f32 (x.lossSum 0)) (f32 (f32Mul (x.lossSum 1) (pol x.policy 44 4)))

theorem Hw.better_iff (x : Hw) : x.better = true ↔ x.valCount = pol x.policy 14 2 ∧ (f32 (x.lossSum 0)).isNan = false ∧
    (f32 (x.lossSum 1)).isNan = false ∧ fvLt (f32 (x.lossSum 0)) (f32 (f32Mul (x.lossSum 1) (pol x.policy 44 4))) = true := by
  simp only [Hw.better, Bool.and_eq_true, decide_eq_true_eq, Bool.not_eq_true', and_assoc]

/-- A homework whose sums are formed. -/
def Hw.summed (x : Hw) : Hw := { x with lc := BitVec.ofNat 32 (x.lossSum 0), ls := BitVec.ofNat 32 (x.lossSum 1) }

/-- The homework of a rejected candidate, in its next round. -/
def Hw.rejected (x : Hw) : Hw := { x.summed with rejectsAll := (x.rejectsAll + 1) % 2 ^ 48, rejects := x.rejects + 1 }.newRound

/-- A candidate rejected: a reset where it has been rejected too often (R309). -/
def State.rejectRound (s : State) (m : Nat) (md : Model) (p : Config.HwPlan) (x : Hw) : State :=
  let t := s.hwWrap md.house (x.rejectsAll + 1)
  if pol x.policy 54 1 ≤ x.rejected.rejects then t.hwReset md p x.rejected else t.setHw m x.rejected

/-- The end of an evaluation. -/
theorem State.Evaluated.hwRound_eq (h : s.Evaluated m md p) : s.hwRound m =
    if (s.hwOf m).better then (if bit (s.rd Reg.RAS_BELLSTAT) 2 then s else s.hwAccept md p (s.hwOf m).summed)
    else s.rejectRound m md p (s.hwOf m) := by
  have hall : (List.range (2 * (s.hwOf m).valCount)).all (fun j => (mapGet (fun _ => none) (s.hwOf m).evals j).isSome) = true :=
    List.all_eq_true.2 (fun j hj => Option.isSome_iff_ne_none.2 (h.losses j (List.mem_range.1 hj)))
  unfold State.hwRound
  simp only [h.plan]
  rw [if_neg (by simp [h.runs, h.state, h.deployed, hall])]
  rfl

/-- A new round keeps the copy in service and what counts the rounds. -/
theorem Hw.newRound_keeps (x : Hw) : x.newRound.copy = x.copy ∧ x.newRound.gen = x.gen ∧ x.newRound.accepts = x.accepts ∧
    x.newRound.rejects = x.rejects ∧ x.newRound.rejectsAll = x.rejectsAll ∧ x.newRound.epoch = x.epoch := by
  unfold Hw.newRound
  dsimp only
  split <;> exact ⟨rfl, rfl, rfl, rfl, rfl, rfl⟩

/-- An accepted candidate is in service, as the next generation. -/
theorem State.hwOf_hwAccept (s : State) (md : Model) (p : Config.HwPlan) (x : Hw) :
    ((s.hwAccept md p x).hwOf md.handle).copy = 1 - x.copy ∧ ((s.hwAccept md p x).hwOf md.handle).gen = x.gen + 1 ∧
      ((s.hwAccept md p x).hwOf md.handle).accepts = (x.accepts + 1) % 2 ^ 48 ∧ ((s.hwAccept md p x).hwOf md.handle).rejects = 0 := by
  unfold State.hwAccept
  rw [State.hwOf_congr (State.hwWrap_hw _ _ _), State.hwOf_setHw_same]
  simp only [Hw.newRound_keeps, and_self]

/-- A rejection counts, and leaves the copy in service. -/
theorem Hw.rejected_keeps (x : Hw) : x.rejected.copy = x.copy ∧ x.rejected.gen = x.gen ∧ x.rejected.rejects = x.rejects + 1 ∧
    x.rejected.rejectsAll = (x.rejectsAll + 1) % 2 ^ 48 ∧ x.rejected.epoch = x.epoch := by
  simp only [Hw.rejected, Hw.summed, Hw.newRound_keeps, and_self]

theorem State.hwOf_hwReset (s : State) (md : Model) (p : Config.HwPlan) (x : Hw) :
    (s.hwReset md p x).hwOf md.handle = { x with epoch := x.epoch + 1, epochDue := true, pendLayers := [], rejects := 0 } := by
  unfold State.hwReset
  exact State.hwOf_setHw_same _ _ _

/-- A rejection that reaches the limit is a reset of the candidate. -/
theorem State.hwOf_rejectRound (s : State) (p : Config.HwPlan) (x : Hw) (hhandle : md.handle = m) :
    (s.rejectRound m md p x).hwOf m =
      if pol x.policy 54 1 ≤ x.rejects + 1 then { x.rejected with epoch := x.epoch + 1, epochDue := true, pendLayers := [], rejects := 0 }
      else x.rejected := by
  obtain ⟨-, -, hrejects, -, hepoch⟩ := x.rejected_keeps
  subst hhandle
  unfold State.rejectRound
  rw [hrejects, ← hepoch]
  dsimp only
  split
  · exact State.hwOf_hwReset _ md p x.rejected
  · exact State.hwOf_setHw_same _ _ _

end

/-! ### Checkpoint periods (R311, R312) -/

section
variable {s : State} {m : Nat} {md : Model} {p : Config.HwPlan}

theorem State.ckptPeriod_of_off (hplan : s.hwPlan? m = some (md, p))
    (hoff : (s.hwOf m).enable = false ∨ pol (s.hwOf m).policy 52 2 = 0 ∨ (s.grant md.house).flashSize = 0) : s.ckptPeriod m = s := by
  unfold State.ckptPeriod
  simp only [hplan]
  refine if_pos ?_
  rcases hoff with henable | hperiod | hring
  · simp [henable]
  · exact .inr (.inl hperiod)
  · exact .inr (.inr (by simp [hring]))

/-- An empty ring takes what fits in it. -/
theorem reclaim_nil {used : List CkptRec} {size need : Nat} (h : need ≤ size) (n budget : Nat) :
    reclaim used size need (n + 1) budget [] = some [] := by
  unfold reclaim
  exact if_pos (by simpa using h)

/-- The first SEAL record of a House's ring. -/
def firstSeal (md : Model) (x : Hw) : CkptRec :=
  { house := md.house, seq := 0, kind := 3, layer := 0, modelId := md.modelId, epoch := x.epoch, gen := 0, payload := [] }

/-- A period of an empty ring that has nothing to write seals it. -/
theorem State.ckpts_ckptPeriod_of_nothing_due (hplan : s.hwPlan? m = some (md, p)) (henable : (s.hwOf m).enable = true)
    (hperiod : pol (s.hwOf m).policy 52 2 ≠ 0) (hring : (s.grant md.house).flashSize ≠ 0) (hempty : s.houseCkpts md.house = [])
    (hlayers : (s.hwOf m).pendLayers = []) (hreset : (s.hwOf m).epochDue = false) (hgen : (s.hwOf m).sealedGen = (s.hwOf m).gen) :
    (s.ckptPeriod m).ckpts = s.ckpts ++ [firstSeal md (s.hwOf m)] := by
  have hothers : s.ckpts.filter (fun r => decide (r.house ≠ md.house)) = s.ckpts := by
    refine List.filter_eq_self.2 (fun r hr => ?_)
    simpa using List.filter_eq_nil_iff.1 hempty r hr
  have hsize : recordSize 0 ≤ 4096 * (s.grant md.house).flashSize := by
    have hrecord : recordSize 0 = 256 := by decide
    omega
  unfold State.ckptPeriod
  simp only [hplan]
  rw [if_neg (by simp [henable, hperiod, hring])]
  simp only [hlayers, hreset, hgen, hempty, hothers, Bool.false_eq_true, if_false, if_true, List.map_nil, List.take_nil, List.nil_append,
    List.map_cons, List.sum_cons, List.sum_nil, List.length_nil, Nat.add_zero, Nat.mul_zero, reclaim_nil hsize]
  rw [List.append_nil]
  rfl

end

/-- Settles O47: a sample by whether its lines stand, a round by whether its candidate is better, a period by the one record of an empty ring. -/
theorem roundsAndCheckpointsEnd : Obligations.RoundsAndCheckpointsEnd := by
  intro s m md p hup hplan x y size last
  have hsample (motion : List Byte) : exec (.homeworkSample m motion) s = .next (s.hwSampleRun m.toNat motion) :=
    exec_of_up (f := fun s => s.hwSampleRun m.toNat motion) hup rfl
  have hround : exec (.roundEvaluate m) s = .next (s.hwRound m.toNat) := exec_of_up (f := fun s => s.hwRound m.toNat) hup rfl
  have hperiod : exec (.checkpointPeriod m) s = .next (s.ckptPeriod m.toNat) := exec_of_up (f := fun s => s.ckptPeriod m.toNat) hup rfl
  refine ⟨fun hidle motion => (hsample motion).trans (congrArg _ (State.hwSampleRun_of_idle hplan hidle)), ?waits, ?copied,
    fun hidle => hround.trans (congrArg _ (State.hwRound_of_idle hplan hidle)), ?round,
    fun hoff => hperiod.trans (congrArg _ (State.ckptPeriod_of_off hplan hoff)), ?sealed⟩
  case waits =>
    intro motion q hruns hstate hwidth hheight hq hlines hgate
    exact (hsample motion).trans (congrArg _ (State.Samples.hwSampleRun_of_waits ⟨hplan, hruns, hstate, hwidth, hheight⟩ hq hlines hgate))
  case copied =>
    intro motion q a b hruns hstate hwidth hheight hq hlines ha hb val
    have hafter := State.Samples.hwOf_hwSampleRun_of_copied (motion := motion) ⟨hplan, hruns, hstate, hwidth, hheight⟩ hq hlines ha hb
    refine ⟨_, hsample motion, ?_⟩
    rw [hafter]
    refine ⟨Hw.sampled_sample _ _ _, fun hseq => ?_, fun hseq hval hfrozen => ?_, fun hseq hval => ?_, fun hseq hval hfrozen => ?_⟩
    · rw [decide_eq_false hseq]
      rfl
    · rw [decide_eq_true hseq, decide_eq_true hval]
      exact if_pos hfrozen
    · rw [decide_eq_true hseq, decide_eq_false hval]
      rfl
    · rw [decide_eq_true hseq, decide_eq_true hval]
      exact if_neg (Bool.eq_false_iff.1 hfrozen)
  case round =>
    intro hruns hstate hdeployed hlosses good
    have heval : s.Evaluated m.toNat md p := ⟨hplan, hruns, hstate, hdeployed, hlosses⟩
    have hgood : x.better = true ↔ good := x.better_iff
    rw [hround, heval.hwRound_eq]
    refine ⟨fun hbetter hpending => ?_, fun hbetter hfree => ⟨_, rfl, ?_⟩, fun hworse hhandle => ⟨_, rfl, ?_⟩⟩
    · rw [if_pos (hgood.2 hbetter), if_pos hpending]
    · rw [if_pos (hgood.2 hbetter), if_neg (Bool.eq_false_iff.1 hfree)]
      exact State.hwOf_hwAccept s md p x.summed
    · obtain ⟨hcopy, hgen, hrejects, hrejectsAll, hepoch⟩ := x.rejected_keeps
      rw [if_neg (fun h => hworse (hgood.1 h)), State.hwOf_rejectRound s p (s.hwOf m.toNat) hhandle]
      split
      next hlimit => exact ⟨hrejectsAll, hcopy, hgen, fun _ hbelow => absurd hlimit (Nat.not_le.2 hbelow), fun _ _ => ⟨rfl, rfl⟩⟩
      next hbelow => exact ⟨hrejectsAll, hcopy, hgen, fun _ _ => ⟨hrejects, hepoch⟩, fun _ hlimit => absurd hlimit hbelow⟩
  case sealed =>
    intro henable hticks hring hempty hlayers hreset hgen
    have hckpts := State.ckpts_ckptPeriod_of_nothing_due hplan henable hticks hring hempty hlayers hreset hgen
    exact ⟨_, hperiod, firstSeal md x, (congrArg List.getLast? hckpts).trans List.getLast?_concat, rfl, rfl, rfl, hckpts⟩

end Sys2Proof.Machine
end

section
/-! PROOFS. The output ports (R350, R366 to R368): what their events leave alone, and what an underrun, the links, HDCP and self refresh do. -/
namespace Sys2Proof.Machine
open Claim

/-- The port replaced reads back. -/
@[simp] theorem State.port_setPort_same (s : State) (n : Nat) (x : Port) : (s.setPort n x).port n = x :=
  mapGet_mapSet_same (fun _ => ({} : Port)) s.ports n x

section
variable {s : State} {n : Nat}

/-! ### Underruns (R350) -/

/-- The compatibility block lies in the functions' windows: the ports, and every register below it, are as before its event. -/
theorem State.compatSet1_keeps (s : State) (r e fn : Nat) :
    (s.compatSet1 r e fn).ports = s.ports ∧ ∀ key < 0x700000, (s.compatSet1 r e fn).rd key = s.rd key := by
  have hstatus (v : Word) : ∀ key < 0x700000, (s.wr (Reg.own fn Reg.EVT_C_STATUS) v).rd key = s.rd key := fun key hkey =>
    s.rd_wr_ne v (by simp only [Reg.own, Reg.EVT_C_STATUS]; omega)
  unfold State.compatSet1
  dsimp only
  split
  · split
    · exact ⟨by simp only [State.emit, State.wr_frame], fun key hkey => (State.rd_emit _ _ key).trans (hstatus _ key hkey)⟩
    · exact ⟨by simp only [State.wr_frame], hstatus _⟩
  · exact ⟨rfl, fun _ _ => rfl⟩

theorem State.ports_compat (s : State) (r e : Nat) : (s.compat r e).ports = s.ports :=
  foldl_keeps (g := State.ports) (fun t fn => (t.compatSet1_keeps r e fn).1) _ s

theorem State.rd_compat (s : State) (r e : Nat) {key : Nat} (hkey : key < 0x700000) : (s.compat r e).rd key = s.rd key :=
  foldl_keeps (g := (State.rd · key)) (fun t fn => (t.compatSet1_keeps r e fn).2 key hkey) _ s

/-- A line whose pixels from `px` on are the background. -/
def Port.filled (x : Port) (px bg : Nat) : Port := { x with fifo := x.fifo.take px ++ List.replicate (x.fifo.length - px) bg }

/-- The pixels before an underrun are those of the line. -/
theorem Port.take_filled {x : Port} {px : Nat} (hpx : px < x.fifo.length) (bg : Nat) : (x.filled px bg).fifo.take px = x.fifo.take px := by
  rw [Port.filled, List.take_left' (List.length_take_of_le hpx.le)]

/-- The rest of the line is the background. -/
theorem Port.filled_from {x : Port} {px i : Nat} (hpx : px < x.fifo.length) (bg : Nat) (hlo : px ≤ i) (hhi : i < x.fifo.length) :
    (x.filled px bg).fifo[i]? = some bg := by
  have htaken : (x.fifo.take px).length = px := List.length_take_of_le hpx.le
  rw [Port.filled, List.getElem?_append_right (htaken.le.trans hlo), htaken, List.getElem?_replicate, if_pos (by omega)]

/-- An underrun of a port that is enabled, at a pixel of its line. -/
theorem State.underrun_of_running {px : Nat} (hon : bit (s.rd (Reg.SCOn_CTRL n)) 0 = true) (hpx : px < (s.port n).fifo.length) :
    s.underrun n px = (((s.setPort n ((s.port n).filled px (packPix (s.background (s.leader n))))).countErr (Reg.SCOn_UNDER n)).wr
      (Reg.SCOn_ULAST n) (BitVec.ofNat 32 ((s.port n).line * 65536 + px))).compat (s.leader n) 3 := by
  have hfifo : (s.port n).fifo.isEmpty = false := List.isEmpty_eq_false_iff_exists_mem.2 ⟨_, List.getElem_mem hpx⟩
  rw [State.underrun, if_neg (by simp [hon, hfifo, hpx])]
  rfl

/-- A port that is off, or whose line ends before the pixel, has no underrun. -/
theorem State.underrun_of_idle {px : Nat} (h : bit (s.rd (Reg.SCOn_CTRL n)) 0 = false ∨ (s.port n).fifo.length ≤ px) : s.underrun n px = s := by
  rw [State.underrun, if_pos]
  rcases h with h | h <;> simp [h]

/-- What an underrun counts, notes and shows. -/
theorem State.underrun_facts {px : Nat} (hn : n < 8) (hon : bit (s.rd (Reg.SCOn_CTRL n)) 0 = true) (hpx : px < (s.port n).fifo.length) :
    (s.underrun n px).rd (Reg.SCOn_UNDER n) = bumpErr (s.rd (Reg.SCOn_UNDER n)) ∧
      (s.underrun n px).rd (Reg.SCOn_ULAST n) = BitVec.ofNat 32 ((s.port n).line * 65536 + px) ∧
      (s.underrun n px).port n = (s.port n).filled px (packPix (s.background (s.leader n))) := by
  have hkeys : Reg.SCOn_UNDER n < 0x700000 ∧ Reg.SCOn_ULAST n < 0x700000 ∧ Reg.SCOn_UNDER n ≠ Reg.SCOn_ULAST n := by
    simp only [Reg.SCOn_UNDER, Reg.SCOn_ULAST]
    omega
  obtain ⟨hunder, hlast, hne⟩ := hkeys
  rw [State.underrun_of_running hon hpx]
  refine ⟨?count, ?place, ?port⟩
  case count => rw [State.rd_compat _ _ _ hunder, State.rd_wr_ne _ _ hne, State.rd_countErr_same]; rfl
  case place => rw [State.rd_compat _ _ _ hlast, State.rd_wr_same]
  case port =>
    rw [State.port, State.ports_compat]
    exact State.port_setPort_same s n _

/-! ### Links and HDCP (R366, R367) -/

/-- A port without its sink is down, and neither trains nor resumes. -/
theorem State.port_portLoss (s : State) (n : Nat) :
    ((s.portLoss n).port n).up = false ∧ ((s.portLoss n).port n).training = false ∧ ((s.portLoss n).port n).resume = false := by
  unfold State.portLoss
  dsimp only
  split
  next =>
    have hevent (t : State) : (t.portEvent n false).ports = t.ports := (congrArg State.ports (State.postAll_eventsOnly t _ _ _ _ _).frame :)
    rw [State.port, hevent, ← State.port, State.port_setPort_same]
    exact ⟨rfl, rfl, rfl⟩
  next hdown =>
    rw [State.port_setPort_same]
    exact ⟨Bool.eq_false_iff.2 hdown, rfl, rfl⟩

theorem State.portReturn_of_down (h : (s.port n).up = false) :
    s.portReturn n = (s.setPort n { s.port n with training := true }).emit (.port n "train") :=
  if_neg (Bool.eq_false_iff.1 h)

theorem State.portReturn_of_up (h : (s.port n).up = true) : s.portReturn n = s := if_pos h

theorem State.portTrained_of_training (lines : Option Nat) (h : (s.port n).training = true) :
    s.portTrained n lines = s.setPort n { s.port n with training := false, resume := true, maxLines := lines } := if_pos h

theorem State.portTrained_of_idle (lines : Option Nat) (h : (s.port n).training = false) : s.portTrained n lines = s :=
  if_neg (Bool.eq_false_iff.1 h)

theorem State.portHdcpOk_of_usable (type1 : Bool) (henable : bit (s.rd (Reg.SCOn_CTRL n)) 18 = true) (hkeys : s.hdcpUsable = true) :
    s.portHdcpOk n type1 = s.setPort n { s.port n with auth := true, type1 := type1 } :=
  if_pos (Bool.and_eq_true_iff.2 ⟨henable, hkeys⟩)

theorem State.portHdcpOk_of_not (type1 : Bool) (h : bit (s.rd (Reg.SCOn_CTRL n)) 18 = false ∨ s.hdcpUsable = false) :
    s.portHdcpOk n type1 = s :=
  if_neg (Bool.eq_false_iff.1 (Bool.and_eq_false_iff.2 h))

/-! ### Panel self refresh (R368) -/

/-- A port whose panel has been sent the same frame four times enters in vertical blanking. -/
theorem State.psrEnter_of_still (hport : s.psrPort n = true) (hblank : s.inBlank n = true) (hoff : (s.port n).psrOn = false)
    (hup : (s.port n).up = true) (hsame : 4 ≤ (s.port n).same) (htorn : (s.port n).torn = false) :
    s.psrEnter n = (s.setPort n { s.port n with psrOn := true, changed := [], changedRun := 0 }).emit (.port n "psr enter") := by
  rw [State.psrEnter, if_pos]
  simp [hport, hblank, hoff, hup, hsame, htorn]

theorem State.psrEnter_of_changing (h : (s.port n).same < 4) : s.psrEnter n = s := by
  rw [State.psrEnter, if_neg]
  simp [h]

/-- Changed blocks are sent as one update where the panel takes it; else the port leaves self refresh. -/
theorem State.psrUpdate_of_changed {lo : Nat} {rest : List Nat} (gran : Nat) (hchanged : (s.port n).changed = lo :: rest)
    (hport : s.psrPort n = true) (hblank : s.inBlank n = true) (hon : (s.port n).psrOn = true) (hrun : (s.port n).changedRun = 1) :
    s.psrUpdate n gran = if bit (s.port n).psr 1 then
        (s.setPort n { s.port n with su := some (lo, rest.getLast?.getD lo, gran) }).emit (.port n "psr selective update")
      else s.psrLeave n := by
  unfold State.psrUpdate
  simp only [hchanged]
  exact if_pos (by simp [hport, hblank, hon, hrun])

/-- Blocks that change in two frames in a row end self refresh in vertical blanking. -/
theorem State.psrExit_of_changing (hon : (s.port n).psrOn = true) (hblank : s.inBlank n = true) (hrun : 2 ≤ (s.port n).changedRun) :
    s.psrExit n = s.psrLeave n :=
  if_pos (by simp [hon, hblank, hrun])

theorem State.psrExit_of_idle (h : (s.port n).psrOn = false ∨ (s.port n).changedRun < 2) : s.psrExit n = s := by
  rw [State.psrExit, if_neg]
  rcases h with h | h <;> simp [h]

theorem State.psrOn_psrLeave (s : State) (n : Nat) : ((s.psrLeave n).port n).psrOn = false :=
  congrArg Port.psrOn (s.port_setPort_same n _)

end

/-- Settles O41: each event of a port by the state in which it acts, and by that in which it does nothing. -/
theorem portsLoseAndRegainTheirLinks : Obligations.PortsLoseAndRegainTheirLinks := by
  intro s n hup x put
  have hrow {i : Instr} {f : State → State} {t : State} (hexec : exec i s = .next (s.powered f)) (h : f s = t) : exec i s = .next t :=
    (exec_of_up hup hexec).trans (congrArg _ h)
  refine ⟨fun px hon hpx => ?underrun, fun px h => hrow rfl (State.underrun_of_idle h), ⟨_, exec_of_up hup rfl, s.port_portLoss n⟩,
    fun h => hrow rfl (State.portReturn_of_down h), fun h => hrow rfl (State.portReturn_of_up h),
    fun lines h => hrow rfl (State.portTrained_of_training lines h), fun lines h => hrow rfl (State.portTrained_of_idle lines h), hrow rfl rfl,
    fun type1 henable hkeys => hrow rfl (State.portHdcpOk_of_usable type1 henable hkeys),
    fun type1 h => hrow rfl (State.portHdcpOk_of_not type1 h),
    fun hport hblank hoff hup hsame htorn => hrow rfl (State.psrEnter_of_still hport hblank hoff hup hsame htorn),
    fun h => hrow rfl (State.psrEnter_of_changing h), fun gran lo rest hchanged hport hblank hon hrun => ?update,
    fun hon hblank hrun => ⟨hrow rfl (State.psrExit_of_changing hon hblank hrun), s.psrOn_psrLeave n⟩, fun h => hrow rfl (State.psrExit_of_idle h)⟩
  case underrun =>
    obtain ⟨hcount, hplace, hport⟩ := State.underrun_facts n.isLt hon hpx
    refine ⟨_, exec_of_up hup rfl, hcount, hplace, ?_⟩
    rw [hport]
    exact ⟨Port.take_filled hpx _, fun i hlo hhi => Port.filled_from hpx _ hlo hhi⟩
  case update =>
    have hupdate := State.psrUpdate_of_changed gran hchanged hport hblank hon hrun
    exact ⟨fun h => hrow rfl (hupdate.trans (if_pos h)), fun h => hrow rfl (hupdate.trans (if_neg (Bool.eq_false_iff.1 h)))⟩

end Sys2Proof.Machine
end

section
/-! PROOFS. Commits (R335, R336, R340, R396): what an acceptance leaves of the staged slots, and the four rows of COMMIT. -/
namespace Sys2Proof.Machine
open Claim

/-! ### Staged sets and the sequence number

An acceptance empties its slots and counts; all else that it sets off, down to the images that take over, leaves both alone. -/

/-- The staged slots, and the sequence number of the last commit that was accepted. -/
def State.staged (s : State) : Map CommitSet × Nat := (s.commitSlots, s.service.commitSeq)

theorem State.slot_eq_staged (s : State) (i : Nat) : s.slot i = mapGet (fun _ => {}) s.staged.1 i := rfl

/-- A choice between two operations. -/
theorem State.staged_ite {s t u : State} {c : Prop} [Decidable c] (ht : t.staged = s.staged) (hu : u.staged = s.staged) :
    (if c then t else u).staged = s.staged := by
  split
  · exact ht
  · exact hu

/-- States with the same slots and the same service. -/
theorem State.staged_congr {s t : State} (hslots : t.commitSlots = s.commitSlots) (hservice : t.service = s.service) : t.staged = s.staged := by
  rw [State.staged, hslots, hservice, State.staged]

section
variable (s : State)

theorem State.staged_wr (key : Nat) (v : Word) : (s.wr key v).staged = s.staged := rfl
theorem State.staged_setPipe (p : Nat) (x : Pipe) : (s.setPipe p x).staged = s.staged := rfl
theorem State.staged_setPort (n : Nat) (x : Port) : (s.setPort n x).staged = s.staged := rfl
theorem State.staged_onCore (c : Nat) (f : Core → Core) : (s.onCore c f).staged = s.staged := rfl
theorem State.staged_emit (o : Output) : (s.emit o).staged = s.staged := rfl
theorem State.staged_setFormTier (f : Nat) (x : FormTier) : (s.setFormTier f x).staged = s.staged :=
  State.staged_congr (congrArg State.commitSlots (s.setFormTier_eventsOnly f x).frame :)
    (congrArg State.service (s.setFormTier_eventsOnly f x).frame :)
theorem State.staged_setBandRec (p b : Nat) (x : BandRec) : (s.setBandRec p b x).staged = s.staged := rfl
theorem State.staged_dropJob (p b : Nat) (t : Word) : (s.dropJob p b t).staged = s.staged := rfl
theorem State.staged_takeRoute (p src : Nat) : (s.takeRoute p src).staged = s.staged := rfl
theorem State.staged_writePort (n : Nat) (ws : List Word) : (s.writePort n ws).staged = s.staged := rfl
theorem State.staged_writeMode (r : Nat) (ws : List Word) : (s.writeMode r ws).staged = s.staged := rfl
theorem State.staged_writeCanvas (r : Nat) (ws : List Word) : (s.writeCanvas r ws).staged = s.staged := rfl
theorem State.staged_writeVlayer (v : Nat) (ws : List Word) : (s.writeVlayer v ws).staged = s.staged := rfl
theorem State.staged_applyProtect (r : Nat) (t : Template) (x y : Nat) : (s.applyProtect r t x y).staged = s.staged := rfl

theorem State.staged_store (sp : Space) (a : Nat) (bs : List Byte) : (s.store sp a bs).staged = s.staged := by
  obtain ⟨e, hstore⟩ := s.store_eq sp a bs
  rw [hstore]
  cases sp <;> rfl

theorem State.staged_bankWriteFor (req h a : Nat) (bs : List Byte) : (s.bankWriteFor req h a bs).staged = s.staged :=
  State.staged_ite (State.staged_ite rfl (s.staged_store .lib a bs)) rfl

theorem State.staged_libError (unc : Bool) (a : Nat) : (s.libError unc a).staged = s.staged := by
  cases unc <;> rfl

theorem State.staged_evict (h i : Nat) : (s.evict h i).staged = s.staged := by
  have hemptied (t : State) : (t.setTag i none).staged = t.staged := rfl
  unfold State.evict
  split
  · rfl
  · exact (hemptied _).trans (State.staged_ite (State.staged_ite (s.staged_libError true _)
      (congrArg State.staged (s.dramWrite_rest h _ _) :)) rfl)

theorem State.staged_pointSlots (h : Nat) : (s.pointSlots h).staged = s.staged := 
  State.staged_congr (congrArg State.commitSlots (s.pointSlots_rest h s.shelfSlots) :) (congrArg State.service (s.pointSlots_rest h s.shelfSlots) :)

theorem State.staged_bankSet (b owner unit : Nat) (shelf zero : Bool) : (s.bankSet b owner unit shelf zero).staged = s.staged := by
  unfold State.bankSet
  extract_lets old s1 w1 w2 s2 s3
  have hflushed : s1.staged = s.staged :=
    State.staged_ite (foldl_keeps (g := State.staged) (fun t i => t.staged_evict old _) _ s) rfl
  have hpointed : s3.staged = s2.staged := State.staged_ite (s2.staged_pointSlots old) rfl
  exact (State.staged_ite (s3.staged_pointSlots owner) rfl).trans (hpointed.trans ((s1.staged_wr _ _).trans hflushed))

/-! ### A timetable that takes over -/

theorem State.staged_carryLibmap (h : Nat) (m : Model) : (s.carryLibmap h m).staged = s.staged := by
  unfold State.carryLibmap
  refine (foldl_keeps (g := State.staged) (fun t x => t.staged_bankWriteFor 1024 h _ _) _ _).trans ?_
  exact foldl_keeps (g := State.staged) (fun t x => State.staged_ite rfl (t.staged_bankSet _ h 0 _ _)) _ s

theorem State.staged_fillHandles (h t : Nat) (m : Model) : (s.fillHandles h t m).staged = s.staged :=
  foldl_keeps (g := State.staged) (fun u _ => u.staged_onCore _ _) _ s

theorem State.staged_takeForms (h : Nat) (m : Model) : (s.takeForms h m).staged = s.staged :=
  foldl_keeps (g := State.staged) (fun t _ => foldl_keeps (g := State.staged) (fun u _ => u.staged_onCore _ _) _ t) _ s

theorem State.staged_acceptSwap (h : Nat) (m : Model) (r t : Nat) : (s.acceptSwap h m r t).staged = s.staged :=
  calc (s.acceptSwap h m r t).staged
    _ = (((((s.hwReplace h m.handle).carryLibmap h m).fillShadow h m).fillHandles h t m).takeForms h m).staged := rfl
    _ = ((((s.hwReplace h m.handle).carryLibmap h m).fillShadow h m).fillHandles h t m).staged := State.staged_takeForms _ h m
    _ = (((s.hwReplace h m.handle).carryLibmap h m).fillShadow h m).staged := State.staged_fillHandles _ h t m
    _ = (s.hwReplace h m.handle).staged := State.staged_carryLibmap _ h m

theorem State.staged_liftFlr (h : Nat) : (s.liftFlr h).staged = s.staged :=
  foldl_keeps (g := State.staged) (fun t _ => State.staged_ite (t.staged_setPipe _ _) rfl) _ s

/-! ### A part that applies -/

theorem State.staged_disableRaster (r : Nat) : (s.disableRaster r).staged = s.staged := by
  have hraster (t : State) (x : RasterAux) : (t.setRaster r x).staged = t.staged := rfl
  exact (hraster _ _).trans (foldl_keeps (g := State.staged) (fun t k => t.staged_wr k _) (rasterKeys r) s)

theorem State.staged_relock (r : Nat) : (s.relock r).staged = s.staged := by
  have hregs (t : State) (x : RasterAux) : ((((t.setRaster r x).wrF (Reg.RASn_STATUS r) 7 6 3).wrF (Reg.RASn_SLEW r) 15 0 0).wr
      (Reg.RASn_STRETCH r) 0).staged = t.staged := rfl
  exact (hregs _ _).trans (foldl_keeps (g := State.staged) (fun t p => t.staged_emit (.port p "idle")) (s.groupPorts r) s)

theorem State.staged_psrOut (r : Nat) : (s.psrOut r).staged = s.staged :=
  foldl_keeps (g := State.staged) (fun t _ => t.staged_setPort _ _) _ s

theorem State.staged_setPexp (r : Nat) : (s.setPexp r).staged = s.staged :=
  State.staged_ite (foldl_keeps (g := State.staged) (fun t _ => t.staged_wr _ _) _ s) rfl

theorem State.staged_applyGl (g : Nat) : (s.applyGl g).staged = s.staged := State.staged_ite rfl rfl

theorem State.staged_endCuts (r : Nat) : (s.endCuts r).staged = s.staged := by
  refine foldl_keeps (g := State.staged) (fun t p => ?_) _ s
  split <;> rfl

theorem State.staged_lossPart (f : Nat) : (s.lossPart f).staged = s.staged := State.staged_ite rfl (s.staged_setFormTier f _)

theorem State.staged_activate (m : Model) : (s.activate m).staged = s.staged := by
  unfold State.activate
  split
  · rfl
  · extract_lets mine s1 s2 low s3
    have himages : s2.staged = s1.staged := by
      refine foldl_keeps (g := State.staged) (fun t im => ?_) _ s1
      refine (foldl_keeps (g := State.staged) (fun u x => u.staged_store .istore _ _) _ _).trans ?_
      exact foldl_keeps (g := State.staged) (fun u x => by rfl) _ t
    have hpipes : s3.staged = s2.staged := by
      refine foldl_keeps (g := State.staged) (fun t x => ?_) _ s2
      exact (State.staged_setPipe _ _ _).trans (t.staged_wr _ _)
    exact (foldl_keeps (g := State.staged) State.staged_lossPart _ s3).trans (hpipes.trans himages)

/-- The timetable of a part takes over on its raster. -/
def State.takeOver (s : State) (a : Accepted) (r : Nat) : State :=
  match a.swap with
  | some (m, q, _) =>
    if q = r then
      match s.models.find? (fun x => decide (x.handle = m)) with
      | some x => (s.activate x).endCuts r
      | none => s
    else s
  | none => s

theorem State.staged_takeOver (a : Accepted) (r : Nat) : (s.takeOver a r).staged = s.staged := by
  unfold State.takeOver
  split
  · refine State.staged_ite ?_ rfl
    split
    · exact (State.staged_endCuts _ r).trans (s.staged_activate _)
    · rfl
  · rfl

theorem State.staged_applyPart (a : Accepted) (r : Nat) : (s.applyPart a r).staged = s.staged := by
  unfold State.applyPart
  extract_lets c change encode s1 s2 s3 s4 s5 s6 s7 s8 s9 s10 s11 s12 s13 s14 acc done
  calc _
    _ = s14.staged := rfl
    _ = s13.staged := s13.staged_wr _ _
    _ = s12.staged := s12.staged_setPexp r
    _ = s11.staged := s11.staged_takeOver a r
    _ = s10.staged := foldl_keeps (g := State.staged) (fun t x => State.staged_ite (t.staged_takeRoute _ _) rfl) _ s10
    _ = s9.staged := foldl_keeps (g := State.staged) (fun t g => State.staged_ite (t.staged_applyGl g) rfl) _ s9
    _ = s8.staged := foldl_keeps (g := State.staged) (fun t x => State.staged_ite (t.staged_applyProtect r _ _ _) rfl) _ s8
    _ = s7.staged := foldl_keeps (g := State.staged) (fun t x => State.staged_ite (t.staged_writeVlayer _ _) rfl) _ s7
    _ = s6.staged := foldl_keeps (g := State.staged) (fun t x => State.staged_ite (t.staged_writeCanvas r _) rfl) _ s6
    _ = s5.staged := State.staged_ite (s5.staged_psrOut r) rfl
    _ = s4.staged := State.staged_ite (s4.staged_relock r) rfl
    _ = s3.staged := State.staged_ite (foldl_keeps (g := State.staged) (fun t n => State.staged_ite rfl (t.staged_disableRaster n)) _ s3) rfl
    _ = s2.staged := State.staged_ite (s2.staged_wr _ _) rfl
    _ = s1.staged := foldl_keeps (g := State.staged)
        (fun t x => State.staged_ite (State.staged_ite (t.staged_writeMode r _) (t.staged_disableRaster r)) rfl) _ s1
    _ = s.staged := foldl_keeps (g := State.staged) (fun t x => State.staged_ite (t.staged_writePort _ _) rfl) _ s

/-! ### A cut that takes effect -/

theorem State.staged_setSState (p b : Nat) (t : Word) (st : SState) : (s.setSState p b t st).staged = s.staged :=
  State.staged_ite (s.staged_setBandRec p b _) rfl

theorem State.staged_queueJob (p b : Nat) (t : Word) (onCall cut : Bool) : (s.queueJob p b t onCall cut).staged = s.staged := by
  unfold State.queueJob
  split
  · exact State.staged_setSState _ p b t .waiting
  · exact s.staged_setSState p b t _
  · rfl

theorem State.staged_cutPipe (m : Model) (p src : Nat) : (s.cutPipe m p src).staged = s.staged := by
  unfold State.cutPipe
  split
  · rfl
  · extract_lets x
    split
    extract_lets s1 s2 now old s3 onCall s4
    have hdropped : s3.staged = s2.staged :=
      foldl_keeps (g := State.staged) (fun t j => (State.staged_setSState _ p _ _ .none).trans (t.staged_dropJob p _ _)) _ s2
    refine (foldl_keeps (g := State.staged) (fun t i => t.staged_queueJob p _ _ onCall true) _ s4).trans ?_
    exact (s3.staged_psrOut x.raster).trans (hdropped.trans (s1.staged_wr _ _))

/-- A cut takes effect on its pipelines. -/
def State.cutRoutes (s : State) (c : CommitSet) (p : CommitPlan) : State :=
  match p.swap with
  | some (m, _, _) => c.route.foldl (fun t x => t.cutPipe m x.1 x.2) s
  | none => s

theorem State.staged_cutRoutes (c : CommitSet) (p : CommitPlan) : (s.cutRoutes c p).staged = s.staged := by
  unfold State.cutRoutes
  split
  · exact foldl_keeps (g := State.staged) (fun t x => t.staged_cutPipe _ _ _) _ s
  · rfl

/-! ### Sinks -/

/-- Only the registers of the sinks change. -/
theorem State.quietSinks_rest : { s.quietSinks with regs := s.regs } = s :=
  foldl_keeps (g := fun t : State => { t with regs := s.regs }) (fun t k => by split <;> rfl) _ s

theorem State.staged_quietSinks : s.quietSinks.staged = s.staged := (congrArg State.staged s.quietSinks_rest :)
theorem State.commitSeq_quietSinks : s.quietSinks.service.commitSeq = s.service.commitSeq := congrArg Prod.snd s.staged_quietSinks
theorem State.accepted_quietSinks : s.quietSinks.accepted = s.accepted := (congrArg State.accepted s.quietSinks_rest :)

end

/-! ### An acceptance (R335, R336) -/

/-- The rasters on which an accepted commit has a part. -/
def CommitPlan.parts (p : CommitPlan) : List Nat :=
  match p.swap with
  | some (_, r, _) => (r :: p.rasters).eraseDups
  | none => p.rasters

/-- An accepted commit, its parts due at their boundaries. -/
def State.acceptance (s : State) (h slot : Nat) (c : CommitSet) (gl : Nat) (p : CommitPlan) : Accepted :=
  { seq := (s.service.commitSeq + 1) % 65536, house := h, slot := slot, set := { c with armed := none }, gl := gl
    due := p.parts.map (fun r => (r, match p.swap with | some (_, q, t) => if q = r then t else s.boundaryFrame r | none => s.boundaryFrame r))
    entries := setEntries c, swap := p.swap.map (fun x => (x.1.handle, x.2.1, x.2.2)) }

/-- A commit is noted as accepted before any part of it applies. -/
def State.noteAccepted (s : State) (slot : Nat) (a : Accepted) (rs : List Nat) : State :=
  let s := { s with accepted := s.accepted ++ [a], commitSlots := mapSet (fun _ => {}) s.commitSlots slot {}
                    service := { s.service with commitSeq := a.seq
                                                slotDue := if s.service.slotStage.isSome then s.service.slotStage else s.service.slotDue
                                                slotStage := none } }
  (rs.foldl (fun s r => s.wrF (Reg.CMP_LASTr r) 31 16 a.seq) s).showPend

/-- The timetable of an acceptance takes over, and floors of its House end. -/
def State.acceptTimetable (s : State) (h : Nat) (p : CommitPlan) : State :=
  (match p.swap with
    | some (m, r, t) => s.acceptSwap h m r t
    | none => s).liftFlr h

section
variable (s : State) (h slot : Nat) (c : CommitSet) (gl : Nat) (p : CommitPlan)

/-- The state in which an accepted commit waits. -/
def State.awaiting : State := (s.acceptTimetable h p).noteAccepted slot (s.acceptance h slot c gl p) p.parts

/-- An acceptance: a commit without parts is done, parts of rasters that do not run apply at once. -/
theorem State.accept_eq : s.accept h slot c gl p =
    if p.parts.isEmpty then
      { s.awaiting h slot c gl p with
        accepted := (s.awaiting h slot c gl p).accepted.filter (fun b => decide (b.seq ≠ (s.service.commitSeq + 1) % 65536))
        service := { (s.awaiting h slot c gl p).service with
                     journalPend := (s.awaiting h slot c gl p).service.journalPend + setEntries c } }
    else (p.parts.filter (fun r => !(s.awaiting h slot c gl p).rasterOn r)).foldl
      (fun t r => t.applyPart (s.acceptance h slot c gl p) r) (s.awaiting h slot c gl p) := by
  rfl

theorem State.staged_acceptTimetable : (s.acceptTimetable h p).staged = s.staged := by
  refine (State.staged_liftFlr _ h).trans ?_
  split
  · exact s.staged_acceptSwap h _ _ _
  · rfl

theorem State.staged_noteAccepted (a : Accepted) (rs : List Nat) :
    (s.noteAccepted slot a rs).staged = (mapSet (fun _ => {}) s.staged.1 slot {}, a.seq) :=
  (State.staged_wr _ _ _).trans (foldl_keeps (g := State.staged) (fun t _ => t.staged_wr _ _) rs _)

/-- An acceptance empties its slot and takes the next sequence number. -/
theorem State.staged_accept :
    (s.accept h slot c gl p).staged = (mapSet (fun _ => {}) s.staged.1 slot {}, (s.service.commitSeq + 1) % 65536) := by
  have hawaiting : (s.awaiting h slot c gl p).staged = (mapSet (fun _ => {}) s.staged.1 slot {}, (s.service.commitSeq + 1) % 65536) := by
    rw [State.awaiting, State.staged_noteAccepted, State.staged_acceptTimetable]
    rfl
  rw [State.accept_eq, ← hawaiting]
  exact State.staged_ite rfl (foldl_keeps (g := State.staged) (fun t q => t.staged_applyPart _ q) _ _)

/-- A cut empties both its slots and takes the next sequence number. -/
theorem State.staged_acceptCut (slot1 slot2 : Nat) (c1 c2 : CommitSet) : (s.acceptCut h slot1 slot2 c1 c2 gl p).staged =
    (mapSet (fun _ => {}) (mapSet (fun _ => {}) s.staged.1 slot2 {}) slot1 {}, (s.service.commitSeq + 1) % 65536) := by
  have hempty (t : State) : State.staged { t with commitSlots := mapSet (fun _ => {}) t.commitSlots slot1 {} } =
      (mapSet (fun _ => {}) t.staged.1 slot1 {}, t.staged.2) := rfl
  refine (hempty ((s.accept h slot2 c2 gl p).cutRoutes c1 p)).trans ?_
  rw [State.staged_cutRoutes, State.staged_accept]

end

section
variable {s : State} {h slot : Nat} {c : CommitSet} {gl : Nat} {p : CommitPlan}

/-- Noting a commit is beside the rasters: CMP_PEND and CMP_LASTr[31:16] hold no enable bit. -/
theorem State.rasterOn_noteAccepted (a : Accepted) (rs : List Nat) (r : Nat) : (s.noteAccepted slot a rs).rasterOn r = s.rasterOn r := by
  have hlast (t : State) (q : Nat) : (t.wrF (Reg.CMP_LASTr q) 31 16 a.seq).rasterOn r = t.rasterOn r := by
    unfold State.rasterOn
    by_cases hkey : Reg.RASn_CTRL r = Reg.CMP_LASTr q
    · rw [hkey, State.rd_wrF_same, bit_setFld _ _ _ (by decide), if_neg (by decide)]
    · rw [State.rd_wrF_ne _ _ _ _ hkey]
  have hpend : Reg.RASn_CTRL r ≠ Reg.CMP_PEND := by simp only [Reg.RASn_CTRL, Reg.CMP_PEND]; omega
  unfold State.noteAccepted
  rw [State.rasterOn, State.showPend, State.rd_wr_ne _ _ hpend]
  exact foldl_keeps (g := (State.rasterOn · r)) hlast rs _

/-- The parts of a commit without a timetable wait where all its rasters run. -/
theorem State.accepted_accept_of_running (hplain : p.swap = none) (hparts : p.rasters ≠ []) (hon : ∀ r ∈ p.rasters, s.rasterOn r = true) :
    (s.accept h slot c gl p).accepted = s.accepted ++ [s.acceptance h slot c gl p] := by
  have hrasters : p.parts = p.rasters := by rw [CommitPlan.parts, hplain]
  have hlifted : s.acceptTimetable h p = s.liftFlr h := by rw [State.acceptTimetable, hplain]
  have hpipes (t : State) (q : Nat) : (if h = 0 ∨ (t.pipe q).house = h then t.setPipe q { t.pipe q with flr := false } else t).rd = t.rd := by
    split <;> rfl
  have hregs : (s.liftFlr h).rd = s.rd := foldl_keeps (g := State.rd) hpipes _ s
  have haccepted : (s.liftFlr h).accepted = s.accepted := foldl_keeps (g := State.accepted) (fun t q => by split <;> rfl) _ s
  have hnone : p.rasters.filter (fun r => !(s.awaiting h slot c gl p).rasterOn r) = [] := by
    refine List.filter_eq_nil_iff.2 (fun r hr => ?_)
    rw [State.awaiting, State.rasterOn_noteAccepted, hlifted, State.rasterOn, hregs, ← State.rasterOn, hon r hr]
    simp
  rw [State.accept_eq, hrasters, if_neg (by simpa using hparts), hnone, List.foldl_nil, State.awaiting, hlifted, State.noteAccepted]
  exact (foldl_keeps (g := State.accepted) (fun t r => by rfl) p.parts _).trans (congrArg (· ++ _) haccepted)

/-- A part waits for the first boundary at least two lines ahead of its raster. -/
theorem State.due_acceptance_of_running (hplain : p.swap = none) (hon : ∀ r ∈ p.rasters, s.rasterOn r = true) :
    (s.acceptance h slot c gl p).due =
      p.rasters.map (fun r => (r, (s.raster r).frame.toNat + if (s.raster r).line + 2 ≤ s.vactive r then 1 else 2)) := by
  have hrasters : p.parts = p.rasters := by rw [CommitPlan.parts, hplain]
  rw [State.acceptance, hrasters]
  refine List.map_congr_left (fun r hr => ?_)
  simp only [hplain, State.boundaryFrame, State.standing, hon r hr, if_true]
  split <;> rfl

end

/-! ### The rows of COMMIT (R396) -/

/-- A COMMIT record, with its word of flags. -/
def commitRecord (h : Fin 8) (src : Option (Fin 16384)) (tag : Fin 65536) (flags : Word) (i gl : Fin 256) (mask : Fin 16) (j : Fin 256) :
    DeanCmd :=
  cmd h src tag ([BitVec.ofNat 32 i, flags, BitVec.ofNat 32 gl, BitVec.ofNat 32 mask, BitVec.ofNat 32 j] ++ List.replicate 9 0)

/-- The plan of a commit, or of both sets of a cut. -/
def State.commitPlan (s : State) (h i gl : Nat) (cut : Option (Nat × Nat)) : Except CmdErr CommitPlan :=
  match cut with
  | some (mask, j) => s.checkCut h (s.slot i) mask (s.slot j) gl
  | none => s.checkCommit h (s.slot i) gl true

/-- The acceptance of a plan. -/
def State.commitPlanned (s : State) (h i gl : Nat) (cut : Option (Nat × Nat)) (p : CommitPlan) : State :=
  match cut with
  | some (_, j) => s.acceptCut h i j (s.slot i) (s.slot j) gl p
  | none => s.accept h i (s.slot i) gl p

/-- What a commit that does not clear comes to, once its issuer holds all that it names. -/
def State.commitAnswer (s : State) (h i gl : Nat) (bell : Bool) (cut : Option (Nat × Nat)) : Answer :=
  match s.commitPlan h i gl cut with
  | .error e => .fail e
  | .ok p =>
    if bell then .ok [] (s.setSlot i { s.slot i with armed := some { house := h, gl := gl, cut := cut } })
    else .ok ((s.commitPlanned h i gl cut p).commitResults p) (s.commitPlanned h i gl cut p).quietSinks

/-- Unused words at the end of a record fit it. -/
theorem argsFit.append_zeros {used : List (Nat × Nat)} {i : Nat} {ws : List Word} (h : argsFit used i ws) (n : Nat) :
    argsFit used i (ws ++ List.replicate n 0) := by
  induction ws generalizing i with
  | nil =>
    induction n generalizing i with
    | zero => trivial
    | succ n ih => exact ⟨Nat.zero_and _, ih trivial⟩
  | cons w ws ih =>
    obtain ⟨hw, hws⟩ := h
    exact ⟨hw, ih hws⟩

section
variable {s : State} {h : Fin 8} {src : Option (Fin 16384)} {tag : Fin 65536} {i j gl : Fin 256} {mask : Fin 16} {row : Instr}

/-- The House holds the layers that a commit names. -/
theorem layers_held (hlayers : ∀ g ∈ maskList gl, s.ownsLayer h g = true) : ((maskList gl).any fun g => !s.ownsLayer h g) = false := by
  simpa [List.any_eq_false] using hlayers

/-- A word that a command uses under a condition fits its record: it is 0 where it is not used. -/
theorem and_used_eq_zero {k n : Nat} {used : Bool} (hn : n ≤ 32) (hk : k < 2 ^ n) (hunused : used = false → k = 0) :
    (BitVec.ofNat 32 k).toNat &&& (0xFFFFFFFF - if used then 2 ^ n - 1 else 0) = 0 := by
  cases used
  · rw [hunused rfl]
    exact Nat.zero_and _
  · exact and_mask_eq_zero hn hk

/-- The flags BELL, CUT and CLEAR of a record, and no others. -/
abbrev CommitWord (flags : Word) (bell cut clear : Bool) : Prop :=
  bit flags 0 = bell ∧ bit flags 1 = cut ∧ bit flags 2 = clear ∧ flags.toNat &&& (0xFFFFFFFF - 7) = 0

/-- A COMMIT row of a House that holds all that its record names. -/
theorem exec_commitRecord_of_takes (ht : Takes s h src) {flags : Word} {bell cut clear : Bool} (hflags : CommitWord flags bell cut clear)
    (hrow : exec row s = .next (s.linked (fun s => s.dean (State.cmdCommit (commitRecord h src tag flags i gl mask j)))))
    (hgl : clear = true → gl.val = 0) (hplain : (cut && !clear) = false → mask.val = 0 ∧ j.val = 0)
    (hslot : s.slotOf h i = true) (hlayers : ∀ g ∈ maskList gl, s.ownsLayer h g = true)
    (hcut : (cut && !clear) = true → (∀ p < 4, Nat.testBit mask.val p = true → s.ownsPipe h p = true) ∧ s.slotOf h j = true) :
    exec row s = .next (s.answered h src tag 0x0B (if clear then .ok [] (s.setSlot i {}) else
      s.commitAnswer h i gl bell (if cut && !clear then some (mask.val, j.val) else none))) := by
  have hi : (commitRecord h src tag flags i gl mask j).f 2 7 0 = i := fld_ofNat_low (by decide) i.isLt
  have hglWord : (commitRecord h src tag flags i gl mask j).f 4 7 0 = gl := fld_ofNat_low (by decide) gl.isLt
  have hmask : (commitRecord h src tag flags i gl mask j).f 5 3 0 = mask := fld_ofNat_low (by decide) mask.isLt
  have hj : (commitRecord h src tag flags i gl mask j).f 6 7 0 = j := fld_ofNat_low (by decide) j.isLt
  have hw : (commitRecord h src tag flags i gl mask j).w 3 = flags := rfl
  have hhouse : (commitRecord h src tag flags i gl mask j).house = h := rfl
  obtain ⟨hbell, hcutBit, hclear, hrest⟩ := hflags
  unfold State.cmdCommit at hrow
  simp only [hi, hglWord, hmask, hj, hw, hbell, hcutBit, hclear, hhouse] at hrow
  refine (exec_dean_of_takes ht hrow (.inl rfl) ?tests).trans ?answer
  case tests =>
    refine unusedTests_pass h src tag (argsFit.append_zeros ?_ 9)
    refine ⟨?slot, ?flags, ?layers, ?mask, ?second, trivial⟩
    case slot => exact and_mask_eq_zero (n := 8) (by decide) i.isLt
    case flags => exact hrest
    case layers =>
      cases clear
      · exact and_mask_eq_zero (n := 8) (by decide) gl.isLt
      · exact (congrArg (fun k => (BitVec.ofNat 32 k).toNat &&& _) (hgl rfl)).trans (Nat.zero_and _)
    case mask => exact and_used_eq_zero (n := 4) (by decide) mask.isLt (fun h => (hplain h).1)
    case second => exact and_used_eq_zero (n := 8) (by decide) j.isLt (fun h => (hplain h).2)
  case answer =>
    have hpipes : (cut && !clear && (List.range 4).any fun p => Nat.testBit mask p && !s.ownsPipe h p) = false := by
      simpa [List.any_eq_false] using fun h h' => (hcut (by simp [h, h'])).1
    have hsecond : (cut && !clear && !s.slotOf h j) = false := by
      simpa using fun h h' => (hcut (by simp [h, h'])).2
    rw [hslot, layers_held hlayers, hpipes, hsecond]
    cases cut && !clear <;> rfl

/-- A COMMIT row for one slot. -/
theorem exec_commitSingle_of_takes (ht : Takes s h src) {flags : Word} {bell : Bool} (hflags : CommitWord flags bell false false)
    (hrow : exec row s = .next (s.linked (fun s => s.dean (State.cmdCommit (commitRecord h src tag flags i gl 0 0)))))
    (hslot : s.slotOf h i = true) (hlayers : ∀ g ∈ maskList gl, s.ownsLayer h g = true) :
    exec row s = .next (s.answered h src tag 0x0B (s.commitAnswer h i gl bell none)) :=
  exec_commitRecord_of_takes ht hflags hrow (fun h => absurd h (by decide)) (fun _ => ⟨rfl, rfl⟩) hslot hlayers (fun h => absurd h (by decide))

/-- A COMMIT row for both slots of a cut. -/
theorem exec_commitBoth_of_takes (ht : Takes s h src) {flags : Word} {bell : Bool} (hflags : CommitWord flags bell true false)
    (hrow : exec row s = .next (s.linked (fun s => s.dean (State.cmdCommit (commitRecord h src tag flags i gl mask j)))))
    (hslot : s.slotOf h i = true) (hlayers : ∀ g ∈ maskList gl, s.ownsLayer h g = true)
    (hpipes : ∀ p < 4, Nat.testBit mask.val p = true → s.ownsPipe h p = true) (hsecond : s.slotOf h j = true) :
    exec row s = .next (s.answered h src tag 0x0B (s.commitAnswer h i gl bell (some (mask.val, j.val)))) :=
  exec_commitRecord_of_takes ht hflags hrow (fun h => absurd h (by decide)) (fun h => absurd h (by decide)) hslot hlayers
    (fun _ => ⟨hpipes, hsecond⟩)

/-- A COMMIT row that clears its slot. -/
theorem exec_commitClear_of_takes (ht : Takes s h src) {flags : Word} (hflags : CommitWord flags false false true)
    (hrow : exec row s = .next (s.linked (fun s => s.dean (State.cmdCommit (commitRecord h src tag flags i 0 0 0)))))
    (hslot : s.slotOf h i = true) : exec row s = .next (s.answered h src tag 0x0B (.ok [] (s.setSlot i {}))) := by
  have hnone : maskList 0 = [] := by decide
  exact exec_commitRecord_of_takes ht hflags hrow (fun _ => rfl) (fun _ => ⟨rfl, rfl⟩) hslot
    (fun g hg => absurd (hnone ▸ hg) List.not_mem_nil) (fun h => absurd h (by decide))

/-! ### What the rows come to -/

variable {cut : Option (Nat × Nat)} {p : CommitPlan} {e : CmdErr}

theorem State.commitAnswer_of_error (bell : Bool) (hplan : s.commitPlan h i gl cut = .error e) : s.commitAnswer h i gl bell cut = .fail e := by
  rw [State.commitAnswer, hplan]

theorem State.commitAnswer_of_bell (hplan : s.commitPlan h i gl cut = .ok p) : s.commitAnswer h i gl true cut =
    .ok [] (s.setSlot i { s.slot i with armed := some { house := h, gl := gl, cut := cut } }) := by
  rw [State.commitAnswer, hplan]
  rfl

theorem State.commitAnswer_of_ok (hplan : s.commitPlan h i gl cut = .ok p) : s.commitAnswer h i gl false cut =
    .ok ((s.commitPlanned h i gl cut p).commitResults p) (s.commitPlanned h i gl cut p).quietSinks := by
  rw [State.commitAnswer, hplan]
  rfl

/-- An acceptance, of one set or of both sets of a cut, takes the next sequence number. -/
theorem State.commitSeq_commitPlanned (s : State) (h i gl : Nat) (cut : Option (Nat × Nat)) (p : CommitPlan) :
    (s.commitPlanned h i gl cut p).service.commitSeq = (s.service.commitSeq + 1) % 65536 := by
  rcases cut with _ | ⟨mask, j⟩
  · exact congrArg Prod.snd (s.staged_accept h i _ gl p)
  · exact congrArg Prod.snd (s.staged_acceptCut h gl p i j _ _)

/-- The slots of an acceptance are empty. -/
theorem State.slot_accept_same (s : State) (h i : Nat) (c : CommitSet) (gl : Nat) (p : CommitPlan) :
    (s.accept h i c gl p).quietSinks.slot i = {} := by
  rw [State.slot_eq_staged, State.staged_quietSinks, State.staged_accept, mapGet_mapSet_same]

theorem State.slot_acceptCut_first (s : State) (h i j : Nat) (c c' : CommitSet) (gl : Nat) (p : CommitPlan) :
    (s.acceptCut h i j c c' gl p).quietSinks.slot i = {} := by
  rw [State.slot_eq_staged, State.staged_quietSinks, State.staged_acceptCut, mapGet_mapSet_same]

theorem State.slot_acceptCut_second (s : State) (h i j : Nat) (c c' : CommitSet) (gl : Nat) (p : CommitPlan) :
    (s.acceptCut h i j c c' gl p).quietSinks.slot j = {} := by
  by_cases hj : j = i
  · rw [hj, State.slot_acceptCut_first]
  · rw [State.slot_eq_staged, State.staged_quietSinks, State.staged_acceptCut, mapGet_mapSet_ne _ _ _ hj, mapGet_mapSet_same]

end

/-- Settles O31: each row by its flags, and by what an acceptance leaves of the slots, the sequence number and the commits that wait. -/
theorem commitsAcceptArmAndClear : Obligations.CommitsAcceptArmAndClear := by
  intro s h src tag i j gl mask ht hslot hlayers w ok no seq frameT results mine
  have hcommit : exec (.commit (cmd h src tag [w i, 0, w gl])) s = .next (s.answered h src tag 0x0B (s.commitAnswer h i gl false none)) :=
    exec_commitSingle_of_takes (flags := setBit (setBit (setBit 0 0 false) 1 false) 2 false) ht (by decide) rfl hslot hlayers
  have hbell : exec (.commitBell (cmd h src tag [w i, 0, w gl])) s = .next (s.answered h src tag 0x0B (s.commitAnswer h i gl true none)) :=
    exec_commitSingle_of_takes (flags := setBit (setBit 0 0 true) 2 false) ht (by decide) rfl hslot hlayers
  have hclear : exec (.commitClear (cmd h src tag [w i])) s = ok [] (s.setSlot i {}) :=
    exec_commitClear_of_takes (flags := setBit 0 2 true) ht (by decide) rfl hslot
  have hcut (hmine : mine) (hsecond : s.slotOf h j = true) : exec (.commitCut (cmd h src tag [w i, 0, w gl, w mask, w j])) s =
      .next (s.answered h src tag 0x0B (s.commitAnswer h i gl false (some (mask.val, j.val)))) :=
    exec_commitBoth_of_takes (flags := setBit (setBit (setBit 0 0 false) 1 true) 2 false) ht (by decide) rfl hslot hlayers hmine hsecond
  have hcutBell (hmine : mine) (hsecond : s.slotOf h j = true) : exec (.commitBell (cmd h src tag [w i, 2, w gl, w mask, w j])) s =
      .next (s.answered h src tag 0x0B (s.commitAnswer h i gl true (some (mask.val, j.val)))) :=
    exec_commitBoth_of_takes (flags := setBit (setBit 2 0 true) 2 false) ht (by decide) rfl hslot hlayers hmine hsecond
  have hresults (cut : Option (Nat × Nat)) (p : CommitPlan) : (s.commitPlanned h i gl cut p).commitResults p = results p :=
    (congrArg (· :: (results p).tail) (s.commitSeq_commitPlanned h i gl cut p) :)
  rw [hcommit, hbell]
  refine ⟨fun p hok => ?accept, fun e herr => ?refuse, fun hmine hsecond p hok => ?cut, fun hmine hsecond e herr => ?refuseCut, hclear⟩
  case accept =>
    have hplan : s.commitPlan h i gl none = .ok p := hok
    rw [State.commitAnswer_of_ok hplan, State.commitAnswer_of_bell hplan, hresults]
    refine ⟨rfl, s.slot_accept_same h i _ gl p, (State.commitSeq_quietSinks _).trans (s.commitSeq_commitPlanned h i gl none p), rfl,
      fun hplain hparts hon => ⟨s.acceptance h i (s.slot i) gl p, ?waits, rfl, State.due_acceptance_of_running hplain hon⟩⟩
    case waits => exact (State.accepted_quietSinks _).trans (State.accepted_accept_of_running hplain hparts hon)
  case refuse =>
    have hplan : s.commitPlan h i gl none = .error e := herr
    rw [State.commitAnswer_of_error false hplan, State.commitAnswer_of_error true hplan]
    exact ⟨rfl, rfl⟩
  case cut =>
    have hplan : s.commitPlan h i gl (some (mask.val, j.val)) = .ok p := hok
    rw [hcut hmine hsecond, hcutBell hmine hsecond, State.commitAnswer_of_ok hplan, State.commitAnswer_of_bell hplan, hresults]
    exact ⟨rfl, s.slot_acceptCut_first h i j _ _ gl p, s.slot_acceptCut_second h i j _ _ gl p, rfl⟩
  case refuseCut =>
    have hplan : s.commitPlan h i gl (some (mask.val, j.val)) = .error e := herr
    rw [hcut hmine hsecond, State.commitAnswer_of_error false hplan]
    rfl

end Sys2Proof.Machine
end

section
/-! PROOFS. What every step keeps: the canonical form, the queue, and fuses that only move on (R433, R435, R436). -/
namespace Sys2Proof.Machine
open Claim

/-! ### Steps and commands -/

/-- A step idles, or carries out the front command on the state without it. -/
theorem step_cases {s t : State} (h : step s = .next t) :
    (s.pending = [] ∧ t = s) ∨ ∃ c rest, s.pending = c :: rest ∧ exec c { s with pending := rest } = .next t := by
  unfold step at h
  split at h
  case h_1 hnone => exact .inl ⟨hnone, (Host.Outcome.next.inj h).symm⟩
  case h_2 c rest hfront => exact .inr ⟨c, rest, hfront, h⟩

/-- What every command keeps, and does not depend on the queue, every step keeps. -/
theorem step_keeps {R : State → State → Prop} (hrefl : ∀ s, R s s) (hexec : ∀ c s t, exec c s = .next t → R s t)
    (hqueue : ∀ (s t : State) q, R { s with pending := q } t → R s t) {s t : State} (h : step s = .next t) : R s t := by
  rcases step_cases h with ⟨-, rfl⟩ | ⟨c, rest, -, hc⟩
  · exact hrefl t
  · exact hqueue s t rest (hexec c _ t hc)

/-! ### The canonical form -/

/-- Every command answers a next state, and keeps the canonical form. -/
theorem exec_wf (c : Instr) {s : State} (hwf : s.wf) : ∃ t, exec c s = .next t ∧ t.wf := by
  cases c with
  | apertureAccess fn off n write => exact ⟨_, rfl, State.powered_wf (fun s h => by cases write <;> simp [h]) hwf⟩
  | gatherFlushTimeout c i =>
    refine ⟨_, rfl, ?_⟩
    split <;> simp [hwf]
  | _ => exact ⟨_, rfl, by simp +contextual (maxDischargeDepth := 100) [hwf]⟩

/-- Settles O59: every command keeps the form, and a step that idles changes nothing. -/
theorem everyStepKeepsTheCanonicalForm : Obligations.EveryStepKeepsTheCanonicalForm := by
  intro s t hwf hstep
  refine step_keeps (R := fun s t => s.wf → t.wf) (fun _ => id) (fun c s t hexec h => ?_) (fun _ _ _ h => h) hstep hwf
  obtain ⟨u, hu, huwf⟩ := exec_wf c h
  exact Host.Outcome.next.inj (hu.symm.trans hexec) ▸ huwf

/-! ### The queue and the fuses -/

/-- The fuses of two states when a command takes the one to the other: legal fuses stay legal and move on only; the queue stays. -/
structure FusesMove (t s : State) : Prop where
  pending : t.pending = s.pending
  legal : s.fusesLegal → t.fusesLegal
  up : s.fusesLegal → fusesKept s t

/-- Fuses at rest. -/
theorem Kept.move {t s : State} (h : Kept t s) : FusesMove t s := by
  obtain ⟨hpending, hfuses, hreq⟩ := h
  refine ⟨hpending, fun hs => ?_, fun _ => ?_⟩
  · simpa only [State.fusesLegal, State.counter, hfuses, hreq] using hs
  · simp [fusesKept, State.counter, hfuses]

/-- Keys destroyed. -/
theorem KeysKept.move {t s : State} (h : KeysKept t s) : FusesMove t s := by
  obtain ⟨hpending, hreq, hlife, hroll, hup⟩ := h
  refine ⟨hpending, fun hs => ?_, fun hs => ?_⟩
  · obtain ⟨hl, hk, hc, hr⟩ := hs
    refine ⟨by rwa [hlife], (hup hk).2, by simpa only [State.counter, hroll] using hc, ?_⟩
    rwa [hreq, hlife]
  · obtain ⟨-, hk, -, -⟩ := hs
    exact ⟨hlife.ge, (hup hk).1, fun i => by simp [State.counter, hroll]⟩

theorem FusesMove.trans {u t s : State} (h : FusesMove u t) (g : FusesMove t s) : FusesMove u s := by
  refine ⟨h.pending.trans g.pending, fun hs => h.legal (g.legal hs), fun hs => ?_⟩
  obtain ⟨hlife, hkey, hcount⟩ := g.up hs
  obtain ⟨hlife', hkey', hcount'⟩ := h.up (g.legal hs)
  exact ⟨hlife.trans hlife', hkey.trans hkey', fun i => (hcount i).trans (hcount' i)⟩

/-- A rollback counter raised, to at most 63 (R433). -/
def State.raiseCounter (s : State) (i v : Nat) : State :=
  { s with fuses := { s.fuses with rollback := mapSet (fun _ => 0) s.fuses.rollback i (max (s.counter i) (min v 63)) } }

theorem State.counter_raiseCounter (s : State) (i v j : Nat) :
    (s.raiseCounter i v).counter j = if j = i then max (s.counter i) (min v 63) else s.counter j := by
  split
  case isTrue h => exact h ▸ mapGet_mapSet_same _ s.fuses.rollback j _
  case isFalse h => exact mapGet_mapSet_ne _ _ _ h

theorem State.raiseCounter_move (s : State) (i v : Nat) : FusesMove (s.raiseCounter i v) s := by
  refine ⟨rfl, fun hs => ?_, fun _ => ⟨le_rfl, le_rfl, fun j => ?_⟩⟩
  · obtain ⟨hl, hk, hc, hr⟩ := hs
    refine ⟨hl, hk, fun j => ?_, hr⟩
    have hi := hc i
    have hj := hc j
    rw [State.counter_raiseCounter]
    split <;> omega
  · rw [State.counter_raiseCounter]
    split
    case isTrue h => exact h ▸ le_max_left _ _
    case isFalse => rfl

/-- ROLLBACK_RAISE without a model raises the counter of Dvorzar. -/
theorem State.rollbackRaise_none (s : State) :
    s.rollbackRaise none = if s.rdF Reg.MBX_DEAN 3 0 = 2 then s.raiseCounter 0 (s.service.svn s.service.runB) else s := rfl

/-- ROLLBACK_RAISE for a loaded model raises the counter of its key slot. -/
theorem State.rollbackRaise_some_of_find {s : State} {h : Nat} {x : Model} (hfind : s.models.find? (fun x => decide (x.handle = h)) = some x) :
    s.rollbackRaise (some h) = if x.committed then s.raiseCounter (1 + x.key) x.svn else s := by
  simp only [State.rollbackRaise, hfind]
  rfl

theorem State.rollbackRaise_some_of_none {s : State} {h : Nat} (hfind : s.models.find? (fun x => decide (x.handle = h)) = none) :
    s.rollbackRaise (some h) = s := by
  simp only [State.rollbackRaise, hfind]

theorem State.rollbackRaise_move (s : State) (m : Option Nat) : FusesMove (s.rollbackRaise m) s := by
  have hraise (p : Prop) [Decidable p] (i v : Nat) : FusesMove (if p then s.raiseCounter i v else s) s := by
    split
    · exact s.raiseCounter_move i v
    · exact (kept_refl s).move
  cases m with
  | none => exact s.rollbackRaise_none ▸ hraise _ _ _
  | some h =>
    cases hfind : s.models.find? (fun x => decide (x.handle = h)) with
    | none =>
      rw [State.rollbackRaise_some_of_none hfind]
      exact (kept_refl s).move
    | some x =>
      rw [State.rollbackRaise_some_of_find hfind]
      exact hraise _ _ _

/-- A request joins only where Table 15.8 has the transition. -/
theorem State.lcRequest_move (s : State) (dst slots : Nat) (token : List Byte) : FusesMove (s.lcRequest dst slots token) s := by
  unfold State.lcRequest
  extract_lets from_ ok
  split
  case isFalse => exact (kept_refl s).move
  case isTrue h =>
    simp only [Bool.and_eq_true] at h
    obtain ⟨-, hok⟩ := h
    have hlater : s.fuses.life < dst ∧ dst ≤ 4 := by
      simp only [ok, from_, Bool.or_eq_true, Bool.and_eq_true, decide_eq_true_eq] at hok
      omega
    refine ⟨rfl, fun hs => ?_, fun _ => ⟨le_rfl, le_rfl, fun _ => le_rfl⟩⟩
    obtain ⟨hl, hk, hc, -⟩ := hs
    refine ⟨hl, hk, hc, fun d k hd => ?_⟩
    cases hd
    exact hlater

/-- The fuses are read: a lifecycle request takes effect, with the destruction of keys on the way to Returned (R436). -/
theorem State.bootFuses_move (s : State) : FusesMove s.bootFuses s := by
  unfold State.bootFuses
  extract_lets s1
  have hpins : FusesMove s1 s := Kept.move (by simp [s1])
  clear_value s1
  split
  case h_1 => exact hpins
  case h_2 dst slots hreq =>
    have herase : KeysKept (if dst = 4 then s1.eraseKeys else s1) s1 := by
      split
      · exact s1.eraseKeys_keys
      · exact (kept_refl s1).keys
    refine FusesMove.trans ?_ (herase.move.trans hpins)
    have hreq' := herase.lcReq.trans hreq
    generalize (if dst = 4 then s1.eraseKeys else s1) = u at hreq' ⊢
    refine ⟨rfl, fun hs => ?_, fun hs => ?_⟩
    · obtain ⟨-, hk, hc, hr⟩ := hs
      exact ⟨(hr _ _ hreq').2, hk, hc, nofun⟩
    · obtain ⟨-, -, -, hr⟩ := hs
      exact ⟨(hr _ _ hreq').1.le, le_rfl, fun _ => le_rfl⟩

theorem State.resetRelease_move (s : State) (u : StartUp) (sag : Bool) : FusesMove (s.resetRelease u sag) s := by
  unfold State.resetRelease
  extract_lets waits b
  have hboot : FusesMove b s := FusesMove.trans (State.bootFuses_move _) (Kept.move (by simp))
  clear_value b
  split
  · exact (kept_refl s).move
  · split
    · have hheld : Kept { b with service := { b.service with startHeld := some b.startKind } } b := ⟨rfl, rfl, rfl⟩
      exact hheld.move.trans hboot
    · exact FusesMove.trans (Kept.move (by simp)) hboot

theorem State.linked_move {s : State} {f : State → State} (h : ∀ s, FusesMove (f s) s) : FusesMove (s.linked f) s := by
  unfold State.linked
  split
  · exact h s
  · exact (kept_refl s).move

theorem State.powered_move {s : State} {f : State → State} (h : ∀ s, FusesMove (f s) s) : FusesMove (s.powered f) s := by
  unfold State.powered
  split
  · exact h s
  · exact (kept_refl s).move

/-- Every command answers a next state: five of them move fuses or the request for it, the others leave both alone. -/
theorem exec_move (c : Instr) (s : State) : ∃ t, exec c s = .next t ∧ FusesMove t s := by
  cases c with
  | debugSet d => exact ⟨_, rfl, State.linked_move fun s => (State.cmdDebugSet_keys d s).move⟩
  | deanSlot h n => exact ⟨_, rfl, State.linked_move fun s => (s.deanSlot_keys h n).move⟩
  | rollbackRaise m => exact ⟨_, rfl, State.powered_move fun s => s.rollbackRaise_move _⟩
  | lcReq dst slots token => exact ⟨_, rfl, s.lcRequest_move dst slots token⟩
  | resetRelease u sag => exact ⟨_, rfl, s.resetRelease_move u sag⟩
  | apertureAccess fn off n write => exact ⟨_, rfl, Kept.move (by cases write <;> simp)⟩
  | gatherFlushTimeout c i =>
    refine ⟨_, rfl, Kept.move ?_⟩
    split <;> simp
  | _ => exact ⟨_, rfl, Kept.move (by simp)⟩

/-- Settles O56: a command that moves fuses leaves the queue alone too. -/
theorem commandsLeaveTheQueue : Obligations.CommandsLeaveTheQueue := by
  intro c s
  obtain ⟨t, ht, hmove⟩ := exec_move c s
  exact ⟨t, ht, hmove.pending⟩

/-- Settles O60: by what each command does to the fuses. -/
theorem stepsKeepAndNeverUndoTheFuses : Obligations.StepsKeepAndNeverUndoTheFuses := by
  have hstep {s t : State} (h : step s = .next t) (hs : s.fusesLegal) : t.fusesLegal ∧ fusesKept s t := by
    refine step_keeps (R := fun s t => s.fusesLegal → t.fusesLegal ∧ fusesKept s t) (fun s hs => ⟨hs, (kept_refl s).move.up hs⟩)
      (fun c s t hexec hs => ?_) (fun _ _ _ h => h) h hs
    obtain ⟨u, hu, hmove⟩ := exec_move c s
    exact Host.Outcome.next.inj (hu.symm.trans hexec) ▸ ⟨hmove.legal hs, hmove.up hs⟩
  exact ⟨fun _ _ hs h => (hstep h hs).1, fun _ _ hs h => (hstep h hs).2⟩

/-! ### The queue's front, and reset -/

/-- Settles O54: the front command of a queue written out. -/
theorem stepTakesTheFrontCommand : Obligations.StepTakesTheFrontCommand := by
  intro s c
  rfl

/-- Settles O55: the opcode table spells no command. -/
theorem anEmptyQueueIdles : Obligations.AnEmptyQueueIdles := by
  intro s nbits w
  have hword : decodeTableWord nbits w = none := rfl
  refine ⟨fun hempty => ?_, hword, ?_⟩
  · simp only [step, hempty]
  · simp only [State.withFetchWord, hword]

/-- Settles O58: every table is empty, no fuse is blown and no request waits. -/
theorem resetIsCanonicalAndLegal : Obligations.ResetIsCanonicalAndLegal := by
  refine ⟨?_, ?_⟩
  · refine ⟨rfl, rfl, rfl, rfl, rfl, rfl, rfl, rfl, rfl, rfl, rfl, rfl⟩
  · exact ⟨by decide, by decide, fun _ => Nat.zero_le 63, nofun⟩
end Sys2Proof.Machine
end

section
/-! PROOFS. The Dean's rows (R371, R385 to R392): what it does not take, and records that fail. -/
namespace Sys2Proof.Machine
open Claim

/-! ### Rows of the Dean -/

/-- Every row of Table 14.4 puts its record to the Dean, under its opcode and its two permissions. -/
theorem exec_of_deanRow {j : Instr} {d : DeanCmd} {op : Nat} {only0 standby : Bool} (h : deanRow j = some (d, op, only0, standby)) :
    ∃ tests run, ∀ s, exec j s = .next (s.linked fun s => s.dean fun s => s.deanTake op only0 standby tests d run) := by
  cases j <;> cases h <;> exact ⟨_, _, fun _ => rfl⟩

section
variable {s : State} {d : DeanCmd} {op : Nat} {only0 standby : Bool} {tests : List FieldTest} {run : State → Answer}

/-- A source that is not served (R371, R398). -/
theorem deanTake_of_not_served (h : s.takesFrom d.house d.from_ = false) : s.deanTake op only0 standby tests d run = (s, false) := by
  simp [State.deanTake, h]

/-- A Dean that does not run (R385). -/
theorem deanTake_of_not_running (hrun : s.rdF Reg.MBX_DEAN 3 0 ≠ 2) (hrescue : s.rdF Reg.MBX_DEAN 3 0 ≠ 4) :
    s.deanTake op only0 standby tests d run = (s, false) := by
  simp [State.deanTake, hrun, hrescue]

/-- A record that fails on its issuer or its fields completes with that status, and has no effect (R387, R391). -/
theorem deanTake_of_err {e : CmdErr} (ht : Takes s d.house d.src)
    (herr : firstErr [plainErr (only0 && decide (d.house ≠ 0)) 3, pickErr false tests] = some e) :
    (s.deanTake op only0 standby tests d run).1 = done s d.house d.src d.tag op e.status e.word [] s := by
  obtain ⟨-, -, hdean, htakes⟩ := ht
  have hfrom : s.takesFrom d.house d.from_ = true := htakes
  have hchecks (c : Check) : firstErr [none, plainErr (only0 && decide (d.house ≠ 0)) 3, pickErr false tests, c] = some e := by
    have hmore (a b : Check) (h : firstErr [a, b] = some e) : firstErr [none, a, b, c] = some e := by
      cases a with
      | some x => exact h
      | none =>
        cases b with
        | some y => exact h
        | none => cases h
    exact hmore _ _ herr
  have hdest : (d.from_.map fun q => (s.qaux q).pair) = d.src.map fun q => (s.qaux q.val).pair := Option.map_map _ _ _
  have hruns : plainErr (decide (2 = 4 ∧ op ≠ 0x15)) 0xC = none := by simp
  simp only [State.deanTake, hfrom, hdean, hdest, Bool.not_true, Bool.false_eq_true, if_false, true_or, if_true, hruns, hchecks]
  rfl

/-- The row of such a record. -/
theorem exec_dean_of_err {j : Instr} {e : CmdErr} (ht : Takes s d.house d.src)
    (hrow : exec j s = .next (s.linked fun s => s.dean fun s => s.deanTake op only0 standby tests d run))
    (herr : firstErr [plainErr (only0 && decide (d.house ≠ 0)) 3, pickErr false tests] = some e) :
    exec j s = .next (done s d.house d.src d.tag op e.status e.word [] s) := by
  rw [hrow, State.linked_of_link ⟨ht.1, .inl ht.2.1⟩, State.dean, deanTake_of_err ht herr]

end

/-- One failing field is the one that DETAIL names. -/
theorem pickErr_of_filter_eq_singleton (block : Bool) {ts : List FieldTest} {t : FieldTest} (h : ts.filter (·.bad) = [t]) :
    pickErr block ts = some { status := t.status, detail := t.bitPos / 8, block := block } := by
  simp [pickErr, h]

/-- A word after zeros. -/
theorem getD_replicate_append_singleton (i k : Nat) (w : Word) : (List.replicate i 0 ++ [w]).getD k 0 = if k = i then w else 0 := by
  rcases lt_trichotomy k i with hk | rfl | hk
  · rw [List.getD_append _ _ _ _ (by simpa), if_neg hk.ne]
    simp [hk]
  · rw [List.getD_append_right _ _ _ _ (by simp), if_pos rfl]
    simp
  · rw [List.getD_append_right _ _ _ _ (by simpa using hk.le), if_neg hk.ne', List.length_replicate]
    exact List.getD_eq_default _ _ (by simp; omega)

theorem and_ones_eq_self (w : Word) : w.toNat &&& 0xFFFFFFFF = w.toNat := by
  rw [Nat.and_two_pow_sub_one_eq_mod _ 32, Nat.mod_eq_of_lt w.isLt]

/-- A word with a bit set is the one failing field of a record whose command uses no word and whose other words are 0. -/
theorem filter_unusedTests_of_word {d : DeanCmd} {w : Word} {i : Nat} (hres : d.res0 = 0) (hw : w ≠ 0) (hi : i < 15)
    (hword : ∀ k, d.w (k + 1) = if k = i then w else 0) :
    (unusedTests d []).filter (·.bad) = [reservedTest (i + 1) w 0xFFFFFFFF] := by
  have hpos : w.toNat ≠ 0 := fun h => hw (BitVec.eq_of_toNat_eq h)
  have hbad (k : Nat) :
      ((fun t : FieldTest => t.bad) ∘ fun k => reservedTest (k + 1) (d.w (k + 1)) (0xFFFFFFFF - usedMask [] (k + 1))) k = (k == i) := by
    by_cases hk : k = i
    · simp [reservedTest, usedMask, hword, hk, and_ones_eq_self, hpos]
    · simp [reservedTest, hword, hk]
  have hone : (List.range 15).filter (fun k => k == i) = [i] := by
    rw [List.filter_beq, List.count_eq_one_of_mem List.nodup_range (List.mem_range.2 hi)]
    rfl
  rw [unusedTests, List.filter_cons_of_neg (by simp [hres]), List.filter_map, List.filter_congr (fun k _ => hbad k), hone]
  simp [hword, usedMask]

/-- Settles O25: by the ways in which `deanTake` does not carry a record out. -/
theorem theDeanTakesAndChecksRecords : Obligations.TheDeanTakesAndChecksRecords := by
  intro s j d op only0 standby hrow
  obtain ⟨tests, run, hexec⟩ := exec_of_deanRow hrow
  refine ⟨fun hlink hserved => ?notServed, fun hlink hrun hrescue => ?notRunning, fun ht honly hhouse => ?issuer, fun h src tag ht => ?nop,
    fun h src tag w i ht hw hi => ?reserved⟩
  case notServed => rw [hexec, State.linked_of_link hlink, State.dean, deanTake_of_not_served hserved]
  case notRunning => rw [hexec, State.linked_of_link hlink, State.dean, deanTake_of_not_running hrun hrescue]
  case issuer =>
    have hother : d.house ≠ 0 := fun h => hhouse (congrArg Fin.val h)
    have herr : plainErr (only0 && decide (d.house ≠ 0)) 3 = some { status := 3 } := by simp [honly, hother, plainErr]
    exact exec_dean_of_err ht (hexec s) (by rw [herr]; rfl)
  case nop => exact exec_dean_of_takes (run := .ok []) ht rfl (.inl rfl) (unusedTests_pass h src tag (used := []) (ws := []) trivial)
  case reserved =>
    have hword (k : Nat) : (cmd h src tag (List.replicate i 0 ++ [w])).w (k + 1) = if k = i + 1 then w else 0 := by
      cases k with
      | zero => rfl
      | succ k => exact (getD_replicate_append_singleton i k w).trans (if_congr (Nat.succ_inj.symm) rfl rfl)
    have herr := pickErr_of_filter_eq_singleton false (filter_unusedTests_of_word rfl hw (Nat.succ_lt_succ hi) hword)
    refine (exec_dean_of_err (only0 := false) ht rfl (by rw [herr]; rfl)).trans ?_
    simp only [reservedTest, and_ones_eq_self, Nat.add_comm 2 i]
    rfl
end Sys2Proof.Machine
end

section
/-! PROOFS. Queues and hall passes (R398 to R402): what a queue's registers read, and the commands on both. -/
namespace Sys2Proof.Machine
open Claim

/-! ### The registers of a queue -/

/-- The four registers of a queue when it is configured or cleared: the indices read 0. -/
def State.queueRegs (s : State) (q : Nat) (base cfg : Word) : State :=
  (((s.wr (Reg.QUE_q_BASE q) base).wr (Reg.QUE_q_CFG q) cfg).wr (Reg.QUE_q_HEAD q) 0).wr (Reg.QUE_q_TAIL q) 0

section
variable (s : State) (q : Nat) (base cfg : Word)

@[simp] theorem State.rd_queueRegs_tail : (s.queueRegs q base cfg).rd (Reg.QUE_q_TAIL q) = 0 := State.rd_wr_same _ _ _

@[simp] theorem State.rd_queueRegs_head : (s.queueRegs q base cfg).rd (Reg.QUE_q_HEAD q) = 0 := by
  rw [State.queueRegs, State.rd_wr_ne _ _ (by simp [Reg.QUE_q_HEAD, Reg.QUE_q_TAIL]), State.rd_wr_same]

@[simp] theorem State.rd_queueRegs_cfg : (s.queueRegs q base cfg).rd (Reg.QUE_q_CFG q) = cfg := by
  rw [State.queueRegs, State.rd_wr_ne _ _ (by simp [Reg.QUE_q_CFG, Reg.QUE_q_TAIL]),
    State.rd_wr_ne _ _ (by simp [Reg.QUE_q_CFG, Reg.QUE_q_HEAD]), State.rd_wr_same]

@[simp] theorem State.rd_queueRegs_base : (s.queueRegs q base cfg).rd (Reg.QUE_q_BASE q) = base := by
  rw [State.queueRegs, State.rd_wr_ne _ _ (by simp [Reg.QUE_q_BASE, Reg.QUE_q_TAIL]),
    State.rd_wr_ne _ _ (by simp [Reg.QUE_q_BASE, Reg.QUE_q_HEAD]), State.rd_wr_ne _ _ (by simp [Reg.QUE_q_BASE, Reg.QUE_q_CFG]), State.rd_wr_same]

/-- Only registers change. -/
theorem State.queueRegs_rest (regs : Map Word) : { s.queueRegs q base cfg with regs := regs } = { s with regs := regs } := by
  dsimp only [State.queueRegs, State.wr]

/-- A cleared queue is disabled, and its indices read 0 (R399). -/
theorem State.queueClear_idle : (s.queueClear q).queueOn q = false ∧ (s.queueClear q).queueHead q = 0 ∧ (s.queueClear q).queueTail q = 0 := by
  have hregs (key : Nat) : (s.queueClear q).rd key = (s.queueRegs q 0 0).rd key := rfl
  simp only [State.queueOn, State.queueHead, State.queueTail, State.rdF, hregs, State.rd_queueRegs_cfg, State.rd_queueRegs_head,
    State.rd_queueRegs_tail]
  decide

/-- A queue that House 0 does not own posts nothing when it is configured (R471). -/
theorem State.queueSet_of_other {h : Nat} (hh : h ≠ 0) (addr c pair : Nat) (mask : Word) : s.queueSet h q addr c pair mask =
    { s.queueRegs q (BitVec.ofNat 32 addr) (BitVec.ofNat 32 (c + addr / 2 ^ 32 % 2 ^ 16)) with
      queueAux := mapSet (fun _ => {}) s.queueAux q { pair := pair, mask := mask } } := by
  have hzero : (decide (h = 0)) = false := decide_eq_false hh
  simp only [State.queueSet, hzero, Bool.false_and, Bool.false_eq_true, if_false]
  rfl

theorem State.rd_queueSet_of_other {h : Nat} (hh : h ≠ 0) (addr c pair : Nat) (mask : Word) (key : Nat) : (s.queueSet h q addr c pair mask).rd key =
    (s.queueRegs q (BitVec.ofNat 32 addr) (BitVec.ofNat 32 (c + addr / 2 ^ 32 % 2 ^ 16))).rd key := by
  rw [State.queueSet_of_other s q hh]
  rfl

theorem State.qaux_queueSet_of_other {h : Nat} (hh : h ≠ 0) (addr c pair : Nat) (mask : Word) :
    (s.queueSet h q addr c pair mask).qaux q = { pair := pair, mask := mask } := by
  rw [State.queueSet_of_other s q hh]
  exact mapGet_mapSet_same _ _ q _

theorem State.queueSet_rest_of_other {h : Nat} (hh : h ≠ 0) (addr c pair : Nat) (mask : Word) :
    { s.queueSet h q addr c pair mask with regs := s.regs, queueAux := s.queueAux } = s := by
  rw [State.queueSet_of_other s q hh]
  generalize BitVec.ofNat 32 addr = base
  generalize BitVec.ofNat 32 (c + addr / 2 ^ 32 % 2 ^ 16) = cfg
  exact congrArg (fun t : State => { t with queueAux := s.queueAux }) (s.queueRegs_rest q base cfg s.regs)

theorem State.queueClear_rest : { s.queueClear q with regs := s.regs, queueAux := s.queueAux } = s :=
  congrArg (fun t : State => { t with queueAux := s.queueAux }) (s.queueRegs_rest q 0 0 s.regs)

end

/-! ### QUEUE_CREATE and QUEUE_DESTROY -/

theorem toNat_word {k : Nat} (hk : k < 2 ^ 32) : (BitVec.ofNat 32 k).toNat = k := by
  rw [BitVec.toNat_ofNat, Nat.mod_eq_of_lt hk]

/-- Word 5 of a QUEUE_CREATE for an event queue in host memory, with its message enabled. -/
def eventQueueWord (log2 vec : Nat) : Word := BitVec.ofNat 32 (log2 + 2 * 16 + vec * 128 + 8192)

theorem eventQueueWord_fields {log2 vec : Nat} (hlog2 : log2 ≤ 12) (hvec : vec < 64) :
    fld (eventQueueWord log2 vec) 3 0 = log2 ∧ fld (eventQueueWord log2 vec) 5 4 = 2 ∧ bit (eventQueueWord log2 vec) 6 = false ∧
    fld (eventQueueWord log2 vec) 12 7 = vec ∧ fld (eventQueueWord log2 vec) 13 13 = 1 := by
  have hword : (eventQueueWord log2 vec).toNat = log2 + 2 * 16 + vec * 128 + 8192 := by
    rw [eventQueueWord, BitVec.toNat_ofNat, Nat.mod_eq_of_lt (by omega)]
  simp only [fld, bit, BitVec.getLsbD, hword, Nat.shiftRight_eq_div_pow, Nat.testBit_eq_decide_div_mod_eq, decide_eq_false_iff_not]
  omega

/-- QUE_q_CFG of such a queue (Table 14.12). -/
theorem eventQueueCfg_fields {log2 vec hi : Nat} (hlog2 : log2 ≤ 12) (hvec : vec < 64) (hhi : hi < 2 ^ 16) {c : Word}
    (hc : c = BitVec.ofNat 32 (2 ^ 31 + 1 * 2 ^ 30 + vec * 2 ^ 24 + 2 * 2 ^ 22 + 0 * 2 ^ 21 + log2 * 2 ^ 16 + hi)) :
    bit c 31 = true ∧ fld c 23 22 = 2 ∧ bit c 21 = false ∧ fld c 19 16 = log2 ∧ fld c 15 0 = hi := by
  have hword : c.toNat = 2 ^ 31 + 1 * 2 ^ 30 + vec * 2 ^ 24 + 2 * 2 ^ 22 + 0 * 2 ^ 21 + log2 * 2 ^ 16 + hi := by
    rw [hc, BitVec.toNat_ofNat, Nat.mod_eq_of_lt (by omega)]
  simp only [fld, bit, BitVec.getLsbD, hword, Nat.shiftRight_eq_div_pow, Nat.testBit_eq_decide_div_mod_eq, decide_eq_false_iff_not,
    decide_eq_true_eq]
  omega

section
variable {s : State} {h : Fin 8} {src : Option (Fin 16384)} {tag : Fin 65536}

/-- QUEUE_CREATE of an event queue in host memory. -/
theorem exec_queueCreate_of_takes (ht : Takes s h src) {q lo hi log2 vec : Nat} (n : Word) (hq : q < 16384) (hlo : lo < 2 ^ 32)
    (haligned : lo % 64 = 0) (hhi : hi < 2 ^ 16) (hmin : 1 ≤ log2) (hlog2 : log2 ≤ 12) (hvec : vec < 64)
    (hhouse : s.queueHouse q = some h.val) (hoff : s.queueOn q = false) :
    exec (.queueCreate (cmd h src tag [BitVec.ofNat 32 q, BitVec.ofNat 32 lo, BitVec.ofNat 32 hi, eventQueueWord log2 vec, 0, n])) s =
      .next (s.answered h src tag 0x02 (.ok [] (s.queueSet h q (lo + 2 ^ 32 * hi)
        (2 ^ 31 + 1 * 2 ^ 30 + vec * 2 ^ 24 + 2 * 2 ^ 22 + 0 * 2 ^ 21 + log2 * 2 ^ 16) 0 n))) := by
  obtain ⟨hfLog2, hfKind, hfLib, hfVec, hfIrq⟩ := eventQueueWord_fields hlog2 hvec
  generalize hd : cmd h src tag [BitVec.ofNat 32 q, BitVec.ofNat 32 lo, BitVec.ofNat 32 hi, eventQueueWord log2 vec, 0, n] = d
  have hqueue : d.f 2 13 0 = q := hd ▸ fld_ofNat_low (by decide) hq
  have hlog2' : d.f 5 3 0 = log2 := hd ▸ hfLog2
  have hkind : d.f 5 5 4 = 2 := hd ▸ hfKind
  have hlib : bit (d.w 5) 6 = false := hd ▸ hfLib
  have hvec' : d.f 5 12 7 = vec := hd ▸ hfVec
  have hirq : d.f 5 13 13 = 1 := hd ▸ hfIrq
  have hpair : d.f 6 13 0 = 0 := hd ▸ rfl
  have hmask : d.w 7 = n := hd ▸ rfl
  have hself : d.house = h := hd ▸ rfl
  have hhigh : (d.w 4).toNat = hi := hd ▸ toNat_word (by omega)
  have hlow : (d.w 3).toNat = lo := hd ▸ toNat_word hlo
  have hbit : bit (d.w 4) 31 = false := Nat.testBit_lt_two_pow (by rw [hhigh]; omega)
  have haddr : d.addr 3 = lo + 2 ^ 32 * hi := by rw [DeanCmd.addr, hlow, hhigh]
  rw [← hd]
  refine (exec_dean_of_takes ht rfl (.inl rfl) ?tests).trans (congrArg (fun x => Host.Outcome.next (s.answered h src tag 0x02 x)) ?answer)
  case tests =>
    rw [hd]
    simp only [hkind, hlog2', hlib, hbit, List.forall_mem_append, List.forall_mem_cons]
    refine ⟨⟨?unused, addrTests_pass (by omega) (hhigh.trans_lt hhi)⟩, ?lib, ?size, rfl, nofun⟩
    case unused =>
      rw [← hd]
      exact unusedTests_pass h src tag ⟨and_mask_eq_zero (n := 14) (by decide) hq, Nat.and_zero _, Nat.and_zero _,
        and_mask_eq_zero (n := 14) (by decide) (by omega), rfl, Nat.and_zero _, trivial⟩
    case lib => rfl
    case size => simp [fieldTest]; omega
  case answer =>
    rw [hd]
    have hplace : d.addr 3 % 2 ^ 48 = lo + 2 ^ 32 * hi := by omega
    simp only [hqueue, hlog2', hkind, hlib, hvec', hirq, hpair, hmask, hplace, hhouse, hoff, hself, ne_eq, not_true, decide_false]
    rfl

/-- QUEUE_DESTROY. -/
theorem exec_queueDestroy_of_takes (ht : Takes s h src) {q : Nat} (hq : q < 16384) :
    exec (.queueDestroy (cmd h src tag [BitVec.ofNat 32 q])) s = .next (s.answered h src tag 0x03
      (checked (firstErr [wordErr (decide (s.queueHouse q ≠ some h.val)) 2 3,
        wordErr (s.queueOn q && decide (s.queueKind q = 1) && !(s.pairedWith q).isEmpty) 2 6])
        (.ok [] (if s.queueOn q then (s.abortQueue h q).queueClear q else s)))) := by
  have hqueue : (cmd h src tag [BitVec.ofNat 32 q]).f 2 13 0 = q := fld_ofNat_low (by decide) hq
  refine (exec_dean_of_takes ht rfl (.inl rfl) ?tests).trans ?answer
  case tests => exact unusedTests_pass h src tag ⟨and_mask_eq_zero (n := 14) (by decide) hq, trivial⟩
  case answer =>
    rw [hqueue]
    rfl

/-! ### Hall passes -/

/-- HPASS_SET. -/
theorem exec_hpassSet_of_takes (ht : Takes s h src) {p : Nat} (n : Word) (hp : p < 8192) :
    exec (.hpassSet (cmd h src tag [BitVec.ofNat 32 p, n])) s = .next (s.answered h src tag 0x1C
      (checked (wordErr (decide (s.passHouse p ≠ some h.val)) 2 3) (.ok [] ((s.wr (Reg.HPS_p_VALUE p) n).servePass p)))) := by
  have hpass : (cmd h src tag [BitVec.ofNat 32 p, n]).f 2 12 0 = p := fld_ofNat_low (by decide) hp
  refine (exec_dean_of_takes ht rfl (.inl rfl) ?tests).trans ?answer
  case tests => exact unusedTests_pass h src tag ⟨and_mask_eq_zero (n := 13) (by decide) hp, Nat.and_zero _, trivial⟩
  case answer =>
    rw [hpass]
    rfl

/-- HPASS_WAIT. -/
theorem exec_hpassWait_of_takes (ht : Takes s h src) {p q m : Nat} (n : Word) (hp : p < 8192) (hq : q < 16384) (hm : m < 65536) :
    exec (.hpassWait (cmd h src tag [BitVec.ofNat 32 p, n, BitVec.ofNat 32 q, BitVec.ofNat 32 m])) s = .next (s.answered h src tag 0x1D
      (checked (firstErr [wordErr (decide (s.passHouse p ≠ some h.val)) 2 3, wordErr (decide (s.queueHouse q ≠ some h.val)) 4 3,
        plainErr (decide (256 ≤ s.cmdWaits h)) 4]) (.ok [] (s.join p n.toNat (.cmd h q m))))) := by
  generalize hd : cmd h src tag [BitVec.ofNat 32 p, n, BitVec.ofNat 32 q, BitVec.ofNat 32 m] = d
  have hpass : d.f 2 12 0 = p := hd ▸ fld_ofNat_low (by decide) hp
  have hqueue : d.f 4 13 0 = q := hd ▸ fld_ofNat_low (by decide) hq
  have hown : d.f 5 15 0 = m := hd ▸ fld_ofNat_low (by decide) hm
  rw [← hd]
  refine (exec_dean_of_takes ht rfl (.inl rfl) ?tests).trans ?answer
  case tests =>
    exact unusedTests_pass h src tag ⟨and_mask_eq_zero (n := 13) (by decide) hp, Nat.and_zero _, and_mask_eq_zero (n := 14) (by decide) hq,
      and_mask_eq_zero (n := 16) (by decide) hm, trivial⟩
  case answer =>
    rw [hd, hpass, hqueue, hown, ← hd]
    rfl

/-- A pass on which nothing waits serves nothing. -/
theorem State.servePass_of_no_waiter {p : Nat} (h : ∀ x ∈ s.waiters, x.pass ≠ p) : s.servePass p = s := by
  have hnone : firstWaiter p s.waiters = none := by simpa [firstWaiter] using h
  simp only [State.servePass, State.serve, hnone]

/-- A wait for more than the pass holds, behind no other wait, joins the list (R401). -/
theorem State.join_of_short {p n : Nat} (who : HpWho) (h : ∀ x ∈ s.waiters, x.pass ≠ p) (hshort : s.passVal p < n) :
    s.join p n who = { s with waiters := s.waiters ++ [{ pass := p, count := n, who := who }] } := by
  have hfirst : firstWaiter p (s.waiters ++ [{ pass := p, count := n, who := who }]) = some { pass := p, count := n, who := who } := by
    have hnone : s.waiters.find? (fun w => decide (w.pass = p)) = none := by simpa using h
    simp [firstWaiter, List.find?_append, hnone]
  have hval (ws : List HpWaiter) : State.passVal { s with waiters := ws } p = s.passVal p := rfl
  unfold State.join
  rw [if_neg (by omega)]
  simp only [State.servePass, State.serve, hfirst, hval, if_neg (Nat.not_le.2 hshort)]

end

/-- Settles O26: each command by what it answers, once its record is in order. -/
theorem queueAndHallPassCommands : Obligations.QueueAndHallPassCommands := by
  intro s h src tag q p n ht no w
  refine ⟨fun lo hi log2 vec hhouse hoff hother hlo haligned hhi hmin hlog2 hvec => ?create, fun hhouse => ?foreign, fun hhouse hon hkind => ?destroy,
    fun hhouse => ?foreignPass, fun hhouse hfree => ?set, fun m hpass hqueue hroom hfree hshort => ?wait, fun m hpass hqueue hroom hzero => ?met⟩
  case create =>
    refine ⟨s.queueSet h q (lo + 2 ^ 32 * hi) (2 ^ 31 + 1 * 2 ^ 30 + vec * 2 ^ 24 + 2 * 2 ^ 22 + 0 * 2 ^ 21 + log2 * 2 ^ 16) 0 n,
      exec_queueCreate_of_takes ht n q.isLt hlo haligned hhi hmin hlog2 hvec hhouse hoff, ?_⟩
    have hbase : (lo + 2 ^ 32 * hi) / 2 ^ 32 % 2 ^ 16 = hi := by omega
    obtain ⟨hon, hkind, hlib, hlen, hhigh⟩ := eventQueueCfg_fields hlog2 hvec hhi rfl
    have hlow : 64 * fld (BitVec.ofNat 32 (lo + 2 ^ 32 * hi)) 31 6 = lo := by
      simp only [fld, BitVec.toNat_ofNat, Nat.shiftRight_eq_div_pow]
      omega
    simp only [State.queueOn, State.queueKind, State.queueLib, State.queueLen, State.queueBase, State.queueEmpty, State.queueHead, State.queueTail,
      State.rdF, State.rd_queueSet_of_other s q hother, State.qaux_queueSet_of_other s q hother, State.rd_queueRegs_cfg, State.rd_queueRegs_head,
      State.rd_queueRegs_tail, State.rd_queueRegs_base, hbase, hlow]
    exact ⟨hon, hkind, hlib, by rw [hlen], by rw [hhigh], rfl, trivial, s.queueSet_rest_of_other q hother _ _ _ _⟩
  case foreign =>
    rw [exec_queueDestroy_of_takes ht q.isLt, decide_eq_true hhouse]
    rfl
  case destroy =>
    have hnotDone : (decide (s.queueKind q = 1)) = false := decide_eq_false (by omega)
    have habort : s.abortQueue h q = s := if_neg (by omega)
    refine ⟨s.queueClear q, ?_, ?_⟩
    · rw [exec_queueDestroy_of_takes ht q.isLt, decide_eq_false (not_not_intro hhouse), hnotDone, hon, habort]
      rfl
    · obtain ⟨hoff, hhead, htail⟩ := s.queueClear_idle q
      exact ⟨hoff, hhead, htail, s.queueClear_rest q⟩
  case foreignPass =>
    rw [exec_hpassSet_of_takes ht n p.isLt, decide_eq_true hhouse]
    rfl
  case set =>
    rw [exec_hpassSet_of_takes ht n p.isLt, decide_eq_false (not_not_intro hhouse), State.servePass_of_no_waiter (s := s.wr _ n) hfree]
    rfl
  case wait =>
    rw [exec_hpassWait_of_takes ht n p.isLt q.isLt m.isLt, decide_eq_false (not_not_intro hpass), decide_eq_false (not_not_intro hqueue),
      decide_eq_false (Nat.not_le.2 hroom), State.join_of_short _ hfree hshort]
    rfl
  case met =>
    rw [exec_hpassWait_of_takes ht n p.isLt q.isLt m.isLt, decide_eq_false (not_not_intro hpass), decide_eq_false (not_not_intro hqueue),
      decide_eq_false (Nat.not_le.2 hroom), hzero]
    rfl

end Sys2Proof.Machine
end

section
/-! PROOFS. Doorbells (R397, R399, R400, R412): the offsets that ring them, and what they change. -/
namespace Sys2Proof.Machine
open Claim

/-! ### Where the doorbells lie, and who reaches them -/

/-- An offset of a window has its index. -/
theorem window_eq_some {base size n i k : Nat} (hi : i < n) (hk : k < size) : window base size n (base + size * i + k) = some i := by
  have hmul : size * i + size ≤ size * n := Nat.mul_succ size i ▸ Nat.mul_le_mul_left size hi
  have hoff : base + size * i + k - base = size * i + k := by omega
  rw [window, if_pos (by omega), hoff, Nat.mul_add_div (by omega), Nat.div_eq_of_lt hk, Nat.add_zero]

/-- The row of an offset exists where some row holds it. -/
theorem regRow?_of_holds {r : RegRow} {off : Nat} (hmem : r ∈ regTable) (h : r.holds off = true) : ∃ r', regRow? off = some r' :=
  Option.isSome_iff_exists.mp (List.find?_isSome.mpr ⟨r, hmem, h⟩)

section
variable (s : State) (fn : Nat)

/-- Every function with a grant sees its mailbox (R371). -/
theorem State.sees_mailbox : s.sees fn Reg.MBX_DOORBELL = s.granted fn := by
  simp [State.sees, openToAll, Reg.MBX_DOORBELL]

/-- Every function with a grant sees its compatibility block (R413). -/
theorem State.sees_compat : s.sees fn Reg.EVT_C_MASK = s.granted fn := by
  simp [State.sees, openToAll, Reg.EVT_C_MASK, State.seesSync]

/-- A function sees the queues of its House; function 0 sees all of them (R413). -/
theorem State.sees_queue {q k : Nat} (hq : q < 16384) (hk : k < 16) :
    s.sees fn (0x500000 + 16 * q + k) = (s.granted fn && (decide (fn = 0) || decide (s.queueHouse q = some fn))) := by
  have hopen : openToAll (0x500000 + 16 * q + k) = false := by simp [openToAll]; omega
  have hsync : s.seesSync fn (0x500000 + 16 * q + k) = (decide (fn = 0) || decide (s.queueHouse q = some fn)) := by
    have hother : ∀ a ∈ [Reg.QUE_CAPS, Reg.HPS_CAPS, Reg.EVT_CAPS], 0x500000 + 16 * q + k ≠ a := by
      simp [Reg.QUE_CAPS, Reg.HPS_CAPS, Reg.EVT_CAPS]; omega
    simp only [List.forall_mem_cons] at hother
    obtain ⟨hque, hhps, hevt, -⟩ := hother
    have hcompat : decide (0x700800 ≤ 0x500000 + 16 * q + k) = false := by simp; omega
    simp only [State.seesSync, inWindow, window_eq_some hq hk, window_eq_none (base := 0x540010) (size := 4) (n := 8) (off := 0x500000 + 16 * q + k) (by omega),
      window_eq_none (base := 0x600000) (size := 16) (n := 8192) (off := 0x500000 + 16 * q + k) (by omega),
      window_eq_none (base := 0x620010) (size := 4) (n := 8) (off := 0x500000 + 16 * q + k) (by omega),
      window_eq_none (base := 0x700010) (size := 4) (n := 8) (off := 0x500000 + 16 * q + k) (by omega),
      window_eq_none (base := 0x700040) (size := 4) (n := 8) (off := 0x500000 + 16 * q + k) (by omega), hque, hhps, hevt, hcompat,
      decide_false, Bool.or_false, Bool.false_and]
  have hblock : ¬ 0x500000 + 16 * q + k < 0x10000 ∧ ¬ 0x500000 + 16 * q + k < 0x100000 ∧ ¬ 0x500000 + 16 * q + k < 0x200000 ∧
      ¬ 0x500000 + 16 * q + k < 0x400000 ∧ ¬ 0x500000 + 16 * q + k < 0x500000 ∧ 0x500000 + 16 * q + k < 0x800000 := by omega
  obtain ⟨h0, h1, h2, h3, h4, h5⟩ := hblock
  simp only [State.sees, hopen, if_neg h0, if_neg h1, if_neg h2, if_neg h3, if_neg h4, if_pos h5, hsync, Bool.false_or]

/-- A write to a register outside the windows of queues, passes, engines and graphics layers. -/
theorem State.regWrite_plain {off : Nat} {r : RegRow} (v : Word) (hrow : regRow? off = some r) (hoff : off < 0x200400 ∨ 0x200600 ≤ off)
    (hwindows : off < 0x500000 ∨ 0x700000 ≤ off ∧ off < 0x900000) : s.regWrite fn off v =
      if 0x10000 ≤ off ∧ off < 0x10040 then (if s.mbxBusy fn then s.mbxLost fn else s.codeWrite (keyFor fn off) r v false)
      else if off = Reg.MBX_DOORBELL then s.mbxDoorbell fn (bit v 0)
      else if off = Reg.EVT_C_MASK then s.evtMask fn v
      else if off = Reg.VIN_HF_TAIL then (if s.hfHouse = some fn then s.hfTailWrite (fld v 7 0) else s)
      else if off = Reg.VIN_HF_CTRL then (if s.hfHouse = some fn then s.hfCtrlWrite fn (bit v 0) else s)
      else if off = Reg.VIN_HF_BASE_LO ∨ off = Reg.VIN_HF_BASE_HI ∨ off = Reg.VIN_HF_SIZE then
        (if s.hfOn || decide (s.hfHouse ≠ some fn) then s else s.codeWrite (keyFor fn off) r v false)
      else if off = Reg.PWR_REQ then s.pwrReq (fld v 1 0)
      else s.codeWrite (keyFor fn off) r v false := by
  simp only [State.regWrite, hrow, window_eq_none (base := 0x500000) (size := 16) (n := 16384) (off := off) (by omega),
    window_eq_none (base := 0x600000) (size := 16) (n := 8192) (off := off) (by omega),
    window_eq_none (base := 0x901000) (size := 0x40) (n := 96) (off := off) (by omega),
    window_eq_none (base := 0x200400) (size := 0x40) (n := 8) (off := off) (by omega)]

/-- A write to a mailbox's doorbell. -/
theorem State.regWrite_mailbox (v : Word) : s.regWrite fn Reg.MBX_DOORBELL v = s.mbxDoorbell fn (bit v 0) := by
  obtain ⟨r, hrow⟩ := regRow?_of_holds (r := ⟨"MBX_DOORBELL", 0x10080, 1, 4, 0, 0, 0, 0, 0, false⟩) (off := Reg.MBX_DOORBELL) (by decide) (by decide)
  rw [State.regWrite_plain s fn v hrow (by decide) (by decide), if_neg (by decide), if_pos rfl]

/-- A write to the compatibility mask. -/
theorem State.regWrite_compat (v : Word) : s.regWrite fn Reg.EVT_C_MASK v = s.evtMask fn v := by
  obtain ⟨r, hrow⟩ := regRow?_of_holds (r := ⟨"EVT_C_MASK", 0x700804, 1, 4, 0, 0xffffffff, 0, 0, 0, false⟩) (off := Reg.EVT_C_MASK) (by decide)
    (by decide)
  rw [State.regWrite_plain s fn v hrow (by decide) (by decide), if_neg (by decide), if_neg (by decide), if_pos rfl]

/-- A write to a register of a queue. -/
theorem State.regWrite_queue {off q : Nat} {r : RegRow} (v : Word) (hrow : regRow? off = some r) (hq : window 0x500000 16 16384 off = some q) :
    s.regWrite fn off v = if off % 16 = 8 then s.queHead q v else if off % 16 = 12 then s.queTail q v else s := by
  simp only [State.regWrite, hrow, hq]

/-- A write to HEAD of a queue. -/
theorem State.regWrite_queueHead {q : Nat} (hq : q < 16384) (v : Word) : s.regWrite fn (Reg.QUE_q_HEAD q) v = s.queHead q v := by
  have hholds : RegRow.holds ⟨"QUE_q_HEAD", 0x500008, 16384, 0x10, 0, 0xfff, 0x10000, 0, 0, false⟩ (Reg.QUE_q_HEAD q) = true := by
    generalize hoff : Reg.QUE_q_HEAD q = off
    rw [Reg.QUE_q_HEAD] at hoff
    simp only [RegRow.holds, Bool.and_eq_true, decide_eq_true_eq]
    omega
  obtain ⟨r, hrow⟩ := regRow?_of_holds (by decide) hholds
  have hoff : Reg.QUE_q_HEAD q = 0x500000 + 16 * q + 8 := by rw [Reg.QUE_q_HEAD]; omega
  have hwindow : window 0x500000 16 16384 (Reg.QUE_q_HEAD q) = some q := hoff ▸ window_eq_some hq (by decide)
  rw [State.regWrite_queue s fn v hrow hwindow, if_pos (by omega)]

/-- A write to TAIL of a queue. -/
theorem State.regWrite_queueTail {q : Nat} (hq : q < 16384) (v : Word) : s.regWrite fn (Reg.QUE_q_TAIL q) v = s.queTail q v := by
  have hholds : RegRow.holds ⟨"QUE_q_TAIL", 0x50000c, 16384, 0x10, 0, 0xfff, 0xffff0000, 0, 0, false⟩ (Reg.QUE_q_TAIL q) = true := by
    generalize hoff : Reg.QUE_q_TAIL q = off
    rw [Reg.QUE_q_TAIL] at hoff
    simp only [RegRow.holds, Bool.and_eq_true, decide_eq_true_eq]
    omega
  obtain ⟨r, hrow⟩ := regRow?_of_holds (by decide) hholds
  have hoff : Reg.QUE_q_TAIL q = 0x500000 + 16 * q + 12 := by rw [Reg.QUE_q_TAIL]; omega
  have hwindow : window 0x500000 16 16384 (Reg.QUE_q_TAIL q) = some q := hoff ▸ window_eq_some hq (by decide)
  rw [State.regWrite_queue s fn v hrow hwindow, if_neg (by omega), if_pos (by omega)]

/-- A function to which a queue is open: function 0, or that of the queue's House. -/
def State.queueOpen (q : Nat) : Prop := fn = 0 ∨ (s.granted fn = true ∧ s.queueHouse q = some fn)

theorem State.sees_of_queueOpen {q k : Nat} (hq : q < 16384) (hk : k < 16) (h : s.queueOpen fn q) : s.sees fn (0x500000 + 16 * q + k) = true := by
  rw [State.sees_queue s fn hq hk]
  rcases h with rfl | ⟨hgranted, hhouse⟩
  · rfl
  · simp [hgranted, hhouse]

end

/-! ### The doorbell rows -/

section
variable {s : State} {fn : Fin 8}

theorem exec_mbxDoorbell_of_granted (hlink : Link s) (hgranted : s.granted fn = true) (go : Bool) :
    exec (.mbxDoorbell fn go) s = .next (s.mbxDoorbell fn go) := by
  have hgo : bit (BitVec.ofNat 32 go.toNat) 0 = go := by cases go <;> rfl
  refine congrArg _ ((State.linked_of_link hlink _).trans ?_)
  rw [State.write32, if_pos (by decide), State.sees_mailbox, if_pos hgranted, State.regWrite_mailbox, hgo]

/-- Whether or not the function has a grant, its mailbox changes through its doorbell alone. -/
theorem exec_mbxDoorbell_of_not_granted (hlink : Link s) (hgranted : s.granted fn = false) (go : Bool) : exec (.mbxDoorbell fn go) s = .next s := by
  refine congrArg _ ((State.linked_of_link hlink _).trans ?_)
  rw [State.write32, if_pos (by decide), State.sees_mailbox, hgranted]
  rfl

theorem exec_evtCMask_of_granted (hlink : Link s) (hgranted : s.granted fn = true) (v : Word) :
    exec (.evtCMask fn v) s = .next (s.evtMask fn v) := by
  refine congrArg _ ((State.linked_of_link hlink _).trans ?_)
  rw [State.write32, if_pos (by decide), State.sees_compat, if_pos hgranted, State.regWrite_compat]

theorem exec_queTail_of_open (hlink : Link s) {q : Fin 16384} (hopen : s.queueOpen fn q) (v : Word) :
    exec (.queTail fn q v) s = .next (s.queTail q v) := by
  have hoff : Reg.QUE_q_TAIL q = 0x500000 + 16 * q + 12 := by rw [Reg.QUE_q_TAIL]; omega
  have hsees : s.sees fn (Reg.QUE_q_TAIL q) = true := hoff ▸ s.sees_of_queueOpen fn q.isLt (by decide) hopen
  refine congrArg _ ((State.linked_of_link hlink _).trans ?_)
  rw [State.write32, if_pos (by omega), if_pos hsees, State.regWrite_queueTail s fn q.isLt]

theorem exec_queHead_of_open (hlink : Link s) {q : Fin 16384} (hopen : s.queueOpen fn q) (v : Word) :
    exec (.queHead fn q v) s = .next (s.queHead q v) := by
  have hoff : Reg.QUE_q_HEAD q = 0x500000 + 16 * q + 8 := by rw [Reg.QUE_q_HEAD]; omega
  have hsees : s.sees fn (Reg.QUE_q_HEAD q) = true := hoff ▸ s.sees_of_queueOpen fn q.isLt (by decide) hopen
  refine congrArg _ ((State.linked_of_link hlink _).trans ?_)
  rw [State.write32, if_pos (by omega), if_pos hsees, State.regWrite_queueHead s fn q.isLt]

end

/-! ### What the doorbells do -/

/-- A register written with the word that it holds. -/
theorem State.rd_wr_self (s : State) {key : Nat} {v : Word} (h : v = s.rd key) (q : Nat) : (s.wr key v).rd q = s.rd q := by
  by_cases hq : q = key
  · rw [hq, State.rd_wr_same, h]
  · exact State.rd_wr_ne s v hq

/-- A word below a mask's bits loses none of another's to it. -/
theorem and_not_of_lt {n : Nat} (old : Word) {v m : Word} (hv : v.toNat < 2 ^ n) (hm : ∀ i, i < n → bit m i = false) : old &&& ~~~(v &&& m) = old := by
  have hnone : v &&& m = 0#32 := by
    refine BitVec.eq_of_getLsbD_eq fun i _ => ?_
    rw [BitVec.getLsbD_and, BitVec.getLsbD_zero]
    by_cases hi : i < n
    · rw [show m.getLsbD i = false from hm i hi, Bool.and_false]
    · rw [BitVec.getLsbD, Nat.testBit_lt_two_pow (hv.trans_le (Nat.pow_le_pow_right (by decide) (by omega))), Bool.false_and]
  rw [hnone, BitVec.not_zero, BitVec.and_allOnes]

theorem fld_low_of_lt {v : Word} {hi : Nat} (hv : v.toNat < 2 ^ (hi + 1)) : fld v hi 0 = v.toNat := by
  rw [fld, Nat.shiftRight_zero, Nat.sub_zero, Nat.mod_eq_of_lt hv]

theorem State.queueHead_wrF_head (s : State) {q n : Nat} (h : n < 4096) : (s.wrF (Reg.QUE_q_HEAD q) 11 0 n).queueHead q = n := by
  rw [State.queueHead, State.rdF_wrF_same _ _ _ (by decide)]
  exact Nat.mod_eq_of_lt h

section
variable {s : State} {q : Nat} {v : Word}

/-- TAIL of an enabled command queue: it moves, or the ring would overfill (R399). -/
theorem State.queTail_of_command (hkind : s.queueKind q = 0) (hon : s.queueOn q = true) (hv : v.toNat < 4096) {n : Nat} (hn : s.queueLen q = n) :
    s.queTail q v =
      if n ≤ v.toNat ∨ n ≤ (s.queueTail q + n - s.queueHead q) % n + (v.toNat + n - s.queueTail q) % n then
        (s.wr (Reg.QUE_q_TAIL q) (s.rd (Reg.QUE_q_TAIL q))).wrF (Reg.QUE_q_HEAD q) 16 16 1
      else (s.wr (Reg.QUE_q_TAIL q) (s.rd (Reg.QUE_q_TAIL q))).wrF (Reg.QUE_q_TAIL q) 11 0 v.toNat := by
  have hold : s.rd (Reg.QUE_q_TAIL q) &&& ~~~(v &&& 0xFFFF0000#32) = s.rd (Reg.QUE_q_TAIL q) := and_not_of_lt (n := 12) _ hv (by decide)
  simp only [State.queTail, hold]
  have hsame := State.rd_wr_self s (key := Reg.QUE_q_TAIL q) rfl
  generalize s.wr (Reg.QUE_q_TAIL q) (s.rd (Reg.QUE_q_TAIL q)) = u at hsame ⊢
  simp only [State.queueKind, State.queueOn, State.queueLen, State.queueTail, State.queueHead, State.rdF] at hkind hon hn ⊢
  simp only [hsame, hkind, hon, hn, fld_low_of_lt (hi := 11) hv, ne_eq, not_true, Bool.not_true, Bool.false_eq_true, or_self, if_false]
  exact if_congr Iff.rfl rfl rfl

/-- HEAD of an enabled completion or event queue moves, and the records that it leaves send the message (R400). -/
theorem State.queHead_of_device (hq : q < 16384) (hkind : s.queueKind q ≠ 0) (hon : s.queueOn q = true) (hv : v.toNat < 4096) :
    s.queHead q v = (s.queueHouse q).elim ((s.wr (Reg.QUE_q_HEAD q) (s.rd (Reg.QUE_q_HEAD q))).wrF (Reg.QUE_q_HEAD q) 11 0 v.toNat) fun h =>
      if v.toNat = s.queueTail q then (s.wr (Reg.QUE_q_HEAD q) (s.rd (Reg.QUE_q_HEAD q))).wrF (Reg.QUE_q_HEAD q) 11 0 v.toNat
      else ((s.wr (Reg.QUE_q_HEAD q) (s.rd (Reg.QUE_q_HEAD q))).wrF (Reg.QUE_q_HEAD q) 11 0 v.toNat).queueMsg h q := by
  have hold : s.rd (Reg.QUE_q_HEAD q) &&& ~~~(v &&& 0x10000#32) = s.rd (Reg.QUE_q_HEAD q) := and_not_of_lt (n := 12) _ hv (by decide)
  simp only [State.queHead, hold]
  have hsame := State.rd_wr_self s (key := Reg.QUE_q_HEAD q) rfl
  generalize s.wr (Reg.QUE_q_HEAD q) (s.rd (Reg.QUE_q_HEAD q)) = u at hsame ⊢
  have hkind' : u.queueKind q = s.queueKind q := congrArg (fld · 23 22) (hsame _)
  have hon' : u.queueOn q = true := (congrArg (bit · 31) (hsame _)).trans hon
  rw [if_neg (by simp [hkind', hkind, hon']), fld_low_of_lt (hi := 11) hv]
  have hhouse : (u.wrF (Reg.QUE_q_HEAD q) 11 0 v.toNat).queueHouse q = s.queueHouse q := by
    have hrange (h : Nat) : (u.wrF (Reg.QUE_q_HEAD q) 11 0 v.toNat).rd (Reg.QUE_HRANGEh h) = s.rd (Reg.QUE_HRANGEh h) := by
      rw [State.rd_wrF_ne _ _ _ _ (by simp only [Reg.QUE_HRANGEh, Reg.QUE_q_HEAD]; omega), hsame]
    simp only [State.queueHouse, hrange]
  have hempty : (u.wrF (Reg.QUE_q_HEAD q) 11 0 v.toNat).queueEmpty q = decide (v.toNat = s.queueTail q) := by
    have hhead : (u.wrF (Reg.QUE_q_HEAD q) 11 0 v.toNat).queueHead q = v.toNat := u.queueHead_wrF_head hv
    have htail : (u.wrF (Reg.QUE_q_HEAD q) 11 0 v.toNat).queueTail q = s.queueTail q :=
      congrArg (fld · 11 0) ((State.rd_wrF_ne _ _ _ _ (by simp [Reg.QUE_q_HEAD, Reg.QUE_q_TAIL])).trans (hsame _))
    rw [State.queueEmpty, hhead, htail]
  rw [hhouse, hempty]
  cases s.queueHouse q with
  | none => rfl
  | some h => simp only [Option.elim_some, decide_eq_true_eq]

end

/-- The mask of the compatibility block, written (R412). -/
theorem State.evtMask_eq (s : State) (fn : Nat) (v : Word) : s.evtMask fn v =
    if v &&& ~~~(s.rd (Reg.own fn Reg.EVT_C_MASK)) &&& s.rd (Reg.own fn Reg.EVT_C_STATUS) ≠ 0 ∧ bit (s.rd (Reg.own fn Reg.EVT_C_IRQ)) 6 then
      (s.wr (Reg.own fn Reg.EVT_C_MASK) v).emit (.msix fn (fld (s.rd (Reg.own fn Reg.EVT_C_IRQ)) 5 0))
    else s.wr (Reg.own fn Reg.EVT_C_MASK) v := by
  have hstatus : Reg.own fn Reg.EVT_C_STATUS ≠ Reg.own fn Reg.EVT_C_MASK := by simp [Reg.own, Reg.EVT_C_STATUS, Reg.EVT_C_MASK]
  have hirq : Reg.own fn Reg.EVT_C_IRQ ≠ Reg.own fn Reg.EVT_C_MASK := by simp [Reg.own, Reg.EVT_C_IRQ, Reg.EVT_C_MASK]
  simp only [State.evtMask, State.rd_wr_ne _ _ hstatus, State.rd_wr_ne _ _ hirq]

/-- A register written beside something sent out. -/
theorem wr_emit_reads (s : State) (key : Nat) (v : Word) (o : Output) :
    ((s.wr key v).emit o).rd key = v ∧ ((s.wr key v).emit o).out = o :: s.out ∧ { (s.wr key v).emit o with regs := s.regs, out := s.out } = s := by
  have hemit : ((s.wr key v).emit o).rd key = (s.wr key v).rd key := rfl
  exact ⟨by rw [hemit, State.rd_wr_same], rfl, by dsimp only [State.emit, State.wr]⟩

/-- A register written again with its word, and then another with a field: the second alone changes. -/
theorem setsRegs_of_wr_wrF {j : Instr} {s : State} {k key hi lo v : Nat} (h : exec j s = .next ((s.wr k (s.rd k)).wrF key hi lo v)) :
    SetsRegs j s [(key, setFld (s.rd key) hi lo v)] := by
  have hsame := State.rd_wr_self s (key := k) rfl
  refine ⟨_, h, rfl, ?_, fun q hq => ?_⟩
  · simp only [List.forall_mem_singleton, State.rd_wrF_same, hsame]
  · have hne : q ≠ key := (hq _ (List.mem_singleton_self _)).symm
    rw [State.rd_wrF_ne _ _ _ _ hne, hsame]

/-- Settles O18: each row reaches its doorbell, whose change is a write of one register, with a message beside two of them. -/
theorem doorbellsMoveMailboxesAndQueues : Obligations.DoorbellsMoveMailboxesAndQueues := by
  intro s fn q v hlink st qs n
  refine ⟨fun hgranted hbusy => ?go, fun hbusy => ?idle, fun go hgranted hbusy => ?lost, fun hopen hkind hon hv hn hroom => ?tail,
    fun hopen hkind hon hv hn hfull => ?overfull, fun hopen hkind hon hv hlast => ?head, fun h hopen hkind hon hv hmore hhouse hirq => ?message,
    fun hgranted hmasked => ?mask, fun hgranted hunmasked hirq => ?unmask⟩
  case go =>
    refine setsRegs_of_wr ((exec_mbxDoorbell_of_granted hlink hgranted true).trans ?_)
    rw [State.mbxDoorbell, hbusy]
    rfl
  case idle =>
    cases hgranted : s.granted fn with
    | false => exact exec_mbxDoorbell_of_not_granted hlink hgranted false
    | true =>
      rw [exec_mbxDoorbell_of_granted hlink hgranted, State.mbxDoorbell, hbusy]
      rfl
  case lost =>
    refine setsRegs_of_wr ((exec_mbxDoorbell_of_granted hlink hgranted go).trans ?_)
    rw [State.mbxDoorbell, hbusy]
    rfl
  case tail =>
    apply setsRegs_of_wr_wrF (k := Reg.QUE_q_TAIL q)
    rw [exec_queTail_of_open hlink hopen, State.queTail_of_command hkind hon (hv.trans_le hn) rfl, if_neg (not_or.2 ⟨Nat.not_le.2 hv, Nat.not_le.2 hroom⟩)]
  case overfull =>
    apply setsRegs_of_wr_wrF (k := Reg.QUE_q_TAIL q)
    rw [exec_queTail_of_open hlink hopen, State.queTail_of_command hkind hon (hv.trans_le hn) rfl, if_pos (.inr hfull)]
    rfl
  case head =>
    apply setsRegs_of_wr_wrF (k := Reg.QUE_q_HEAD q)
    rw [exec_queHead_of_open hlink hopen, State.queHead_of_device q.isLt hkind hon hv]
    cases s.queueHouse q with
    | none => rfl
    | some h => simp only [Option.elim_some, if_pos hlast]
  case message =>
    refine ⟨_, exec_queHead_of_open hlink hopen v, ?_⟩
    rw [State.queHead_of_device q.isLt hkind hon hv, hhouse, Option.elim_some, if_neg hmore]
    have hsame := State.rd_wr_self s (key := Reg.QUE_q_HEAD q) rfl
    have hcfg : ((s.wr (Reg.QUE_q_HEAD q) (s.rd (Reg.QUE_q_HEAD q))).wrF (Reg.QUE_q_HEAD q) 11 0 v.toNat).rd (Reg.QUE_q_CFG q) =
        s.rd (Reg.QUE_q_CFG q) := by
      rw [State.rd_wrF_ne _ _ _ _ (by simp [Reg.QUE_q_CFG, Reg.QUE_q_HEAD]), hsame]
    rw [State.queueMsg, State.rdF, hcfg, if_pos hirq]
    have hemit (u : State) (o : Output) : (u.emit o).queueHead q = u.queueHead q := rfl
    refine ⟨?_, ?_, by dsimp only [State.emit, State.wrF, State.wr]⟩
    · rw [hemit, State.queueHead_wrF_head _ hv]
    · dsimp only [State.emit, State.wrF, State.wr, State.rdF]
  case mask =>
    refine setsRegs_of_wr ((exec_evtCMask_of_granted hlink hgranted v).trans ?_)
    rw [State.evtMask_eq, if_neg fun h => h.1 hmasked]
  case unmask =>
    refine ⟨_, exec_evtCMask_of_granted hlink hgranted v, ?_⟩
    rw [State.evtMask_eq, if_pos ⟨hunmasked, hirq⟩]
    exact wr_emit_reads s _ v _

end Sys2Proof.Machine
end

section
/-! PROOFS. The ring of host frames (R374 to R378): its indices, what an end of a descriptor and an abort leave, and the frames that it begins. -/
namespace Sys2Proof.Machine
open Claim

/-! ### The ring -/

section
variable (s : State) (h cause : Nat)

/-- A field of 8 bits written with a number below 256. -/
theorem State.rdF_wrF_of_lt (key : Nat) {hi v : Nat} (hhi : hi < 32) (hv : v < 2 ^ (hi + 1)) : (s.wrF key hi 0 v).rdF key hi 0 = v := by
  rw [State.rdF_wrF_same _ _ _ hhi]
  exact Nat.mod_eq_of_lt hv

theorem State.rdF_wrF_ne {key q : Nat} (hi lo v hi' lo' : Nat) (hq : q ≠ key) : (s.wrF key hi lo v).rdF q hi' lo' = s.rdF q hi' lo' := by
  rw [State.rdF, State.rd_wrF_ne _ _ _ _ hq, State.rdF]

/-- An end of a descriptor touches HEAD alone among the registers. -/
theorem State.rd_hfFinish {key : Nat} (hkey : key ≠ Reg.VIN_HF_HEAD) : (s.hfFinish h cause).rd key = s.rd key := State.rd_wrF_ne _ _ _ _ hkey

theorem State.hfHead_hfFinish : (s.hfFinish h cause).hfHead = (s.hfHead + 1) % max 1 s.hfSize % 256 := State.rdF_wrF_same _ _ _ (by decide)

theorem State.tracker_hfFinish (t : Nat) : (s.hfFinish h cause).tracker t = s.tracker t := rfl

/-- The STATUS word of the entry at HEAD (Table 13.7). -/
theorem State.status_hfFinish {i : Nat} (hi : i < 4) :
    memRead (s.hfFinish h cause).host (hostKey h (s.hfAddr s.hfHead + 60 + i)) = (leBytes 4 (1 + 16 * cause)).getD i 0 := by
  have hlen : i < (leBytes 4 (1 + 16 * cause)).length := hi
  have hkey : hostKey h (s.hfAddr s.hfHead + 60 + i) = hostKey h (s.hfAddr s.hfHead + 60) + i := by simp only [hostKey]; omega
  rw [hkey, List.getD_eq_getElem _ _ hlen]
  exact memRead_memWriteN_in _ _ hlen

/-- An abort moves HEAD to TAIL, and leaves the ring's other registers alone (R377). -/
theorem State.rd_hfAbort {key : Nat} (hkey : key ≠ Reg.VIN_HF_HEAD) : (s.hfAbort h).rd key = s.rd key := by
  refine (State.rd_wrF_ne _ _ _ _ hkey).trans ((foldl_keeps (g := fun t : State => t.rd key) (fun t _ => t.rd_hfFinish h 3 hkey) _ _).trans ?_)
  split <;> rfl

theorem State.hfHead_hfAbort : (s.hfAbort h).hfHead = s.hfTail := State.rdF_wrF_of_lt _ _ (by decide) (fld_lt _ 7 0)

/-! ### Writes of TAIL and of EN -/

theorem State.hfTailWrite_of_off {v : Nat} (hoff : s.hfOn = false) : s.hfTailWrite v = s := if_pos (by simp [hoff])

/-- A tail within the ring moves on. -/
theorem State.hfTailWrite_of_room {v : Nat} (hon : s.hfOn = true) (hv : v < s.hfSize)
    (hroom : (s.hfTail + s.hfSize - s.hfHead) % s.hfSize + (v + s.hfSize - s.hfTail % s.hfSize) % s.hfSize < s.hfSize) :
    s.hfTailWrite v = s.wrF Reg.VIN_HF_TAIL 7 0 v := by
  have hmax : max 1 s.hfSize = s.hfSize := max_eq_right (by omega)
  simp only [State.hfTailWrite, hon, hmax]
  exact if_neg (not_or.2 ⟨Nat.not_le.2 hv, Nat.not_le.2 hroom⟩)

/-- A tail outside the ring is flagged. -/
theorem State.hfTailWrite_of_outside {v : Nat} (hon : s.hfOn = true) (hpos : 0 < s.hfSize) (hv : s.hfSize ≤ v) :
    s.hfTailWrite v = s.wrF Reg.VIN_HF_ERR 16 16 1 := by
  have hmax : max 1 s.hfSize = s.hfSize := max_eq_right hpos
  simp only [State.hfTailWrite, hon, hmax]
  exact if_pos (Or.inl hv)

/-- The ring as EN leaves it: empty, at entry 0 (R378). -/
def State.hfStart : State := ((s.wrF Reg.VIN_HF_HEAD 7 0 0).wrF Reg.VIN_HF_TAIL 7 0 0).wrF Reg.VIN_HF_CTRL 0 0 1

theorem State.hfCtrlWrite_on_of_off (hoff : s.hfOn = false) : s.hfCtrlWrite h true = s.hfStart := if_pos (by simp [hoff])

theorem State.hfCtrlWrite_on_of_on (hon : s.hfOn = true) : s.hfCtrlWrite h true = s := by simp [State.hfCtrlWrite, hon]

theorem State.hfCtrlWrite_off_of_off (hoff : s.hfOn = false) : s.hfCtrlWrite h false = s := by simp [State.hfCtrlWrite, hoff]

theorem State.hfCtrlWrite_off_of_on (hon : s.hfOn = true) : s.hfCtrlWrite h false = (s.hfAbort h).wrF Reg.VIN_HF_CTRL 0 0 0 := by
  simp [State.hfCtrlWrite, hon]

theorem State.rd_hfStart {key : Nat} (hkey : key ≠ Reg.VIN_HF_HEAD ∧ key ≠ Reg.VIN_HF_TAIL ∧ key ≠ Reg.VIN_HF_CTRL) : s.hfStart.rd key = s.rd key := by
  obtain ⟨hhead, htail, hctrl⟩ := hkey
  rw [State.hfStart, State.rd_wrF_ne _ _ _ _ hctrl, State.rd_wrF_ne _ _ _ _ htail, State.rd_wrF_ne _ _ _ _ hhead]

theorem State.ring_hfStart : s.hfStart.hfOn = true ∧ s.hfStart.hfHead = 0 ∧ s.hfStart.hfTail = 0 := by
  refine ⟨?_, ?_, ?_⟩
  · exact (State.bit_rd_wrF _ _ _ _ _ (by decide)).trans rfl
  · rw [State.hfHead, State.hfStart, State.rdF_wrF_ne _ _ _ _ _ _ (by decide), State.rdF_wrF_ne _ _ _ _ _ _ (by decide),
      State.rdF_wrF_of_lt _ _ (by decide) (by decide)]
  · rw [State.hfTail, State.hfStart, State.rdF_wrF_ne _ _ _ _ _ _ (by decide), State.rdF_wrF_of_lt _ _ (by decide) (by decide)]

theorem State.hfStart_rest : { s.hfStart with regs := s.regs } = s := by dsimp only [State.hfStart, State.wrF, State.wr]

end

/-- The ring's base and size stand still while it is enabled (R378). -/
theorem State.write32_ringSetup {s : State} {fn off : Nat} (v : Word) (hon : s.hfOn = true)
    (hoff : off = Reg.VIN_HF_BASE_LO ∨ off = Reg.VIN_HF_BASE_HI ∨ off = Reg.VIN_HF_SIZE) : s.write32 fn off v = s := by
  have hplace : 0x400400 ≤ off ∧ off < 0x40040c := by simp only [Reg.VIN_HF_BASE_LO, Reg.VIN_HF_BASE_HI, Reg.VIN_HF_SIZE] at hoff; omega
  have hother : ¬ (0x10000 ≤ off ∧ off < 0x10040) ∧ off ≠ Reg.MBX_DOORBELL ∧ off ≠ Reg.EVT_C_MASK ∧ off ≠ Reg.VIN_HF_TAIL ∧ off ≠ Reg.VIN_HF_CTRL := by
    simp only [Reg.MBX_DOORBELL, Reg.EVT_C_MASK, Reg.VIN_HF_TAIL, Reg.VIN_HF_CTRL]
    omega
  obtain ⟨hcmd, hdoorbell, hmask, htail, hctrl⟩ := hother
  rw [State.write32, if_pos (by omega)]
  split
  · cases hrow : regRow? off with
    | none => simp only [State.regWrite, hrow]
    | some r =>
      rw [State.regWrite_plain s fn v hrow (by omega) (by omega), if_neg hcmd, if_neg hdoorbell, if_neg hmask, if_neg htail, if_neg hctrl, if_pos hoff,
        hon, Bool.true_or, if_pos rfl]
  · rfl

/-! ### Descriptors -/

/-- The descriptor that stands at HEAD. -/
def State.hfEntry (s : State) (h : Nat) : HostFrame :=
  { words := (List.range 16).map fun i => BitVec.ofNat 32 (num (s.hostRead h (s.hfAddr s.hfHead) 64) (4 * i) 4), group := 0 }

section
variable {s : State} {h : Nat}

/-- Nothing to read: the ring is off, a frame is in capture, or the ring is empty (R374). -/
theorem State.hfDescriptor_of_idle (hhouse : s.hfHouse = some h) (hidle : s.hfOn = false ∨ s.hostFrame ≠ none ∨ s.hfHead = s.hfTail) :
    s.hfDescriptor = s := by
  simp only [State.hfDescriptor, hhouse]
  refine if_pos ?_
  rcases hidle with hoff | hframe | hempty
  · simp [hoff]
  · simp [Option.isSome_iff_ne_none.2 hframe]
  · simp [hempty]

/-- A frame that begins, once a discontinuity has been declared: counted, stamped and recorded (R34). -/
def State.frameIn (s : State) (t stamp last : Nat) : State :=
  (((s.countFrame t).stampFrame t stamp last (s.tracker t)).setTracker t ((s.tracker t).begun last)).recordFrame t ((s.inFrame t + 1) % 2 ^ 32) stamp
    (s.tracker t).due

/-- A host frame whose stamp is not later than the last one is a discontinuity (R36). -/
theorem State.beginFrame_of_host (s : State) (stamp : Nat) :
    ∃ u, (u = s ∨ u = s.declareDisc 2 0) ∧ s.beginFrame 2 stamp = u.frameIn 2 stamp (s.rd64 (Reg.RAS_INs_LAST_LO 2) (Reg.RAS_INs_LAST_HI 2)) := by
  refine ⟨_, ?_, rfl⟩
  split
  · exact .inr rfl
  · exact .inl rfl

/-- Below the queues, a frame that begins touches registers of its tracker alone: FRAME and LINE, STATUS, PERIOD and LAST. -/
theorem State.rd_frameIn (s : State) (t stamp last : Nat) {key : Nat} (hlow : key < 0x500000) (hstatus : key ≠ Reg.RAS_INs_STATUS t)
    (hstamp : key ≠ Reg.RAS_INs_PERIOD t ∧ key ≠ Reg.RAS_INs_LPERIOD t ∧ key ≠ Reg.RAS_INs_LAST_LO t ∧ key ≠ Reg.RAS_INs_LAST_HI t) :
    (s.frameIn t stamp last).rd key =
      ((s.wr (Reg.RAS_INs_FRAME t) (BitVec.ofNat 32 ((s.inFrame t + 1) % 2 ^ 32))).wr (Reg.RAS_INs_LINE t) 0).rd key := by
  rw [State.frameIn, State.rd_congr (State.recordFrame_frame _ _ _ _ _).1, State.rd_setTracker, State.rd_stampFrame _ _ _ _ _ hstamp,
    State.rd_countFrame _ _ hlow hstatus]

/-- The frame counter of the host's tracker moves on; registers outside the trackers stay. -/
theorem State.inFrame_beginFrame_host (s : State) (stamp : Nat) : (s.beginFrame 2 stamp).inFrame 2 = (s.inFrame 2 + 1) % 2 ^ 32 := by
  obtain ⟨u, hu, hbegin⟩ := s.beginFrame_of_host stamp
  have hframe : u.inFrame 2 = s.inFrame 2 := by
    rcases hu with rfl | rfl
    · rfl
    · exact congrArg BitVec.toNat (s.rd_declareDisc 2 0 (by decide) (by decide))
  rw [hbegin, State.inFrame, State.rd_frameIn _ _ _ _ (by decide) (by decide) (by decide), State.rd_wr_ne _ _ (by decide), State.rd_wr_same,
    BitVec.toNat_ofNat, Nat.mod_mod, hframe]

theorem State.rd_beginFrame_host (s : State) (stamp : Nat) {key : Nat} (hlo : 0x200000 ≤ key) (hhi : key < 0x500000) :
    (s.beginFrame 2 stamp).rd key = s.rd key := by
  have hkeys : key ≠ Reg.RAS_INs_STATUS 2 ∧ key ≠ Reg.RAS_INs_PERIOD 2 ∧ key ≠ Reg.RAS_INs_LPERIOD 2 ∧ key ≠ Reg.RAS_INs_LAST_LO 2 ∧
      key ≠ Reg.RAS_INs_LAST_HI 2 ∧ key ≠ Reg.RAS_INs_FRAME 2 ∧ key ≠ Reg.RAS_INs_LINE 2 ∧ key ≠ Reg.RAS_INs_DISCNT 2 := by
    simp only [Reg.RAS_INs_STATUS, Reg.RAS_INs_PERIOD, Reg.RAS_INs_LPERIOD, Reg.RAS_INs_LAST_LO, Reg.RAS_INs_LAST_HI, Reg.RAS_INs_FRAME,
      Reg.RAS_INs_LINE, Reg.RAS_INs_DISCNT]
    omega
  obtain ⟨hstatus, hperiod, hline, hlast, hlast', hframe, hcount, hdisc⟩ := hkeys
  obtain ⟨u, hu, hbegin⟩ := s.beginFrame_of_host stamp
  rw [hbegin, State.rd_frameIn _ _ _ _ hhi hstatus ⟨hperiod, hline, hlast, hlast'⟩, State.rd_wr_ne _ _ hcount, State.rd_wr_ne _ _ hframe]
  rcases hu with rfl | rfl
  · rfl
  · exact s.rd_declareDisc 2 0 hstatus hdisc

/-- A new size of host frames is a discontinuity (R36). -/
def State.hfResize (s : State) (x : HostFrame) : State :=
  match (s.tracker 2).size with
  | some sz => if sz = (x.width, x.height) then s else s.declareDisc 2 1
  | none => s

theorem State.rd_hfResize (s : State) (x : HostFrame) {key : Nat} (hstatus : key ≠ Reg.RAS_INs_STATUS 2) (hcount : key ≠ Reg.RAS_INs_DISCNT 2) :
    (s.hfResize x).rd key = s.rd key := by
  unfold State.hfResize
  split
  · split
    · rfl
    · exact s.rd_declareDisc 2 1 hstatus hcount
  · rfl

/-- A host frame begins (R375). -/
def State.hfBegin (s : State) (x : HostFrame) : State :=
  let s := (s.hfResize x).beginFrame 2 (x.w 2 + 2 ^ 32 * x.w 3)
  let s := s.setTracker 2 { s.tracker 2 with size := some (x.width, x.height), yuv := x.w 0 / 16 % 4 }
  { s with hostFrame := some x }

theorem State.tracker_hostFrame (s : State) (t : Nat) (y : Tracker) (o : Option HostFrame) : State.tracker { s.setTracker t y with hostFrame := o } t = y :=
  s.tracker_setTracker_same t y

theorem State.rd_hostFrame (s : State) (t key : Nat) (y : Tracker) (o : Option HostFrame) : State.rd { s.setTracker t y with hostFrame := o } key = s.rd key := rfl

theorem State.hfBegin_reads (s : State) (x : HostFrame) : (s.hfBegin x).hostFrame = some x ∧ (s.hfBegin x).inFrame 2 = (s.inFrame 2 + 1) % 2 ^ 32 ∧
    (s.hfBegin x).hfHead = s.hfHead ∧ ((s.hfBegin x).tracker 2).size = some (x.width, x.height) := by
  have hrd (key : Nat) : (s.hfBegin x).rd key = ((s.hfResize x).beginFrame 2 (x.w 2 + 2 ^ 32 * x.w 3)).rd key := by
    rw [State.hfBegin, State.rd_hostFrame]
  refine ⟨rfl, ?_, ?_, ?_⟩
  · rw [State.inFrame, hrd, ← State.inFrame, State.inFrame_beginFrame_host, State.inFrame, State.rd_hfResize _ _ (by decide) (by decide), State.inFrame]
  · rw [State.hfHead, State.rdF, hrd, State.rd_beginFrame_host _ _ (by decide) (by decide), State.rd_hfResize _ _ (by decide) (by decide)]
    rfl
  · rw [State.hfBegin, State.tracker_hostFrame]

/-- The descriptor at HEAD, read: one that breaks Table 13.7 ends, one that keeps it begins a frame. -/
theorem State.hfDescriptor_of_read (hhouse : s.hfHouse = some h) (hon : s.hfOn = true) (hframe : s.hostFrame = none) (hmore : s.hfHead ≠ s.hfTail)
    (hpages : s.hostRanges h [(s.hfAddr s.hfHead, 64)] = .ok) :
    s.hfDescriptor = if (s.hfEntry h).ok then s.hfBegin (s.hfEntry h) else (s.countFld Reg.VIN_HF_ERR 15 0).hfFinish h 1 := by
  have hgo : (!s.hfOn || s.hostFrame.isSome || decide (s.hfHead = s.hfTail)) = false := by simp [hon, hframe, hmore]
  simp only [State.hfDescriptor, hhouse, hgo, hpages]
  have hswap (x : HostFrame) (a b : State) : (if (!x.ok) = true then a else b) = if x.ok = true then b else a := by cases x.ok <;> rfl
  exact hswap _ _ _

/-- A descriptor that breaks Table 13.7 is counted, and ends with cause 1. -/
theorem State.hfReject_reads (s : State) (h : Nat) :
    ((s.countFld Reg.VIN_HF_ERR 15 0).hfFinish h 1).hfHead = (s.hfHead + 1) % max 1 s.hfSize % 256 ∧
    ((s.countFld Reg.VIN_HF_ERR 15 0).hfFinish h 1).rd Reg.VIN_HF_ERR = bumpFld (s.rd Reg.VIN_HF_ERR) 15 0 ∧
    ∀ i, i < 4 → memRead ((s.countFld Reg.VIN_HF_ERR 15 0).hfFinish h 1).host (hostKey h (s.hfAddr s.hfHead + 60 + i)) = (leBytes 4 17).getD i 0 := by
  have hrd {key : Nat} (hkey : key ≠ Reg.VIN_HF_ERR) : (s.countFld Reg.VIN_HF_ERR 15 0).rd key = s.rd key := State.rd_wr_ne _ _ hkey
  have hhead : (s.countFld Reg.VIN_HF_ERR 15 0).hfHead = s.hfHead := congrArg (fld · 7 0) (hrd (by decide))
  have hsize : (s.countFld Reg.VIN_HF_ERR 15 0).hfSize = s.hfSize := congrArg (fld · 8 0) (hrd (by decide))
  have haddr (i : Nat) : (s.countFld Reg.VIN_HF_ERR 15 0).hfAddr i = s.hfAddr i := by
    simp only [State.hfAddr, State.rdF, hrd (key := Reg.VIN_HF_BASE_LO) (by decide), hrd (key := Reg.VIN_HF_BASE_HI) (by decide)]
  refine ⟨?_, ?_, fun i hi => ?_⟩
  · rw [State.hfHead_hfFinish, hhead, hsize]
  · rw [State.rd_hfFinish _ _ _ (by decide)]
    exact State.rd_wr_same _ _ _
  · rw [← State.status_hfFinish (s.countFld Reg.VIN_HF_ERR 15 0) h 1 hi, hhead, haddr]

/-! ### Line groups -/

theorem State.hfGroup_of_none (fault : Bool) (hframe : s.hostFrame = none) : s.hfGroup fault = s := by
  unfold State.hfGroup
  rw [hframe]
  split <;> simp_all

/-- A DMA fault ends the frame early (R376). -/
theorem State.hfGroup_of_fault {x : HostFrame} (hhouse : s.hfHouse = some h) (hframe : s.hostFrame = some x) : s.hfGroup true = s.hfCut.hfFinish h 2 := by
  simp only [State.hfGroup, hhouse, hframe, if_true]

/-- The lines of a group whose frame has no 4:2:0 chroma. -/
def HostFrame.rows (x : HostFrame) : List (Nat × Nat) :=
  (x.addr 0 + x.group * x.w 10, x.rowBytes 0) :: [1, 2].map (fun k => (x.addr k + x.group * x.w 11, x.rowBytes k))

/-- A group of such a frame is one line (R376). -/
theorem State.hfGroup_of_line {x : HostFrame} (hhouse : s.hfHouse = some h) (hframe : s.hostFrame = some x) (hsub : x.fmt.sub ≠ 2)
    (hpages : s.hostRanges h x.rows = .ok) :
    ∃ planes, s.hfGroup false = if x.group + 1 = x.height then (s.captureLine 2 x.height x.fmt planes).hfFinish h 0
      else { s.captureLine 2 x.height x.fmt planes with hostFrame := some { x with group := x.group + 1 } } := by
  have htwo : decide (x.fmt.sub = 2) = false := decide_eq_false hsub
  have hpages' : s.hostRanges h ([(x.addr 0 + x.group * x.w 10, x.rowBytes 0)] ++
      [(x.addr 1 + x.group * x.w 11, x.rowBytes 1), (x.addr 2 + x.group * x.w 11, x.rowBytes 2)]) = .ok := hpages
  refine ⟨(x.samples (s.hostRead h (x.addr 0 + x.group * x.w 10) (x.rowBytes 0))) ::
    ([1, 2].map (fun k => (x.addr k + x.group * x.w 11, x.rowBytes k))).map (fun r => x.samples (s.hostRead h r.1 r.2)), ?_⟩
  simp only [State.hfGroup, hhouse, hframe, htwo, Bool.false_eq_true, if_false, hpages', List.map_cons, List.map_nil]

@[simp] theorem State.endFrame_regs (s : State) (t : Nat) : (s.endFrame t).regs = s.regs := by
  refine foldl_keeps (g := State.regs) (fun u p => ?_) _ s
  dsimp only
  (repeat' split) <;> simp

theorem State.ringLineIn_regs (s : State) (t height : Nat) (f : PixFmt) (planes : List (List Nat)) :
    (s.ringLineIn t height f planes).regs = s.regs :=
  foldl_keeps (g := State.regs) (fun u p => (u.captureFor_frame p _ height f planes _ _).1) _ s

/-- A captured line touches LINE of its tracker alone among the registers. -/
theorem State.rd_captureLine {t height key : Nat} (f : PixFmt) (planes : List (List Nat)) (hopen : (s.tracker t).open_ = true)
    (hline : (s.tracker t).lines < height) (hkey : key ≠ Reg.RAS_INs_LINE t) : (s.captureLine t height f planes).rd key = s.rd key := by
  have hend (c : Prop) [Decidable c] (u : State) : (if c then u.endFrame t else u).regs = u.regs := by split <;> simp
  rw [State.captureLine_of_open f planes hopen hline, State.rd_wr_ne _ _ hkey, State.rd_congr (hend _ _), State.rd_setTracker,
    State.rd_congr (s.ringLineIn_regs t height f planes)]

end

/-- Settles O44: each row of the ring is what its lemma above says in its case, and the registers of the ring stand clear of those a frame touches. -/
theorem hostFramesRunThroughTheirRing : Obligations.HostFramesRunThroughTheirRing := by
  intro s fn hup word desc
  have htailRow (v : Fin 256) : exec (.vinHfTail fn v) s = .next (if s.hfHouse = some fn.val then s.hfTailWrite v else s) := exec_of_up hup rfl
  have honRow : exec (.hfRingEnable fn) s = .next (if s.hfHouse = some fn.val then s.hfCtrlWrite fn true else s) := exec_of_up hup rfl
  have hoffRow : exec (.hfRingDisable fn) s = .next (if s.hfHouse = some fn.val then s.hfCtrlWrite fn false else s) := exec_of_up hup rfl
  have hdescRow : exec .hostFrameDescriptor s = .next s.hfDescriptor := exec_of_up hup rfl
  have hgroupRow (fault : Bool) : exec (.hostFrameGroup fault) s = .next (s.hfGroup fault) := exec_of_up (f := fun s => s.hfGroup fault) hup rfl
  refine ⟨fun hother => ?other, fun hown => ?own⟩
  case other => exact ⟨fun v => by rw [htailRow, if_neg hother], by rw [honRow, if_neg hother], by rw [hoffRow, if_neg hother]⟩
  case own =>
    rw [if_pos hown] at honRow hoffRow
    have htailRow (v : Fin 256) : exec (.vinHfTail fn v) s = .next (s.hfTailWrite v) := by rw [htailRow, if_pos hown]
    refine ⟨fun v hoff => ?tailOff, fun v hon hv hroom => ?tail, fun v hon hpos hv => ?tailErr, fun hoff => ?off, fun hon => ?on, fun hidle => ?idle,
      fun hon hframe hmore hpages => ?desc, fun fault hframe => ?noGroup, fun x hframe => ?fault, fun x hframe hsub hopen hlines hgroup hpages => ?group⟩
    case tailOff => rw [htailRow, State.hfTailWrite_of_off s hoff]
    case tail =>
      refine ⟨_, (htailRow v).trans (congrArg _ (State.hfTailWrite_of_room s hon hv hroom)), ?_, ?_, rfl⟩
      · exact State.rdF_wrF_of_lt _ _ (by decide) v.isLt
      · exact State.rdF_wrF_ne _ _ _ _ _ _ (by decide)
    case tailErr =>
      refine ⟨_, (htailRow v).trans (congrArg _ (State.hfTailWrite_of_outside s hon hpos hv)), ?_, ?_⟩
      · exact State.rdF_wrF_ne _ _ _ _ _ _ (by decide)
      · exact State.rdF_wrF_same _ _ _ (by decide)
    case off =>
      obtain ⟨hon, hhead, htail⟩ := s.ring_hfStart
      refine ⟨⟨_, honRow.trans (congrArg _ (State.hfCtrlWrite_on_of_off s fn hoff)), hon, hhead, htail, ?_, s.hfStart_rest⟩,
        hoffRow.trans (congrArg _ (State.hfCtrlWrite_off_of_off s fn hoff))⟩
      rw [hhead]
      simp only [State.hfAddr, State.rdF, s.rd_hfStart (key := Reg.VIN_HF_BASE_LO) (by decide), s.rd_hfStart (key := Reg.VIN_HF_BASE_HI) (by decide)]
    case on =>
      refine ⟨honRow.trans (congrArg _ (State.hfCtrlWrite_on_of_on s fn hon)), hoffRow.trans (congrArg _ (State.hfCtrlWrite_off_of_on s fn hon)), ?_,
        fun off v hoff => ?_⟩
      · have htail : ((s.hfAbort fn).wrF Reg.VIN_HF_CTRL 0 0 0).hfTail = s.hfTail :=
          (State.rdF_wrF_ne _ _ _ _ _ _ (by decide)).trans (congrArg (fld · 7 0) (s.rd_hfAbort fn (by decide)))
        have hhead : ((s.hfAbort fn).wrF Reg.VIN_HF_CTRL 0 0 0).hfHead = s.hfTail :=
          (State.rdF_wrF_ne _ _ _ _ _ _ (by decide)).trans (s.hfHead_hfAbort fn)
        exact ⟨(State.bit_rd_wrF _ _ _ _ _ (by decide)).trans rfl, hhead.trans htail.symm, htail, rfl⟩
      · have haligned : off.val % 4 = 0 := by
          simp only [Reg.VIN_HF_BASE_LO, Reg.VIN_HF_BASE_HI, Reg.VIN_HF_SIZE] at hoff
          omega
        rw [exec_registerWrite_of_link ⟨hup.1, .inl hup.2⟩, State.barWrite_word _ _ _ haligned, State.write32_ringSetup _ hon hoff]
    case idle => exact hdescRow.trans (congrArg _ (State.hfDescriptor_of_idle hown hidle))
    case desc =>
      have hread := hdescRow.trans (congrArg _ (State.hfDescriptor_of_read hown hon hframe hmore hpages))
      refine ⟨fun hbad => ⟨_, hread.trans (congrArg _ (if_neg (Bool.not_eq_true _ ▸ hbad))), rfl, s.hfReject_reads fn⟩,
        fun hok => ⟨_, hread.trans (congrArg _ (if_pos hok)), s.hfBegin_reads desc⟩⟩
    case noGroup => exact (hgroupRow fault).trans (congrArg _ (State.hfGroup_of_none fault hframe))
    case fault =>
      refine ⟨_, (hgroupRow true).trans (congrArg _ (State.hfGroup_of_fault hown hframe)), rfl, State.hfHead_hfFinish _ _ _, ?_⟩
      rw [State.tracker_hfFinish, State.hfCut, State.tracker_setTracker_same]
    case group =>
      obtain ⟨planes, hline⟩ := State.hfGroup_of_line hown hframe hsub hpages
      have hless : (s.tracker 2).lines < x.height := by omega
      have hmoved := State.lines_captureLine (height := x.height) x.fmt planes hopen hless
      rw [hlines] at hmoved
      have hrd {key : Nat} (hkey : key ≠ Reg.RAS_INs_LINE 2) : (s.captureLine 2 x.height x.fmt planes).rd key = s.rd key :=
        State.rd_captureLine x.fmt planes hopen hless hkey
      have hhead : (s.captureLine 2 x.height x.fmt planes).hfHead = s.hfHead := congrArg (fld · 7 0) (hrd (by decide))
      have hsize : (s.captureLine 2 x.height x.fmt planes).hfSize = s.hfSize := congrArg (fld · 8 0) (hrd (by decide))
      refine ⟨_, (hgroupRow false).trans (congrArg _ hline), ?_⟩
      generalize s.captureLine 2 x.height x.fmt planes = u at hmoved hhead hsize ⊢
      split
      case isTrue hlast =>
        refine ⟨by rw [State.tracker_hfFinish]; exact hmoved, fun hmore => absurd hlast hmore, fun _ => ⟨rfl, ?_⟩⟩
        rw [State.hfHead_hfFinish, hhead, hsize]
      case isFalse hmore => exact ⟨hmoved, fun _ => rfl, fun hlast => absurd hlast hmore⟩

end Sys2Proof.Machine
end

section
/-! PROOFS. Renewal in service (R379, R433, R468 to R470): the firmware's hand-over and watchdog, and what a calibration writes. -/
namespace Sys2Proof.Machine
open Claim

/-- A row of the host link over a live link. -/
theorem exec_of_link {i : Instr} {s : State} {f : State → State} (h : Link s) (hrow : exec i s = .next (s.linked f)) : exec i s = .next (f s) := by
  rw [hrow, State.linked_of_link h]

/-- A powered device out of reset has its link. -/
theorem link_of_up {s : State} (h : Up s) : Link s := ⟨h.1, .inl h.2⟩

/-! ### Firmware (R468, R469) -/

/-- STATE of MBX_DEAN, as an image of either slot shows it. -/
theorem State.deanState_showDean (s : State) (b : Bool) {st : Nat} (hst : st < 16) : (s.showDean b st).rdF Reg.MBX_DEAN 3 0 = st := by
  have hword : fld (BitVec.ofNat 32 (s.service.version b % 65536 * 65536 + b.toNat * 16 + st)) 3 0 = st := by
    have hlt : s.service.version b % 65536 * 65536 + b.toNat * 16 + st < 2 ^ 32 := by cases b <;> simp only [Bool.toNat_true, Bool.toNat_false] <;> omega
    rw [fld, BitVec.toNat_ofNat, Nat.mod_eq_of_lt hlt]
    simp only [Nat.shiftRight_zero]
    omega
  exact (congrArg (fld · 3 0) (State.rd_wr_same _ _ _)).trans hword

/-- The FW_SWAP that waits completes with its status and the version that runs. -/
theorem State.fwAnswer_of_waiter {s : State} {q : Option Nat} {tag : Nat} (status : Nat) (hwaits : s.service.swapWaiter = some (q, tag)) :
    s.fwAnswer status = { s.complete 0 q 0x16 tag status 0x7FFF [s.service.version s.service.runB] with
      service := { s.service with swap := .none, swapWaiter := none } } := by
  simp only [State.fwAnswer, hwaits]
  rfl

/-! ### Calibrations (R470) -/

section
variable (s : State)

/-- A failed calibration is marked in PWR_CAL, and touches no other register above the event counters. -/
theorem State.rd_calFailed : s.calFailed.rd Reg.PWR_CAL = setFld (s.rd Reg.PWR_CAL) 16 16 1 :=
  (State.rd_post_above _ _ _ _ _ (by decide) (by decide)).trans (s.rd_wrF_same _ _ _ _)

theorem State.calFailed_flag : bit (s.calFailed.rd Reg.PWR_CAL) 16 = true := by
  rw [State.rd_calFailed, bit_setFld _ _ _ (by decide)]
  rfl

/-- The event of a failure changes the tables of the forms and of the service no more than it changes registers below. -/
theorem State.calFailed_eventsOnly : EventsOnly s.calFailed (s.wrF Reg.PWR_CAL 16 16 1) := State.post_eventsOnly _ _ _ _ _ _

theorem State.service_calFailed : s.calFailed.service = s.service := (congrArg State.service s.calFailed_eventsOnly.frame :)

theorem State.formTier_calFailed (f : Nat) : s.calFailed.formTier f = s.formTier f := by
  have htiers : s.calFailed.formTiers = s.formTiers := (congrArg State.formTiers s.calFailed_eventsOnly.frame :)
  rw [State.formTier, htiers, State.formTier]

/-- The PLLs' pair of one bit after its calibration. -/
theorem State.rd_pllCal (i : Nat) (ok : Bool) :
    (s.pllCal i ok).rd Reg.PWR_CAL = if ok then setFld (s.rd Reg.PWR_CAL) i i (1 - s.rdF Reg.PWR_CAL i i) else setFld (s.rd Reg.PWR_CAL) 16 16 1 := by
  cases ok with
  | true => exact s.rd_wrF_same _ _ _ _
  | false => exact s.rd_calFailed

/-- The pair of the calibrated bit is swapped where the calibration has passed. -/
theorem State.pll_pllCal {i : Nat} (ok : Bool) (hi : i < 16) :
    (s.pllCal i ok).rdF Reg.PWR_CAL i i = if ok then 1 - s.rdF Reg.PWR_CAL i i else s.rdF Reg.PWR_CAL i i := by
  rw [State.rdF, State.rd_pllCal]
  cases ok with
  | true =>
    refine (fld_setFld_same _ _ (by omega)).trans (Nat.mod_eq_of_lt ?_)
    rw [Nat.add_sub_cancel_left]
    exact (Nat.sub_le 1 _).trans_lt (by decide)
  | false => exact fld_setFld_ne _ _ (by omega) (.inl hi)

/-- Another bit's pair stands still. -/
theorem State.pll_pllCal_ne {i j : Nat} (ok : Bool) (hj : j < 16) (h : j < i ∨ i < j) : (s.pllCal i ok).rdF Reg.PWR_CAL j j = s.rdF Reg.PWR_CAL j j := by
  rw [State.rdF, State.rd_pllCal]
  cases ok with
  | true => exact fld_setFld_ne _ _ (by omega) h
  | false => exact fld_setFld_ne _ _ (by omega) (.inl hj)

/-- The mark of a failure after a calibration: set by a failure, and not cleared by a success. -/
theorem State.failed_pllCal {i : Nat} (ok : Bool) (hi : i < 16) : bit ((s.pllCal i ok).rd Reg.PWR_CAL) 16 = (!ok || bit (s.rd Reg.PWR_CAL) 16) := by
  rw [State.rd_pllCal]
  cases ok with
  | true => exact (bit_setFld _ _ _ (by decide)).trans (if_neg (by omega))
  | false => exact (bit_setFld _ _ _ (by decide)).trans rfl

/-- A failed retraining moves on to the next channel all the same (R379). -/
theorem State.dramRetrain_of_failure :
    s.dramRetrain false = State.calFailed { s with service := { s.service with dramChannel := (s.service.dramChannel + 1) % 8 } } := rfl

/-- A change of a form's tier touches no register above the event counters. -/
theorem State.rd_setFormTier_above {f key : Nat} (x : FormTier) (hf : f < 32) (hkey : 0x800000 ≤ key) : (s.setFormTier f x).rd key = s.rd key := by
  have hshow : (State.showFormTier { s with formTiers := mapSet (fun _ => {}) s.formTiers f x } f).rd key = s.rd key :=
    State.rd_wr_ne _ _ (by simp only [Reg.DLN_FORMf]; omega)
  unfold State.setFormTier
  dsimp only
  split
  · exact hshow
  · exact (State.rd_post_above _ _ _ _ _ (by decide) hkey).trans hshow

end

/-- A heat part raised to a level. -/
def FormTier.raised (x : FormTier) (level : Nat) : FormTier := if x.heat < level then { x with heat := level, cool := 0 } else x

theorem FormTier.heat_raised (x : FormTier) (level : Nat) : (x.raised level).heat = max x.heat level := by
  unfold FormTier.raised
  split
  case isTrue h => exact (max_eq_right h.le).symm
  case isFalse h => exact (max_eq_left (Nat.not_lt.1 h)).symm

/-- The temperature that a calibration of a form's sensor takes: the higher of its last sample and that of the form below it (log 71). -/
def State.sensorTop (s : State) (f : Nat) : Nat := max (s.formTier f).last (if f < 24 then (s.formTier (f + 8)).last else 0)

/-- A sensor calibrated, before a failure is marked. -/
def State.sensorHeat (s : State) (f : Nat) : State :=
  (s.wrF Reg.PWR_CAL 4 0 f).setFormTier f ((s.formTier f).raised (heatLevel (s.sensorTop f)))

theorem State.sensorCal_eq (s : State) (f : Nat) (ok : Bool) : s.sensorCal f ok = if ok then s.sensorHeat f else (s.sensorHeat f).calFailed := rfl

theorem State.heat_sensorHeat (s : State) (f : Nat) : ((s.sensorHeat f).formTier f).heat = max (s.formTier f).heat (heatLevel (s.sensorTop f)) := by
  rw [State.sensorHeat, State.formTier_setFormTier_same, FormTier.heat_raised]

/-- PWR_CAL names the form. -/
theorem State.form_sensorHeat (s : State) {f : Nat} (hf : f < 32) : (s.sensorHeat f).rdF Reg.PWR_CAL 4 0 = f := by
  have hwrite : (s.sensorHeat f).rd Reg.PWR_CAL = (s.wrF Reg.PWR_CAL 4 0 f).rd Reg.PWR_CAL := State.rd_setFormTier_above _ _ hf (by decide)
  rw [State.rdF, hwrite, ← State.rdF]
  exact State.rdF_wrF_of_lt _ _ (by decide) hf

/-- What a sensor's calibration shows. -/
theorem State.sensorCal_reads (s : State) {f : Nat} (ok : Bool) (hf : f < 32) : (s.sensorCal f ok).rdF Reg.PWR_CAL 4 0 = f ∧
    ((s.sensorCal f ok).formTier f).heat = max (s.formTier f).heat (heatLevel (max (s.formTier f).last (if f < 24 then (s.formTier (f + 8)).last else 0))) ∧
    (ok = false → bit ((s.sensorCal f ok).rd Reg.PWR_CAL) 16 = true) := by
  cases ok with
  | true =>
    rw [State.sensorCal_eq, if_pos rfl]
    exact ⟨s.form_sensorHeat hf, s.heat_sensorHeat f, nofun⟩
  | false =>
    rw [State.sensorCal_eq, if_neg Bool.false_ne_true, State.formTier_calFailed]
    refine ⟨?_, s.heat_sensorHeat f, fun _ => State.calFailed_flag _⟩
    rw [State.rdF, State.rd_calFailed, fld_setFld_ne _ _ (by decide) (.inl (by decide))]
    exact s.form_sensorHeat hf

/-- Settles O52: the rows of the firmware by the state of the swap, the fuses by the counter raised, the calibrations by what PWR_CAL reads after them. -/
theorem serviceRenewsThePartsInTurn : Obligations.ServiceRenewsThePartsInTurn := by
  intro s hup v fuse
  have hhandover : exec .fwSwapHandover s = .next s.fwHandover := exec_of_link (f := State.fwHandover) (link_of_up hup) rfl
  have hwatchdog : exec .fwWatchdog s = .next s.fwWatchdog := exec_of_link (f := State.fwWatchdog) (link_of_up hup) rfl
  have hconfirm : exec .fwBootConfirm s = .next s.fwConfirm := exec_of_link (f := State.fwConfirm) (link_of_up hup) rfl
  have hraise (m : Option Word) : exec (.rollbackRaise m) s = .next (s.rollbackRaise (m.map BitVec.toNat)) :=
    exec_of_up (f := fun s => s.rollbackRaise (m.map BitVec.toNat)) hup rfl
  have hpll (a b : Bool) : exec (.pllRecalibrate a b) s = .next ((s.pllCal 8 a).pllCal 9 b) :=
    exec_of_up (f := fun s => (s.pllCal 8 a).pllCal 9 b) hup rfl
  have hsensor (f : Fin 32) (ok : Bool) : exec (.sensorCalibrate f ok) s = .next (s.sensorCal f ok) := exec_of_up (f := fun s => s.sensorCal f ok) hup rfl
  have hretrain (ok : Bool) : exec (.dramRetrain ok) s = .next (s.dramRetrain ok) := exec_of_up (f := fun s => s.dramRetrain ok) hup rfl
  refine ⟨fun h => hhandover.trans (congrArg _ (if_pos h)), fun h => hhandover.trans (congrArg _ (if_neg h)), fun q tag hgap hwaits => ?watchdog,
    fun h => hwatchdog.trans (congrArg _ (if_neg h)), fun hruns => ⟨hconfirm.trans (congrArg _ (if_pos hruns)), (hraise none).trans (congrArg _ (if_pos hruns))⟩,
    fun hstops => ⟨hconfirm.trans (congrArg _ (if_neg hstops)), (hraise none).trans (congrArg _ (if_neg hstops))⟩, fun m x hfind => ?model,
    fun a b => ⟨_, hpll a b, ?_, ?_, fun hfail => ?_⟩, fun f ok => ⟨_, hsensor f ok, ?_⟩, hretrain true, _, (hretrain false).trans (congrArg _ s.dramRetrain_of_failure), ?_,
    State.calFailed_flag _⟩
  case watchdog =>
    have hanswer : s.fwWatchdog = _ := (if_pos hgap).trans (State.fwAnswer_of_waiter (s := s.showDean s.service.runB 2) 0xC hwaits)
    exact ⟨_, hwatchdog.trans (congrArg _ hanswer), s.deanState_showDean _ (by decide), rfl, rfl, rfl, _, rfl, rfl, rfl, rfl, rfl, rfl⟩
  case model =>
    have hmodel : exec (.rollbackRaise (some m)) s = .next (if x.committed then s.raiseCounter (1 + x.key) x.svn else s) :=
      (hraise (some m)).trans (congrArg _ (State.rollbackRaise_some_of_find hfind))
    exact ⟨fun h => hmodel.trans (congrArg _ (if_pos h)), fun h => hmodel.trans (congrArg _ (if_neg (Bool.not_eq_true _ ▸ h)))⟩
  · rw [State.pll_pllCal_ne _ _ (by decide) (by decide), State.pll_pllCal _ _ (by decide)]
  · rw [State.pll_pllCal _ _ (by decide), State.pll_pllCal_ne _ _ (by decide) (by decide)]
  · rw [State.failed_pllCal _ _ (by decide), State.failed_pllCal _ _ (by decide)]
    revert hfail
    cases a <;> cases b <;> simp
  · exact s.sensorCal_reads ok f.isLt
  · exact congrArg Service.dramChannel (State.service_calFailed _)

end Sys2Proof.Machine
end

section
/-! PROOFS. A function level reset whose abort posts to a queue beyond the last one (R373, R398, R399). -/
namespace Sys2Proof.Machine
open Claim

/-- The range of House 3 runs from queue 16383, an enabled command queue, to 16385, past the last queue of the device. Where queue 16385 would have its
CFG and its TAIL stand the ranges of Houses 1 and 3; the range of House 1 spells an enabled EVENT queue that takes DMA_FAULT. A chain of House 3 waits on its
window 67. -/
def overlongRange : State :=
  { State.reset with
    regs := [(Reg.QUE_q_CFG 16383, 0x80000000), (Reg.QUE_HRANGEh 1, 0x808D0000), (Reg.QUE_HRANGEh 3, 0x33FFF)]
    queueAux := [(16385, { mask := 4 })]
    engines := [(67, { phase := .ready, house := 3 })] }

theorem overlongRange_aliases : Reg.QUE_q_CFG 16385 = Reg.QUE_HRANGEh 1 ∧ Reg.QUE_q_TAIL 16385 = Reg.QUE_HRANGEh 3 := ⟨rfl, rfl⟩

/-- The reset aborts the chain, and the event of its fault moves the TAIL of queue 16385: the range of House 3 then begins at queue 12288, and the queues
from there on are cleared in place of 16383. -/
theorem queueOn_flr_overlongRange : (overlongRange.flr 3).queueOn 16383 = true := by decide +kernel

/-- Refutes O53: its clause of the queues asks for every queue of the range that the House had before the reset, though nothing holds a range to the queues
that exist, and an event to one past the last writes a range register. In `overlongRange` queue 16383 of House 3 is still enabled after the reset. -/
theorem not_functionResetsJtagAndPins : ¬ Obligations.FunctionResetsJtagAndPins := by
  rintro ⟨hresets, -⟩
  have hlink : Link overlongRange := ⟨rfl, .inl rfl⟩
  obtain ⟨⟨t, hexec, -, -, hqueues, -⟩, -⟩ := hresets overlongRange 3 hlink
  have hflr : exec (.flr 3) overlongRange = .next (overlongRange.flr 3) := exec_of_link (f := fun s => s.flr 3) hlink rfl
  have ht : t = overlongRange.flr 3 := Host.Outcome.next.inj (hexec.symm.trans hflr)
  obtain ⟨hoff, -⟩ := hqueues 16383 (by decide) (by decide)
  rw [ht, queueOn_flr_overlongRange] at hoff
  exact Bool.noConfusion hoff

end Sys2Proof.Machine
end

section
/-! PROOFS. Firmware and debug commands (R434, R437, R438, R442, R468), and the slot of a House (R385, R389, R397). -/
namespace Sys2Proof.Machine
open Claim

section
variable {s : State} {h : Fin 8} {tag : Fin 65536}

/-! ### Firmware -/

/-- FW_STAGE of an image in host memory, while an image runs. -/
theorem exec_fwStage_of_takes (ht : Takes s h none) {lo hi n : Word} (hhouse : h.val = 0) (haligned : lo.toNat % 64 = 0) (hhigh : hi.toNat < 2 ^ 16)
    (hlen : 256 ≤ n.toNat) (hswap : s.service.swap = .none) (hpages : s.hostRanges h [(lo.toNat + 2 ^ 32 * hi.toNat, n.toNat)] = .ok)
    {b : List Byte} (hb : b = s.hostRead h (lo.toNat + 2 ^ 32 * hi.toNat) n.toNat) :
    exec (.fwStage (cmd h none tag [lo, hi, n])) s = .next (s.answered h none tag 0x15 (checked (s.signCheck h 1 b)
      (.ok [Config.imageVersion (payloadOf b) % 65536] (
        if s.service.runB then { s with service := { s.service with verA := Config.imageVersion (payloadOf b) % 65536, svnA := num b 8 4, staged := true } }
        else { s with service := { s.service with verB := Config.imageVersion (payloadOf b) % 65536, svnB := num b 8 4, staged := true } })))) := by
  generalize hd : cmd h none tag [lo, hi, n] = d
  have hlength : (d.w 4).toNat = n.toNat := hd ▸ rfl
  have haddr : d.addr 2 = lo.toNat + 2 ^ 32 * hi.toNat := hd ▸ rfl
  have hlow := lo.isLt
  have hsrc : d.from_ = none := hd ▸ rfl
  have hself : d.house = h := hd ▸ rfl
  have hrunning : ¬ s.rdF Reg.MBX_DEAN 3 0 = 4 := by
    obtain ⟨-, -, hdean, -⟩ := ht
    omega
  rw [← hd]
  refine (exec_dean_of_takes ht rfl (.inr hhouse) ?tests).trans (congrArg (fun x => Host.Outcome.next (s.answered h none tag 0x15 x)) ?answer)
  case tests =>
    refine List.forall_mem_append.2 ⟨List.forall_mem_append.2 ⟨unusedTests_pass h none tag ?_, ?_⟩, ?_⟩
    · exact ⟨Nat.and_zero _, Nat.and_zero _, Nat.and_zero _, trivial⟩
    · rw [hd]
      exact addrTests_pass (by omega) (hd ▸ hhigh)
    · rw [hd, List.forall_mem_singleton, hlength]
      exact decide_eq_false (by omega)
  case answer =>
    rw [hd]
    dsimp only
    rw [hlength, State.withBuf, haddr, State.withBytes_of_host _ hsrc (congrArg Fin.val hself) (by omega) hpages, ← hb, hself]
    simp only [hswap, if_neg hrunning]
    rfl

/-- FW_SWAP asks for the swap of a staged image. -/
theorem exec_fwSwap_of_takes (ht : Takes s h none) (hhouse : h.val = 0) : exec (.fwSwap (cmd h none tag [])) s =
    .next (s.answered h none tag 0x16 (checked (plainErr (!s.service.staged) 0xC)
      (.later { s with service := { s.service with swap := .pending, swapWaiter := some (none, tag.val) } }))) :=
  (exec_dean_of_takes ht rfl (.inr hhouse) (unusedTests_pass h none tag (used := []) (ws := []) trivial)).trans rfl

/-! ### Debug -/

/-- A House may open its own debug state. -/
def State.scopable (s : State) (h : Fin 8) : Bool :=
  decide (s.fuses.life = 1) || ((decide (s.fuses.life = 2) || decide (s.fuses.life = 3)) && (decide (h.val = 0) || s.service.permit))

/-- What DEBUG_SET with a state comes to. -/
def State.debugAnswer (s : State) (h : Fin 8) (k : Nat) : Answer :=
  checked (firstErr [
    wordErr (decide (h.val ≠ 0) && decide (2 ≤ k)) 2 3, plainErr s.openDevice 0xC, plainErr (decide (k = 1) && !s.scopable h) 0xC,
    plainErr (decide (k = 2) && !(decide (s.fuses.life = 1) || decide (s.fuses.life = 4))) 0xC])
    (.ok [] (if k = 0 then if h.val = 0 then ((List.range 8).foldl State.closeDebug s).dropPermit else s.closeDebug h
      else if k = 1 then { s with scopedHouses := putBit s.scopedHouses h true }
      else if k = 2 then { s.eraseKeys with deviceOpen := true }
      else { s with service := { s.service with permit := true } }))

/-- DEBUG_SET. -/
theorem exec_debugSet_of_takes (ht : Takes s h none) {w : Word} {k : Nat} (hw : w.toNat = k) (hk : k < 4) :
    exec (.debugSet (cmd h none tag [w])) s = .next (s.answered h none tag 0x17 (s.debugAnswer h k)) := by
  have hword : w = BitVec.ofNat 32 k := BitVec.eq_of_toNat_eq (by rw [hw, toNat_word (by omega)])
  have hcode : (cmd h none tag [w]).f 2 1 0 = k := hword ▸ fld_ofNat_low (by decide) hk
  have hmask : w.toNat &&& (0xFFFFFFFF - (2 ^ 2 - 1)) = 0 := hword ▸ and_mask_eq_zero (n := 2) (by decide) hk
  refine (exec_dean_of_takes ht rfl (.inl rfl) ?tests).trans ?answer
  case tests => exact unusedTests_pass h none tag ⟨hmask, trivial⟩
  case answer =>
    rw [hcode]
    rfl

end

/-! ### Completions in the mailbox -/

section
variable (s : State)

theorem State.wr_rest (key : Nat) (v : Word) (regs : Map Word) : { s.wr key v with regs := regs } = { s with regs := regs } := rfl

theorem State.wrF_rest (key hi lo v : Nat) (regs : Map Word) : { s.wrF key hi lo v with regs := regs } = { s with regs := regs } := rfl

theorem State.self_of_no_completions {s : State} (hnone : s.completions = []) : { s with completions := [] } = s :=
  (congrArg (fun cs : List Completion => { s with completions := cs }) hnone).symm

variable (h : Nat) (c : Completion)

/-- The registers of a mailbox with a completion: its record, then BUSY and DONE (R397). -/
def State.mailed : State :=
  ((List.range 16).foldl (fun s i => s.wr (Reg.own h (Reg.MBX_RSPn i)) (BitVec.ofNat 32 (c.words.getD i 0))) s).wrF (Reg.own h Reg.MBX_STATUS) 1 0 2

theorem own_ne {a b : Nat} (hab : a ≠ b) : Reg.own h a ≠ Reg.own h b := fun heq => hab (Nat.add_left_cancel heq)

/-- A register of the mailbox beside the record and its status. -/
theorem State.rd_mailed_of_ne {off : Nat} (hstatus : off ≠ Reg.MBX_STATUS) (hrecord : off < Reg.MBX_RSPn 0 ∨ Reg.MBX_RSPn 16 ≤ off) :
    (s.mailed h c).rd (Reg.own h off) = s.rd (Reg.own h off) := by
  refine (State.rd_wrF_ne _ _ _ _ (own_ne h hstatus)).trans ?_
  refine List.foldlRecOn (motive := fun t : State => t.rd (Reg.own h off) = s.rd (Reg.own h off)) _ _ rfl fun t ht i hi => ?_
  have hne : off ≠ Reg.MBX_RSPn i := by
    have hindex := List.mem_range.1 hi
    simp only [Reg.MBX_RSPn] at hrecord ⊢
    omega
  exact (State.rd_wr_ne _ _ (own_ne h hne)).trans ht

/-- A word of the record. -/
theorem State.rd_mailed_record {j : Nat} (hj : j < 16) : (s.mailed h c).rd (Reg.own h (Reg.MBX_RSPn j)) = BitVec.ofNat 32 (c.words.getD j 0) := by
  have hne : Reg.MBX_RSPn j ≠ Reg.MBX_STATUS := by simp only [Reg.MBX_RSPn, Reg.MBX_STATUS]; omega
  refine (State.rd_wrF_ne _ _ _ _ (own_ne h hne)).trans ?_
  refine foldl_holds_of_mem (P := fun t => t.rd (Reg.own h (Reg.MBX_RSPn j)) = BitVec.ofNat 32 (c.words.getD j 0)) (List.mem_range.2 hj)
    (fun t => State.rd_wr_same _ _ _) (fun t i ht => ?_) s
  by_cases hi : i = j
  · exact hi ▸ State.rd_wr_same _ _ _
  · have hkeys : Reg.MBX_RSPn j ≠ Reg.MBX_RSPn i := by simp only [Reg.MBX_RSPn]; omega
    exact (State.rd_wr_ne _ _ (own_ne h hkeys)).trans ht

theorem State.status_mailed : (s.mailed h c).rdF (Reg.own h Reg.MBX_STATUS) 1 0 = 2 := State.rdF_wrF_of_lt _ _ (by decide) (by decide)

/-- Only registers change. -/
theorem State.mailed_rest (regs : Map Word) : { s.mailed h c with regs := regs } = { s with regs := regs } :=
  (State.wrF_rest _ _ _ _ _ regs).trans (foldl_keeps (g := fun t : State => { t with regs := regs }) (fun t _ => t.wr_rest _ _ regs) _ s)

variable {s h c}

/-- A completion whose mailbox sends no message. -/
theorem State.mbxAnswer_of_silent (hsilent : bit (s.rd (Reg.own h Reg.MBX_IRQ)) 6 = false) : s.mbxAnswer h c = s.mailed h c := by
  have hirq := State.rd_mailed_of_ne s h c (off := Reg.MBX_IRQ) (by decide) (by decide)
  refine if_neg ?_
  rw [← State.mailed, hirq, hsilent]
  exact Bool.false_ne_true

end

/-! ### The slot of a House -/

section
variable {s : State} {h : Fin 8} {tag : Fin 65536}

/-- A source without a command that may start, and no queue: the slot has nothing to serve. -/
theorem serveSlot_of_not_ready (hqueues : s.turnQueues h = []) (hready : s.ready h none = false) (n : Nat) (skip : List (Option Nat)) :
    State.serveSlot h n skip s = s := by
  cases n with
  | zero => rfl
  | succ n =>
    have hnext : s.nextSource h skip = none := by simp [State.nextSource, hqueues, hready]
    simp only [State.serveSlot, hnext]

/-- A mailbox with a command that may start is served first. -/
theorem serveSlot_of_ready (hready : s.ready h none = true) (n : Nat) :
    State.serveSlot h (n + 1) [] s = State.serveSlot h n (if (s.serveSource h none).2 then [] else [none]) (s.serveSource h none).1 := by
  have hnext : s.nextSource h [] = some none := by simp [State.nextSource, hready]
  simp only [State.serveSlot, hnext]

theorem State.journalFlush_of_empty (hpend : s.service.journalPend = 0) : s.journalFlush = s := if_pos hpend

theorem State.rescueRestart_of_served (hrescue : s.service.rescue = false) : s.rescueRestart = s := by simp [State.rescueRestart, hrescue]

theorem State.writeDones_of_none (h : Nat) (hnone : s.completions = []) : s.writeDones h = s := by
  simp only [State.writeDones, hnone, List.filter_nil, List.foldl_nil]
  exact State.self_of_no_completions hnone

theorem State.writeDone_of_mailbox (s : State) (h : Nat) {c : Completion} (hsrc : c.src = none) : s.writeDone h c = s.mbxAnswer h c := by
  simp only [State.writeDone, hsrc]

/-- The one completion of a mailbox goes there. -/
theorem State.writeDones_of_mailbox {c : Completion} (hone : s.completions = [c]) (hhouse : c.house = h.val) (hsrc : c.src = none) :
    s.writeDones h = State.mbxAnswer { s with completions := [] } h c := by
  have hmine : s.completions.filter (fun c => decide (c.house = h.val)) = [c] := by simp [hone, hhouse]
  have hrest : s.completions.filter (fun c => decide (c.house ≠ h.val)) = [] := by simp [hone, hhouse]
  rw [State.writeDones, hmine, hrest, List.foldl_cons, List.foldl_nil, State.writeDone_of_mailbox _ h hsrc]

/-- The first word of a record that has an opcode and a tag. -/
theorem recordWord_fields (tag : Fin 65536) {w : Word} (hw : w = BitVec.ofNat 32 (0x01 + 65536 * tag.val)) :
    fld w 7 0 = 1 ∧ fld w 15 8 = 0 ∧ fld w 31 16 = tag.val := by
  have hlt := tag.isLt
  have hword : w.toNat = 1 + 65536 * tag.val := by rw [hw, toNat_word (by omega)]
  simp only [fld, hword, Nat.shiftRight_eq_div_pow]
  omega

/-- The mailbox's record: NOP with its tag, and zeros. -/
theorem State.nextRecord_of_nop (hword : s.rd (Reg.own h (Reg.MBX_CMDn 0)) = BitVec.ofNat 32 (0x01 + 65536 * tag.val))
    (hzero : ∀ i < 16, i ≠ 0 → s.rd (Reg.own h (Reg.MBX_CMDn i)) = 0) :
    s.nextRecord h none = (1, cmd h none tag (List.replicate 14 0)) := by
  obtain ⟨hop, hres, htag⟩ := recordWord_fields tag rfl
  have hwords : (List.range 16).map (fun i => s.rd (Reg.own h (Reg.MBX_CMDn i))) =
      BitVec.ofNat 32 (0x01 + 65536 * tag.val) :: List.replicate 15 0 := by
    rw [List.range_succ_eq_map, List.map_cons, hword, List.map_map]
    refine congrArg _ (List.eq_replicate_iff.2 ⟨by simp, List.forall_mem_map.2 fun i hi => ?_⟩)
    exact hzero (i + 1) (by have := List.mem_range.1 hi; omega) (Nat.succ_ne_zero i)
  have htag' : Fin.ofNat 65536 tag.val = tag := Fin.ext (Nat.mod_eq_of_lt tag.isLt)
  simp only [State.nextRecord, hwords, recordCmd, List.getD_cons_zero, hop, hres, htag, htag']
  rfl

/-- The completion of a NOP from the mailbox. -/
def nopDone (h : Fin 8) (tag : Fin 65536) : Completion := { house := h, src := none, opcode := 1, tag := tag, status := 0, detail := 0x7FFF, res := [] }

/-- The Dean takes a NOP from the mailbox. -/
theorem serveSource_of_nop (ht : Takes s h none) (hnone : s.completions = [])
    (hrecord : s.nextRecord h none = (1, cmd h none tag (List.replicate 14 0))) :
    (s.serveSource h none).1 = { s with completions := [nopDone h tag] } := by
  have hnop : (State.cmdNop (cmd h none tag (List.replicate 14 0)) s).1 = done s h none tag 1 0 0x7FFF [] s :=
    deanTake_of_takes (run := .ok []) ht (.inl rfl) (unusedTests_pass h none tag (used := [])
      ⟨rfl, rfl, rfl, rfl, rfl, rfl, rfl, rfl, rfl, rfl, rfl, rfl, rfl, rfl, trivial⟩)
  have hserve : s.serveSource h none = State.cmdNop (cmd h none tag (List.replicate 14 0)) s := by
    simp only [State.serveSource, Option.map_none, hrecord]
    rfl
  rw [hserve, hnop, done, hnone]
  rfl

/-- A mailbox that waits for its completion to be written is not ready. -/
theorem State.not_ready_of_owed {c : Completion} (hmem : c ∈ s.completions) (hhouse : c.house = h.val) (hsrc : c.src = none) : s.ready h none = false := by
  have howed : s.owed h none = true := List.any_eq_true.2 ⟨c, hmem, by simp [hhouse, hsrc]⟩
  simp [State.ready, howed]

/-- A slot that has a NOP of the mailbox and time for it writes the completion. -/
theorem deanSlot_of_nop {n : Nat} (ht : Takes s h none) (hnone : s.completions = []) (hpend : s.service.journalPend = 0) (hswap : s.service.swap = .none)
    (hrescue : s.service.rescue = false) (hsilent : bit (s.rd (Reg.own h Reg.MBX_IRQ)) 6 = false) (hqueues : s.turnQueues h = [])
    (hbusy : s.mbxBusy h = true) (hn : n ≠ 0) (hrecord : s.nextRecord h none = (1, cmd h none tag (List.replicate 14 0))) :
    s.deanSlot h n = s.mailed h (nopDone h tag) := by
  obtain ⟨m, rfl⟩ := Nat.exists_eq_succ_of_ne_zero hn
  have ⟨_, _, hdean, htakes⟩ := ht
  have hready : s.ready h none = true := by
    have hfree : s.owed h none = false := by simp [State.owed, hnone]
    have hfrom : s.takesFrom h none = true := htakes
    simp [State.ready, hfrom, hbusy, hfree]
  have hserved : State.serveSlot h (m + 1) [] s = { s with completions := [nopDone h tag] } := by
    rw [serveSlot_of_ready hready, serveSource_of_nop ht hnone hrecord]
    refine serveSlot_of_not_ready (s := { s with completions := [nopDone h tag] }) hqueues ?_ _ _
    exact State.not_ready_of_owed (c := nopDone h tag) (List.mem_singleton_self _) rfl rfl
  have hgap : ¬ (s.service.swap = .gap ∧ h = 0) := by simp [hswap]
  have hwrite : ({ s with completions := [nopDone h tag] } : State).writeDones h = s.mailed h (nopDone h tag) := by
    rw [State.writeDones_of_mailbox (s := { s with completions := [nopDone h tag] }) (c := nopDone h tag) rfl rfl rfl]
    exact (congrArg (State.mbxAnswer · h (nopDone h tag)) (State.self_of_no_completions hnone)).trans (State.mbxAnswer_of_silent hsilent)
  simp only [State.deanSlot, if_neg hgap, hdean, true_or, if_true, hserved]
  rw [State.journalFlush_of_empty (s := { s with completions := [nopDone h tag] }) hpend, hwrite]
  exact State.rescueRestart_of_served ((congrArg (fun t : State => t.service.rescue) (s.mailed_rest h (nopDone h tag) [])).trans hrescue)

/-- A slot of a House that asks for nothing. -/
theorem deanSlot_of_calm (n : Nat) (ht : Takes s h none) (hnone : s.completions = []) (hpend : s.service.journalPend = 0)
    (hswap : s.service.swap = .none) (hrescue : s.service.rescue = false) (hqueues : s.turnQueues h = []) (hbusy : s.mbxBusy h = false) :
    s.deanSlot h n = s := by
  obtain ⟨-, -, hdean, -⟩ := ht
  have hgap : ¬ (s.service.swap = .gap ∧ h = 0) := by simp [hswap]
  have hready : s.ready h none = false := by simp [State.ready, hbusy]
  simp only [State.deanSlot, if_neg hgap, hdean, true_or, if_true]
  rw [serveSlot_of_not_ready hqueues hready, State.journalFlush_of_empty hpend, State.writeDones_of_none _ hnone, State.rescueRestart_of_served hrescue]

end

/-- Settles O32: the commands by what they answer once the record is in order, the slot by whether the mailbox is busy. -/
theorem firmwareDebugAndDeanSlots : Obligations.FirmwareDebugAndDeanSlots := by
  refine ⟨fun s h tag lo hi n ht => ?commands, fun s h n tag ht hnone hpend hswap hrescue hsilent hqueues => ⟨?nop, ?calm⟩⟩
  case commands =>
    intro a b v ok no stage set
    have hset {w : Word} {k : Nat} (hw : w.toNat = k) (hk : k < 4) : set w = .next (s.answered h none tag 0x17 (s.debugAnswer h k)) :=
      exec_debugSet_of_takes ht hw hk
    refine ⟨fun hzero haligned hhigh hlen hcalm hpages => ?stage, fun hzero hstaged => ?swap, fun hzero hstaged => ?unstaged, fun hclosed hlife => ?scope,
      fun hclosed hlife hhouse hpermit => ?unscoped, fun hclosed hhouse => ⟨?close, ?openOther, ?permitOther⟩, fun hclosed hzero => ?permit,
      fun hclosed hzero hlife => ?opens, fun hclosed hzero hlife => ?stays, fun hopen => ?already⟩
    case stage =>
      refine (exec_fwStage_of_takes ht hzero haligned hhigh hlen hcalm hpages rfl).trans ?_
      cases s.signCheck h 1 b with
      | some e => rfl
      | none =>
        dsimp only [checked]
        split <;> rfl
    case swap =>
      rw [exec_fwSwap_of_takes ht hzero, hstaged]
      rfl
    case unstaged =>
      rw [exec_fwSwap_of_takes ht hzero, hstaged]
      rfl
    case scope =>
      have hscope : s.scopable h = true := by simpa [State.scopable] using hlife
      rw [hset (w := 1) (k := 1) rfl (by decide), State.debugAnswer, hclosed, hscope, Bool.not_true, Bool.and_false, decide_eq_false (by decide : ¬ 2 ≤ 1), Bool.and_false]
      rfl
    case unscoped =>
      have hscope : s.scopable h = false := by
        have hnotDev : s.fuses.life ≠ 1 := by omega
        simp [State.scopable, hnotDev, hhouse, hpermit]
      rw [hset (w := 1) (k := 1) rfl (by decide), State.debugAnswer, hclosed, hscope, decide_eq_false (by decide : ¬ 2 ≤ 1), Bool.and_false]
      rfl
    case close =>
      rw [hset (w := 0) (k := 0) rfl (by decide), State.debugAnswer, hclosed, decide_eq_false (by decide : ¬ 2 ≤ 0), Bool.and_false, if_pos rfl, if_neg hhouse]
      rfl
    case openOther =>
      rw [hset (w := 2) (k := 2) rfl (by decide), State.debugAnswer, decide_eq_true hhouse]
      rfl
    case permitOther =>
      rw [hset (w := 3) (k := 3) rfl (by decide), State.debugAnswer, decide_eq_true hhouse]
      rfl
    case permit =>
      rw [hset (w := 3) (k := 3) rfl (by decide), State.debugAnswer, hclosed, decide_eq_false (not_not_intro hzero)]
      rfl
    case opens =>
      refine ⟨{ s.eraseKeys with deviceOpen := true }, ?_, rfl, rfl, rfl⟩
      have hmay : (decide (s.fuses.life = 1) || decide (s.fuses.life = 4)) = true := by simpa using hlife
      rw [hset (w := 2) (k := 2) rfl (by decide), State.debugAnswer, hclosed, decide_eq_false (not_not_intro hzero), hmay]
      rfl
    case stays =>
      have hmay : (decide (s.fuses.life = 1) || decide (s.fuses.life = 4)) = false := by
        rw [Bool.or_eq_false_iff, decide_eq_false_iff_not, decide_eq_false_iff_not]
        omega
      rw [hset (w := 2) (k := 2) rfl (by decide), State.debugAnswer, hclosed, decide_eq_false (not_not_intro hzero), hmay]
      rfl
    case already =>
      rw [hset (w := 0) (k := 0) rfl (by decide), State.debugAnswer, hopen, decide_eq_false (by decide : ¬ 2 ≤ 0), Bool.and_false]
      rfl
  case nop =>
    intro hbusy hn hword hzero
    have hslot := deanSlot_of_nop ht hnone hpend hswap hrescue hsilent hqueues hbusy hn (State.nextRecord_of_nop hword hzero)
    refine ⟨s.mailed h (nopDone h tag), (exec_of_link (f := fun s => s.deanSlot h n) ⟨ht.1, .inl ht.2.1⟩ rfl).trans (congrArg _ hslot),
      s.status_mailed h _, s.rd_mailed_record h _ (by decide), s.rd_mailed_record h _ (by decide), fun i hi hlow => ?_, s.mailed_rest h _ s.regs⟩
    obtain ⟨j, rfl⟩ := Nat.exists_eq_add_of_le' hlow
    exact s.rd_mailed_record h _ hi
  case calm =>
    intro hbusy
    exact (exec_of_link (f := fun s => s.deanSlot h n) ⟨ht.1, .inl ht.2.1⟩ rfl).trans
      (congrArg _ (deanSlot_of_calm n ht hnone hpend hswap hrescue hqueues hbusy))

end Sys2Proof.Machine
end

section
/-! PROOFS. HALT, STEP and RESUME of a core, and its breakpoint (R439, R441, R444). -/
namespace Sys2Proof.Machine
open Claim

/-! ### A core that stands still -/

/-- A core that completes nothing, waits for nothing, and has nothing to record. -/
structure Core.Still (k : Core) : Prop where
  signals : k.signals = []
  tdones : k.tdones = []
  waits : k.waits = []

/-- State t is s with core c as y. -/
structure With (c : Nat) (y : Core) (s t : State) : Prop where
  only : OnlyCore c s t
  core : t.core c = y

section
variable {c : Nat} {y : Core} {s t : State}

theorem With.setCore (h : OnlyCore c s t) (z : Core) : With c z s (t.setCore c z) := ⟨h.trans (OnlyCore.setCore t c z), State.core_setCore_same t c z⟩

theorem With.onCore (h : With c y s t) (f : Core → Core) : With c (f y) s (t.onCore c f) := by
  rw [← h.core]
  exact With.setCore h.only _

/-- Such a core does nothing by itself. -/
theorem With.progress (h : With c y s t) (hstill : y.Still) : With c y s (t.progress c) := by
  obtain ⟨hsig, htd, hwaits⟩ := hstill
  rw [← h.core] at hsig htd hwaits
  obtain ⟨honly, hcore⟩ := State.doSignals_of_none hsig
  have htd' : (t.doSignals c).doTdones c = t.doSignals c := State.doTdones_of_none (by rw [hcore, htd])
  have hsame : { t.core c with waits := [], idle := (t.core c).idle || false } = y := by
    rw [Bool.or_false, ← hwaits]
    exact h.core
  rw [State.progress, htd', State.dropWaits, hcore, hwaits]
  exact hsame ▸ With.setCore (h.only.trans honly) _

/-- A powered core in service that runs and is not halted may issue. -/
theorem With.canIssue (h : With c y s t) (hon : s.coresOn = true) (hlive : s.coreLive c = true) (hsame : y.retired = (s.core c).retired ∧
    y.lostArrays = (s.core c).lostArrays) (hidle : y.idle = false) (hstopped : y.stopped = false) (hhalted : y.halted = false) : t.canIssue c = true := by
  obtain ⟨hretired, hlost⟩ := hsame
  have hon' : t.coresOn = true := (congrArg State.coresOn h.only.rest :).trans hon
  have hlive' : t.coreLive c = true := by
    have htiers : t.formTiers = s.formTiers := (congrArg State.formTiers h.only.rest :)
    have hfuses : t.fuses = s.fuses := (congrArg State.fuses h.only.rest :)
    rw [State.coreLive, h.core, hretired, hlost, htiers, hfuses]
    exact hlive
  simp [State.canIssue, h.core, hon', hlive', hidle, hstopped, hhalted]

end

/-! ### The bundle of an empty instruction store -/

/-- A bundle of zeros. -/
def emptyBundle : List SlotW := List.replicate 8 0

theorem slotsOf_emptyBundle : slotsOf emptyBundle = (List.range 8).map fun i => (i, 0) := by decide

theorem usedSlots_emptyBundle : usedSlots emptyBundle = [] := by decide

theorem runSlots_emptyBundle (k : Core) : runSlots k emptyBundle = [] := by rw [runSlots, usedSlots_emptyBundle, List.filter_nil]

theorem bundleClash_emptyBundle : bundleClash emptyBundle = none := by decide

theorem State.bundleFault_emptyBundle (s : State) (k : Core) (c : Nat) : s.bundleFault k c emptyBundle = none := by
  rw [State.bundleFault, slotsOf_emptyBundle, List.findSome?_eq_none_iff]
  refine List.forall_mem_map.2 fun i _ => ?_
  rw [State.slotFault_of_no_clash (slotLegal_zero _ i) (fun n r => by rw [bundleClash_emptyBundle]; exact nofun), State.slotFault_rest_of_off (.inr rfl)]
  rfl

theorem State.stalls_emptyBundle (s : State) {k : Core} (c : Nat) (hwaits : k.waits = []) :
    s.depStall k c emptyBundle = false ∧ s.queueStall k c emptyBundle = false := by
  simp [State.depStall, State.queueStall, usedSlots_emptyBundle, runSlots_emptyBundle, hwaits]

theorem memReadN_nil (a n : Nat) : memReadN [] a n = List.replicate n 0 := by
  induction n generalizing a with
  | zero => rfl
  | succ n ih => rw [memReadN, ih, List.replicate_succ]; rfl

section
variable {s : State}

/-- Every word of an empty store reads 0. -/
theorem State.fetch_of_empty (hstore : s.istore = []) (f pc : Nat) : s.fetch f pc = emptyBundle := by
  have hword (i : Nat) : BitVec.ofNat 64 (leNat (s.load .istore (istoreKey f (64 * pc + 8 * i)) 8)) = 0 := by
    rw [State.load, State.bytesOf, hstore, memReadN_nil]
    rfl
  simp only [State.fetch, hword]
  rfl

theorem State.istore_clean (hecc : s.ecc = []) (key n : Nat) : s.firstBad .istore key n = none ∧ s.corrected .istore key n = 0 := by
  simp [State.firstBad, State.corrected, State.eccOf, hecc, mapGet]

end

/-- The core after a bundle of zeros: the pc and the loops move, and CNT_ISSUE counts (R71, R80). -/
def Core.passed (k : Core) : Core :=
  let y : Core := { k with pc := (loopEnd k.pc k.loops).1, loops := (loopEnd k.pc k.loops).2, seq := k.seq + 1, bpSkip := false }
  let n := (k.C 0x18).toNat + 2 ^ 32 * (k.C 0x19).toNat + 1
  (y.setC 0x18 (BitVec.ofNat 32 n)).setC 0x19 (BitVec.ofNat 32 (n / 2 ^ 32 % 2 ^ 16))

section
variable {c : Nat} {y : Core} {s t : State}

/-- Such a bundle issues on a core that stands still. -/
theorem With.runBundle_empty (h : With c y s t) (hstill : y.Still) (hcount : (y.C 0x18).toNat + 2 ^ 32 * (y.C 0x19).toNat < 2 ^ 48 - 1) :
    With c y.passed s (t.runBundle y c emptyBundle) := by
  obtain ⟨hsig, htd, hwaits⟩ := hstill
  rw [State.runBundle_of_none (runSlots_emptyBundle y)]
  have hmoved := h.onCore (fun z => { z with pc := (loopEnd y.pc y.loops).1, loops := (loopEnd y.pc y.loops).2, seq := y.seq + 1, bpSkip := false })
  refine With.progress ?_ ⟨hsig, htd, hwaits⟩
  rw [State.csrCount_of_below]
  · rw [hmoved.core]
    exact With.setCore hmoved.only _
  · rw [hmoved.core]
    show (y.C 0x18).toNat + 2 ^ 32 * (y.C 0x19).toNat + 1 < 2 ^ 48
    omega

/-- What lets a core issue from an empty instruction store. -/
structure Runs (s : State) (c : Nat) (y : Core) : Prop where
  still : y.Still
  may : ∀ t, With c y s t → t.canIssue c = true
  noBreak : y.atBreak = false
  count : (y.C 0x18).toNat + 2 ^ 32 * (y.C 0x19).toNat < 2 ^ 48 - 1

/-- A single step issues the bundle and halts the core. -/
theorem With.issue_empty (h : With c y s t) (hruns : Runs s c y) (hstep : y.stepping = true) :
    With c { y.passed with halted := true, stepping := false } s (t.issue c emptyBundle) := by
  have hprogress := h.progress hruns.still
  obtain ⟨hdep, hqueue⟩ := State.stalls_emptyBundle (t.progress c) c hruns.still.waits
  have hissue : t.issue c emptyBundle = ((t.progress c).runBundle y c emptyBundle).onCore c (fun x => { x with halted := true, stepping := false }) := by
    simp only [State.issue, hruns.may _ hprogress, hprogress.core, hruns.noBreak, hdep, hqueue, State.bundleFault_emptyBundle, hstep,
      Bool.not_true, Bool.false_eq_true, if_false, if_true]
  rw [hissue]
  exact (hprogress.runBundle_empty hruns.still hruns.count).onCore (fun x => { x with halted := true, stepping := false })

/-- A fetch from an empty, clean store that no hand-off bounds. -/
theorem With.fetchIssue_empty (h : With c y s t) (hruns : Runs s c y) (hstep : y.stepping = true) (hstore : s.istore = []) (hecc : s.ecc = [])
    (hhandoffs : s.handoffs = []) : With c { y.passed with halted := true, stepping := false } s (t.fetchIssue c) := by
  have hprogress := h.progress hruns.still
  have hwaits := hruns.still.waits
  generalize hu : t.progress c = u at hprogress
  have hstore' : u.istore = [] := (congrArg State.istore hprogress.only.rest :).trans hstore
  have hecc' : u.ecc = [] := (congrArg State.ecc hprogress.only.rest :).trans hecc
  have hinside (f house pc : Nat) : u.outsideRange f house pc = false := by
    have hhandoffs' : u.handoffs = [] := (congrArg State.handoffs hprogress.only.rest :).trans hhandoffs
    simp [State.outsideRange, hhandoffs']
  obtain ⟨hgood, hclean⟩ := State.istore_clean hecc' (istoreKey (c / 32) (64 * y.pc)) 64
  have hfetch : t.fetchIssue c = u.issue c emptyBundle := by
    simp only [State.fetchIssue, hu, hruns.may _ hprogress, hprogress.core, hruns.noBreak, hwaits, hinside, hgood, hclean,
      State.fetch_of_empty hstore', Bool.not_true, List.isEmpty_nil, Bool.or_false, Bool.false_eq_true, if_false, Option.isSome_none]
    rfl
  rw [hfetch]
  exact hprogress.issue_empty hruns hstep

end

/-! ### The rows of the TCD block -/

section
variable {s : State} {c : Nat}

/-- A core in single step. -/
def Core.stepped (k : Core) : Core := { k with halted := false, stepping := true, bpSkip := true }

/-- STEP of a core that is halted: an empty bundle, and the core is halted again. -/
theorem State.coreStep_of_halted (hhalted : (s.core c).halted = true) (hquiet : Quiet s c) (hwaits : (s.core c).waits = []) (hidle : (s.core c).idle = false)
    (hstopped : (s.core c).stopped = false) (hon : s.coresOn = true) (hlive : s.coreLive c = true) (hstore : s.istore = []) (hecc : s.ecc = [])
    (hhandoffs : s.handoffs = []) : With c { (s.core c).stepped.passed with halted := true, stepping := false } s (s.coreStep c) := by
  have hruns : Runs s c (s.core c).stepped := by
    refine ⟨⟨hquiet.signals, hquiet.tdones, hwaits⟩, fun t h => h.canIssue hon hlive ⟨rfl, rfl⟩ hidle hstopped rfl, ?_, hquiet.count⟩
    simp [Core.atBreak, Core.stepped]
  rw [State.coreStep, if_pos hhalted]
  exact (With.setCore (OnlyCore.refl c s) _).fetchIssue_empty hruns rfl hstore hecc hhandoffs

theorem coreResume_of_halted {k : Core} (h : k.halted = true) : coreResume k = { k with halted := false, stepping := false, bpSkip := true } := if_pos h

theorem coreResume_of_running {k : Core} (h : k.halted = false) : coreResume k = k := by simp [coreResume, h]

end

/-- Settles O22: HALT and RESUME change the core alone, a step issues the empty bundle of an empty store, and the breakpoint's test is that of the row. -/
theorem debugHaltsStepsAndResumes : Obligations.DebugHaltsStepsAndResumes := by
  intro s fn c hup k p becomes
  have hhalt : exec (.halt fn c) s = .next (if s.tcdOpen fn c then s.onCore c coreHalt else s) := exec_of_up hup rfl
  have hstep : exec (.step_ fn c) s = .next (if s.tcdOpen fn c then s.coreStep c else s) := exec_of_up hup rfl
  have hresume : exec (.resume fn c) s = .next (if s.tcdOpen fn c then s.onCore c coreResume else s) := exec_of_up hup rfl
  have hbreak : exec (.breakpoint c) s = .next (s.breakHalt c) := exec_of_up (f := fun s => s.breakHalt c) hup rfl
  have hbecomes {j : Instr} {t : State} {y : Core} (hexec : exec j s = .next t) (h : With c y s t) : becomes j y :=
    ⟨t, hexec, h.core, h.only.others, h.only.rest⟩
  have hself : With c k s s := ⟨OnlyCore.refl c s, rfl⟩
  refine ⟨fun hclosed => ?closed, fun hopen => ?halt, fun hopen hhalted => ?resume, fun hopen hrunning => ⟨?running, ?noStep⟩,
    fun hopen hhalted hquiet hwaits hidle hstopped hlive hstore hecc hhandoffs => ?step, fun hissue hat => ?stops, fun hgo => ?goes⟩
  case closed =>
    have hshut : ¬ s.tcdOpen fn c = true := by simp [hclosed]
    exact ⟨hhalt.trans (congrArg _ (if_neg hshut)), hstep.trans (congrArg _ (if_neg hshut)), hresume.trans (congrArg _ (if_neg hshut))⟩
  case halt => exact hbecomes (hhalt.trans (congrArg _ (if_pos hopen))) (hself.onCore coreHalt)
  case resume => exact hbecomes (hresume.trans (congrArg _ (if_pos hopen))) (coreResume_of_halted hhalted ▸ hself.onCore coreResume)
  case running => exact hbecomes (hresume.trans (congrArg _ (if_pos hopen))) (coreResume_of_running hrunning ▸ hself.onCore coreResume)
  case noStep =>
    have hstays : ¬ (s.core c).halted = true := Bool.not_eq_true _ ▸ hrunning
    exact (hstep.trans (congrArg _ (if_pos hopen))).trans (congrArg _ (if_neg hstays))
  case step =>
    have hon : s.coresOn = true := by
      obtain ⟨hreset, hpower⟩ := hup
      simp [State.coresOn, hreset, hpower]
    have hdone := State.coreStep_of_halted hhalted hquiet hwaits hidle hstopped hon hlive hstore hecc hhandoffs
    refine ⟨s.coreStep c, hstep.trans (congrArg _ (if_pos hopen)), ?_⟩
    rw [hdone.core]
    exact ⟨rfl, rfl, rfl, rfl, rfl, rfl, hdone.only.rest⟩
  case stops =>
    refine hbreak.trans (congrArg _ (if_pos ?_))
    rw [Bool.and_eq_true]
    exact ⟨hissue, hat⟩
  case goes =>
    refine hbreak.trans (congrArg _ (if_neg ?_))
    rw [Bool.and_eq_true]
    rintro ⟨hissue, hat⟩
    rcases hgo with hno | hno
    · exact Bool.false_ne_true (hno.symm.trans hissue)
    · exact Bool.false_ne_true (hno.symm.trans hat)

end Sys2Proof.Machine
end

section
/-! PROOFS. Hold-up (R457 to R463): the save and its seal, the return of the supplies and their loss. -/
namespace Sys2Proof.Machine
open Claim

section
variable {s : State}

/-- What Hold-up leaves of a state: the rest of the block is wiped, and the save begins with its record if start-up has passed its step 3. -/
theorem State.holdUp_reads (s : State) (cause : Nat) : (s.holdUp cause).power = .holdup ∧ (s.holdUp cause).cores = [] ∧ (s.holdUp cause).lib = [] ∧
    (s.holdUp cause).saves = s.saves ∧ (s.holdUp cause).journal = s.journal ∧
    (s.holdUp cause).service.save = (if s.started && decide (s.rdF Reg.MBX_DEAN 3 0 ≠ 4) then some (s.saveRecord cause) else none) ∧
    (s.holdUp cause).service.saved = !(s.started && decide (s.rdF Reg.MBX_DEAN 3 0 ≠ 4)) := ⟨rfl, rfl, rfl, rfl, rfl, rfl, rfl⟩

theorem link_iff : Link s ↔ (s.resetN && (s.power = .on || s.power = .standby)) = true := by
  simp [Link]

theorem State.holdupWarning_of_link (h : Link s) (cause : Nat) : s.holdupWarning cause = s.holdUp cause := if_pos (link_iff.1 h)

theorem State.holdupWarning_of_no_link (h : ¬ Link s) (cause : Nat) : s.holdupWarning cause = s := if_neg fun hlink => h (link_iff.2 hlink)

/-- Page 0 seals the record (R458). -/
theorem State.saveSealed_of_saving {r : SaveRec} (n : Nat) (hpower : s.power = .holdup) (hsave : s.service.save = some r) (hsaved : s.service.saved = false)
    (hheld : s.service.resetHeld = false) : s.saveSealed n = { s with
      saves := s.saves ++ [{ r with vholdEnd := n }], journal := s.service.saveJournal
      service := { s.service with saved := true, save := none, saveJournal := {} } } := by
  simp [State.saveSealed, hsave, hpower, hsaved, hheld]

/-- Without a save in progress there is nothing to seal. -/
theorem State.saveSealed_of_idle (n : Nat) (h : s.service.save = none ∨ s.power ≠ .holdup ∨ s.service.saved = true) : s.saveSealed n = s := by
  unfold State.saveSealed
  split
  case h_2 => rfl
  case h_1 r hsave =>
    refine if_neg ?_
    rcases h with hnone | hpower | hsaved
    · rw [hsave] at hnone
      cases hnone
    · simp [hpower]
    · simp [hsaved]

/-- The device goes on from a save that has ended, unless a trip has brought it there. -/
theorem State.holdupResume_of_saved (u : StartUp) (hpower : s.power = .holdup) (hreset : s.resetN = true) (hsaved : s.service.saved = true)
    (htripped : s.service.tripped = false) : s.holdupResume u = s.warmStart u 2 := if_pos (by simp [hpower, hreset, hsaved, htripped])

theorem State.holdupResume_of_not (u : StartUp) (h : s.power ≠ .holdup ∨ s.resetN = false ∨ s.service.saved = false ∨ s.service.tripped = true) :
    s.holdupResume u = s := by
  refine if_neg ?_
  rcases h with h | h | h | h <;> simp [h]

/-- After a trip it goes on once every sensor is cool. -/
theorem State.thermalRestart_of_saved (u : StartUp) (hpower : s.power = .holdup) (hreset : s.resetN = true) (hsaved : s.service.saved = true)
    (htripped : s.service.tripped = true) : s.thermalRestart u = s.warmStart u 3 := if_pos (by simp [hpower, hreset, hsaved, htripped])

theorem State.thermalRestart_of_not (u : StartUp) (h : s.power ≠ .holdup ∨ s.resetN = false ∨ s.service.saved = false ∨ s.service.tripped = false) :
    s.thermalRestart u = s := by
  refine if_neg ?_
  rcases h with h | h | h | h <;> simp [h]

/-- A record whose page 0 is not written is not valid when the power goes (R459). -/
def State.saveLost (s : State) : State :=
  match s.service.save with
  | some r => if s.service.saved then s else { s with saves := s.saves ++ [{ r with valid := false }] }
  | none => s

/-- The loss of power: what is not kept is wiped. -/
theorem State.powerOff_of_holdup (h : s.power = .holdup) : s.powerOff =
    { s.saveLost.wipe false with power := .off, resetN := false, service := { (s.saveLost.wipe false).service with cold := true } } := if_pos h

theorem State.saves_saveLost_of_end (h : s.service.save = none ∨ s.service.saved = true) : s.saveLost.saves = s.saves := by
  unfold State.saveLost
  split
  case h_2 => rfl
  case h_1 r hsave =>
    rcases h with hnone | hsaved
    · rw [hsave] at hnone
      cases hnone
    · rw [if_pos hsaved]

theorem State.saves_saveLost_of_cut {r : SaveRec} (hsave : s.service.save = some r) (hsaved : s.service.saved = false) :
    s.saveLost.saves = s.saves ++ [{ r with valid := false }] := by
  simp [State.saveLost, hsave, hsaved]

theorem State.fuses_saveLost (s : State) : s.saveLost.fuses = s.fuses := by
  unfold State.saveLost
  split
  · split <;> rfl
  · rfl

end

/-- Settles O50: each row by the state of the save and of the power. -/
theorem holdUpSavesAndEnds : Obligations.HoldUpSavesAndEnds := by
  intro s v
  have hwarning (i : Bool) : exec (.holdupWarning i) s = .next (s.holdupWarning (if i then 2 else 1)) := rfl
  have hsealed (n : Fin 4096) : exec (.saveSealed n) s = .next (s.saveSealed n) := rfl
  have hresume (u : StartUp) : exec (.holdupResume u) s = .next (s.holdupResume u) := rfl
  have hrestart (u : StartUp) : exec (.thermalRestart u) s = .next (s.thermalRestart u) := rfl
  have hoff : exec .powerOff s = .next s.powerOff := rfl
  refine ⟨fun i hlink hstarted hruns => ?saves, fun i hlink hstarted => ?noRecord, fun i hlink => ?ignored, fun n r hpower hsave hsaved hheld => ?sealed,
    fun n h => ?noSeal, fun u hpower hreset hsaved htripped => ?resumes, fun u h => ?noResume, fun u hpower hreset hsaved htripped => ?restarts,
    fun u h => ?noRestart, fun hpower => ?off, fun hpower => ?noOff, fun hlink => ?glitch⟩
  case saves =>
    obtain ⟨hpower, hcores, hlib, hkept, hjournal, hsave, hsaved⟩ := s.holdUp_reads (if i then 2 else 1)
    have hrecord : (s.started && decide (s.rdF Reg.MBX_DEAN 3 0 ≠ 4)) = true := by simp [hstarted, hruns]
    rw [hrecord] at hsave hsaved
    exact ⟨_, (hwarning i).trans (congrArg _ (State.holdupWarning_of_link hlink _)), s.saveRecord (if i then 2 else 1), hpower, hsave, rfl, rfl, rfl, hsaved,
      hcores, hlib, hkept, hjournal⟩
  case noRecord =>
    obtain ⟨hpower, -, -, -, -, hsave, hsaved⟩ := s.holdUp_reads (if i then 2 else 1)
    rw [hstarted, Bool.false_and] at hsave hsaved
    exact ⟨_, (hwarning i).trans (congrArg _ (State.holdupWarning_of_link hlink _)), hpower, hsave, hsaved⟩
  case ignored => exact (hwarning i).trans (congrArg _ (State.holdupWarning_of_no_link hlink _))
  case sealed => exact (hsealed n).trans (congrArg _ (State.saveSealed_of_saving n hpower hsave hsaved hheld))
  case noSeal => exact (hsealed n).trans (congrArg _ (State.saveSealed_of_idle n h))
  case resumes => exact (hresume u).trans (congrArg _ (State.holdupResume_of_saved u hpower hreset hsaved htripped))
  case noResume => exact (hresume u).trans (congrArg _ (State.holdupResume_of_not u h))
  case restarts => exact (hrestart u).trans (congrArg _ (State.thermalRestart_of_saved u hpower hreset hsaved htripped))
  case noRestart => exact (hrestart u).trans (congrArg _ (State.thermalRestart_of_not u h))
  case off =>
    exact ⟨_, hoff.trans (congrArg _ (State.powerOff_of_holdup hpower)), rfl, rfl, rfl, s.fuses_saveLost, rfl, State.saves_saveLost_of_end,
      fun r => State.saves_saveLost_of_cut⟩
  case noOff => exact hoff.trans (congrArg _ (if_neg hpower))
  case glitch => exact setsRegs_of_wr (exec_of_link (f := fun s => s.countErr Reg.PWR_SAGGLITCH) hlink rfl)

end Sys2Proof.Machine
end

section
/-! PROOFS. The power states (R447 to R450, R471): requests, the entry of Standby, and the end of a transition. -/
namespace Sys2Proof.Machine
open Claim

/-! ### Requests (Table 16.3) -/

section
variable {s : State}

/-- A request that has been acted on, or asks for nothing more. -/
def State.requestMet (s : State) : State := { s with service := { s.service with heldReq := none } }

/-- The request that waits. -/
def State.requestHeld (s : State) (v : Nat) : State := { s with service := { s.service with heldReq := some v } }

/-- A request waits while a transition is in progress. -/
theorem State.powerAct_of_trans {t : Nat} (h : s.service.trans = some t) : s.powerAct = s := by
  simp only [State.powerAct, h]

/-- Nothing waits. -/
theorem State.powerAct_of_none (h : s.service.heldReq = none) : s.powerAct = s := by
  unfold State.powerAct
  split
  case h_1 v _ hreq =>
    rw [h] at hreq
    cases hreq
  case h_2 => rfl

/-- Without a transition a request is acted on, by the state of the device. -/
theorem State.powerAct_of_request {v : Nat} (h : s.service.trans = none) (hreq : s.service.heldReq = some v) : s.powerAct =
    if v = 2 then (if s.powerState = 2 then s.requestMet else s.transBegin 2)
    else if v = 1 then (if s.powerState = 0 then (if s.ecoTooSlow then s.ecoRefused else s.transBegin 1) else s.requestMet)
    else if v = 3 then (if s.powerState = 2 then s.transBegin 0 else s.requestMet)
    else if s.powerState = 0 then s.requestMet else s.transBegin 0 := by
  unfold State.powerAct
  rw [h, hreq]
  rfl

theorem State.powerAsk_of_trans {t : Nat} (h : s.service.trans = some t) (v : Nat) : s.powerAsk v = s.requestHeld v :=
  State.powerAct_of_trans (s := s.requestHeld v) h

section
variable (h : s.service.trans = none)
include h

theorem State.powerAsk_full : s.powerAsk 0 = if s.powerState = 0 then s.requestMet else s.transBegin 0 :=
  State.powerAct_of_request (s := s.requestHeld 0) h rfl

theorem State.powerAsk_eco : s.powerAsk 1 =
    if s.powerState = 0 then (if s.ecoTooSlow then (s.requestHeld 1).ecoRefused else s.transBegin 1) else s.requestMet :=
  State.powerAct_of_request (s := s.requestHeld 1) h rfl

theorem State.powerAsk_standby : s.powerAsk 2 = if s.powerState = 2 then s.requestMet else s.transBegin 2 :=
  State.powerAct_of_request (s := s.requestHeld 2) h rfl

theorem State.powerAsk_d0 : s.powerAsk 3 = if s.powerState = 2 then s.transBegin 0 else s.requestMet :=
  State.powerAct_of_request (s := s.requestHeld 3) h rfl

end

/-- A request written leaves what it is judged by. -/
theorem State.powerState_wr_req (s : State) (v : Nat) : (s.wrF Reg.PWR_REQ 1 0 v).powerState = s.powerState :=
  State.rdF_wrF_ne s _ _ _ _ _ (by decide)

theorem State.ecoTooSlow_wr_req (s : State) (v : Nat) : (s.wrF Reg.PWR_REQ 1 0 v).ecoTooSlow = s.ecoTooSlow := by
  have heco : (s.wrF Reg.PWR_REQ 1 0 v).rdF Reg.PWR_ECO 7 0 = s.rdF Reg.PWR_ECO 7 0 := State.rdF_wrF_ne s _ _ _ _ _ (by decide)
  have himages : (s.wrF Reg.PWR_REQ 1 0 v).committedImages = s.committedImages := rfl
  rw [State.ecoTooSlow, heco, himages, State.ecoTooSlow]

/-- A refused Eco is flagged; no transition begins. -/
theorem State.ecoRefused_reads (s : State) : bit (s.ecoRefused.rd Reg.PWR_STATE) 8 = true ∧ s.ecoRefused.service.trans = s.service.trans := by
  have hflag : bit ((s.wrF Reg.PWR_STATE 8 8 1).rd Reg.PWR_STATE) 8 = true := (s.bit_rd_wrF _ _ _ _ (by decide)).trans rfl
  have hposted : EventsOnly s.ecoRefused { s.wrF Reg.PWR_STATE 8 8 1 with service := { s.service with heldReq := none } } :=
    State.post_eventsOnly _ _ _ _ _ _
  refine ⟨?_, (congrArg (fun t : State => t.service.trans) hposted.frame :)⟩
  rw [State.ecoRefused, State.rd_post_above _ _ _ _ _ (by decide) (by decide)]
  exact hflag

end

/-! ### Standby (R449) -/

section
variable (s : State)

/-- What the entry of Standby reads after its aborts: the cores and the commits that are accepted. -/
def State.coresAndCommits : Map Core × List Accepted := (s.cores, s.accepted)

theorem State.dramWrite_coresAndCommits (h a : Nat) (bs : List Byte) : (s.dramWrite h a bs).coresAndCommits = s.coresAndCommits := by
  induction bs generalizing s a with
  | nil => rfl
  | cons b bs ih =>
    unfold State.dramWrite
    split
    · exact ih _ _
    · exact ih _ _

theorem State.libError_coresAndCommits (unc : Bool) (a : Nat) : (s.libError unc a).coresAndCommits = s.coresAndCommits := by
  cases unc <;> rfl

theorem State.evict_coresAndCommits (h i : Nat) : (s.evict h i).coresAndCommits = s.coresAndCommits := by
  have htag (t : State) : (t.setTag i none).coresAndCommits = t.coresAndCommits := rfl
  unfold State.evict
  split
  · rfl
  · rw [htag]
    split
    · split
      · exact s.libError_coresAndCommits _ _
      · exact s.dramWrite_coresAndCommits _ _ _
    · rfl

theorem State.flushRange_coresAndCommits (h a n : Nat) (inval : Bool) : (s.flushRange h a n inval).coresAndCommits = s.coresAndCommits := by
  refine foldl_keeps (g := State.coresAndCommits) (fun t e => ?_) _ s
  split
  · split
    · split
      · exact t.evict_coresAndCommits _ _
      · exact t.evict_coresAndCommits _ _
    · rfl
  · rfl

theorem State.dmaFlush_coresAndCommits (e : Nat) : (s.dmaFlush e).coresAndCommits = s.coresAndCommits := by
  unfold State.dmaFlush
  dsimp only
  split
  · exact s.flushRange_coresAndCommits _ _ _ _
  · rfl

theorem State.post_coresAndCommits (h code tag : Nat) (own : Option Nat) (detail : List Nat) :
    (s.post h code tag own detail).coresAndCommits = s.coresAndCommits :=
  (congrArg State.coresAndCommits (s.post_eventsOnly h code tag own detail).frame :)

theorem State.dmaEnd_coresAndCommits (e st : Nat) : (s.dmaEnd e st).coresAndCommits = s.coresAndCommits := by
  unfold State.dmaEnd State.dmaAnswer
  dsimp only
  split <;> rfl

theorem State.dmaFault_coresAndCommits (e cause addr : Nat) : (s.dmaFault e cause addr).coresAndCommits = s.coresAndCommits :=
  (State.dmaEnd_coresAndCommits _ e 4).trans ((State.post_coresAndCommits _ _ _ _ _ _).trans (s.dmaFlush_coresAndCommits e))

theorem State.dmaAbort_coresAndCommits (e : Nat) : (s.dmaAbort e).coresAndCommits = s.coresAndCommits := by
  unfold State.dmaAbort
  dsimp only
  split
  · rfl
  · exact s.dmaFault_coresAndCommits _ _ _

theorem State.hfAbort_coresAndCommits (h : Nat) : (s.hfAbort h).coresAndCommits = s.coresAndCommits := by
  refine (foldl_keeps (g := State.coresAndCommits) (f := fun t _ => t.hfFinish h 3) (fun _ _ => rfl) _ _).trans ?_
  split <;> rfl

theorem State.abortWindow_coresAndCommits (e : Nat) : (s.abortWindow none e).coresAndCommits = s.coresAndCommits := by
  have habort (t : State) (h : Nat) (c : Prop) [Decidable c] : (if c then t.hfAbort h else t).coresAndCommits = t.coresAndCommits := by
    split
    · exact t.hfAbort_coresAndCommits h
    · rfl
  unfold State.abortWindow
  dsimp only
  split
  · exact (habort _ _ _).trans (s.dmaAbort_coresAndCommits e)
  · exact s.dmaAbort_coresAndCommits e

theorem State.declareDisc_coresAndCommits (t reason : Nat) : (s.declareDisc t reason).coresAndCommits = s.coresAndCommits := by
  unfold State.declareDisc
  split
  · rfl
  · refine (foldl_keeps (g := State.coresAndCommits) (fun u p => ?_) _ _).trans ?_
    · rfl
    · rfl

theorem State.sinkLost_coresAndCommits (k : Nat) : (s.sinkLost k).coresAndCommits = s.coresAndCommits := by
  unfold State.sinkLost
  split
  · rfl
  · dsimp only
    split
    · exact State.declareDisc_coresAndCommits _ _ _
    · rfl

/-- Commits that are accepted are dropped, and the cores stand. -/
theorem State.dropCommits_coresAndCommits : s.dropCommits.coresAndCommits = (s.cores, []) := by
  unfold State.dropCommits
  refine Prod.ext ((foldl_keeps (g := State.cores) (fun t a => ?_) s.accepted s :)) rfl
  split
  · split <;> rfl
  · rfl

/-- The device before its forms lose their power: nothing is accepted, and chains and sinks have ended. -/
def State.quieted : State :=
  (List.range 2).foldl (fun s k => s.sinkLost k) ((List.range 96).foldl (fun s e => s.abortWindow none e) s.dropCommits)

theorem State.quieted_coresAndCommits : s.quieted.coresAndCommits = (s.cores, []) :=
  (foldl_keeps (g := State.coresAndCommits) (fun t k => t.sinkLost_coresAndCommits k) _ _).trans
    ((foldl_keeps (g := State.coresAndCommits) (fun t e => t.abortWindow_coresAndCommits e) _ _).trans s.dropCommits_coresAndCommits)

end

/-- What is left of a core without power. -/
def Core.dark (k : Core) : Core := { retired := k.retired, marched := k.marched, lostArrays := k.lostArrays }

/-- A rising table whose values are changed, and cleared of those that are as unlisted ones: it reads as the changed values. -/
theorem mapGet_map_filter {m : Map Core} (hm : mapSorted m = true) (c : Nat) :
    mapGet (fun _ => ({} : Core)) ((m.map fun x => (x.1, x.2.dark)).filter fun x => decide (x.2 ≠ {})) c = (mapGet (fun _ => ({} : Core)) m c).dark := by
  induction m with
  | nil => rfl
  | cons x m ih =>
    obtain ⟨k, v⟩ := x
    have habove : mapAbove k m = true := hm
    have hrest := ih (mapSorted_of_above habove)
    rw [List.map_cons, List.filter_cons]
    by_cases hk : c = k
    · rw [mapGet, if_pos hk]
      split
      case isTrue => rw [mapGet, if_pos hk]
      case isFalse hclear =>
        have hdark : v.dark = {} := by simpa using hclear
        rw [hrest, hdark, mapGet_of_above _ habove hk.le]
        rfl
    · rw [mapGet, if_neg hk]
      split
      case isTrue => rw [mapGet, if_neg hk, hrest]
      case isFalse => exact hrest

/-- Standby keeps of a core that it is retired. -/
theorem State.core_dark {s : State} (hsorted : mapSorted s.cores = true) (c : Nat) : s.dark.core c = (s.core c).dark := mapGet_map_filter hsorted c

section
variable {s : State}

/-- Standby is entered once nothing is accepted, or two frames have passed (R449). -/
theorem State.standbyEntry_of_ready {late : Bool} (htrans : s.service.trans = some 2) (hpower : s.power = .on) (hready : late = true ∨ s.accepted = []) :
    s.standbyEntry late = s.quieted.dark.subStat := by
  have hgo : (late || s.accepted.isEmpty) = true := by simpa using hready
  exact if_pos (by simp [htrans, hpower, hgo])

theorem State.standbyEntry_of_not {late : Bool} (h : s.service.trans ≠ some 2 ∨ s.power ≠ .on ∨ (late = false ∧ s.accepted ≠ [])) :
    s.standbyEntry late = s := by
  refine if_neg ?_
  rcases h with htrans | hpower | ⟨hlate, hwaits⟩
  · simp [htrans]
  · simp [hpower]
  · simp [hlate, hwaits]

/-! ### The end of a transition -/

/-- The new state is shown and reported, and a request that waits is acted on. -/
def State.arrived (s : State) (v : Nat) : State :=
  State.powerAct (State.powerEvent { (s.wrF Reg.PWR_STATE 2 0 v).wrF Reg.PWR_STATE 3 3 0 with service := { s.service with trans := none } } 7)

theorem State.transDone_of_none (u : StartUp) (h : s.service.trans = none) : s.transDone u = s := by
  simp only [State.transDone, h]

/-- Standby is not entered while the forms have power. -/
theorem State.transDone_of_early (u : StartUp) (h : s.service.trans = some 2) (hpower : s.power = .on) : s.transDone u = s := by
  simp only [State.transDone, h]
  exact if_pos (by simp [hpower])

theorem State.transDone_of_trans (u : StartUp) {v : Nat} (h : s.service.trans = some v) (hlate : ¬ (v = 2 ∧ s.power = .on)) :
    s.transDone u = (if s.power = .standby && decide (v ≠ 2) then s.wakeUp u else s).arrived v := by
  simp only [State.transDone, h]
  exact if_neg (by simpa using hlate)

/-- Without a request that waits, the device stays in the state that it has reached. -/
theorem State.arrived_reads {v : Nat} (hv : v < 3) (hreq : s.service.heldReq = none) :
    (s.arrived v).powerState = v ∧ bit ((s.arrived v).rd Reg.PWR_STATE) 3 = false ∧ (s.arrived v).service.trans = none ∧
      (s.arrived v).power = s.power := by
  generalize hshown : (s.wrF Reg.PWR_STATE 2 0 v).wrF Reg.PWR_STATE 3 3 0 = u
  have hrest : ({ u with service := { s.service with trans := none } } : State).service.heldReq = none := hreq
  have hposted : EventsOnly (State.powerEvent { u with service := { s.service with trans := none } } 7) { u with service := { s.service with trans := none } } :=
    State.post_eventsOnly _ _ _ _ _ _
  have harrived : s.arrived v = State.powerEvent { u with service := { s.service with trans := none } } 7 := by
    rw [State.arrived, hshown]
    exact State.powerAct_of_none ((congrArg (fun t : State => t.service.heldReq) hposted.frame :).trans hrest)
  have hstate : (s.arrived v).rd Reg.PWR_STATE = u.rd Reg.PWR_STATE := by
    rw [harrived]
    exact State.rd_post_above _ _ _ _ _ (by decide) (by decide)
  refine ⟨?_, ?_, ?_, ?_⟩
  · rw [State.powerState, State.rdF, hstate, ← hshown, ← State.rdF, State.rdF_wrF_field _ _ _ (by decide) (.inl (by decide)),
      State.rdF_wrF_of_lt _ _ (by decide) (by omega)]
  · rw [hstate, ← hshown, State.bit_rd_wrF _ _ _ _ _ (by decide)]
    rfl
  · rw [harrived]
    exact (congrArg (fun t : State => t.service.trans) hposted.frame :)
  · rw [harrived]
    exact (congrArg State.power hposted.frame :).trans (congrArg State.power hshown).symm

end

/-- Settles O49: requests by the state and the transition in progress, Standby by what its entry leaves, the end of a transition by where it leads. -/
theorem powerRequestsMoveTheState : Obligations.PowerRequestsMoveTheState := by
  intro s hlink begun calm quiet req
  have hfull : exec .pwrReqFull s = .next ((req 0).powerAsk 0) := exec_of_link (f := fun s => s.pwrReq 0) hlink rfl
  have heco : exec .pwrReqEco s = .next ((req 1).powerAsk 1) := exec_of_link (f := fun s => s.pwrReq 1) hlink rfl
  have hstandby : exec .pwrReqStandby s = .next ((req 2).powerAsk 2) := exec_of_link (f := fun s => s.pwrReq 2) hlink rfl
  have hd3 : exec .pf0D3hot s = .next (s.powerAsk 2) := exec_of_link (f := fun s => s.powerAsk 2) hlink rfl
  have hd0 : exec .pf0D0 s = .next (s.powerAsk 3) := exec_of_link (f := fun s => s.powerAsk 3) hlink rfl
  have hentry (late : Bool) : exec (.standbyEntry late) s = .next (s.standbyEntry late) := exec_of_link (f := fun s => s.standbyEntry late) hlink rfl
  have hcomplete (u : StartUp) : exec (.powerTransitionComplete u) s = .next (s.transDone u) := exec_of_link (f := fun s => s.transDone u) hlink rfl
  have hstate (v : Nat) : (req v).powerState = s.powerState := s.powerState_wr_req v
  refine ⟨fun (hcalm : s.service.trans = none) hzero => ?full, fun (hcalm : s.service.trans = none) hone => ?eco,
    fun (hcalm : s.service.trans = none) htwo => ?standby, fun v htrans => ?waits, fun late htrans hpower hready hsorted => ?enters,
    fun late h => (hentry late).trans (congrArg _ (State.standbyEntry_of_not h)), fun u h => ?stays, fun u v htrans hv hreq hat => ?arrives,
    fun u v htrans hv hreq hne hpower => ?wakes⟩
  case full =>
    have hwritten (v : Nat) : (req v).service.trans = none := hcalm
    rw [State.powerAsk_full (hwritten 0), hstate, hzero, if_pos rfl] at hfull
    rw [State.powerAsk_eco (hwritten 1), hstate, hzero, if_pos rfl, s.ecoTooSlow_wr_req] at heco
    rw [State.powerAsk_standby (hwritten 2), hstate, hzero, if_neg (by decide)] at hstandby
    rw [State.powerAsk_standby hcalm, hzero, if_neg (by decide)] at hd3
    rw [State.powerAsk_d0 hcalm, hzero, if_neg (by decide)] at hd0
    refine ⟨hfull, hstandby, hd3, hd0, fun hfast => heco.trans (congrArg _ (if_neg (by simp [hfast]))), fun hslow => ?_⟩
    obtain ⟨hflag, htrans⟩ := ((req 1).requestHeld 1).ecoRefused_reads
    exact ⟨_, heco.trans (congrArg _ (if_pos hslow)), hflag, htrans.trans hcalm⟩
  case eco =>
    have hwritten (v : Nat) : (req v).service.trans = none := hcalm
    rw [State.powerAsk_full (hwritten 0), hstate, hone, if_neg (by decide)] at hfull
    rw [State.powerAsk_eco (hwritten 1), hstate, hone, if_neg (by decide)] at heco
    rw [State.powerAsk_standby (hwritten 2), hstate, hone, if_neg (by decide)] at hstandby
    exact ⟨hfull, heco, hstandby⟩
  case standby =>
    have hwritten (v : Nat) : (req v).service.trans = none := hcalm
    rw [State.powerAsk_full (hwritten 0), hstate, htwo, if_neg (by decide)] at hfull
    rw [State.powerAsk_standby (hwritten 2), hstate, htwo, if_pos rfl] at hstandby
    rw [State.powerAsk_d0 hcalm, htwo, if_pos rfl] at hd0
    exact ⟨hfull, hstandby, hd0⟩
  case waits =>
    have hwritten (w : Nat) : (req w).service.trans = some v := htrans
    exact ⟨hfull.trans (congrArg _ (State.powerAsk_of_trans (hwritten 0) 0)), heco.trans (congrArg _ (State.powerAsk_of_trans (hwritten 1) 1)),
      hstandby.trans (congrArg _ (State.powerAsk_of_trans (hwritten 2) 2)), hd3.trans (congrArg _ (State.powerAsk_of_trans htrans 2)),
      hd0.trans (congrArg _ (State.powerAsk_of_trans htrans 3))⟩
  case enters =>
    have hquiet := s.quieted_coresAndCommits
    have hcores : s.quieted.cores = s.cores := congrArg Prod.fst hquiet
    have haccepted : s.quieted.accepted = [] := congrArg Prod.snd hquiet
    refine ⟨_, (hentry late).trans (congrArg _ (State.standbyEntry_of_ready htrans hpower hready)), rfl, rfl, rfl, rfl, rfl, rfl, rfl, rfl, haccepted, fun c => ?_⟩
    have hcore : s.quieted.dark.subStat.core c = (s.core c).dark := by
      have hdark : s.quieted.dark.core c = (s.quieted.core c).dark := State.core_dark (by rw [hcores]; exact hsorted) c
      have hsame : s.quieted.core c = s.core c := by rw [State.core, hcores, State.core]
      exact hdark.trans (congrArg Core.dark hsame)
    rw [hcore]
    exact ⟨rfl, rfl, rfl⟩
  case stays =>
    refine (hcomplete u).trans (congrArg _ ?_)
    rcases h with hnone | ⟨htrans, hpower⟩
    · exact State.transDone_of_none u hnone
    · exact State.transDone_of_early u htrans hpower
  case arrives =>
    have hlate : ¬ (v = 2 ∧ s.power = .on) := by
      rintro ⟨rfl, hpower⟩
      rcases hat with ⟨-, hdark⟩ | ⟨hne, -⟩
      · rw [hpower] at hdark
        cases hdark
      · exact hne rfl
    have hawake : ¬ (s.power = .standby && decide (v ≠ 2)) = true := by
      rcases hat with ⟨rfl, -⟩ | ⟨-, hpower⟩
      · simp
      · simp [hpower]
    have hdone := State.transDone_of_trans u htrans hlate
    rw [if_neg hawake] at hdone
    exact ⟨_, (hcomplete u).trans (congrArg _ hdone), State.arrived_reads hv hreq⟩
  case wakes =>
    have hdone := State.transDone_of_trans u htrans (fun h => hne h.1)
    rw [if_pos (by simp [hpower, hne])] at hdone
    exact (hcomplete u).trans (congrArg _ hdone)

end Sys2Proof.Machine
end

section
/-! PROOFS. RESET_N and start-up (R434, R451, R477): what a reset takes, and a start with nothing kept. -/
namespace Sys2Proof.Machine
open Claim

/-! ### What start-up leaves -/

/-- Registers that the steps of start-up after MBX_DEAN and PWR_STATE leave alone, where the journal and the saves are empty. -/
@[reducible] def bootKey (key : Nat) : Prop := key < 0x102000 ∨ (0x102200 ≤ key ∧ key ≤ 0x800000)

/-- A state differs from another by no register of that kind, and keeps the memory and the records of a start. -/
structure BootKeeps (t s : State) : Prop where
  journal : t.journal = s.journal
  saves : t.saves = s.saves
  lib : t.lib = s.lib
  resetN : t.resetN = s.resetN
  power : t.power = s.power
  reads : ∀ key, bootKey key → t.rd key = s.rd key

theorem BootKeeps.refl (s : State) : BootKeeps s s := ⟨rfl, rfl, rfl, rfl, rfl, fun _ _ => rfl⟩

theorem BootKeeps.trans {u t s : State} (h : BootKeeps u t) (g : BootKeeps t s) : BootKeeps u s :=
  ⟨h.journal.trans g.journal, h.saves.trans g.saves, h.lib.trans g.lib, h.resetN.trans g.resetN, h.power.trans g.power,
    fun key hkey => (h.reads key hkey).trans (g.reads key hkey)⟩

theorem BootKeeps.foldl {α : Type} {f : State → α → State} {l : List α} (h : ∀ s, ∀ x ∈ l, BootKeeps (f s x) s) (s : State) : BootKeeps (l.foldl f s) s :=
  List.foldlRecOn l f (motive := fun t => BootKeeps t s) (.refl s) fun t ht x hx => (h t x hx).trans ht

section
variable (s : State)

theorem State.wr_bootKeeps {key : Nat} (v : Word) (h : ¬ bootKey key) : BootKeeps (s.wr key v) s :=
  ⟨rfl, rfl, rfl, rfl, rfl, fun q hq => State.rd_wr_ne s v fun heq => h (heq ▸ hq)⟩

theorem State.wrF_bootKeeps {key : Nat} (hi lo v : Nat) (h : ¬ bootKey key) : BootKeeps (s.wrF key hi lo v) s := s.wr_bootKeeps _ h

theorem State.onCore_bootKeeps (c : Nat) (f : Core → Core) : BootKeeps (s.onCore c f) s := ⟨rfl, rfl, rfl, rfl, rfl, fun _ _ => rfl⟩

theorem State.setRaster_bootKeeps (r : Nat) (x : RasterAux) : BootKeeps (s.setRaster r x) s := ⟨rfl, rfl, rfl, rfl, rfl, fun _ _ => rfl⟩

theorem State.formOut_bootKeeps {f : Nat} (hf : f < 32) : BootKeeps (s.formOut f) s := by
  have htiers : BootKeeps { s with formTiers := mapSet (fun _ => {}) s.formTiers f { s.formTier f with retired := true } } s :=
    ⟨rfl, rfl, rfl, rfl, rfl, fun _ _ => rfl⟩
  refine BootKeeps.trans (State.wrF_bootKeeps _ _ _ _ ?_) htiers
  simp only [bootKey, Reg.DLN_FORMf]
  omega

theorem State.marchReport_bootKeeps (m : March) (fail more : Bool) : BootKeeps (s.marchReport m fail more) s :=
  (State.wr_bootKeeps _ _ (by decide)).trans (s.wr_bootKeeps _ (by decide))

/-- The march of a start at which no unit fails leaves its memories empty. -/
theorem State.startMarchAll_bootKeeps {u : StartUp} (hbanks : u.banks = []) (hcores : u.cores = []) (harrays : u.arrays = []) (hforms : u.forms = []) :
    BootKeeps (s.startMarchAll u) s.clearCells := by
  have hnone {α : Type} {f : State → α → State} {l : List α} (t : State) (h : l = []) : BootKeeps (l.foldl f t) t := by
    rw [h]
    exact .refl t
  unfold State.startMarchAll
  extract_lets cleared marched banks cores arrays forms few left fail
  have hmarched : BootKeeps marched cleared := BootKeeps.foldl (fun t c _ => by
    split
    · exact t.onCore_bootKeeps _ _
    · exact .refl t) _
  have hleft : BootKeeps left forms := BootKeeps.foldl (fun t f hf => t.formOut_bootKeeps (List.mem_range.1 (List.mem_of_mem_filter hf))) _
  have hunits : BootKeeps forms marched :=
    (hnone arrays hforms).trans ((hnone cores harrays).trans ((hnone banks hcores).trans (hnone marched hbanks)))
  exact (left.marchReport_bootKeeps _ _ _).trans (hleft.trans (hunits.trans hmarched))

theorem State.bootBoard_bootKeeps (u : StartUp) : BootKeeps (s.bootBoard u) s := by
  unfold State.bootBoard
  refine (State.wrF_bootKeeps _ _ _ _ (by decide)).trans ((State.wrF_bootKeeps _ _ _ _ (by decide)).trans ((State.wrF_bootKeeps _ _ _ _ (by decide)).trans ?_))
  exact (State.wr_bootKeeps _ _ (by decide)).trans (s.wr_bootKeeps _ (by decide))

theorem State.showHold_bootKeeps : BootKeeps s.showHold s :=
  (State.wr_bootKeeps _ _ (by decide)).trans (s.wr_bootKeeps _ (by decide))

theorem State.startCauses_bootKeeps (last : Nat) : BootKeeps (s.startCauses last) s := ⟨rfl, rfl, rfl, rfl, rfl, fun _ _ => rfl⟩

theorem State.restoreFrames_bootKeeps : BootKeeps s.restoreFrames s :=
  BootKeeps.foldl (fun t r _ => t.setRaster_bootKeeps r _) s

variable {s}

theorem State.newestSave_of_none (hsaves : s.saves = []) : s.newestSave = none := by
  simp only [State.newestSave, hsaves]
  rfl

theorem State.restoreRecord_of_none (hsaves : s.saves = []) : s.restoreRecord = s := by
  simp only [State.restoreRecord, State.newestSave_of_none hsaves]

theorem State.tornPorts_of_none (hsaves : s.saves = []) : s.tornPorts = s := by
  simp only [State.tornPorts, State.newestSave_of_none hsaves]

/-- An empty journal leaves no model. -/
theorem State.replay_of_empty (hjournal : s.journal = {}) : BootKeeps s.replay s ∧ s.replay.models = [] := by
  have hfloors : BootKeeps ((List.range 4).foldl (fun (s : State) p => s.wrF (Reg.DLN_Pp_CTRL p) 5 4 0) s) s := by
    refine BootKeeps.foldl (fun t p hp => t.wrF_bootKeeps _ _ _ ?_) s
    have hindex := List.mem_range.1 hp
    simp only [bootKey, Reg.DLN_Pp_CTRL]
    omega
  simp only [State.replay, hjournal, List.foldl_nil, List.map_nil, List.filter_nil]
  generalize (List.range 4).foldl (fun (s : State) p => s.wrF (Reg.DLN_Pp_CTRL p) 5 4 0) s = t at hfloors
  exact ⟨⟨hfloors.journal, hfloors.saves, hfloors.lib, hfloors.resetN, hfloors.power, hfloors.reads⟩, trivial⟩

theorem State.rerunAll_of_none (hmodels : s.models = []) : s.rerunAll = s := by
  simp only [State.rerunAll, hmodels, List.filter_nil, List.foldl_nil]

/-- Without an enabled port and a running raster no picture starts. -/
theorem State.picturesStart_of_off (hports : ∀ n < 8, bit (s.rd (Reg.SCOn_CTRL n)) 0 = false) (hrasters : ∀ r < 8, s.rasterOn r = false) :
    s.picturesStart = s := by
  have hfold {f : State → Nat → State} (hf : ∀ n < 8, f s n = s) : (List.range 8).foldl f s = s :=
    List.foldlRecOn (motive := fun t => t = s) _ _ rfl fun t ht n hn => by rw [ht, hf n (List.mem_range.1 hn)]
  have hfirst : (List.range 8).foldl (fun (s : State) n =>
      let x := s.port n
      if bit (s.rd (Reg.SCOn_CTRL n)) 0 then s.setPort n { dsc := x.dsc, psr := x.psr, torn := x.torn, up := false, training := true } else s) s = s :=
    hfold fun n hn => if_neg (by rw [hports n hn]; exact Bool.false_ne_true)
  rw [State.picturesStart, hfirst]
  exact hfold fun r hr => if_neg (by rw [hrasters r hr]; exact Bool.false_ne_true)

end

/-- After a reset no port is enabled and no raster runs. -/
theorem regReset_pictures : (∀ n < 8, bit (regReset (Reg.SCOn_CTRL n)) 0 = false) ∧ ∀ r < 8, bit (regReset (Reg.RASn_CTRL r)) 0 = false := by decide

/-- MBX_DEAN and PWR_STATE as a start with an image shows them (R434, R451). -/
def State.bootShown (s : State) (last : Nat) (b : Bool) : State :=
  ((State.showDean { s with service := { s.service with runB := b, cold := false, rescued := false } } b 2).wrF Reg.PWR_STATE 7 4 last).wrF
    Reg.PWR_STATE 3 0 0

section
variable {s : State} {last : Nat} {b : Bool}

theorem State.bootShown_reads (hlast : last < 16) : (s.bootShown last b).rdF Reg.MBX_DEAN 3 0 = 2 ∧ (s.bootShown last b).rdF Reg.PWR_STATE 2 0 = 0 ∧
    (s.bootShown last b).rdF Reg.PWR_STATE 7 4 = last := by
  have hword (t : State) : ((t.wrF Reg.PWR_STATE 7 4 last).wrF Reg.PWR_STATE 3 0 0).rd Reg.PWR_STATE =
      setFld (setFld (t.rd Reg.PWR_STATE) 7 4 last) 3 0 0 := by rw [State.rd_wrF_same, State.rd_wrF_same]
  refine ⟨?_, ?_, ?_⟩
  · rw [State.bootShown, State.rdF_wrF_ne _ _ _ _ _ _ (by decide), State.rdF_wrF_ne _ _ _ _ _ _ (by decide)]
    exact State.deanState_showDean _ _ (by decide)
  · rw [State.bootShown, State.rdF, hword, fld_setFld_sub _ (by decide) (by decide) (by decide)]
    rfl
  · rw [State.bootShown, State.rdF, hword, fld_setFld_ne _ _ (by decide) (.inr (by decide)), fld_setFld_same _ _ (by decide)]
    exact Nat.mod_eq_of_lt hlast

theorem State.records_bootShown (s : State) (last : Nat) (b : Bool) : (s.bootShown last b).journal = s.journal ∧ (s.bootShown last b).saves = s.saves ∧
    (s.bootShown last b).resetN = s.resetN ∧ (s.bootShown last b).power = s.power := ⟨rfl, rfl, rfl, rfl⟩

theorem State.bootRun_eq (s : State) (u : StartUp) (last : Nat) (b : Bool) : s.bootRun u last b =
    (((((s.bootShown last b).bootBoard u).showHold.startCauses last).restoreRecord.restoreFrames.startMarchAll u).replay).tornPorts.rerunAll.picturesStart := rfl

theorem State.clearCells_keeps (s : State) : s.clearCells.journal = s.journal ∧ s.clearCells.saves = s.saves ∧ s.clearCells.resetN = s.resetN ∧
    s.clearCells.power = s.power ∧ s.clearCells.lib = [] ∧ ∀ key, s.clearCells.rd key = s.rd key := ⟨rfl, rfl, rfl, rfl, rfl, fun _ => rfl⟩

/-- The registers that a start reads of the ports and rasters are not those that it has shown. -/
theorem State.rd_bootShown {key : Nat} (hdean : key ≠ Reg.MBX_DEAN) (hstate : key ≠ Reg.PWR_STATE) : (s.bootShown last b).rd key = s.rd key := by
  rw [State.bootShown, State.rd_wrF_ne _ _ _ _ hstate, State.rd_wrF_ne _ _ _ _ hstate]
  exact State.rd_wr_ne _ _ hdean

/-- A start with an image and nothing kept: the Library is empty, and no picture starts. -/
theorem State.bootRun_of_empty {u : StartUp} (hjournal : s.journal = {}) (hsaves : s.saves = []) (hbanks : u.banks = []) (hcores : u.cores = [])
    (harrays : u.arrays = []) (hforms : u.forms = []) (hports : ∀ n < 8, bit (s.rd (Reg.SCOn_CTRL n)) 0 = false)
    (hrasters : ∀ r < 8, bit (s.rd (Reg.RASn_CTRL r)) 0 = false) : (s.bootRun u last b).lib = [] ∧ (s.bootRun u last b).resetN = s.resetN ∧
    (s.bootRun u last b).power = s.power ∧ ∀ key, bootKey key → (s.bootRun u last b).rd key = (s.bootShown last b).rd key := by
  have hheld : BootKeeps (((s.bootShown last b).bootBoard u).showHold.startCauses last) (s.bootShown last b) :=
    (State.startCauses_bootKeeps _ _).trans ((State.showHold_bootKeeps _).trans (State.bootBoard_bootKeeps _ u))
  obtain ⟨hshownJournal, hshownSaves, hshownReset, hshownPower⟩ := s.records_bootShown last b
  have hrun := s.bootRun_eq u last b
  rw [State.restoreRecord_of_none (hheld.saves.trans (hshownSaves.trans hsaves))] at hrun
  have hframes := (State.restoreFrames_bootKeeps _).trans hheld
  generalize (((s.bootShown last b).bootBoard u).showHold.startCauses last).restoreFrames = d at hrun hframes
  obtain ⟨hjournal', hsaves', hreset', hpower', hlib', hreads'⟩ := d.clearCells_keeps
  have hmarched := d.startMarchAll_bootKeeps hbanks hcores harrays hforms
  obtain ⟨hreplay, hmodels⟩ := State.replay_of_empty (hmarched.journal.trans (hjournal'.trans (hframes.journal.trans (hshownJournal.trans hjournal))))
  have hkept := hreplay.trans hmarched
  generalize (d.startMarchAll u).replay = t at hkept hmodels hrun
  have hread {key : Nat} (hkey : bootKey key) : t.rd key = (s.bootShown last b).rd key :=
    (hkept.reads key hkey).trans ((hreads' key).trans (hframes.reads key hkey))
  have hsame : s.bootRun u last b = t := by
    rw [hrun, State.tornPorts_of_none (hkept.saves.trans (hsaves'.trans (hframes.saves.trans (hshownSaves.trans hsaves)))), State.rerunAll_of_none hmodels]
    refine State.picturesStart_of_off (fun n hn => ?_) (fun r hr => ?_)
    · rw [hread (.inr (by simp only [Reg.SCOn_CTRL]; omega)), State.rd_bootShown (by simp only [Reg.SCOn_CTRL, Reg.MBX_DEAN]; omega)
        (by simp only [Reg.SCOn_CTRL, Reg.PWR_STATE]; omega)]
      exact hports n hn
    · rw [State.rasterOn, hread (.inl (by simp only [Reg.RASn_CTRL]; omega)), State.rd_bootShown (by simp only [Reg.RASn_CTRL, Reg.MBX_DEAN]; omega)
        (by simp only [Reg.RASn_CTRL, Reg.PWR_STATE]; omega)]
      exact hrasters r hr
  rw [hsame]
  exact ⟨hkept.lib.trans hlib', hkept.resetN.trans (hreset'.trans (hframes.resetN.trans hshownReset)),
    hkept.power.trans (hpower'.trans (hframes.power.trans hshownPower)), fun key hkey => hread hkey⟩

end

/-! ### RESET_N -/

section
variable {s : State}

/-- A reset waits for a save in progress (R477). -/
theorem State.resetAssert_of_saving (hpower : s.power = .holdup) (hsave : s.service.save ≠ none) (hsaved : s.service.saved = false) :
    s.resetAssert = { s with service := { s.service with resetHeld := true } } :=
  if_pos (by simp [hpower, Option.isSome_iff_ne_none.2 hsave, hsaved])

theorem State.resetAssert_of_not (h : ¬ (s.power = .holdup ∧ s.service.save ≠ none ∧ s.service.saved = false)) : s.resetAssert = s.resetNow := by
  refine if_neg fun hsaving => h ?_
  simpa [Option.isSome_iff_ne_none, and_assoc] using hsaving

/-- A device that has started, or holds its start, takes no release. -/
theorem State.resetRelease_of_started (u : StartUp) (sag : Bool) (hreset : s.resetN = true) (h : s.started = true ∨ s.service.startHeld ≠ none) :
    s.resetRelease u sag = s := by
  have hwaits : (s.resetN && (decide (s.power ≠ .on) || s.started || s.service.startHeld.isSome)) = true := by
    rcases h with hstarted | hheld
    · simp [hreset, hstarted]
    · simp [hreset, Option.isSome_iff_ne_none.2 hheld]
  exact if_pos hwaits

/-- The fuses read and the slews set, as RESET_N is released. -/
def State.released (s : State) : State := State.bootFuses { s with resetN := true, power := .on }

theorem State.resetRelease_of_reset (u : StartUp) (sag : Bool) (hreset : s.resetN = false) : s.resetRelease u sag =
    if sag then { s.released with service := { s.released.service with startHeld := some s.released.startKind } } else s.released.bootFrom2 u s.released.startKind :=
  if_neg (by simp [hreset])

/-- The kind of a start is not in the fuses. -/
theorem State.bootFuses_keeps (s : State) : s.bootFuses.startKind = s.startKind ∧ s.bootFuses.resetN = s.resetN ∧ s.bootFuses.power = s.power := by
  unfold State.bootFuses
  dsimp only
  split
  · exact ⟨rfl, rfl, rfl⟩
  · split <;> exact ⟨rfl, rfl, rfl⟩

theorem State.released_keeps (s : State) : s.released.startKind = s.startKind ∧ s.released.resetN = true ∧ s.released.power = .on :=
  State.bootFuses_keeps { s with resetN := true, power := .on }

/-- Without a lifecycle request only the slews change. -/
theorem State.released_of_no_request (h : s.service.lcReq = none) : s.released = ({ s with resetN := true, power := .on } : State).wrF Reg.PWR_IO 5 4 3 := by
  have hreq : (({ s with resetN := true, power := .on } : State).wrF Reg.PWR_IO 5 4 3).service.lcReq = none := h
  simp only [State.released, State.bootFuses, hreq]

theorem State.startKind_lt (s : State) : s.startKind < 16 := by
  unfold State.startKind
  (repeat' split) <;> decide

theorem State.bootFrom2_of_image {u : StartUp} {i : Bool} (last : Nat) (h : s.bootImage u = some i) : s.bootFrom2 u last = s.bootRun u last i := by
  simp only [State.bootFrom2, h]

/-- Without an image that passes the device waits for one to be staged (R434). -/
theorem State.bootFrom2_of_none {u : StartUp} (last : Nat) (h : s.bootImage u = none) : s.bootFrom2 u last =
    ({ s with service := { s.service with cold := false, rescued := false } }.wrF Reg.MBX_DEAN 3 0 4).wrF Reg.PWR_STATE 7 4 last := by
  simp only [State.bootFrom2, h]

theorem State.rd_of_no_regs (h : s.regs = []) (key : Nat) : s.rd key = regReset key := by
  rw [State.rd, h]
  rfl

end

/-- Settles O48: a reset by whether a save is in progress, a release by whether the device has started, is held, and has an image that passes. -/
theorem resetTakesAllButWhatIsKept : Obligations.ResetTakesAllButWhatIsKept := by
  intro s saving
  have hassert : exec .resetAssert s = .next s.resetAssert := rfl
  have hrelease (u : StartUp) (sag : Bool) : exec (.resetRelease u sag) s = .next (s.resetRelease u sag) := rfl
  refine ⟨fun hidle => ⟨_, hassert.trans (congrArg _ (State.resetAssert_of_not hidle)), ?taken⟩, fun hsaving => ?saves,
    fun u sag hreset _ h => (hrelease u sag).trans (congrArg _ (State.resetRelease_of_started u sag hreset h)), fun u hreset => ?release, fun u hup => ?sag⟩
  case taken => exact ⟨rfl, rfl, rfl, rfl, rfl, rfl, rfl, rfl, rfl, rfl, rfl, rfl, rfl, rfl, rfl, rfl, rfl, rfl⟩
  case saves =>
    obtain ⟨hpower, hsave, hsaved⟩ := hsaving
    exact hassert.trans (congrArg _ (State.resetAssert_of_saving hpower hsave hsaved))
  case release =>
    obtain ⟨hkind, hreset', hpower⟩ := s.released_keeps
    have hsag := s.resetRelease_of_reset u true hreset
    have hgoes := s.resetRelease_of_reset u false hreset
    rw [hkind, if_pos rfl] at hsag
    rw [hkind, if_neg Bool.false_ne_true] at hgoes
    refine ⟨(hrelease u true).trans (congrArg _ hsag), fun i himage => ?_, fun hnone => ?rescue, fun himage => ?starts⟩
    · exact (hrelease u false).trans (congrArg _ (hgoes.trans (State.bootFrom2_of_image _ himage)))
    case rescue =>
      refine ⟨_, (hrelease u false).trans (congrArg _ (hgoes.trans (State.bootFrom2_of_none _ hnone))), ?_, ?_, hreset', hpower⟩
      · rw [State.rdF_wrF_ne _ _ _ _ _ _ (by decide)]
        exact State.rdF_wrF_of_lt _ _ (by decide) (by decide)
      · rw [State.rdF_wrF_same _ _ _ (by decide)]
        exact Nat.mod_eq_of_lt s.startKind_lt
    case starts =>
      intro hjournal hsaves hreq hbanks hcores harrays hforms _ hregs
      obtain ⟨i, hi⟩ := Option.ne_none_iff_exists'.1 himage
      have hplain := State.released_of_no_request hreq
      have hread {key : Nat} (hkey : key ≠ Reg.PWR_IO) : s.released.rd key = regReset key := by
        rw [hplain, State.rd_wrF_ne _ _ _ _ hkey]
        exact State.rd_of_no_regs hregs key
      obtain ⟨hports, hrasters⟩ := regReset_pictures
      obtain ⟨hlib, hreset'', hpower'', hreads⟩ := State.bootRun_of_empty (s := s.released) (last := s.startKind) (b := i) (u := u)
        (by rw [hplain]; exact hjournal) (by rw [hplain]; exact hsaves) hbanks hcores harrays hforms
        (fun n hn => by rw [hread (by simp only [Reg.SCOn_CTRL, Reg.PWR_IO]; omega)]; exact hports n hn)
        (fun r hr => by rw [hread (by simp only [Reg.RASn_CTRL, Reg.PWR_IO]; omega)]; exact hrasters r hr)
      obtain ⟨hdean, hstate, hlast⟩ := State.bootShown_reads (s := s.released) (b := i) s.startKind_lt
      refine ⟨_, (hrelease u false).trans (congrArg _ (hgoes.trans (State.bootFrom2_of_image _ hi))), ?_, ?_, ?_, hreset''.trans hreset', hpower''.trans hpower,
        hlib⟩
      · rw [State.rdF, hreads _ (by decide)]
        exact hdean
      · rw [State.rdF, hreads _ (by decide)]
        exact hstate
      · rw [State.rdF, hreads _ (by decide)]
        exact hlast
  case sag =>
    have hrow : exec (.pwrsagNHigh u) s = .next (s.sagHigh u) := exec_of_up (f := fun s => s.sagHigh u) hup rfl
    exact ⟨fun last hheld => hrow.trans (congrArg _ (by simp only [State.sagHigh, hheld])), fun hnone => hrow.trans (congrArg _ (by simp only [State.sagHigh, hnone]))⟩

end Sys2Proof.Machine
end
